-- ==== Sys2Proof/Word.lean ====
section
/-! DEFINITION. The word types of the module's registers and structures (R8, R11, R12). -/

namespace Sys2Proof

/-- One byte. -/
abbrev Byte := BitVec 8

/-- One 32-bit register or structure word (R555: the basic access is four bytes). -/
abbrev Word := BitVec 32

/-- One 64-bit value: a timestamp (R12), an address, a member or host-word value. -/
abbrev DWord := BitVec 64

end Sys2Proof
end

