-- ==== Sys2Proof/Machine/Bits.lean ====
section
/-! DEFINITION. Bit fields, sign extension and byte order (R8, R11, R15). -/

namespace Sys2Proof

/-- Bits [hi:lo] of a natural number, as R8 writes bit ranges. -/
def bitsN (n hi lo : Nat) : Nat := (n / 2 ^ lo) % 2 ^ (hi + 1 - lo)

/-- Bits [hi:lo] of a 32-bit word. -/
def bits (w : Word) (hi lo : Nat) : Nat := bitsN w.toNat hi lo

/-- Bit i of a 32-bit word. -/
def bit (w : Word) (i : Nat) : Bool := w.getLsbD i

/-- The word whose bits [hi:lo] are all ones. -/
def maskW (hi lo : Nat) : Word := BitVec.ofNat 32 ((2 ^ (hi + 1 - lo) - 1) * 2 ^ lo)

/-- `w` with bits [hi:lo] replaced by the low bits of `v`. -/
def setBits (w : Word) (hi lo v : Nat) : Word :=
  (w &&& ~~~ maskW hi lo) ||| BitVec.ofNat 32 ((v % 2 ^ (hi + 1 - lo)) * 2 ^ lo)

/-- `w` with bit i set to `b`. -/
def setBit (w : Word) (i : Nat) (b : Bool) : Word := setBits w i i b.toNat

/-- The two's-complement value of the low `n` bits of `v`. -/
def sx (n v : Nat) : Int :=
  if v % 2 ^ n < 2 ^ (n - 1) then (v % 2 ^ n : Nat) else ((v % 2 ^ n : Nat) : Int) - (2 ^ n : Nat)

/-- An integer as an `n`-bit two's-complement pattern. -/
def ux (n : Nat) (i : Int) : Nat := (i % (2 ^ n : Nat)).toNat

/-- A Boolean as 0 or 1. -/
def b2n (b : Bool) : Nat := if b then 1 else 0

/-- Number of set bits among the low `n` bits. -/
def popcount : Nat → Nat → Nat
  | 0, _ => 0
  | n + 1, v => v % 2 + popcount n (v / 2)

/-- `n` bytes of `v`, least significant first (R11). -/
def leBytes : Nat → Nat → List Byte
  | 0, _ => []
  | n + 1, v => BitVec.ofNat 8 v :: leBytes n (v / 256)

/-- `n` bytes of `v`, most significant first (network order, R11). -/
def beBytes (n v : Nat) : List Byte := (leBytes n v).reverse

/-- The value of little-endian bytes (R11). -/
def ofLe : List Byte → Nat
  | [] => 0
  | b :: t => b.toNat + 256 * ofLe t

/-- The value of big-endian bytes. -/
def ofBe (l : List Byte) : Nat := ofLe l.reverse

/-- Take the `n` bytes at offset `o`, zero where the list ends. -/
def bytesAt (l : List Byte) (o n : Nat) : List Byte :=
  let t := (l.drop o).take n
  t ++ List.replicate (n - t.length) 0

/-- The little-endian value of `n` bytes at offset `o`. -/
def leAt (l : List Byte) (o n : Nat) : Nat := ofLe (bytesAt l o n)

/-- The words of a byte string, four bytes each, little-endian; a short tail is zero filled. -/
def wordsOf : Nat → List Byte → List Word
  | 0, _ => []
  | n + 1, l => BitVec.ofNat 32 (leAt l 0 4) :: wordsOf n (l.drop 4)

/-- The bytes of a word list, little-endian. -/
def bytesOf (ws : List Word) : List Byte := ws.flatMap fun w => leBytes 4 w.toNat

/-- Word i of an entry held as words; 0 beyond its end. -/
def wrd (e : List Word) (i : Nat) : Word := e.getD i 0

/-- Bits [hi:lo] of word i of an entry. -/
def fld (e : List Word) (i hi lo : Nat) : Nat := bits (wrd e i) hi lo

/-- Bit b of word i of an entry. -/
def fbit (e : List Word) (i b : Nat) : Bool := bit (wrd e i) b

/-- The 64-bit value in words i (low) and i + 1 (high). -/
def dw (e : List Word) (i : Nat) : Nat := (wrd e i).toNat + 2 ^ 32 * (wrd e (i + 1)).toNat

/-- The low word of a natural number. -/
def loW (n : Nat) : Word := BitVec.ofNat 32 n

/-- Bits [63:32] of a natural number. -/
def hiW (n : Nat) : Word := BitVec.ofNat 32 (n / 2 ^ 32)

/-- The list with element i replaced, unchanged when i is beyond its end. -/
def setAt {α : Type} (l : List α) (i : Nat) (a : α) : List α := l.set i a

/-- Update element i of a list by a function. -/
def modAt {α : Type} (l : List α) (i : Nat) (f : α → α) : List α :=
  match l[i]? with
  | some a => l.set i (f a)
  | none => l

/-- Ceiling division. -/
def cdiv (a b : Nat) : Nat := (a + b - 1) / b

/-- Floor of half plus: round an integer quotient to the nearest, ties to even. -/
def roundHalfEven (n : Int) (d : Nat) : Int :=
  let q := n / (d : Int)
  let r := n % (d : Int)
  if 2 * r < d then q else if 2 * r > d then q + 1 else if q % 2 = 0 then q else q + 1

/-- Limit an integer to the range of a signed `n`-bit number. -/
def satS (n : Nat) (i : Int) : Int := max (-(2 ^ (n - 1) : Nat)) (min ((2 ^ (n - 1) : Nat) - 1) i)

/-- An unsigned count that saturates at `top`. -/
def satAdd (top a b : Nat) : Nat := min top (a + b)

/-- A wrapping 32-bit count plus `n`. -/
def wrapAdd (w : Word) (n : Nat) : Word := w + BitVec.ofNat 32 n

end Sys2Proof
end

