-- ==== Sys2Proof/Payload.lean ====
section
/-! DEFINITION. The operands of the commands: command headers and payloads (chapter 11 and the chapters of the
opcodes), descriptors and doorbell contents, all as host software lays them out in its memory, already read. -/

namespace Sys2Proof

/-- A command descriptor's header (HIF table 7) with what the fetch found: whether every read of an indirect payload
or embedded descriptor ended well (R353 check 4), and whether a kick brought it (R350). -/
structure CmdHdr where
  seq : BitVec 32
  lateOk : Bool
  target : DWord
  dmaOk : Bool
  kick : Bool
  deriving DecidableEq, Repr

/-- One item of a PUBLISH list (HIF table 9): member, quality, value. -/
structure PubItem where
  member : BitVec 8
  quality : BitVec 16
  value : DWord
  deriving DecidableEq, Repr

/-- The embedded descriptor of LOCK_OPERATE (HIF table 9): only opcodes 0x02, 0x03 and 0x08 are permitted. -/
inductive EmbOp where
  | hostWrite (word : BitVec 12) (quality : BitVec 16) (value : DWord)
  | gateArm (gate : List Word) (loc : BitVec 10)
  | publish (count : BitVec 9) (pcb : BitVec 10) (items : List PubItem)
  | other (opcode : BitVec 8)
  deriving DecidableEq, Repr

/-- The embedded command with its own TARGET_NS and LATE_OK. -/
structure Emb where
  op : EmbOp
  lateOk : Bool
  target : DWord
  deriving DecidableEq, Repr

/-- The payload of CAPTURE_ARM (CAP table 1) with the stream list it points at. -/
structure CapArm where
  streams : List (BitVec 16)
  streamCount : BitVec 11
  mode : BitVec 2
  chain : Bool
  fullPol : Bool
  trigMask : BitVec 18
  recSamples : BitVec 32
  pos : BitVec 32
  firstSeg : BitVec 16
  segCount : BitVec 17
  autoTmoMs : BitVec 22
  deriving DecidableEq, Repr

/-- A command's opcode and payload (HIF table 8, HIF table 9). -/
inductive Op where
  | nop
  | hostWrite (word : BitVec 12) (quality : BitVec 16) (value : DWord)
  | gateArm (gate : List Word) (loc : BitVec 10)
  | gateUpdate (loc : BitVec 10) (mask : BitVec 4) (comp : BitVec 32) (target : BitVec 16) (earliest latest : DWord)
  | gateCancel (loc : BitVec 10)
  | gateRead (loc : BitVec 10) (addr : DWord)
  | publish (count : BitVec 9) (pcb : BitVec 10) (items : List PubItem)
  | lockSelect (obj : BitVec 32) (leaseMs : BitVec 32) (keep : Bool)
  | lockOperate (obj : BitVec 32) (emb : Emb)
  | lockRenew (obj : BitVec 32) (leaseMs : BitVec 32)
  | lockCancel (obj : BitVec 32)
  | captureArm (p : CapArm)
  | captureDisarm (cap : BitVec 5)
  | captureForce (cap : BitVec 5)
  | tableLoad (len : BitVec 32) (container : List Byte)
  | imageLoad (len : BitVec 32) (image : List Byte)
  | vfSeqReset (vf : BitVec 9)
  | shareRevoke (fn : BitVec 9) (mask : BitVec 3) (resv : Bool)
  | keyImport (len : BitVec 32) (blob : List Byte)
  | keyRetire (slot : BitVec 9) (mask : BitVec 2)
  | selftest (kind index : BitVec 8) (firstSeg : BitVec 16) (segCount : BitVec 17) (tmoS : BitVec 16)
  | journalRead (addr : DWord) (len : BitVec 32) (birth : Bool) (fromRseq : DWord)
  | reserved (opcode : BitVec 8)
  deriving DecidableEq, Repr

/-- The opcode number of HIF table 8. -/
def Op.code : Op → Nat
  | .nop => 0x01 | .hostWrite .. => 0x02 | .gateArm .. => 0x03 | .gateUpdate .. => 0x04 | .gateCancel .. => 0x05
  | .gateRead .. => 0x06 | .publish .. => 0x08 | .lockSelect .. => 0x0C | .lockOperate .. => 0x0D
  | .lockRenew .. => 0x0E | .lockCancel .. => 0x0F | .captureArm .. => 0x10 | .captureDisarm .. => 0x11
  | .captureForce .. => 0x12 | .tableLoad .. => 0x40 | .imageLoad .. => 0x41 | .vfSeqReset .. => 0x42
  | .shareRevoke .. => 0x43 | .keyImport .. => 0x44 | .keyRetire .. => 0x45 | .selftest .. => 0x46
  | .journalRead .. => 0x47 | .reserved c => c.toNat

/-- A doorbell block as read (HIF table 4). -/
structure Doorbell where
  cmdProd : BitVec 32
  bulkProd : BitVec 32
  planeProd : BitVec 32
  cplCons : BitVec 32
  evtCons : BitVec 32
  mirCons : BitVec 32
  deriving DecidableEq, Repr

/-- A plane-buffer descriptor (R357). -/
structure PlaneDesc where
  sampleAddr : DWord
  phasorAddr : DWord
  sampleLen : BitVec 32
  phasorLen : BitVec 32
  tag : BitVec 32
  deriving DecidableEq, Repr

/-! ## Frames, as the port's checks and decoders present them (log entry 9) -/

/-- An authentication value of IEC 62351-6: key identifier, tag, and the bytes it covers. -/
structure Auth where
  keyId : BitVec 32
  tag : List Byte
  covered : List Byte
  deriving DecidableEq, Repr

/-- One ASDU of a sampled-value frame (R100, R107). Each channel is an INT32 value and a 32-bit quality. -/
structure SvAsdu where
  smpCnt : BitVec 16
  confRev : BitVec 32
  smpSynch : Option (BitVec 8)
  smpRate : Option (BitVec 16)
  smpMod : Option (BitVec 16)
  gmId : Option DWord
  octets : Nat
  data : List (BitVec 32 × BitVec 32)
  deriving DecidableEq, Repr

/-- A sampled-value frame (R100, R107): `asnOk` when the encoding is well formed, `lenOk` when the Length field
agrees with the frame; `sim` is bit 15 of Reserved 1 (R108). -/
structure SvFrame where
  appid : BitVec 16
  svId : List Byte
  asnOk : Bool
  lenOk : Bool
  sim : Bool
  noAsdu : Nat
  asdus : List SvAsdu
  auth : Option Auth
  deriving DecidableEq, Repr

/-- A GOOSE or R-GOOSE frame (R294): members are a type code of OUT table 1 and a value of 64 bits. -/
structure GooseFrame where
  appid : BitVec 16
  gocbRef : List Byte
  confRev : BitVec 32
  stNum : BitVec 32
  sqNum : BitVec 32
  ttlMs : BitVec 32
  ndsCom : Bool
  test : Bool
  sim : Bool
  members : List (Nat × DWord)
  auth : Option Auth
  deriving DecidableEq, Repr

/-- PTP message types the module handles (R64, R93). -/
inductive PtpKind where
  | sync | followUp | announce | delayReq | delayResp | pdelayReq | pdelayResp | pdelayRespFollowUp | other
  deriving DecidableEq, Repr

/-- A PTP message (R64, R93). `bodyNs` is the timestamp it carries; `correction` is in units of 2^-16 ns;
`intervalMs` is an Announce's interval. -/
structure PtpFrame where
  kind : PtpKind
  domain : BitVec 8
  source : BitVec 80
  seqId : BitVec 16
  twoStep : Bool
  correction : Int
  intervalMs : Nat
  bodyNs : Nat
  deriving DecidableEq, Repr

/-- A pair frame (PAR table 1, R435). -/
structure PairFrame where
  magic : BitVec 16
  version : BitVec 8
  typ : BitVec 8
  pairId : BitVec 16
  senderPos : Bool
  path : Bool
  fragMore : Bool
  reservedZero : Bool
  fragIndex : BitVec 8
  resetCnt : BitVec 32
  frameSeq : BitVec 48
  bodyLen : BitVec 16
  pairEpoch : BitVec 32
  body : List Byte
  icv : List Byte
  covered : List Byte
  deriving DecidableEq, Repr

/-- What a frame carries, by the match of MAC table 2. -/
inductive FrameBody where
  | sv (f : SvFrame)
  | goose (f : GooseFrame)
  | rgoose (f : GooseFrame)
  | ptp (overUdp : Bool) (f : PtpFrame)
  | pair (f : PairFrame)
  | sup
  | pfc (vector : BitVec 8) (quanta : List (BitVec 16))
  | pause
  | other
  deriving DecidableEq, Repr

/-- A whole frame at a port (R76, R77). `len` counts from the first byte after the start-frame delimiter to the
FCS; `raw` are its bytes with tag and redundancy trailer removed; `hsr` is the HSR tag's sequence number; `rct` is a
redundancy trailer's sequence number and LanId (false LAN A) whose LSDUsize matches. -/
structure Frame where
  dst : BitVec 48
  src : BitVec 48
  fcsOk : Bool
  codeOk : Bool
  len : Nat
  stag : Bool
  tag : Option (BitVec 3 × BitVec 12)
  hsr : Option (BitVec 16)
  rct : Option (BitVec 16 × Bool)
  body : FrameBody
  raw : List Byte
  deriving DecidableEq, Repr

/-- A GOOSE or R-GOOSE message the module publishes (R279, R284 to R287): template bytes and string lengths, state-change
instant in UTC in units of 2^-32 s, TimeQuality, member TYPEs and values, and the authentication value, empty where none. -/
structure GooseTx where
  pcb : Nat
  rgoose : Bool
  src : BitVec 48
  head : List Byte
  lens : List Nat
  ttlMs : Nat
  t : Int
  tq : Nat
  stNum : Nat
  sqNum : Nat
  sim : Bool
  test : Bool
  confRev : Word
  members : List (Nat × Int)
  spdu : Nat
  auth : List Byte
  deriving DecidableEq, Repr

/-- What the module itself sends (R64, R83, R84, R89, R285, R356, R431). -/
inductive TxBody where
  | pdelayReq (seq : Nat)
  | pdelayResp (f : PtpFrame) (rxNs : Nat)
  | pdelayRespFollowUp (f : PtpFrame) (txNs : Nat)
  | delayReq (dom : Nat) (ipv6 : Bool)
  | supervision (hsr : Bool) (seq : BitVec 16)
  | pfc (prio : Nat) (quanta : Nat)
  | goose (g : GooseTx)
  | pair (bytes : List Byte)
  | forward (f : Frame) (addCorrection : Int)
  | bulk (tag : BitVec 32) (tsReq : Bool) (data : List Byte)
  deriving DecidableEq, Repr

/-- A frame in a transmit queue: its PCP, length, redundancy trailer or HSR tag, ingress port and latched clocks of a
forwarded frame, and the function of a bulk frame. -/
structure TxFrame where
  pcp : Nat
  len : Nat
  rct : Option (BitVec 16 × Bool)
  hsr : Option (BitVec 16)
  tag : Option (BitVec 3 × BitVec 12)
  ingress : Option (Nat × Nat × Nat × Nat)
  body : TxBody
  deriving DecidableEq, Repr

/-- What a start finds outside the module (R528, R531): REAR_PRESENT and the parity of STRAP_PAR, the slot straps, whether the root
can be reconstructed (R458), whether the OCXO is within tolerance, and the RTC ticks of 2^-15 s that passed without a
supply. -/
structure StartIn where
  rear : Bool
  parOk : Bool
  pairPos : Bool
  slotId : BitVec 4
  safetyIo : Bool
  timeSrc : Bool
  maint : Bool
  pufOk : Bool
  ocxoOk : Bool
  rtcTicks : Nat
  deriving DecidableEq, Repr

/-- What a port's optic declares (R72, R75): SFF-8024 identifier, diagnostics, supported speed codes. -/
structure Optic where
  ident : Nat
  ddm : Bool
  speeds : List Nat
  deriving DecidableEq, Repr

/-- What a register write finds outside the module: the optic of the port that it enables (R72), the readback levels of the timed
outputs (R314), the pairs whose readback or switch fault has gone (R322). -/
structure AtWrite where
  optic : Option Optic
  back : Nat
  cleared : Nat
  deriving DecidableEq, Repr

end Sys2Proof
end

