-- ==== Sys2Proof/Syntax.lean ====
section
/-! DEFINITION. The commands of the block: one constructor per row of spec/opcode_table.json, in the table's order,
with the row's operands. An operand is what the command brings from outside the block: who writes which word, what a
frame carries, what a sensor reads. The rule in each docstring is the row's. -/

namespace Sys2Proof

inductive Instr where
  /-- REGISTER_WRITE (R559). Function, BAR (false BAR0, true BAR2), offset, bytes, and what the write finds outside
  the module. -/
  | registerWrite (fn : BitVec 9) (bar2 : Bool) (off : BitVec 24) (data : List Byte) (found : AtWrite)
  /-- MULTIWORD_LO_READ (R557). Function, BAR, offset, bytes; any register may be read, and a _LO word latches. -/
  | multiwordLoRead (fn : BitVec 9) (bar2 : Bool) (off : BitVec 24) (len : BitVec 13)
  /-- PLANE_TICK (R20). The hottest die sensor in degrees Celsius. -/
  | planeTick (die : Int)
  /-- PLANE_CLOSE (R21). The phasor lanes whose check vector differs. -/
  | planeClose (bad : BitVec 4)
  /-- LADDER_DWELL_EXPIRY (R39). The step. -/
  | ladderDwellExpiry (n : BitVec 3)
  /-- TIM_RUN (R47). The word written to TIM_CTRL. -/
  | timRun (data : Word)
  /-- GRID_START (R47). -/
  | gridStart
  /-- TIM_INC_COMMIT (R45). The clock and the word written to _HI. -/
  | timIncCommit (clkB : Bool) (hi : Word)
  /-- TIM_STEP (R46). The clock and the word written to _HI. -/
  | timStep (clkB : Bool) (hi : Word)
  /-- TIM_SLEW_WRITE (R49). TIM_SLEW, or TIM_SLEW_LIMIT. -/
  | timSlewWrite (limit : Bool) (data : Word)
  /-- TIM_SEL_WRITE (R50). -/
  | timSelWrite (data : Word)
  /-- TIM_LOCK_WRITE (R56). -/
  | timLockWrite (data : Word)
  /-- SYNC_TIMEOUT (R55). Domain 1, or domain 2. -/
  | syncTimeout (two : Bool)
  /-- ANNOUNCE_TIMEOUT (R55). Domain 1, or domain 2. -/
  | announceTimeout (two : Bool)
  /-- IRIG_LOST_TIMEOUT (R55). -/
  | irigLostTimeout
  /-- IRIG_FRAME_RX (R65). Whether the frame passes its checks, the year it carries, second of the year,
  time-quality code, and edges since its on-time edge. -/
  | irigFrameRx (ok : Bool) (year : Option (BitVec 16)) (sec : BitVec 25) (tq : BitVec 4) (ago : BitVec 30)
  /-- PPS_IN_EDGE (R66). -/
  | ppsInEdge
  /-- PPS_MISSING_TIMEOUT (R66). -/
  | ppsMissingTimeout
  /-- OCXO_FAULT (R60). -/
  | ocxoFault
  /-- HOLDOVER_CLASS_STEP (R60). -/
  | holdoverClassStep
  /-- PDELAY_REQ_SEND (R64). -/
  | pdelayReqSend (p : BitVec 4)
  /-- DELAY_REQ_SEND (R64). Domain 1, or domain 2. -/
  | delayReqSend (two : Bool)
  /-- PPS_OUT_PULSE (R67). -/
  | ppsOutPulse
  /-- PPS_OUT_PULSE_END (R67). -/
  | ppsOutPulseEnd
  /-- TIM_SNAP (R70). -/
  | timSnap (data : Word)
  /-- MAC_PORT_ENABLE (R72). The port, the word written to MAC_PORTn_CTRL, the optic that the port finds. -/
  | macPortEnable (p : BitVec 4) (data : Word) (optic : Option Optic)
  /-- MAC_RETRAIN (R73). -/
  | macRetrain (p : BitVec 4)
  /-- TRAIN_TIMEOUT (R72). -/
  | trainTimeout (p : BitVec 4)
  /-- LINK_UP (R73). The port, 100 Mbit/s on P10, and the FEC that code 3 yields (R74). -/
  | linkUp (p : BitVec 4) (hundred : Bool) (fec : BitVec 2)
  /-- LINK_DOWN (R73). -/
  | linkDown (p : BitVec 4)
  /-- OPTIC_POLL (R75). The port and the diagnostic page read from its optic. -/
  | opticPoll (p : BitVec 4) (temp : BitVec 16) (vcc : BitVec 16) (bias : BitVec 16) (tx : BitVec 16) (rx : BitVec 16) (aw : Word)
  /-- FRAME_RX (R77). The port, whether the frame lies beyond the matching rate of R127, and the frame. -/
  | frameRx (p : BitVec 4) (beyond : Bool) (f : Frame)
  /-- FRAME_TX_START (R83). -/
  | frameTxStart (p : BitVec 4)
  /-- PFC_PAUSE_EXPIRY (R84). -/
  | pfcPauseExpiry (p : BitVec 4) (prio : BitVec 3)
  /-- PFC_XOFF_REPEAT (R85). -/
  | pfcXoffRepeat (p : BitVec 4)
  /-- NODE_FORGET_EXPIRY (R88). The pair of ports and the node. -/
  | nodeForgetExpiry (pair : BitVec 3) (src : BitVec 48)
  /-- SUPERVISION_SEND (R89). -/
  | supervisionSend (pair : BitVec 3)
  /-- MAC_PAIRMODE_WRITE (R86). -/
  | macPairmodeWrite (data : Word)
  /-- SVI_TBL_READ (R130). The word written to SVI_TBL_CMD. -/
  | sviTblRead (cmd : Word)
  /-- SVI_TBL_WRITE (R130). The word written to SVI_TBL_CMD. -/
  | sviTblWrite (cmd : Word)
  /-- SVI_RUN (R115). -/
  | sviRun
  /-- SVI_STOP (R115). -/
  | sviStop
  /-- SVI_PLANE_WRITE (R115). -/
  | sviPlaneWrite (data : Word)
  /-- STREAM_SILENT (R117). -/
  | streamSilent (ix : BitVec 10)
  /-- INGEST_OVERLOAD (R128). -/
  | ingestOverload
  /-- DECIM_RETURN (R128). -/
  | decimReturn
  /-- FPE_TBL_READ (R168). The word written to FPE_TBL_CMD. -/
  | fpeTblRead (cmd : Word)
  /-- FPE_TBL_WRITE (R168). The word written to FPE_TBL_CMD. -/
  | fpeTblWrite (cmd : Word)
  /-- GLIDE_GO (R148). The word written to FPE_GLIDE with GO. -/
  | glideGo (data : Word)
  /-- GLIDE_END (R149). -/
  | glideEnd
  /-- REF_HOLD_EXPIRY (R161). -/
  | refHoldExpiry (r : BitVec 6)
  /-- GTE_WINDOW_READ (R201). The word written to GTE_TBL_CMD. -/
  | gteWindowRead (cmd : Word)
  /-- GTE_WINDOW_ARM (R201). The word written to GTE_TBL_CMD. -/
  | gteWindowArm (cmd : Word)
  /-- GTE_WINDOW_UPDATE (R201). The word written to GTE_TBL_CMD. -/
  | gteWindowUpdate (cmd : Word)
  /-- GTE_WINDOW_CANCEL (R201). The word written to GTE_TBL_CMD. -/
  | gteWindowCancel (cmd : Word)
  /-- GATE_FIRE (R197). -/
  | gateFire (ix : BitVec 10)
  /-- TOUT_PULSE_END (R193). -/
  | toutPulseEnd (t : BitVec 4)
  /-- PEER_NOTICE_TIMEOUT (R199). -/
  | peerNoticeTimeout (ix : BitVec 10)
  /-- TASK_PERIOD_START (R208). -/
  | taskPeriodStart (t : BitVec 9)
  /-- TASK_RUN_COMPLETE (R211). -/
  | taskRunComplete (t : BitVec 9)
  /-- TASK_OVERRUN (R218). -/
  | taskOverrun (t : BitVec 9)
  /-- DOUBLED_RETURN (R222). -/
  | doubledReturn (t : BitVec 9)
  /-- TASK_OUTPUT_RELEASE (R214). -/
  | taskOutputRelease (t : BitVec 9)
  /-- CORE_ECC_ERROR (R205). -/
  | coreEccError (c : BitVec 4)
  /-- CORE_ECC_CORRECTED (R205). -/
  | coreEccCorrected (c : BitVec 4)
  /-- CYE_START (R250). -/
  | cyeStart
  /-- PROGRAM_START (R250). -/
  | programStart
  /-- CYE_STOP (R251). -/
  | cyeStop
  /-- PROGRAM_STOP (R251). -/
  | programStop
  /-- CYE_TBL_READ (R252). The word written to CYE_TBL_CMD. -/
  | cyeTblRead (cmd : Word)
  /-- CYE_TBL_WRITE (R252). The word written to CYE_TBL_CMD. -/
  | cyeTblWrite (cmd : Word)
  /-- HOST_WRITE_APPLY (R230). -/
  | hostWriteApply (w : BitVec 12)
  /-- IMAGE_VERIFY_DONE (R258). -/
  | imageVerifyDone
  /-- LF_ARM (R269). -/
  | lfArm
  /-- LF_ABORT (R272). -/
  | lfAbort
  /-- LF_REVERT (R273). -/
  | lfRevert
  /-- LF_DISCARD (R272). -/
  | lfDiscard
  /-- LF_PRE_SWITCH_CHECK (R271). -/
  | lfPreSwitchCheck
  /-- LF_SWITCH (R270). -/
  | lfSwitch
  /-- LF_CARRY_OVER_DONE (R270). -/
  | lfCarryOverDone
  /-- LF_PEER_TIMEOUT (R275). -/
  | lfPeerTimeout
  /-- PUBLISH_TARGET (R291). -/
  | publishTarget (pcb : BitVec 10)
  /-- GOOSE_RETRANSMIT (R285). -/
  | gooseRetransmit (pcb : BitVec 10)
  /-- SUB_TAL_EXPIRY (R296). -/
  | subTalExpiry (ix : BitVec 10)
  /-- LOCK_LEASE_END (R301). -/
  | lockLeaseEnd (k : BitVec 8)
  /-- OUT_TBL_READ (R303). The word written to OUT_TBL_CMD. -/
  | outTblRead (cmd : Word)
  /-- OUT_TBL_WRITE (R303). The word written to OUT_TBL_CMD. -/
  | outTblWrite (cmd : Word)
  /-- SIO_INPUT_SAMPLE (R309). The levels of receivers A and B of the inputs. -/
  | sioInputSample (rawA : Word) (rawB : Word)
  /-- INPUT_DISAGREE_TIMEOUT (R310). -/
  | inputDisagreeTimeout (ix : BitVec 5)
  /-- INPUT_AGREE_TIMEOUT (R310). -/
  | inputAgreeTimeout (ix : BitVec 5)
  /-- SAFETY_CYCLE (R312). -/
  | safetyCycle
  /-- CROSSLINK_HEARTBEAT (R308). -/
  | crosslinkHeartbeat
  /-- CROSSLINK_MSG_RX (R308). The receiving channel, and whether the message passes its checks. -/
  | crosslinkMsgRx (toB : Bool) (ok : Bool)
  /-- CROSSLINK_SILENCE (R308). The channel that hears nothing. -/
  | crosslinkSilence (chB : Bool)
  /-- CHB_RATE_CHECK (R307). The deviation in ppm that channel B finds over 100 ms. -/
  | chbRateCheck (ppm : BitVec 20)
  /-- TOUT_READBACK_FAULT (R314). -/
  | toutReadbackFault (t : BitVec 4)
  /-- TOUT_OPEN_LOAD (R315). -/
  | toutOpenLoad (t : BitVec 4)
  /-- SIO_TOUT_RESET (R314). The word written, and the readback levels. -/
  | sioToutReset (data : Word) (back : BitVec 16)
  /-- DEMAND_MIN_EXPIRY (R317). -/
  | demandMinExpiry (p : BitVec 3)
  /-- SIO_LATCH_RESET (R317). -/
  | sioLatchReset (data : Word)
  /-- SIO_LOCKOUT_RESET (R322). The word written, and the pairs whose readback or switch fault has gone. -/
  | sioLockoutReset (data : Word) (cleared : Byte)
  /-- PAIR_READBACK_MISMATCH (R320). The pair, and whether a switch does not open. -/
  | pairReadbackMismatch (p : BitVec 3) (stuck : Bool)
  /-- FEEDBACK_TIMEOUT (R321). -/
  | feedbackTimeout (ix : BitVec 5)
  /-- EVAL_DISCREPANCY_TIMEOUT (R323). -/
  | evalDiscrepancyTimeout (k : BitVec 3)
  /-- EVAL_WINDOW_TIMEOUT (R324). -/
  | evalWindowTimeout (k : BitVec 3)
  /-- EVAL_PULSE_END (R323). -/
  | evalPulseEnd (k : BitVec 3)
  /-- PAIR_TEST_PULSE (R327). -/
  | pairTestPulse (p : BitVec 3) (chB : Bool)
  /-- TEST_PULSE_CONFIRM (R327). A timed output, or a pair. -/
  | testPulseConfirm (tout : Bool) (ix : BitVec 4)
  /-- TEST_PULSE_TIMEOUT (R327). A timed output, or a pair. -/
  | testPulseTimeout (tout : Bool) (ix : BitVec 4)
  /-- TOUT_TEST_PULSE (R328). -/
  | toutTestPulse (t : BitVec 4)
  /-- TEST_RETRY (R329). A timed output, or a pair and its channel. -/
  | testRetry (tout : Bool) (ix : BitVec 4) (chB : Bool)
  /-- SIO_RUN (R333). -/
  | sioRun
  /-- SIO_START_TESTS_DONE (R333). The pairs and timed outputs whose test failed. -/
  | sioStartTestsDone (badPairs : Byte) (badTouts : BitVec 16)
  /-- SIO_STOP (R333). -/
  | sioStop
  /-- SIO_TBL_READ (R335). The word written to SIO_TBL_CMD. -/
  | sioTblRead (cmd : Word)
  /-- SIO_TBL_WRITE (R335). The word written to SIO_TBL_CMD. -/
  | sioTblWrite (cmd : Word)
  /-- DOORBELL_READ_DONE (R346). The function, whether the read ended well, the block, and the plane-buffer
  descriptors it announces. -/
  | doorbellReadDone (fn : BitVec 9) (ok : Bool) (d : Doorbell) (planes : List PlaneDesc)
  /-- COMMAND_FETCH_DONE (R353). The function, whether the read ended well, and the command. -/
  | commandFetchDone (fn : BitVec 9) (ok : Bool) (h : CmdHdr) (op : Op)
  /-- ACCEPTANCE_INSTANT (R349). -/
  | acceptanceInstant
  /-- KICK (R350). -/
  | kick (fn : BitVec 9)
  /-- NOP (R352). -/
  | nop (fn : BitVec 9) (h : CmdHdr)
  /-- HOST_WRITE (R228). -/
  | hostWrite (fn : BitVec 9) (h : CmdHdr) (word : BitVec 12) (quality : BitVec 16) (value : DWord)
  /-- GATE_ARM (R175). -/
  | gateArm (fn : BitVec 9) (h : CmdHdr) (gate : List Word) (loc : BitVec 10)
  /-- GATE_UPDATE (R178). -/
  | gateUpdate (fn : BitVec 9) (h : CmdHdr) (loc : BitVec 10) (mask : BitVec 4) (comp : BitVec 32) (target : BitVec 16) (earliest : DWord) (latest : DWord)
  /-- GATE_CANCEL (R179). -/
  | gateCancel (fn : BitVec 9) (h : CmdHdr) (loc : BitVec 10)
  /-- GATE_READ (R352). -/
  | gateRead (fn : BitVec 9) (h : CmdHdr) (loc : BitVec 10) (addr : DWord)
  /-- PUBLISH (R290). -/
  | publish (fn : BitVec 9) (h : CmdHdr) (count : BitVec 9) (pcb : BitVec 10) (items : List PubItem)
  /-- LOCK_SELECT (R298). -/
  | lockSelect (fn : BitVec 9) (h : CmdHdr) (obj : BitVec 32) (lease : BitVec 32) (keep : Bool)
  /-- LOCK_OPERATE (R299). -/
  | lockOperate (fn : BitVec 9) (h : CmdHdr) (obj : BitVec 32) (emb : Emb)
  /-- LOCK_RENEW (R298). -/
  | lockRenew (fn : BitVec 9) (h : CmdHdr) (obj : BitVec 32) (lease : BitVec 32)
  /-- LOCK_CANCEL (R298). -/
  | lockCancel (fn : BitVec 9) (h : CmdHdr) (obj : BitVec 32)
  /-- CAPTURE_ARM (R404). -/
  | captureArm (fn : BitVec 9) (h : CmdHdr) (arm : CapArm)
  /-- CAPTURE_DISARM (R406). -/
  | captureDisarm (fn : BitVec 9) (h : CmdHdr) (cap : BitVec 5)
  /-- CAPTURE_FORCE (R407). -/
  | captureForce (fn : BitVec 9) (h : CmdHdr) (cap : BitVec 5)
  /-- TABLE_LOAD (R355). -/
  | tableLoad (fn : BitVec 9) (h : CmdHdr) (len : BitVec 32) (container : List Byte)
  /-- IMAGE_LOAD (R254). -/
  | imageLoad (fn : BitVec 9) (h : CmdHdr) (len : BitVec 32) (image : List Byte)
  /-- VF_SEQ_RESET (R363). -/
  | vfSeqReset (fn : BitVec 9) (h : CmdHdr) (vf : BitVec 9)
  /-- SHARE_REVOKE (R385). -/
  | shareRevoke (fn : BitVec 9) (h : CmdHdr) (of : BitVec 9) (mask : BitVec 3) (resv : Bool)
  /-- KEY_IMPORT (R468). -/
  | keyImport (fn : BitVec 9) (h : CmdHdr) (len : BitVec 32) (blob : List Byte)
  /-- KEY_RETIRE (R470); `flight`: slot and position of each operation that an engine has started and not ended (R476). -/
  | keyRetire (fn : BitVec 9) (h : CmdHdr) (slot : BitVec 9) (mask : BitVec 2) (flight : List (BitVec 9 × Bool))
  /-- SELFTEST (R522). -/
  | selftest (fn : BitVec 9) (h : CmdHdr) (kind : Byte) (index : Byte) (firstSeg : BitVec 16) (segCount : BitVec 17) (tmo : BitVec 16)
  /-- JOURNAL_READ (R503). -/
  | journalRead (fn : BitVec 9) (h : CmdHdr) (addr : DWord) (len : BitVec 32) (birth : Bool) (start : DWord)
  /-- BULK_READ (R356). A descriptor with OP 1, or with an OP that does not exist. -/
  | bulkRead (fn : BitVec 9) (opc : Byte) (tag : BitVec 32) (host : DWord) (addr : DWord) (len : BitVec 32)
  /-- FRAME_TX (R356). -/
  | frameTx (fn : BitVec 9) (tag : BitVec 32) (port : BitVec 4) (pcp : BitVec 3) (ts : Bool) (len : BitVec 32) (data : List Byte)
  /-- RX_POST (R356). -/
  | rxPost (fn : BitVec 9) (tag : BitVec 32) (host : DWord) (len : BitVec 32)
  /-- BULK_TRANSFER_DONE (R390). The requester. -/
  | bulkTransferDone (q : BitVec 9)
  /-- HIF_FN_ENABLE (R344). -/
  | hifFnEnable (fn : BitVec 9) (kickEn : Bool)
  /-- HIF_FN_DISABLE (R344). -/
  | hifFnDisable (fn : BitVec 9) (kickEn : Bool)
  /-- FLR (R367). -/
  | flr (fn : BitVec 9)
  /-- PCIE_LINK_TRAIN (R337). Speed code (0 no link), lanes, 10-bit tags. -/
  | pcieLinkTrain (gen : BitVec 3) (width : BitVec 5) (tag10 : Bool)
  /-- VF_ENABLE_SET (R374). NumVFs. -/
  | vfEnableSet (num : BitVec 9)
  /-- VF_ENABLE_CLEAR (R374). -/
  | vfEnableClear
  /-- SERVICE_WRITE (R375). -/
  | serviceWrite (n : BitVec 9) (on : Bool)
  /-- SHR_FLR (R378). -/
  | shrFlr (n : BitVec 9)
  /-- SHARE_WRITE (R380). Function, share word 1 to 3 (A, B, C), data. -/
  | shareWrite (f : BitVec 9) (w : BitVec 2) (data : Word)
  /-- ARBITRATION_CYCLE (R391). -/
  | arbitrationCycle
  /-- ARB_STARVATION (R393). -/
  | arbStarvation (q : BitVec 9)
  /-- CAP_TBL_READ (R425). The word written to CAP_TBL_CMD. -/
  | capTblRead (cmd : Word)
  /-- CAP_SEGMENT_WRITE (R401). The word written to CAP_TBL_CMD. -/
  | capSegmentWrite (cmd : Word)
  /-- SEGMENT_CLEAR_DONE (R402). -/
  | segmentClearDone (ix : BitVec 16)
  /-- REARM_DONE (R417). -/
  | rearmDone (k : BitVec 5)
  /-- AUTO_TRIGGER_TIMEOUT (R416). -/
  | autoTriggerTimeout (k : BitVec 5)
  /-- PAIR_EN_WRITE (R438). The word written to PAR_CTRL. -/
  | pairEnWrite (data : Word)
  /-- PAR_RESYNC (R438). -/
  | parResync
  /-- HEARTBEAT_SEND (R431). -/
  | heartbeatSend
  /-- FRAGMENT_TIMEOUT (R434). -/
  | fragmentTimeout
  /-- PATH_TIMEOUT (R433). The Baswick link, or the process-bus path. -/
  | pathTimeout (path : Bool)
  /-- PEER_FAILED (R433). -/
  | peerFailed
  /-- LISTEN_TIMEOUT (R438). -/
  | listenTimeout
  /-- DEMOTED_TIMEOUT (R438). -/
  | demotedTimeout
  /-- RESYNC_RETRY (R438). -/
  | resyncRetry
  /-- RESYNC_TIMEOUT (R452). -/
  | resyncTimeout
  /-- TX_WATCHDOG (R449). -/
  | txWatchdog
  /-- HEALTH_REPORT_SEND (R454). -/
  | healthReportSend
  /-- HEALTH_REPORT_TIMEOUT (R454). -/
  | healthReportTimeout
  /-- KEY_COMMIT_DONE (R474). -/
  | keyCommitDone
  /-- KEY_EXPIRY (R466). The slot. -/
  | keyExpiry (slot : BitVec 9)
  /-- MR3_EXT (R459). -/
  | mr3Ext
  /-- ATT_GO (R483). -/
  | attGo
  /-- ATT_DONE (R483). -/
  | attDone
  /-- LC_GO (R482). -/
  | lcGo
  /-- LC_DESTRUCTION_DONE (R482). -/
  | lcDestructionDone
  /-- MIG_PREPARE (R478). BOOT. -/
  | migPrepare (boot : Bool)
  /-- MIG_PREPARE_DONE (R478). -/
  | migPrepareDone
  /-- MIG_CANCEL (R478). -/
  | migCancel
  /-- KEY_TBL_READ (R486). The word written to KEY_TBL_CMD. -/
  | keyTblRead (cmd : Word)
  /-- KEY_TBL_WRITE (R486). The word written to KEY_TBL_CMD. -/
  | keyTblWrite (cmd : Word)
  /-- JNL_FLUSH_TIMER (R500). -/
  | jnlFlushTimer
  /-- JNL_FLUSH_WRITE (R500). -/
  | jnlFlushWrite
  /-- JNL_FLUSH_DONE (R500). Whether the repetition failed too, and in the write rather than the read-back. -/
  | jnlFlushDone (bad : Bool) (write : Bool)
  /-- OP_SECOND_TICK (R495). -/
  | opSecondTick
  /-- JOURNAL_READ_DONE (R504). What the copy finds damaged: RSEQ and verdict. -/
  | journalReadDone (damage : List (Nat × Nat))
  /-- FREEZE_TIMEOUT (R505). -/
  | freezeTimeout
  /-- CRC_SCAN_GO (R512). The function that writes, and the channel. -/
  | crcScanGo (fn : BitVec 9) (c : BitVec 3)
  /-- CRC_SCAN_DONE (R512). -/
  | crcScanDone (c : BitVec 3)
  /-- CRC_VERIFY (R514). The function that writes, and the channel. -/
  | crcVerify (fn : BitVec 9) (c : BitVec 3)
  /-- CRC_ABORT (R515). The function that writes, and the channel. -/
  | crcAbort (fn : BitVec 9) (c : BitVec 3)
  /-- SNAP_TRIG (R516). -/
  | snapTrig
  /-- SNAP_RELEASE (R517). -/
  | snapRelease
  /-- DIA_TBL_READ (R525). The word written to DIA_TBL_CMD. -/
  | diaTblRead (cmd : Word)
  /-- DIA_TBL_WRITE (R521). The word written to DIA_TBL_CMD. -/
  | diaTblWrite (cmd : Word)
  /-- SELFTEST_SLICE (R522). -/
  | selftestSlice
  /-- SELFTEST_DONE (R523). The signature of kinds 1 and 3, and the lowest failing byte of the others. -/
  | selftestDone (sig : Word) (bad : Option (BitVec 32))
  /-- SELFTEST_TIMEOUT (R522). -/
  | selftestTimeout
  /-- POWER_ON (R531). What the start finds. -/
  | powerOn (found : StartIn)
  /-- STRAP_POLL (R529). The slot straps as read. -/
  | strapPoll (pairPos : Bool) (safetyIo : Bool) (timeSrc : Bool) (maint : Bool) (slotId : BitVec 4)
  /-- BOOT_CONFIRM (R532). The word written to GLB_BOOT_CTRL. -/
  | bootConfirm (data : Word)
  /-- TRIAL_CONFIRM_TIMEOUT (R532). -/
  | trialConfirmTimeout
  /-- FW_GO (R535). The word written to GLB_FW_CTRL. -/
  | fwGo (data : Word)
  /-- FW_WRITE_DONE (R535). The bundle as read, and whether the flash was written. -/
  | fwWriteDone (bundle : List Byte) (flashOk : Bool)
  /-- HOST_RESET (R537). What a start that follows finds. -/
  | hostReset (found : StartIn)
  /-- RESET_MODULE_WRITE (R538). The word written to GLB_RESET. -/
  | resetModuleWrite (data : Word)
  /-- MODULE_RESET_EFFECT (R538). What the start finds. -/
  | moduleResetEffect (found : StartIn)
  /-- FW_WATCHDOG (R538). -/
  | fwWatchdog
  /-- MEMORY_UE (R538). -/
  | memoryUe
  /-- MAINT_REQ (R540). The word written to GLB_MAINT. -/
  | maintReq (data : Word)
  /-- MAINT_LEAVE (R540). The word written to GLB_MAINT. -/
  | maintLeave (data : Word)
  /-- POWER_FAIL_WARNING (R542). -/
  | powerFailWarning
  /-- RIDE_THROUGH (R544). -/
  | rideThrough
  /-- HOLDUP_END (R544). -/
  | holdupEnd
  /-- SUPPLY_RETURN (R544). What the start finds. -/
  | supplyReturn (found : StartIn)
  /-- SHUTDOWN (R545). The word written to GLB_PWR. -/
  | shutdown (data : Word)
  /-- RTC_COMMIT (R548). The word written to GLB_RTC_HI. -/
  | rtcCommit (hi : Word)
  /-- TAMPER_COVER_OPEN (R549). The switch opens, or closes. -/
  | tamperCoverOpen (opens : Bool)
  /-- TAMPER_LOOP_SENSE (R573). The loop reads open, or closed. -/
  | tamperLoopSense (opens : Bool)
  /-- VBAT_LOW (R547). The VBAT reading in mV; 0 none fitted. -/
  | vbatLow (mv : BitVec 12)
  /-- SUPPLY_OVERVOLTAGE (R565). The card-edge input or the auxiliary one, above or back below. -/
  | supplyOvervoltage (aux : Bool) (above : Bool)
  /-- SLEW_COMPLETE (R48). -/
  | slewComplete
  /-- OCXO_TOLERANCE_REGAINED (R60). -/
  | ocxoToleranceRegained
  /-- FLR_COMPLETE (R367). -/
  | flrComplete (fn : BitVec 9)
  /-- POWER_REMOVED (R545). -/
  | powerRemoved
  /-- BACKUP_SUPPLY_LOST (R547). -/
  | backupSupplyLost
  deriving DecidableEq, Repr

end Sys2Proof
end

