-- ==== Sys2Proof/Decode.lean ====
section
/-! DEFINITION. The command words of the table. The table gives no row any bits: the block has no instruction words, and its
commands arrive as typed accesses, frames, levels and expiries. So no word spells a command. -/

namespace Sys2Proof

/-- The command that a word of `nbits` bits spells by the table's bits: none, since the table gives no row bits. -/
def decodeTableWord (_nbits _w : Nat) : Option Instr := none

end Sys2Proof
end

