-- ==== Sys2Proof/Program.lean ====
section
/-! DEFINITION. A task body as the engine evaluates it: block instances in compiled order (R239). Composites stand with
their whole bodies in place (R240), since from outside a composite cannot be told apart from a primitive. The spec gives
the compiled form of a body no layout; `Config.taskBody` reads it (log entry 11). -/

namespace Sys2Proof

/-- A value with its 16-bit quality. Integers as they are, BOOL 0 or 1, LREAL as its 64-bit pattern, a gate-request
record as the little-endian number of its 40 bytes (R236). -/
structure TV where
  v : Int
  q : Nat
  deriving DecidableEq, Repr

/-- Where a block input comes from: an input-map entry of the task, an output of a block of the body, a constant. -/
inductive Src where
  | inp (i : Nat)
  | out (blk port : Nat)
  | const (v : Int)
  deriving DecidableEq, Repr

/-- The built-in blocks (R239, R245 to R249); `native` is code that keeps retained data (LFG table 7, STYPE 15). -/
inductive BlkOp where
  | ton | tof | tp | rTrig | fTrig | sr | rs | ctu | ctd | z1 | hysHi | hysLo | idmt
  | move | add | sub | mul | div | abs | neg | min | max | limit | sqrt
  | gt | ge | eq | ne | le | lt | and | or | xor | not | sel | mux | conv | gateReq | qgate | native
  deriving DecidableEq, Repr

/-- A block instance: operand type `ty` (CYE table 3), target type `to` of a conversion, instance identifier, inputs in
the order in which R245 to R249 name them, initial state. -/
structure Blk where
  op : BlkOp
  ty : Nat
  dest : Nat
  inst : Nat
  args : List Src
  init : List Int
  deriving DecidableEq, Repr

/-- A task body: the list of blocks and the source of each output-map entry of the task. -/
structure TaskBody where
  blocks : List Blk
  outs : List Src
  deriving DecidableEq, Repr

end Sys2Proof
end

