-- ==== Sys2Proof/Config.lean ====
section
/-! DEFINITION. What one module fixes and the spec leaves open: factory values, cryptographic functions, transcendental
functions, results and times that the spec does not state. Every constant is opaque: no proof can see its value, so a
claim holds whatever it is (log entries 3 and 8 to 14). -/

namespace Sys2Proof.Config

/-- A free value, fresh at each use of the state's counter (log entry 3). -/
opaque freeValue : Nat → BitVec 64

/-- Factory-calibrated delay of a port for a speed code and an optic identifier, 16.16 ns; receive or transmit (R62). -/
opaque factoryDelay : (port speed ident : Nat) → (tx : Bool) → Word

/-- Factory MAC address of a port (MAC table 8). -/
opaque factoryAddr : (port : Nat) → BitVec 48

/-- KEY_UID0 to 3 (R486). -/
opaque factoryUid : (i : Nat) → Word

/-- The signature that a self-test of a working core or lane gives: KIND 1 or 3, INDEX (R523). -/
opaque expectedSig : (kind index : Nat) → Word

/-- Ordering variant 0 to 3 of Scope table 1, in bits [1:0]. -/
opaque variant : BitVec 2

/-- AES-GMAC tag of 16 bytes over data under a key of 16 or 32 bytes and a 96-bit IV (R107, R435, R497). -/
opaque gmac : (key iv data : List Byte) → List Byte

/-- AES-256 encryption of one block (R497). -/
opaque aes : (key block : List Byte) → List Byte

/-- HMAC-SHA-256 tag (R107, R287). -/
opaque hmac256 : (key data : List Byte) → List Byte

/-- HMAC-SHA-384 (R461). -/
opaque hmac384 : (key data : List Byte) → List Byte

/-- AES-256-GCM opening: the plain text where the tag verifies (R468, R472). -/
opaque gcmOpen : (key iv aad cipher tag : List Byte) → Option (List Byte)

/-- AES-256-GCM sealing: cipher text and tag (R472). -/
opaque gcmSeal : (key iv aad plain : List Byte) → List Byte × List Byte

/-- SHA-384: 48 bytes (R459). -/
opaque sha384 : List Byte → List Byte

/-- The root that the PUF reconstructs from the helper data (R458): 32 bytes. -/
opaque root : List Byte

/-- ECDSA P-384 verification of r and s over SHA-384 of data under a public key x, y (R257, R535). -/
opaque ecdsaVerify : (key data sig : List Byte) → Bool

/-- Deterministic ECDSA P-384 signature r and s over SHA-384 of data under a private key (R462). -/
opaque ecdsaSign : (key : Nat) → (data : List Byte) → List Byte

/-- The P-384 public key x, y of a private key (R484). -/
opaque ecdsaPublic : (key : Nat) → List Byte

/-- The boot-ROM key that firmware is verified with and the service key of the RMA token (R458, R482). -/
opaque bootKey : List Byte
opaque serviceKey : List Byte

/-- The choice of cosine and sine values within 1 LSB of the exact ones (R155); `Machine/Trig.lean` bounds them. -/
opaque cosQ : BitVec 32 → Int
opaque sinQ : BitVec 32 → Int

/-! ## The cycle engine (log entry 11) -/

/-- The compiled body of a task: code section, core-local image of its core, entry offset, instance base (R206). -/
opaque taskBody : (code loc : List Byte) → (entry base : Nat) → Option TaskBody

/-- Sign, quiet bit aside, of a NaN result and its payload, from the operands' patterns (R244). -/
opaque nanBits : (a b : Nat) → BitVec 52

/-- r to the power alpha in binary64 (R247), as patterns. -/
opaque pow64 : (r alpha : Nat) → BitVec 64

/-- A conversion to or from BOOL (R249 states none), a result that the spec leaves open. -/
opaque boolConv : (ty dest : Nat) → (v : Int) → Int

/-- What a block that keeps retained data computes: new state and outputs. -/
opaque nativeBlock : (inst : Nat) → (args : List TV) → (st : List Int) → (dt : Nat) → List Int × List TV

/-! ## Publication (log entry 9) -/

/-- The bytes of a GOOSE or R-GOOSE message (IEC 61850-8-1, IEC 61850-90-5) without its authentication value: from the
template and string lengths, the numbers of the goosePdu, and the member TYPEs and values. -/
opaque gooseBytes : (head : List Byte) → (nums : List Int) → (members : List (Nat × Int)) → List Byte

end Sys2Proof.Config
end

