-- ==== Sys2Proof/Machine/Crc.lean ====
section
/-! DEFINITION. The check values of CRC table 1 (R508) and the judgement of a stored record (R509). -/

namespace Sys2Proof

/-- One bit of a reflected CRC of polynomial `p` (bits reversed). -/
def crcBitR (p s : Nat) : Nat := if s % 2 = 1 then Nat.xor (s / 2) p else s / 2

/-- Eight bits of a reflected CRC. -/
def crcByteR (p s : Nat) (b : Byte) : Nat :=
  crcBitR p (crcBitR p (crcBitR p (crcBitR p (crcBitR p (crcBitR p (crcBitR p (crcBitR p (Nat.xor s b.toNat))))))))

/-- One bit of an unreflected CRC of width `w`. -/
def crcBitF (w p s : Nat) : Nat :=
  if 2 ^ (w - 1) ≤ s then Nat.xor ((s * 2) % 2 ^ w) p else s * 2

/-- Eight bits of an unreflected CRC. -/
def crcByteF (w p s : Nat) (b : Byte) : Nat :=
  let t := Nat.xor s (b.toNat * 2 ^ (w - 8))
  crcBitF w p (crcBitF w p (crcBitF w p (crcBitF w p (crcBitF w p (crcBitF w p (crcBitF w p (crcBitF w p t)))))))

/-- Init of the polynomial of code `poly` (CRC table 1). -/
def crcInit (poly : Nat) : Nat :=
  if poly = 2 then 0xFFFF else if poly = 3 then 0xFF else 0xFFFFFFFF

/-- XorOut of the polynomial of code `poly`. -/
def crcXorOut (poly : Nat) : Nat :=
  if poly = 2 then 0 else if poly = 3 then 0xFF else 0xFFFFFFFF

/-- The working register after one byte, in the orientation of the polynomial (R513). -/
def crcStep (poly s : Nat) (b : Byte) : Nat :=
  if poly = 0 then crcByteR 0x82F63B78 s b
  else if poly = 1 then crcByteR 0xEDB88320 s b
  else if poly = 2 then crcByteF 16 0x1021 s b
  else crcByteF 8 0x2F s b

/-- The working register after a byte string. -/
def crcRun (poly : Nat) : Nat → List Byte → Nat
  | s, [] => s
  | s, b :: t => crcRun poly (crcStep poly s b) t

/-- RESULT for a working register (R513). -/
def crcResult (poly s : Nat) : Nat := Nat.xor s (crcXorOut poly)

/-- The CRC of a byte string from Init. -/
def crcOf (poly : Nat) (l : List Byte) : Nat := crcResult poly (crcRun poly (crcInit poly) l)

/-- CRC-32C of a byte string. -/
def crc32c (l : List Byte) : Nat := crcOf 0 l

/-- CRC-8 over the four bytes of a CRC-32C in address order (R509). -/
def crc8of (c : Nat) : Nat := crcOf 3 (leBytes 4 c)

/-- R509: 0 GOOD, 1 DATA_DAMAGED, 2 CHECK_DAMAGED, from the computed CRC-32C, the stored one and the stored CRC-8. -/
def judge (computed stored stored8 : Nat) : Nat :=
  if crc8of stored ≠ stored8 then 2 else if computed ≠ stored then 1 else 0

end Sys2Proof
end

