-- ==== Sys2Proof/Machine/Maps.lean ====
section
/-! DEFINITION. Sparse maps keyed by a number, in one canonical form: keys strictly rising and no entry equal to
what an unlisted key reads as. The register file, every table and the capture region are held in this form. -/

namespace Sys2Proof

/-- A sparse map from numbers; `d k` is what an unlisted key `k` reads as. -/
abbrev NMap (α : Type) := List (Nat × α)

/-- Read key `k`. -/
def NMap.get {α : Type} (d : Nat → α) : NMap α → Nat → α
  | [], k => d k
  | (j, a) :: t, k => if j = k then a else NMap.get d t k

/-- Insert in key order, replacing an entry of the same key. -/
def NMap.ins {α : Type} : NMap α → Nat → α → NMap α
  | [], k, v => [(k, v)]
  | (j, a) :: t, k, v =>
    if k < j then (k, v) :: (j, a) :: t
    else if k = j then (k, v) :: t
    else (j, a) :: NMap.ins t k v

/-- Remove key `k`. -/
def NMap.del {α : Type} : NMap α → Nat → NMap α
  | [], _ => []
  | (j, a) :: t, k => if j = k then NMap.del t k else (j, a) :: NMap.del t k

/-- Write key `k`; writing what an unlisted key reads as removes the entry. -/
def NMap.set {α : Type} [DecidableEq α] (d : Nat → α) (m : NMap α) (k : Nat) (v : α) : NMap α :=
  if v = d k then NMap.del m k else NMap.ins m k v

/-- Update key `k` by a function. -/
def NMap.upd {α : Type} [DecidableEq α] (d : Nat → α) (m : NMap α) (k : Nat) (f : α → α) : NMap α :=
  NMap.set d m k (f (NMap.get d m k))

/-- The keys rise strictly. -/
def NMap.rising {α : Type} : NMap α → Bool
  | [] => true
  | [_] => true
  | (j, _) :: (k, b) :: t => decide (j < k) && NMap.rising ((k, b) :: t)

/-- The canonical form: strictly rising keys, no entry equal to its default. -/
def NMap.wf {α : Type} [DecidableEq α] (d : Nat → α) (m : NMap α) : Bool :=
  NMap.rising m && m.all fun p => decide (p.2 ≠ d p.1)

/-- Insert into a list sorted by `le`, before the first entry that is not below it. -/
def insBy {α : Type} (le : α → α → Bool) (a : α) : List α → List α
  | [] => [a]
  | b :: t => if le a b then a :: b :: t else b :: insBy le a t

/-- Sort a list by `le`, keeping the order of equal entries. -/
def sortBy {α : Type} (le : α → α → Bool) : List α → List α
  | [] => []
  | a :: t => insBy le a (sortBy le t)

/-- The capture region as bytes (R400); a byte that nothing has written reads 0 (log entry 7). -/
abbrev Memory := List Host.Cell

/-- What an unlisted byte of the capture region reads as (log entry 7, DESIGN CHOICE). -/
def Memory.unlisted (_ : Nat) : Byte := 0

/-- Read one byte. -/
def Memory.read (m : Memory) (a : Nat) : Byte := NMap.get Memory.unlisted m a

/-- Write one byte. -/
def Memory.write (m : Memory) (a : Nat) (b : Byte) : Memory := NMap.set Memory.unlisted m a b

/-- The canonical form of the capture region. -/
def Memory.wf (m : Memory) : Bool := NMap.wf Memory.unlisted m

/-- Write a byte string at rising addresses. -/
def Memory.writeBytes : Memory → Nat → List Byte → Memory
  | m, _, [] => m
  | m, a, b :: t => Memory.writeBytes (Memory.write m a b) (a + 1) t

/-- Read `n` bytes at rising addresses. -/
def Memory.readBytes (m : Memory) (a : Nat) : Nat → List Byte
  | 0 => []
  | n + 1 => Memory.read m a :: Memory.readBytes m (a + 1) n

/-- Set every byte of [a, a + n) to zero: the entries of that range leave the list. -/
def Memory.clear (m : Memory) (a n : Nat) : Memory := m.filter fun p => decide (p.1 < a ∨ a + n ≤ p.1)

end Sys2Proof
end

