-- ==== Sys2Proof/Machine/RegMap.lean ====
section
/-! DEFINITION. The set-up register map (R562, map tables 3 to 11): offsets within PF BAR0 and reset values.
A register row of several places (R562 "first offset and step") is named by its first offset. The registers of VF n
are kept at 0x0100_0000 x n plus the offset in its BAR0 (R553). Registers whose reset source is not a number in the
map (Strap, MRAM, Backup, Fuses, Factory, Set at start) have the default 0 here; the start writes them (R531). -/

namespace Sys2Proof.Reg

abbrev GLB_ID : Nat := 0x00000000
abbrev GLB_STAT : Nat := 0x00000004
abbrev GLB_FLAGS : Nat := 0x00000008
abbrev GLB_CFG_ERR : Nat := 0x0000000C
abbrev GLB_STRAP : Nat := 0x00000010
abbrev GLB_RESET : Nat := 0x00000014
abbrev GLB_RESET_INFO : Nat := 0x00000018
abbrev GLB_CFG : Nat := 0x0000001C
abbrev GLB_BOOT : Nat := 0x00000020
abbrev GLB_BOOT_CTRL : Nat := 0x00000024
abbrev GLB_MAINT : Nat := 0x00000028
abbrev GLB_PWR : Nat := 0x0000002C
abbrev GLB_FW_ADDR_LO : Nat := 0x00000040
abbrev GLB_FW_ADDR_HI : Nat := 0x00000044
abbrev GLB_FW_LEN : Nat := 0x00000048
abbrev GLB_FW_CTRL : Nat := 0x0000004C
abbrev GLB_FW_STAT : Nat := 0x00000050
abbrev GLB_BKP_STAT : Nat := 0x00000060
abbrev GLB_RTC_LO : Nat := 0x00000064
abbrev GLB_RTC_HI : Nat := 0x00000068
abbrev GLB_TAMPER : Nat := 0x00000070
abbrev GLB_TAMPER_CFG : Nat := 0x00000074
abbrev GLB_RETAIN : Nat := 0x00000080
abbrev TIM_CTRL : Nat := 0x00010000
abbrev TIM_STAT : Nat := 0x00010004
abbrev TIM_FLAGS : Nat := 0x00010008
abbrev TIM_CFG_ERR : Nat := 0x0001000C
abbrev TIM_INC_A_LO : Nat := 0x00010010
abbrev TIM_INC_A_HI : Nat := 0x00010014
abbrev TIM_INC_B_LO : Nat := 0x00010018
abbrev TIM_INC_B_HI : Nat := 0x0001001C
abbrev TIM_STEP_A_LO : Nat := 0x00010020
abbrev TIM_STEP_A_HI : Nat := 0x00010024
abbrev TIM_STEP_B_LO : Nat := 0x00010028
abbrev TIM_STEP_B_HI : Nat := 0x0001002C
abbrev TIM_SLEW : Nat := 0x00010030
abbrev TIM_SLEW_LIMIT : Nat := 0x00010034
abbrev TIM_SEL : Nat := 0x00010038
abbrev TIM_LOCK : Nat := 0x0001003C
abbrev TIM_SNAP_CTRL : Nat := 0x00010040
abbrev TIM_SNAP_A_LO : Nat := 0x00010044
abbrev TIM_SNAP_A_HI : Nat := 0x00010048
abbrev TIM_SNAP_A_FRAC : Nat := 0x0001004C
abbrev TIM_SNAP_B_LO : Nat := 0x00010050
abbrev TIM_SNAP_B_HI : Nat := 0x00010054
abbrev TIM_SNAP_B_FRAC : Nat := 0x00010058
abbrev TIM_SNAP_M_LO : Nat := 0x0001005C
abbrev TIM_SNAP_M_HI : Nat := 0x00010060
abbrev TIM_SNAP_M_FRAC : Nat := 0x00010064
abbrev TIM_SNAP_D_LO : Nat := 0x00010068
abbrev TIM_SNAP_D_HI : Nat := 0x0001006C
abbrev TIM_HOLD_S : Nat := 0x00010070
abbrev TIM_GRID_SEC : Nat := 0x00010078
abbrev TIM_GRID_N : Nat := 0x0001007C
abbrev TIM_DOM1_CFG : Nat := 0x00010080
abbrev TIM_DOM2_CFG : Nat := 0x00010084
abbrev TIM_DOM_STAT : Nat := 0x00010088
abbrev TIM_SRC_A : Nat := 0x00010090
abbrev TIM_UTC_OFS : Nat := 0x00010094
abbrev TIM_IRIG_CFG : Nat := 0x000100A0
abbrev TIM_IRIG_STAT : Nat := 0x000100A4
abbrev TIM_IRIG_TS_LO : Nat := 0x000100A8
abbrev TIM_IRIG_TS_HI : Nat := 0x000100AC
abbrev TIM_IRIG_TS_FRAC : Nat := 0x000100B0
abbrev TIM_IRIG_SEC_LO : Nat := 0x000100B4
abbrev TIM_IRIG_SEC_HI : Nat := 0x000100B8
abbrev TIM_PPS_IN_TS_LO : Nat := 0x000100C0
abbrev TIM_PPS_IN_TS_HI : Nat := 0x000100C4
abbrev TIM_PPS_IN_TS_FRAC : Nat := 0x000100C8
abbrev TIM_PPS_OUT : Nat := 0x000100D0
abbrev TIM_PPS_WIDTH : Nat := 0x000100D4
abbrev TIM_PPS_OFS : Nat := 0x000100D8
abbrev TIM_PORT_RXDLY : Nat := 0x00010100
abbrev TIM_PORT_TXDLY : Nat := 0x00010104
abbrev TIM_PORT_PDLY : Nat := 0x00010108
abbrev TIM_PORT_CFG : Nat := 0x0001010C
abbrev MAC_PORT_CTRL : Nat := 0x00020000
abbrev MAC_PORT_CFG : Nat := 0x00020004
abbrev MAC_PORT_STAT : Nat := 0x00020008
abbrev MAC_PORT_FLAGS : Nat := 0x0002000C
abbrev MAC_PORT_ADDR_LO : Nat := 0x00020010
abbrev MAC_PORT_ADDR_HI : Nat := 0x00020014
abbrev MAC_PORT_VID : Nat := 0x00020020
abbrev MAC_PORT_PFC : Nat := 0x00020040
abbrev MAC_PORT_PTPTX : Nat := 0x00020044
abbrev MAC_PORT_OPT_ID : Nat := 0x00020050
abbrev MAC_PORT_OPT_TEMP : Nat := 0x00020054
abbrev MAC_PORT_OPT_VCC : Nat := 0x00020058
abbrev MAC_PORT_OPT_BIAS : Nat := 0x0002005C
abbrev MAC_PORT_OPT_TXPWR : Nat := 0x00020060
abbrev MAC_PORT_OPT_RXPWR : Nat := 0x00020064
abbrev MAC_PORT_OPT_AW : Nat := 0x00020068
abbrev MAC_PORT_CNT : Nat := 0x00020400
abbrev MAC_RX_OCTETS_LO : Nat := 0x00020500
abbrev MAC_RX_OCTETS_HI : Nat := 0x00020504
abbrev MAC_TX_OCTETS_LO : Nat := 0x00020508
abbrev MAC_TX_OCTETS_HI : Nat := 0x0002050C
abbrev MAC_PAIRMODE : Nat := 0x0002F000
abbrev MAC_PRP_CFG : Nat := 0x0002F004
abbrev MAC_HSR_CFG : Nat := 0x0002F008
abbrev MAC_NODE_STAT : Nat := 0x0002F00C
abbrev MAC_NODE_FORGET : Nat := 0x0002F010
abbrev MAC_CFG_ERR : Nat := 0x0002F014
abbrev SVI_CTRL : Nat := 0x00030000
abbrev SVI_STAT : Nat := 0x00030004
abbrev SVI_FLAGS : Nat := 0x00030008
abbrev SVI_CFG_ERR : Nat := 0x0003000C
abbrev SVI_PLANE : Nat := 0x00030010
abbrev SVI_GDELAY : Nat := 0x00030014
abbrev SVI_LEAD_TOL : Nat := 0x00030018
abbrev SVI_UNITS : Nat := 0x0003001C
abbrev SVI_GM_ID1_LO : Nat := 0x00030020
abbrev SVI_GM_ID1_HI : Nat := 0x00030024
abbrev SVI_GM_ID2_LO : Nat := 0x00030028
abbrev SVI_GM_ID2_HI : Nat := 0x0003002C
abbrev SVI_SILENT : Nat := 0x00030030
abbrev SVI_TBL_CMD : Nat := 0x00030040
abbrev SVI_TBL_STAT : Nat := 0x00030044
abbrev SVI_TBL_DATA : Nat := 0x00030080
abbrev SVI_RX_UNMATCHED : Nat := 0x00030100
abbrev SVI_RX_MATCH_DROP : Nat := 0x00030104
abbrev SVI_PLANES_CLOSED : Nat := 0x00030108
abbrev SVI_BUF_PEAK : Nat := 0x0003010C
abbrev SVI_VIEW : Nat := 0x00031000
abbrev FPE_PHASOR : Nat := 0x00040000
abbrev FPE_STAT : Nat := 0x00040004
abbrev FPE_FLAGS : Nat := 0x00040008
abbrev FPE_CFG_ERR : Nat := 0x0004000C
abbrev FPE_GLIDE : Nat := 0x00040010
abbrev FPE_GLIDE_STAT : Nat := 0x00040014
abbrev FPE_SAT_COUNT : Nat := 0x00040018
abbrev FPE_CHAIN_ERR : Nat := 0x0004001C
abbrev FPE_CHAIN_ERR_COUNT : Nat := 0x00040020
abbrev FPE_TBL_CMD : Nat := 0x00040040
abbrev FPE_TBL_STAT : Nat := 0x00040044
abbrev FPE_TBL_DATA : Nat := 0x00040080
abbrev FPE_PVIEW : Nat := 0x00041000
abbrev GTE_CTRL : Nat := 0x00050000
abbrev GTE_STAT : Nat := 0x00050004
abbrev GTE_FLAGS : Nat := 0x00050008
abbrev GTE_CFG_ERR : Nat := 0x0005000C
abbrev GTE_HORIZON : Nat := 0x00050010
abbrev GTE_PROG_RANGE : Nat := 0x00050014
abbrev GTE_TOUT_CLAIM : Nat := 0x00050018
abbrev GTE_FIRED : Nat := 0x00050020
abbrev GTE_MISSED : Nat := 0x00050024
abbrev GTE_SLIP_COUNT : Nat := 0x00050028
abbrev GTE_TBL_CMD : Nat := 0x00050040
abbrev GTE_TBL_STAT : Nat := 0x00050044
abbrev GTE_TBL_DATA : Nat := 0x00050080
abbrev CYE_CTRL : Nat := 0x00060000
abbrev CYE_STAT : Nat := 0x00060004
abbrev CYE_FLAGS : Nat := 0x00060008
abbrev CYE_CFG_ERR : Nat := 0x0006000C
abbrev CYE_PROG : Nat := 0x00060010
abbrev CYE_PROG_ID_LO : Nat := 0x00060014
abbrev CYE_PROG_ID_HI : Nat := 0x00060018
abbrev CYE_OVERRUNS : Nat := 0x00060020
abbrev CYE_SKIPS : Nat := 0x00060024
abbrev CYE_FALLBACKS : Nat := 0x00060028
abbrev CYE_TBL_CMD : Nat := 0x00060040
abbrev CYE_TBL_STAT : Nat := 0x00060044
abbrev CYE_TBL_DATA : Nat := 0x00060080
abbrev CYE_LF_CTRL : Nat := 0x00060100
abbrev CYE_LF_STAT : Nat := 0x00060104
abbrev CYE_LF_ERR : Nat := 0x00060108
abbrev CYE_LF_REQ_LO : Nat := 0x00060110
abbrev CYE_LF_REQ_HI : Nat := 0x00060114
abbrev CYE_LF_TB_LO : Nat := 0x00060118
abbrev CYE_LF_TB_HI : Nat := 0x0006011C
abbrev CYE_LF_NEW_ID_LO : Nat := 0x00060120
abbrev CYE_LF_NEW_ID_HI : Nat := 0x00060124
abbrev CYE_LF_COUNT_A : Nat := 0x00060128
abbrev CYE_LF_COUNT_B : Nat := 0x0006012C
abbrev CYE_CORE : Nat := 0x00060200
abbrev OUT_CTRL : Nat := 0x00070000
abbrev OUT_STAT : Nat := 0x00070004
abbrev OUT_FLAGS : Nat := 0x00070008
abbrev OUT_CFG_ERR : Nat := 0x0007000C
abbrev OUT_PUB_SENT : Nat := 0x00070010
abbrev OUT_SUB_UNMATCHED : Nat := 0x00070014
abbrev OUT_LOCK_RELEASES : Nat := 0x00070018
abbrev OUT_TBL_CMD : Nat := 0x00070040
abbrev OUT_TBL_STAT : Nat := 0x00070044
abbrev OUT_TBL_DATA : Nat := 0x00070080
abbrev SIO_CTRL : Nat := 0x00080000
abbrev SIO_STAT : Nat := 0x00080004
abbrev SIO_FLAGS : Nat := 0x00080008
abbrev SIO_CFG_ERR : Nat := 0x0008000C
abbrev SIO_CFG_CRC : Nat := 0x00080010
abbrev SIO_IN_STATE : Nat := 0x00080014
abbrev SIO_IN_FAULT : Nat := 0x00080018
abbrev SIO_TOUT_STATE : Nat := 0x0008001C
abbrev SIO_PAIR_STATE : Nat := 0x00080020
abbrev SIO_PAIR_RESET : Nat := 0x00080024
abbrev SIO_TOUT_RESET : Nat := 0x00080028
abbrev SIO_TEST_FAILS : Nat := 0x0008002C
abbrev SIO_TBL_CMD : Nat := 0x00080040
abbrev SIO_TBL_STAT : Nat := 0x00080044
abbrev SIO_TBL_DATA : Nat := 0x00080080
abbrev HIF_CTRL : Nat := 0x00090000
abbrev HIF_STAT : Nat := 0x00090004
abbrev HIF_FLAGS : Nat := 0x00090008
abbrev HIF_CFG_ERR : Nat := 0x0009000C
abbrev HIF_POLL : Nat := 0x00090010
abbrev HIF_BUDGET : Nat := 0x00090014
abbrev HIF_NEED : Nat := 0x00090018
abbrev HIF_EPOCH : Nat := 0x0009001C
abbrev HIF_OUTSTANDING : Nat := 0x00090020
abbrev HIF_ACCEPTED : Nat := 0x00090024
abbrev HIF_FN : Nat := 0x00090100
abbrev HIF_EVT_VEC : Nat := 0x00090400
abbrev HIF_OW : Nat := 0x00091000
abbrev HIF_VF_STAT : Nat := 0x00095000
abbrev HIF_VF_FLAGS : Nat := 0x00095004
abbrev HIF_VF_CFG_ERR : Nat := 0x00095008
abbrev HIF_POOL_A : Nat := 0x0009500C
abbrev HIF_POOL_B : Nat := 0x00095010
abbrev HIF_POOL_C : Nat := 0x00095014
abbrev HIF_ARB_STARVED : Nat := 0x00095040
abbrev HIF_SHR_CTRL : Nat := 0x00096000
abbrev HIF_SHR_A : Nat := 0x00096004
abbrev HIF_SHR_B : Nat := 0x00096008
abbrev HIF_SHR_C : Nat := 0x0009600C
abbrev HIF_USE_A : Nat := 0x00097100
abbrev HIF_USE_B : Nat := 0x00097104
abbrev HIF_ARB_CFG : Nat := 0x00098000
abbrev HIF_ARB_STAT : Nat := 0x00098004
abbrev CAP_CTRL : Nat := 0x000A0000
abbrev CAP_STAT : Nat := 0x000A0004
abbrev CAP_FLAGS : Nat := 0x000A0008
abbrev CAP_CFG_ERR : Nat := 0x000A000C
abbrev CAP_RECORDS : Nat := 0x000A0010
abbrev CAP_TIN_UNUSED : Nat := 0x000A0014
abbrev CAP_TBL_CMD : Nat := 0x000A0040
abbrev CAP_TBL_STAT : Nat := 0x000A0044
abbrev CAP_TBL_DATA : Nat := 0x000A0080
abbrev PAR_CTRL : Nat := 0x000B0000
abbrev PAR_STAT : Nat := 0x000B0004
abbrev PAR_FLAGS : Nat := 0x000B0008
abbrev PAR_CFG_ERR : Nat := 0x000B000C
abbrev PAR_CFG : Nat := 0x000B0010
abbrev PAR_ID : Nat := 0x000B0014
abbrev PAR_NET_ADDR_LO : Nat := 0x000B0018
abbrev PAR_NET_ADDR_HI : Nat := 0x000B001C
abbrev PAR_HB_DMAC_LO : Nat := 0x000B0020
abbrev PAR_HB_DMAC_HI : Nat := 0x000B0024
abbrev PAR_PB : Nat := 0x000B0028
abbrev PAR_EPOCH : Nat := 0x000B002C
abbrev PAR_PEER : Nat := 0x000B0030
abbrev PAR_PEER_EPOCH : Nat := 0x000B0034
abbrev PAR_PEER_HEALTH : Nat := 0x000B0038
abbrev PAR_PEER_REPORT_NS_LO : Nat := 0x000B003C
abbrev PAR_PEER_REPORT_NS_HI : Nat := 0x000B0040
abbrev PAR_TIME_DIFF_LO : Nat := 0x000B0044
abbrev PAR_TIME_DIFF_HI : Nat := 0x000B0048
abbrev PAR_LAST_TAKEOVER_NS_LO : Nat := 0x000B004C
abbrev PAR_LAST_TAKEOVER_NS_HI : Nat := 0x000B0050
abbrev PAR_RESYNC_STAT : Nat := 0x000B0054
abbrev PAR_CNT : Nat := 0x000B0060
abbrev KEY_CTRL : Nat := 0x000C0000
abbrev KEY_STAT : Nat := 0x000C0004
abbrev KEY_FLAGS : Nat := 0x000C0008
abbrev KEY_CFG_ERR : Nat := 0x000C000C
abbrev KEY_LC_REQ : Nat := 0x000C0010
abbrev KEY_LC_STAT : Nat := 0x000C0014
abbrev KEY_MIG_CTRL : Nat := 0x000C0018
abbrev KEY_MIG_STAT : Nat := 0x000C001C
abbrev KEY_ATT_STAT : Nat := 0x000C0020
abbrev KEY_MR3_COUNT : Nat := 0x000C0024
abbrev KEY_LATE_USE : Nat := 0x000C0028
abbrev KEY_UID : Nat := 0x000C002C
abbrev KEY_TBL_CMD : Nat := 0x000C0040
abbrev KEY_TBL_STAT : Nat := 0x000C0044
abbrev KEY_TBL_DATA : Nat := 0x000C0080
abbrev KEY_NONCE : Nat := 0x000C00C0
abbrev JNL_CTRL : Nat := 0x000D0000
abbrev JNL_STAT : Nat := 0x000D0004
abbrev JNL_FLAGS : Nat := 0x000D0008
abbrev JNL_CFG_ERR : Nat := 0x000D000C
abbrev JNL_CFG : Nat := 0x000D0010
abbrev JNL_PCYC : Nat := 0x000D0014
abbrev JNL_OPSEC_LO : Nat := 0x000D0018
abbrev JNL_OPSEC_HI : Nat := 0x000D001C
abbrev JNL_NEXT_RSEQ_LO : Nat := 0x000D0020
abbrev JNL_NEXT_RSEQ_HI : Nat := 0x000D0024
abbrev JNL_OLDEST_RSEQ_LO : Nat := 0x000D0028
abbrev JNL_OLDEST_RSEQ_HI : Nat := 0x000D002C
abbrev JNL_BIRTH_LAST_RSEQ_LO : Nat := 0x000D0030
abbrev JNL_BIRTH_LAST_RSEQ_HI : Nat := 0x000D0034
abbrev JNL_FLUSHES : Nat := 0x000D0038
abbrev JNL_COALESCED : Nat := 0x000D003C
abbrev JNL_DROP : Nat := 0x000D0040
abbrev JNL_ALM : Nat := 0x000D0050
abbrev DIA_CTRL : Nat := 0x000E0000
abbrev DIA_STAT : Nat := 0x000E0004
abbrev DIA_FLAGS : Nat := 0x000E0008
abbrev DIA_CFG_ERR : Nat := 0x000E000C
abbrev DIA_SNAP_CFG : Nat := 0x000E0010
abbrev DIA_SNAP_STAT : Nat := 0x000E0014
abbrev DIA_SNAP_MISSED : Nat := 0x000E0018
abbrev DIA_ST_PASSES : Nat := 0x000E001C
abbrev DIA_ST_FAILS : Nat := 0x000E0020
abbrev DIA_TBL_CMD : Nat := 0x000E0040
abbrev DIA_TBL_STAT : Nat := 0x000E0044
abbrev DIA_TBL_DATA : Nat := 0x000E0080
abbrev CRC_STAT : Nat := 0x000F0000
abbrev CRC_FLAGS : Nat := 0x000F0004
abbrev CRC_CFG_ERR : Nat := 0x000F0008
abbrev CRC_CH : Nat := 0x000F0100

/-- The register of VF 0 (the PF) or VF n at offset `o` of the function registers (R371, HIF table 15). -/
def fn (f o : Nat) : Nat := if f = 0 then HIF_FN + o else 0x01000000 * f + 0x100 + o

/-- HIF_SHRf_CTRL, _A, _B, _C: word w of the share registers of function f (R398). -/
def shr (f w : Nat) : Nat := HIF_SHR_CTRL + 16 * f + 4 * w

/-- Word w of the registers of scan channel c (R525). -/
def ch (c o : Nat) : Nat := CRC_CH + 0x40 * (c % 8) + o

/-- A register of port n (R562, map table 5). -/
def port (base n : Nat) : Nat := base + 0x1000 * n

/-- A TIM register of port n. -/
def tport (base n : Nat) : Nat := base + 0x10 * n

end Sys2Proof.Reg

namespace Sys2Proof.Machine

/-- The reset value of the register at `o` (R562). -/
def resetVal (o : Nat) : Word :=
  if o = Reg.TIM_INC_A_LO then 0x9999999A#32
  else if o = Reg.TIM_INC_A_HI then 0x00000001#32
  else if o = Reg.TIM_INC_B_LO then 0x9999999A#32
  else if o = Reg.TIM_INC_B_HI then 0x00000001#32
  else if o = Reg.TIM_SLEW then 0x00002710#32
  else if o = Reg.TIM_SLEW_LIMIT then 0x000003E8#32
  else if o = Reg.TIM_SEL then 0x00000002#32
  else if o = Reg.TIM_DOM1_CFG then 0x1E0FF000#32
  else if o = Reg.TIM_DOM2_CFG then 0x1E0FF001#32
  else if o = Reg.TIM_UTC_OFS then 0x00000025#32
  else if o = Reg.TIM_PPS_WIDTH then 0x000186A0#32
  else if o = Reg.MAC_PAIRMODE then 0x00000055#32
  else if o = Reg.MAC_PRP_CFG then 0x01901401#32
  else if o = Reg.MAC_HSR_CFG then 0x01901401#32
  else if o = Reg.MAC_NODE_FORGET then 0x0000003C#32
  else if o = Reg.SVI_PLANE then 0x00FA0003#32
  else if o = Reg.SVI_LEAD_TOL then 0x00000032#32
  else if o = Reg.SVI_SILENT then 0x00000008#32
  else if o = Reg.FPE_STAT then 0x000000F0#32
  else if o = Reg.GTE_HORIZON then 0x000007D0#32
  else if o = Reg.HIF_POLL then 0x00000028#32
  else if o = Reg.HIF_POOL_A then 0x01000400#32
  else if o = Reg.HIF_POOL_B then 0x00000FC0#32
  else if o = Reg.HIF_POOL_C then 0x00010000#32
  else if o = Reg.PAR_CFG then 0x000A140D#32
  else if o = Reg.PAR_PB then 0x40000000#32
  else if o = Reg.JNL_CFG then 0x000A4000#32
  else if o = Reg.DIA_SNAP_CFG then 0x00000001#32
  else if 0x0001010C ≤ o ∧ o ≤ 0x000101AC ∧ (o - 0x0001010C) % 16 = 0 then 2#32
  else if 0x00020000 ≤ o ∧ o < 0x0002C000 ∧ o % 0x1000 = 4 then (if o / 0x1000 = 0x2A then 0x07D001B4#32 else if o / 0x1000 = 0x28 ∨ o / 0x1000 = 0x29 then 0x07D00132#32 else 0x07D00130#32)
  else if 0x00020000 ≤ o ∧ o < 0x0002C000 ∧ o % 0x1000 = 8 then 0x0000000E#32
  else if 0x00020000 ≤ o ∧ o < 0x0002C000 ∧ o % 0x1000 = 0x40 then 0x000000FF#32
  else if 0x00020000 ≤ o ∧ o < 0x0002C000 ∧ o % 0x1000 = 0x44 then 0x00000008#32
  else if o = 0x00096000 then 0x00000009#32
  else if o = 0x00096008 then 0x00000040#32
  else if 0x00098000 ≤ o ∧ o < 0x00098858 ∧ o % 8 = 0 then (if (o - 0x00098000) / 8 ≤ 256 then 0x03E80003#32 else if (o - 0x00098000) / 8 = 257 then 0x03E80002#32 else 0x03E80001#32)
  else if 0x00098000 ≤ o ∧ o < 0x00098858 ∧ o % 8 = 4 then 0x00000001#32
  else if 0x000F0100 ≤ o ∧ o < 0x000F0300 ∧ o % 0x40 = 4 then 0x00000020#32
  else 0#32

/-- The fields of a plain RW register that a write stores (R10, R559): registers with no behaviour of their own. -/
def plainMask (o : Nat) : Word :=
  if o = Reg.GLB_CFG then 0x00000001#32
  else if o = Reg.GLB_FW_LEN then 0xFFFFFFFF#32
  else if o = Reg.GLB_TAMPER_CFG then 0x00000003#32
  else if Reg.GLB_RETAIN ≤ o ∧ o < Reg.GLB_RETAIN + 32 ∧ o % 4 = 0 then 0xFFFFFFFF#32
  else if Reg.SVI_TBL_DATA ≤ o ∧ o < Reg.SVI_TBL_DATA + 64 ∧ o % 4 = 0 then 0xFFFFFFFF#32
  else if Reg.FPE_TBL_DATA ≤ o ∧ o < Reg.FPE_TBL_DATA + 32 ∧ o % 4 = 0 then 0xFFFFFFFF#32
  else if Reg.FPE_PVIEW ≤ o ∧ o < Reg.FPE_PVIEW + 1028 ∧ o % 4 = 0 then 0x00000001#32
  else if Reg.GTE_TBL_DATA ≤ o ∧ o < Reg.GTE_TBL_DATA + 64 ∧ o % 4 = 0 then 0xFFFFFFFF#32
  else if Reg.CYE_TBL_DATA ≤ o ∧ o < Reg.CYE_TBL_DATA + 40 ∧ o % 4 = 0 then 0xFFFFFFFF#32
  else if Reg.OUT_TBL_DATA ≤ o ∧ o < Reg.OUT_TBL_DATA + 64 ∧ o % 4 = 0 then 0xFFFFFFFF#32
  else if o = Reg.SIO_CFG_CRC then 0xFFFFFFFF#32
  else if Reg.SIO_TBL_DATA ≤ o ∧ o < Reg.SIO_TBL_DATA + 16 ∧ o % 4 = 0 then 0xFFFFFFFF#32
  else if Reg.HIF_OW ≤ o ∧ o < Reg.HIF_OW + 16384 ∧ o % 4 = 0 then 0x000003FF#32
  else if Reg.CAP_TBL_DATA ≤ o ∧ o < Reg.CAP_TBL_DATA + 32 ∧ o % 4 = 0 then 0xFFFFFFFF#32
  else if o = Reg.KEY_LC_REQ then 0xFFFF0007#32
  else if Reg.KEY_TBL_DATA ≤ o ∧ o < Reg.KEY_TBL_DATA + 64 ∧ o % 4 = 0 then 0xFFFFFFFF#32
  else if Reg.KEY_NONCE ≤ o ∧ o < Reg.KEY_NONCE + 32 ∧ o % 4 = 0 then 0xFFFFFFFF#32
  else if o = Reg.DIA_SNAP_CFG then 0x000FFF0F#32
  else if o = Reg.TIM_UTC_OFS then 0x0000FFFF#32
  else if o = Reg.TIM_IRIG_CFG then 0xFFFF0003#32
  else if o = Reg.TIM_PPS_OUT then 0x00000007#32
  else if Reg.TIM_PORT_RXDLY ≤ o ∧ o < Reg.TIM_PORT_RXDLY + 192 ∧ o % 16 = 0 then 0xFFFFFFFF#32
  else if Reg.TIM_PORT_RXDLY ≤ o ∧ o < Reg.TIM_PORT_RXDLY + 192 ∧ o % 16 = 4 then 0xFFFFFFFF#32
  else if Reg.TIM_PORT_RXDLY ≤ o ∧ o < Reg.TIM_PORT_RXDLY + 192 ∧ o % 16 = 12 then 0x00000003#32
  else if 0x00020000 ≤ o ∧ o < 0x0002C000 ∧ 0x20 ≤ o % 0x1000 ∧ o % 0x1000 < 0x40 ∧ o % 4 = 0 then 0x00008FFF#32
  else if 0x00020000 ≤ o ∧ o < 0x0002C000 ∧ o % 0x1000 = 0x40 then 0x00000FFF#32
  else if 0x00020000 ≤ o ∧ o < 0x0002C000 ∧ o % 0x1000 = 0x44 then 0x0000FFFF#32
  else if o = Reg.HIF_CTRL then 0x00000001#32
  else if Reg.CRC_CH ≤ o ∧ o < Reg.CRC_CH + 512 ∧ (o % 0x40 = 0x10 ∨ o % 0x40 = 0x20) then 0xFFFFFFFF#32
  else if Reg.CRC_CH ≤ o ∧ o < Reg.CRC_CH + 512 ∧ o % 0x40 = 0x24 then 0x000000FF#32
  else if Reg.DIA_TBL_DATA ≤ o ∧ o < Reg.DIA_TBL_DATA + 16 ∧ o % 4 = 0 then 0xFFFFFFFF#32
  else 0#32

/-- The write-one-to-clear bits of a register (R9). -/
def w1cMask (o : Nat) : Word :=
  if o = Reg.GLB_FLAGS then 0x0000001F#32
  else if o = Reg.TIM_FLAGS then 0x0000003F#32
  else if 0x00020000 ≤ o ∧ o < 0x0002C000 ∧ o % 0x1000 = 0xC then 0x0000003F#32
  else if o = Reg.SVI_FLAGS then 0x0000000F#32
  else if o = Reg.SVI_TBL_STAT then 0x00000002#32
  else if o = Reg.FPE_FLAGS then 0x0000001F#32
  else if o = Reg.FPE_TBL_STAT then 0x00000002#32
  else if o = Reg.GTE_FLAGS then 0x00000007#32
  else if o = Reg.GTE_TBL_STAT then 0x00000002#32
  else if o = Reg.CYE_FLAGS then 0x0000007F#32
  else if o = Reg.CYE_TBL_STAT then 0x00000002#32
  else if o = Reg.OUT_FLAGS then 0x0000000F#32
  else if o = Reg.OUT_TBL_STAT then 0x00000002#32
  else if o = Reg.SIO_FLAGS then 0x0000001F#32
  else if o = Reg.SIO_TBL_STAT then 0x00000002#32
  else if o = Reg.HIF_FLAGS then 0x00000007#32
  else if o = Reg.HIF_VF_FLAGS then 0x00000007#32
  else if Reg.HIF_ARB_STARVED ≤ o ∧ o < Reg.HIF_ARB_STARVED + 36 ∧ o % 4 = 0 then 0xFFFFFFFF#32
  else if o = Reg.CAP_FLAGS then 0x00000007#32
  else if o = Reg.CAP_TBL_STAT then 0x00000002#32
  else if o = Reg.PAR_FLAGS then 0x0000003F#32
  else if o = Reg.KEY_FLAGS then 0x0000003F#32
  else if o = Reg.KEY_TBL_STAT then 0x00000002#32
  else if o = Reg.JNL_FLAGS then 0x0000001F#32
  else if o = Reg.DIA_FLAGS then 0x0000000F#32
  else if o = Reg.DIA_TBL_STAT then 0x00000002#32
  else if o = Reg.CRC_FLAGS then 0x00000001#32
  else 0#32

end Sys2Proof.Machine
end

