-- ==== Sys2Proof/Machine/Blocks.lean ====
section
/-! DEFINITION. The state of each block of the module beside the register file: what the chapters give the
machine and no register shows. Durations that no module time governs are counted in counter-clock edges (R43:
625 MHz, 625 edges per microsecond); clocks are natural numbers in units of 2^-32 ns (R43). -/

namespace Sys2Proof.Machine

/-! ## GLB (chapters 17 and 19) -/

/-- Where the module stands between power-on and power-off (R531, R533, R538, R544, R545). -/
inductive Phase where
  /-- No supply. -/
  | off
  /-- Held in reset after the end of hold-up (R544): a supply return starts it with cause 7. -/
  | held
  /-- Held in reset after a shutdown (R545): PERST# starts it with cause 8. -/
  | shut
  /-- BOOT_DONE is set. -/
  | run
  /-- The recovery state (R533): GLB registers only. -/
  | recovery
  deriving DecidableEq, Repr

/-- The straps of GLB table 1. -/
structure Straps where
  pairPos : Bool
  slotId : Nat
  safetyIo : Bool
  timeSrc : Bool
  maint : Bool
  genMax : Nat
  bootSlot : Bool
  debugLock : Bool
  p89 : Bool
  deriving DecidableEq, Repr

/-- A firmware bundle in a boot slot: its images and whether its boot stage and firmware verify (R532, R535). -/
structure Bundle where
  version : Nat
  images : List (List Byte)
  verifies : Bool
  deriving DecidableEq, Repr

/-- State of GLB beside its registers. -/
structure Glb where
  phase : Phase
  straps : Straps
  /-- Event 0x22 with payload 2 was raised since the start (R529). -/
  strapSeen : Bool
  slots : List (Option Bundle)
  /-- The MRAM boot word passes its CRC-8 (R532). -/
  bootValid : Bool
  /-- Cover switch and tamper loop open now; consecutive open readings of the loop (R549, R573). -/
  coverOpen : Bool
  loopOpen : Bool
  loopReads : Nat
  /-- RTC count in units of 2^-15 s at edge `rtcEdge` (R548). -/
  rtc : Nat
  rtcEdge : Nat
  /-- The backup domain lost its content since the last start (R547). -/
  backupLost : Bool
  /-- A module reset in progress, with its first cause; `resetShut` when a shutdown asked for it (R538, R545). -/
  resetReq : Option Nat
  resetShut : Bool
  /-- Reset causes that wait for the power-fail sequence (R539). -/
  resetWait : List Nat
  /-- A maintenance request: entering or leaving, and the edge of the write (R540). -/
  maintReq : Option (Bool × Nat)
  /-- Edge of the power-fail warning (R542). -/
  pfEdge : Option Nat
  /-- End of the confirmation time of a trial start (R532). -/
  confirmDue : Option Nat
  /-- Firmware write in progress: slot, address, length (R535). -/
  fwWrite : Option (Bool × Nat × Nat)
  /-- Over-voltage reported for the card-edge and the auxiliary input (R565). -/
  ovCard : Bool
  ovAux : Bool
  /-- Event 0x28 with payload 1 was raised and not withdrawn (R575). -/
  hot : Bool
  vbatFitted : Bool
  deriving DecidableEq, Repr

/-! ## TIM (chapter 02) -/

/-- A tracked PTP domain (R54, R55). -/
structure Dom where
  /-- Source port identity of the current master, and its port. -/
  master : Option (BitVec 80)
  port : Nat
  /-- Edges at which the Sync and Announce timeouts expire. -/
  syncDue : Option Nat
  annDue : Option Nat
  syncOk : Bool
  annOk : Bool
  lost : Bool
  lostAt : Nat
  /-- Masters heard (Sync, Announce) since the domain became LOST. -/
  syncFrom : List (BitVec 80)
  annFrom : List (BitVec 80)
  deriving DecidableEq, Repr

/-- IRIG-B with 1PPS as a source (R55, R65, R66). -/
structure Irig where
  /-- Edges at which 3 s without a good frame and 3 s without 1PPS expire; none while SRC is 0. -/
  frameDue : Option Nat
  ppsDue : Option Nat
  /-- Edge at which 1PPS counts as missing, 1.1 s after the last pulse. -/
  ppsMissDue : Option Nat
  ppsPresent : Bool
  lost : Bool
  lostAt : Nat
  deriving DecidableEq, Repr

/-- Holdover in progress (R57, R60): start, schedule column, position at the start, LOST instant, all in edges or
units of module time as named. -/
structure Hold where
  /-- Module time at the start, in 2^-32 ns. -/
  startMt : Nat
  /-- The first column of TIM table 2 applies (at least 1 h of lock). -/
  long : Bool
  /-- Schedule position at the start, in 2^-32 ns. -/
  pos : Nat
  deriving DecidableEq, Repr

/-- State of TIM beside its registers. -/
structure Tim where
  edge : Nat
  clkA : Nat
  clkB : Nat
  mt : Nat
  running : Bool
  grid : Bool
  /-- Remainder of the slew budget below one unit of 2^-32 ns, in units of 10^-9 of it (R48). -/
  slewAcc : Nat
  selB : Bool
  dom1 : Dom
  dom2 : Dom
  irig : Irig
  /-- Start edge of the current lock interval and length of the last one, per clock (R58). -/
  lockA : Option Nat
  lastA : Nat
  lockB : Option Nat
  lastB : Nat
  hold : Option Hold
  ocxoBad : Bool
  /-- Reported class (R59). -/
  cls : Nat
  /-- 1PPS output: level, and the reading of the named clock at which it falls (R67). -/
  ppsOut : Bool
  ppsFall : Nat
  /-- Second of the last pulse, so that a second gives one pulse. -/
  ppsLast : Option Nat
  /-- Consistent peer-delay exchanges of each port, last delay, and whether a request is outstanding (R64). -/
  pdlyCount : List Nat
  pdlyReq : List Bool
  /-- Next edges at which Pdelay_Req (per port) and Delay_Req (per domain) fall due (R64). -/
  pdlyDue : List Nat
  delayDue : List Nat
  /-- Peer-delay timestamps t1, t2, t4 of the exchange in progress, per port, in 2^-32 ns. -/
  pdlyT1 : List Nat
  pdlyT2 : List Int
  pdlyT4 : List Nat
  /-- Module time, in 2^-32 ns, at which the sample grid starts (R47). -/
  gridAt : Option Nat
  deriving DecidableEq, Repr

/-- One step of the degradation ladder (R37, R39). -/
structure Step where
  on : Bool
  since : Nat
  /-- The causes whose trigger is present: port of step 4, task of step 5, lane of step 3, else 0. -/
  trig : List Nat
  /-- The causes whose node is DEGRADED. -/
  marked : List Nat
  deriving DecidableEq, Repr

/-- The degradation ladder: steps 1 to 6, and the DEGRADE field in force since the last plane tick (R37). -/
structure Ladder where
  steps : List Step
  inForce : Nat
  deriving DecidableEq, Repr

/-! ## JNL, DIA and CRC (chapter 16) -/

/-- A journal record (JNL table 2) before and after it has its RSEQ. -/
structure JRec where
  cls : Nat
  code : Nat
  source : Nat
  payload : List Byte
  count : Nat
  opSec : Nat
  opUs : Nat
  pcyc : Nat
  modNs : Nat
  lastSec : Nat
  lastUs : Nat
  rseq : Nat
  deriving DecidableEq, Repr

/-- What a later completion of an accepted command needs (HIF table 11). `replica` marks a command that the active peer accepted
and this module applied: while it is standby, its completion is kept as a replica (R445). -/
structure CmdRef where
  fn : Nat
  seq : BitVec 32
  opcode : Nat
  acceptNs : Nat
  kick : Bool
  unmirrored : Bool
  reaccepted : Bool
  replica : Bool := false
  deriving DecidableEq, Repr

/-- A journal readout (R503 to R505): RSEQ of its first record, whether FROM_RSEQ was no longer held, records and bytes that
the copy takes, bytes still to move, the end of FREEZE_S, and the records copied where the freeze ended early. -/
structure JRead where
  ref : CmdRef
  addr : Nat
  len : Nat
  birth : Bool
  start : Nat
  missed : Bool
  count : Nat
  left : Nat
  freezeDue : Option Nat
  early : Option Nat
  deriving DecidableEq, Repr

/-- State of JNL beside its registers. -/
structure Jnl where
  /-- Birth zone: records with their offsets, and the copies of event 0x0C in its last 64 KiB (R493). -/
  birth : List (Nat × JRec)
  birthPos : Nat
  birthFull : Bool
  birthCopies : List JRec
  /-- Ring zone: records with offsets, oldest first, and the write position (R493). -/
  ring : List (Nat × JRec)
  ringPos : Nat
  nextRseq : Nat
  prevSeal : Nat
  lastTag : List Byte
  /-- Volatile buffer (R498), held class-0 records (R499), class-0 records of this second. -/
  buf : List JRec
  held : List JRec
  cls0 : Nat
  /-- Drops of classes 0 to 3 since the last loss summary, with the first and last instant. -/
  drops : List Nat
  dropFirst : Nat
  dropLast : Nat
  /-- Records of the buffer that the flush in progress appends; none when no flush runs. -/
  flushing : Option Nat
  /-- Edge at which a flush falls due (R500). -/
  flushDue : Option Nat
  opSec : Nat
  opEdge : Nat
  /-- Stored OP_SEC in MRAM (R495). -/
  opStored : Nat
  pcyc : Nat
  /-- The power-fail seal has been written; records since then are counted only (R501, R502). -/
  pfSealed : Bool
  unjournaled : Nat
  /-- Journal readouts, the one at work first. -/
  reads : List JRead
  /-- Events of classes 0 to 3 raised since the start and the last code of each (R507). -/
  almCount : List Nat
  almCode : List Nat
  /-- Edge until which a class-2 change of the alarm publication waits (JNL table 1). -/
  almHold : Nat
  /-- A state change of the alarm publication is due (R507). -/
  almDue : Bool
  /-- JNL_FLAGS, JNL_DROPc, JNL_COALESCED, JNL_FLUSHES. -/
  flags : Word
  /-- MRAM shows a power loss that no warning came before (R501). -/
  unclean : Bool
  dropCnt : List Word
  coalesced : Word
  flushes : Word
  deriving DecidableEq, Repr

/-- A health node (DIA table 3). `causes` are the present reasons of its own state: REASON and state. -/
structure Node where
  causes : List (Nat × Nat)
  own : Nat
  typ : Nat
  k : Nat
  parent : Nat
  en : Bool
  state : Nat
  reason : Nat
  changes : Nat
  last : Nat
  deriving DecidableEq, Repr

/-- A self-test that waits or runs (R522): slices that have started, bytes of its bulk transfers still to move, start edge. -/
structure SelfTest where
  ref : CmdRef
  kind : Nat
  index : Nat
  firstSeg : Nat
  segCount : Nat
  tmoS : Nat
  slices : Nat
  left : Nat
  started : Option Nat
  deriving DecidableEq, Repr

/-- Results of one self-test target (R523, window table 2). -/
structure StResult where
  passes : Nat
  fails : Nat
  last : BitVec 32
  deriving DecidableEq, Repr

/-- State of DIA beside its registers. -/
structure Dia where
  nodes : NMap Node
  /-- Snapshot bank (DIA table 1), the TIM snapshot (R70) and the lock (R517). -/
  bank : List Word
  timSnap : List Word
  seq : Nat
  source : Nat
  /-- The edge of the latest snapshot (R516). -/
  snapEdge : Option Nat
  locked : Bool
  missed : Word
  /-- DIA_FLAGS. -/
  flags : Word
  queue : List SelfTest
  results : NMap StResult
  /-- The continuous cycle of a STANDBY module in PROVEN mode: position, slices of its test (R524). -/
  cyclePos : Nat
  cycleSlices : Nat
  passStandby : Nat
  failStandby : Nat
  deriving DecidableEq, Repr

/-- A running scan of a channel (R512), with the polynomial in force at its start and the bytes still to read. -/
structure Scan where
  ch : Nat
  fn : Nat
  space : Bool
  addr : Nat
  len : Nat
  poly : Nat
  left : Nat
  deriving DecidableEq, Repr

/-! ## HIF (chapters 11 and 12) -/

/-- A frame that waits for a PF receive buffer (R81, R356). -/
structure RxWait where
  port : Nat
  status : Nat
  clk : Nat
  tsNs : Nat
  tsFrac : Nat
  vid : Nat
  pcp : Nat
  origLen : Nat
  data : List Byte
  deriving DecidableEq, Repr

/-- A completion entry: of TYPE 0 or 1 (HIF table 11), or of TYPE 2 where it hands over a frame (HIF table 12). -/
structure Cpl where
  ref : CmdRef
  bulk : Bool
  rx : Option RxWait
  status : Nat
  late : Bool
  replaced : Bool
  doneNs : Nat
  r0 : Word
  r1 : Word
  deriving DecidableEq, Repr

/-- An event that is due and not yet written to a function's event ring (R490). -/
structure PendEvt where
  code : Nat
  cls : Nat
  items : List Nat
  count : Nat
  firstNs : Nat
  lastNs : Nat
  deriving DecidableEq, Repr

/-- A command that has been fetched and not accepted (R349, R351), in ring order. `acked` is the peer's
acknowledgement (R366), `poll` the plane tick of the poll that showed it. -/
structure Fetched where
  hdr : CmdHdr
  op : Op
  ready : Bool
  sent : Bool
  acked : Bool
  deriving DecidableEq, Repr

/-- A bulk descriptor in ring order (R356): OP, PORT, PCP, TS_REQ, addresses, length, and for FRAME_TX the frame's
bytes. `moved` counts the bytes transferred; `status` is 0xFF while the descriptor is at work, 0xFE while its frame waits for
its start on the wire, else the status that its checks gave. -/
structure Bulk where
  tag : BitVec 32
  op : Nat
  port : Nat
  pcp : Nat
  tsReq : Bool
  hostAddr : Nat
  modAddr : Nat
  len : Nat
  moved : Nat
  data : List Byte
  acceptNs : Nat
  status : Nat
  deriving DecidableEq, Repr

/-- State of a function's rings and marks (R341 to R347, R363, R367). Ring r has host index `hostIdx r` and module
index `modIdx r`, both counts of entries since the rings were enabled (R342); those of the event ring, r = 4, are
kept in `EvtFn`. -/
structure FnState where
  errRing : Option Nat
  flrBusy : Bool
  hostIdx : List Nat
  modIdx : List Nat
  fetchedIdx : Nat
  cmds : List Fetched
  bulks : List Bulk
  /-- Plane-buffer descriptors in hand with the instant of the poll that showed them, in exact units (R357). -/
  planes : List (Nat × PlaneDesc)
  /-- MRAM: mark, pending set, re-acceptable SEQs, EPOCH at the last first-enable report. -/
  accSeq : BitVec 32
  pendSet : List (BitVec 32)
  reaccept : List (BitVec 32)
  reportDue : Bool
  outstanding : Nat
  backlog : List Cpl
  changed : Bool
  missing : Bool
  skipped : Nat
  /-- A kick not yet served, and the edge of the last kick (R350). -/
  kick : Bool
  kickEdge : Nat
  /-- Changed host output words marked while the mirror ring was full (R360). -/
  marked : List Nat
  /-- Vectors that wait for the next write-back, and those sent since the last plane tick (R361). -/
  vecs : List Nat
  sent : List Nat
  /-- Command descriptor reads that are outstanding; bulk descriptors whose reads have been issued. -/
  inFetch : Nat
  bulkIdx : Nat
  /-- PLANE_SEQ of the plane delivered last. -/
  planeSeq : Nat
  deriving DecidableEq, Repr

/-- VF states of R373. -/
inductive VfState where
  | absent | disabled | inService
  deriving DecidableEq, Repr

/-- A bulk requester of the arbiter (R390, R391). -/
structure ArbReq where
  backoff : Nat
  wait : Nat
  pending : Nat
  since : Option Nat
  starved : Bool
  deriving DecidableEq, Repr

/-- State of HIF beside its registers (chapters 11 and 12). -/
structure Hif where
  fns : NMap FnState
  lastServed : Nat
  cplDue : List Cpl
  rxPosts : List Bulk
  linkUp : Bool
  gen : Nat
  width : Nat
  tag10 : Bool
  epoch : Nat
  /-- Last poll: plane tick instant in ns. -/
  pollNs : Nat
  /-- Masked vectors set by host software (R361): function, vector. Unlisted vectors are masked after reset. -/
  unmasked : List (Nat × Nat)
  msixTbl : NMap Word
  /-- Event 0x1D was raised for the present peer failure (R366). -/
  unmirroredSaid : Bool
  vfEnable : Bool
  numVf : Nat
  vfs : NMap VfState
  /-- Staged share writes: function, word 1 to 3, data, its mask, edge of the write (R383); service requests with theirs. -/
  staged : List (Nat × Nat × Nat × Nat × Nat)
  svcReq : List (Nat × Bool × Nat)
  arb : NMap ArbReq
  arbLast : Nat
  /-- The last arbitration cycle, in units of 40 edges. -/
  arbAt : Nat
  /-- Bulk transfers granted and in flight: requester, kind (1 a received frame, else 0), bytes. -/
  inFlight : List (Nat × Nat × Nat)
  /-- Functions whose doorbell read of the poll, or of a kick, is outstanding; fetches left in this poll (R348, R349). -/
  dbWait : List Nat
  kickWait : List Nat
  quota : Nat
  /-- The next acceptance instant A(k), in exact units (R349). -/
  accAt : Option Nat
  /-- Byte credit of deliveries that do not fit even at the lowest rate, and the function served last (R41). -/
  credit : Nat
  delivLast : Nat
  deriving DecidableEq, Repr

/-! ## MAC (chapter 03) -/

/-- One port. -/
structure Port where
  optic : Option Optic
  /-- Speed under trial (MAC table 1 codes) and the edge of its 500 ms (R72). -/
  trial : Option Nat
  trainDue : Option Nat
  mbps : Nat
  queues : List (List TxFrame)
  /-- Edge until which PFC holds each priority (R84). -/
  held : List (Option Nat)
  bulkQ : List RxWait
  /-- Edge of the next XOFF repetition while XOFF is in force (R85). -/
  xoffDue : Option Nat
  deriving DecidableEq, Repr

/-- An entry of the node table (R87, R88). -/
structure NodeEnt where
  pair : Nat
  src : BitVec 48
  seqs : List (BitVec 16 × Nat)
  high : BitVec 16
  heard : Nat
  deriving DecidableEq, Repr

/-- An entry of the transparent-clock table (R93): ring, domain, source, sequenceId, value in 2^-16 ns. -/
structure TcEnt where
  pair : Nat
  domain : BitVec 8
  source : BitVec 80
  seqId : BitVec 16
  value : Int
  deriving DecidableEq, Repr

/-- State of MAC beside its registers. -/
structure Mac where
  ports : List Port
  nodes : List NodeEnt
  /-- PRP or HSR sequence counters of the five pairs (R89, R92). -/
  seqs : List (BitVec 16)
  /-- Frames already forwarded: ring, ingress port, source, sequence number, edge. -/
  fwd : List (Nat × Nat × BitVec 48 × BitVec 16 × Nat)
  tc : List TcEnt
  /-- Next supervision frame of each pair, in edges (R89). -/
  supDue : List Nat
  fullSaid : Nat
  deriving DecidableEq, Repr

/-- The pending event set and event ring of a function (R490 to R492): ring indices, tallies and drop count. -/
structure EvtFn where
  prod : Nat
  cons : Nat
  pend : List PendEvt
  tally : List Nat
  dropFirst : Nat
  dropLast : Nat
  drop : Word
  /-- Vectors that became due while masked: the PBA bits (R361). -/
  held : List Nat
  deriving DecidableEq, Repr

/-- An output pin of the rear connector (R568). -/
inductive Pin where
  | ppsOut
  | tout (i : Nat)
  | safeA (p : Nat)
  | safeB (p : Nat)
  deriving DecidableEq, Repr

/-- What the module hands to its surroundings, in order (log entry 5). -/
inductive Emit where
  /-- A posted write to host memory by a function, as words. -/
  | write (fn addr : Nat) (data : List Word)
  /-- A posted write to host memory, as bytes. -/
  | writeBytes (fn addr : Nat) (data : List Byte)
  /-- A read request to host memory. -/
  | read (fn addr len : Nat)
  /-- An MSI-X message. -/
  | msix (fn vec : Nat)
  /-- A frame that starts on the wire of a port. -/
  | tx (port : Nat) (f : TxFrame)
  /-- A PFC frame that a port sends at once (R85). -/
  | pfc (port prio quanta : Nat)
  /-- An edge of an output pin at an instant of module time, in ns and 2^-32 ns. -/
  | pin (p : Pin) (level : Bool) (ns frac : Nat)
  /-- A message of the safety cross-link from channel A (false) or channel B (true). -/
  | xlink (fromB : Bool) (body : List Nat)
  /-- The completion of a register read of a function: the bytes read (R555). -/
  | regRead (fn : Nat) (data : List Byte)
  deriving DecidableEq, Repr

/-- What raising an event can change: the pending event sets and event rings, the journal, the diagnostics, and the
outputs so far. -/
structure Tel where
  evts : NMap EvtFn
  jnl : Jnl
  dia : Dia
  out : List Emit
  deriving DecidableEq, Repr

/-! ## KEY (chapter 15) -/

/-- A key position of a slot (R465). `key` is empty when the position is absent. -/
structure KeyPos where
  present : Bool
  keyId : Nat
  notBefore : Nat
  notAfter : Nat
  key : List Byte
  deriving DecidableEq, Repr

/-- A slot of the key unit (R465, KEY tables 4 and 14). STATE: 0 EMPTY, 1 VALID, 2 INVALIDATED, 3 UNWRAPPABLE,
4 DAMAGED. -/
structure KeySlot where
  engine : Nat
  alg : Nat
  migratable : Bool
  state : Nat
  parent : Nat
  p0 : KeyPos
  p1 : KeyPos
  gen : Nat
  lateUse : Word
  deriving DecidableEq, Repr

/-- A position block of a stored record (KEY table 8): a position with its key sealed. -/
structure SealedPos where
  present : Bool
  keyId : Nat
  notBefore : Nat
  notAfter : Nat
  keyLen : Nat
  iv : List Byte
  cipher : List Byte
  tag : List Byte
  deriving DecidableEq, Repr

/-- A stored record (KEY table 8). -/
structure KeyRec where
  gen : Nat
  engine : Nat
  alg : Nat
  migratable : Bool
  parent : Nat
  kwkId : Nat
  migTag : Nat
  p0 : SealedPos
  p1 : SealedPos
  deriving DecidableEq, Repr

/-- The two record copies of a slot in flash and its commit word in MRAM (R472, KEY table 9). `crcOk` false stands for
a commit word whose CRC8 fails; `written` false for one that was erased or never written; `wasInval` is the last state
INVALIDATED (R473). -/
structure KeyStore where
  copy0 : Option KeyRec
  copy1 : Option KeyRec
  valid : Bool
  copy : Bool
  pend : Bool
  gen : Nat
  crcOk : Bool
  written : Bool
  wasInval : Bool
  deriving DecidableEq, Repr

/-- An update that is being committed (R474): the slot as it will be, and the command that waits for it, if one does. -/
structure KeyUpd where
  slot : Nat
  new : KeySlot
  ref : Option CmdRef
  deriving DecidableEq, Repr

/-- State of KEY beside its registers. Fuses: life cycle, owner seed, helper data. -/
structure Key where
  helper : Bool
  lc : Nat
  ownerSeed : List Byte
  rootOk : Bool
  mr : List (List Byte)
  slots : NMap KeySlot
  store : NMap KeyStore
  genMax : Nat
  updates : List KeyUpd
  /-- Event 0x0E was raised for a slot since its record last changed (R466). -/
  expired : List Nat
  /-- Slots prepared for migration, and the measurements of the prepared firmware (R478). -/
  migBoot : Bool
  /-- Destruction in progress after a transition: the state entered (R482). -/
  erase : Option Nat
  /-- Statement in progress: the encoded claims taken at ATT_GO (R483). -/
  att : Option (List Byte)
  attBuf : List Byte
  endorsement : List Byte
  table4 : List Word
  deriving DecidableEq, Repr

/-- The answer of a command's decision (R352, R353): status, results, and the instant of effect where it is not the
acceptance instant. -/
structure Ans where
  status : Nat
  r0 : Word := 0
  r1 : Word := 0
  late : Bool := false
  replaced : Bool := false
  deriving DecidableEq, Repr

/-! ## SVI (chapter 04). Sample instants are grid ticks since second 0. -/

/-- A value with its compact quality word and slot flag word (SVI tables 4 and 5). -/
structure Val where
  v : Int
  q : Nat
  f : Nat
  deriving DecidableEq, Repr

/-- A placed sample of every channel of a stream (R107): instant, values with qualities, window flags. -/
structure Sample where
  g : Int
  vals : List (Int × Nat)
  f : Nat
  deriving DecidableEq, Repr

/-- Stream status (R131, SVI table 11). `cnt` are the counters from WRONG_PATH to OFFSET in the table's order. -/
structure SvStat where
  state : Nat
  syncOk : Bool
  simLatched : Bool
  lastCnt : Nat
  dMin : Option Int
  dMax : Option Int
  cnt : List Word
  deriving DecidableEq, Repr

/-- A stream at work: the next instant to hand over, placed samples, samples handed over of late, what R110, R113,
R117, R120 and R132 remember (`missRun` the missing instants since the last sample handed over, `silRun` the same
since the stream was last resumed), and the inputs handed to stage 1 that a capture can still take (R411). -/
structure SvStream where
  next : Option Int
  buf : List Sample
  handed : List Sample
  newest : Option Int
  missRun : Nat
  silRun : Nat
  last : Option (List (Int × Nat))
  evf : Nat
  unsync : Bool
  crBad : Bool
  auBad : Bool
  neg : Bool
  hist : List (Int × List Val)
  deriving DecidableEq, Repr

/-- A closed plane: its plane tick, close instant in exact units, and the values of the mapped slots. -/
structure Plane where
  tick : Nat
  closeU : Nat
  vals : NMap Val
  deriving DecidableEq, Repr

/-- State of SVI beside its registers. Ticks are grid ticks since second 0. -/
structure Svi where
  sub : NMap (List Word)
  /-- Entries staged for the next plane tick (R130, R355). -/
  pend : List (Nat × List Word)
  /-- A TABLE_LOAD that waits for the next plane tick, with its entries. -/
  load : Option (CmdRef × List (Nat × List Word))
  stat : NMap SvStat
  streams : NMap SvStream
  running : Bool
  stopReq : Bool
  restart : Bool
  /-- First plane tick of the run, G in grid ticks as latched (R112), next plane to close. -/
  k0 : Nat
  gTicks : Nat
  nextClose : Nat
  /-- The next plane tick (R20). -/
  nextTick : Nat
  /-- Plane ticks of a stopped SVI whose re-prediction is still to begin, with their instants C(k) in exact units (R182). -/
  passes : List (Nat × Nat)
  planes : List Plane
  /-- View words by function with the plane tick from which each holds (R124, R577), newest first. -/
  views : NMap (List (Nat × Word))
  /-- DEGRADE by plane tick, newest first (R37). -/
  degr : List (Nat × Nat)
  highSaid : Bool
  /-- Overloaded plane ticks in a row, edge since when the load is below 90 %, decimated priorities (R128). -/
  above : Nat
  lowSince : Option Nat
  decim : Nat
  /-- The decimated priorities in force since the last plane tick (R128). -/
  decimOn : Nat
  /-- Decoded ASDUs and channel samples since the last plane tick (R127). -/
  asdus : Nat
  samples : Nat
  deriving DecidableEq, Repr

/-! ## FPE (chapter 05) -/

/-- A value of a chain at an instant: input, stage output or plane value. -/
structure Smp where
  g : Int
  x : Val
  deriving DecidableEq, Repr

/-- One profile at work on a slot: the plane tick from which it fades in and the length of the fade (R149, R150), and
for each level the newest values first: level 0 the stage-1 inputs, the last level the stage outputs. -/
structure Leg where
  prof : Nat
  fadeAt : Option Nat
  log2 : Nat
  lv : List (List Smp)
  deriving DecidableEq, Repr

/-- The Glide in progress (R148, R149): profiles, length, its slots, k1 and k_s in grid ticks, fade step. -/
structure Glide where
  src : Nat
  dst : Nat
  log2 : Nat
  slots : List Nat
  k1 : Option Nat
  ks : Nat
  j : Nat
  deriving DecidableEq, Repr

/-- A phasor channel entry (FPE table 8). -/
structure Phasor where
  re : Int
  im : Int
  h2 : Nat
  h5 : Nat
  q : Nat
  f : Nat
  flags : Nat
  deriving DecidableEq, Repr

/-- A reference as reported at a phasor plane tick (FPE table 9); `tick` is its plane tick. -/
structure RefRep where
  freq : Nat
  rocof : Int
  angle : Nat
  mag : Nat
  state : Nat
  nom : Bool
  skip : Bool
  holdMs : Nat
  q : Nat
  f : Nat
  fRes : Nat
  seq : Word
  tick : Nat
  deriving DecidableEq, Repr

/-- A phase reference (R161, R162): state code of FPE table 6, count of the row that leaves the state, the averages
(newest first), angles in 2^-32 turn, frequencies in 2^-24 Hz, ROCOF entries in 2^-48 Hz/s, instants in grid ticks.
`fp` is f_prev where it is not f_filt of the previous computed tick. -/
structure RefSt where
  state : Nat
  count : Nat
  fresh : Bool
  fp : Option Int
  fFilt : Int
  rocof : Int
  fAvg : List Int
  fHist : List Int
  rAvg : List Int
  theta : Nat
  tPrev : Nat
  goodTheta : Nat
  goodTick : Nat
  fHold : Int
  thetaHold : Nat
  holdFrom : Nat
  holdTick : Nat
  seq : Word
  rep : RefRep
  deriving DecidableEq, Repr

/-- The results of a phasor plane tick. -/
structure PhPlane where
  tick : Nat
  closeU : Nat
  ph : NMap Phasor
  refs : List RefRep
  deriving DecidableEq, Repr

/-- State of FPE beside its registers. -/
structure Fpe where
  prof : NMap (List Word)
  coef : NMap Word
  smap : NMap Word
  refCfg : NMap (List Word)
  /-- Staged table writes: table, index, words (R168). -/
  pend : List (Nat × Nat × List Word)
  chains : NMap (List Leg)
  glide : Option Glide
  /-- FPE table 3 reason of each slot at the last check (R147). -/
  bad : NMap Nat
  /-- Module-time second of the last event 0x49 of a slot (R138). -/
  satSec : NMap (Option Nat)
  refs : NMap RefSt
  ph : NMap Phasor
  planes : List PhPlane
  lanes : List Bool
  deriving DecidableEq, Repr

/-! ## GTE (chapter 06) -/

/-- A gate (GTE table 1). `w` are bytes 0x00 to 0x27; `f` and `e` are the firing and contact instants in 2^-32 ns;
`extra` is the count of crossings added by slips (R183); `check` is set while an angle check waits for its phasor plane
tick (R198); `gone` is set from the instant its owner VF was disabled while it was COMMITTED (R180). -/
structure Gate where
  w : List Word
  state : Nat
  rocofCap : Bool
  refChanged : Bool
  slipped : Bool
  angleValid : Bool
  afterCommit : Bool
  byProgram : Bool
  takeover : Bool
  checkDone : Bool
  slips : Nat
  owner : Nat
  prog : Bool
  loc : Nat
  f : Nat
  e : Nat
  angleErr : Nat
  extra : Nat
  check : Bool
  gone : Bool
  deriving DecidableEq, Repr

/-- State of GTE beside its registers. `map` lists VF, gate number and index (R176); `pulses` the ends of pulses on
timed outputs in 2^-32 ns; `level` the outputs that gates drive on (R193). -/
structure Gte where
  gates : NMap Gate
  map : List (Nat × Nat × Nat)
  pulses : List (Nat × Nat)
  level : Nat
  deriving DecidableEq, Repr

/-! ## CYE (chapters 07 and 08) -/

/-- State of a stateful block instance (R241, R243): values, state quality, and for a carried instance the whole ns of
the period start of its last completed run in the old program (R263). -/
structure InstSt where
  st : List Int
  q : Nat
  from' : Option Nat
  deriving DecidableEq, Repr

/-- A directory entry (LFG table 4). -/
structure DirEnt where
  inst : Nat
  stype : Nat
  core : Nat
  task : Nat
  off : Nat
  len : Nat
  deriving DecidableEq, Repr

/-- A map entry (LFG table 5). -/
structure MapEnt where
  old : Nat
  new : Nat
  op : Nat
  gate : Nat
  deriving DecidableEq, Repr

/-- A program image that has been parsed (R256): its bytes, header fields and sections. -/
structure Prog where
  raw : List Byte
  rate : Nat
  progId : Nat
  baseId : Nat
  hyper : Nat
  nTasks : Nat
  gates : Nat
  coreKib : List Nat
  tasks : List (List Word)
  inmap : List (List Word)
  outmap : List (List Word)
  code : List Byte
  locals : List (Nat × List Byte)
  dir : List DirEnt
  map : List MapEnt
  deriving DecidableEq, Repr

/-- A run in progress (R211): period start in grid ticks and in whole ns, doubled values in force, overrun, latched input
image, and the consecutive period starts it has caused to be skipped. -/
structure Run where
  ts : Nat
  tsNs : Nat
  dt : Nat
  dbl : Bool
  ovr : Bool
  img : List TV
  skips : Nat
  deriving DecidableEq, Repr

/-- What a task releases at its next output instant, in exact units: values of its output entries, SAFE values, or
nothing (R214, R218). -/
structure Rel where
  at' : Nat
  safe : Bool
  vals : List TV
  deriving DecidableEq, Repr

/-- An input that can be lost: m of R233 and the last value latched with the source present. -/
structure HoldSt where
  m : Nat
  last : Option TV
  deriving DecidableEq, Repr

/-- A task of the running program (R206, R218 to R222, CYE table 10). STATE: 0 disabled, 1 normal, 2 doubled,
3 FAULTED. `next` is its next original period start in grid ticks; `prev` the whole ns of the previous run's period
start; `last` the period start of its last completed run; `halve` waits for the first even-index period start (R221). -/
structure TaskSt where
  state : Nat
  halve : Bool
  next : Nat
  run : Option Run
  prev : Option Nat
  last : Option Nat
  rel : List Rel
  ovrLast : Bool
  returnRuns : Nat
  lastStart : Nat
  lastCompl : Nat
  maxCompl : Nat
  overruns : Word
  skipCnt : Word
  held : Nat
  fallback : Nat
  /-- Input-map entry to hold state. -/
  holds : NMap HoldSt
  /-- Gate-request record last released by each output-map entry (R236). -/
  reqs : NMap (Option Int)
  deriving DecidableEq, Repr

/-- A host input word (R227 to R229, CYE table 10): configuration; value in force; `fresh` while a write has applied
since program start, loss of its owner and configuration change; instant of the last applied write in exact units. -/
structure HostWord where
  owner : Nat
  en : Bool
  lease : Nat
  value : Nat
  q : Nat
  late : Bool
  fresh : Bool
  at' : Nat
  writes : Word
  deriving DecidableEq, Repr

/-- An accepted HOST_WRITE that has not applied (R228, R230), with the lock that embeds it; instants in exact units. -/
structure HostPend where
  ref : CmdRef
  lock : Option Nat
  word : Nat
  value : Nat
  q : Nat
  target : Option Nat
  accept : Nat
  late : Bool
  deriving DecidableEq, Repr

/-- A host output word (R235, R360): value and quality of the last release, with its instant in ns and task, and what was
mirrored last. -/
structure OutWord where
  value : Nat
  q : Nat
  ns : Nat
  task : Nat
  mirrored : Option (Nat × Nat)
  deriving DecidableEq, Repr

/-- A cycle-engine core (R205, R217): failed, corrected errors; runs in progress since instant `busyFrom` (2^-32 ns) and
the busy time of this second. -/
structure Core where
  failed : Bool
  ecc : Nat
  busyFrom : Option Nat
  busy : Nat
  loadPct : Nat
  deriving DecidableEq, Repr

/-- A Leapfrog exchange that is armed or being armed (R269, R275): switch instant in grid ticks, the map, whether it goes
back to the retained image, and the edge of the proposal while the peer's answer is awaited. -/
structure Exch where
  tb : Nat
  map : List MapEnt
  askedAt : Option Nat
  deriving DecidableEq, Repr

/-- State of CYE beside its registers (chapters 07 and 08). -/
structure Cye where
  prog : Option Prog
  running : Bool
  tasks : NMap TaskSt
  insts : NMap InstSt
  /-- Pending start and stop, in grid ticks (R250, R251). -/
  startAt : Option Nat
  stopAt : Option Nat
  cores : List Core
  /-- Released task signals (R235); none where nothing has been released. -/
  sigs : NMap (Option TV)
  words : NMap HostWord
  ow : NMap OutWord
  pend : List HostPend
  /-- Staged host input configurations: word and words (R252). -/
  cfgPend : List (Nat × List Word)
  /-- Gate events that tasks have not latched: task, bit, F and the edge at which the gate fired, in 2^-32 ns (R226). -/
  gev : List (Nat × Nat × Nat × Nat)
  /-- Second bank: a staged image, or the retained image with the last map (R254, R273). -/
  staged : Option Prog
  retained : Option Prog
  lastMap : List MapEnt
  /-- Image being loaded or verified, with the command that loads it (R258). -/
  loading : Option (List Byte × CmdRef)
  exch : Option Exch
  /-- The switch at Tb has happened and carry-over is in progress (R270). -/
  carry : Option (List MapEnt)
  old : Option Prog
  oldTasks : NMap TaskSt
  oldInsts : NMap InstSt
  deriving DecidableEq, Repr

/-! ## OUT (chapter 09). Instants of OUT are exact units. -/

/-- An accepted publication (R291, R292): its command, the lock that embeds it, items, target and acceptance instants. -/
structure HeldPub where
  ref : CmdRef
  lock : Option Nat
  items : List PubItem
  target : Nat
  late : Bool
  deriving DecidableEq, Repr

/-- A PCB at work (R282 to R292): values with qualities, instant of the last state change with its TimeQuality octet,
interval in microseconds, next transmission, held commands. `merge` is the instant of a program or host state change that
writes at the same instant join; `fresh` waits for the first output instant after takeover (R289). -/
structure PubSt where
  on : Bool
  stNum : Nat
  sqNum : Nat
  spdu : Nat
  vals : List (Int × Nat)
  change : Nat
  tq : Nat
  interval : Nat
  nextTx : Option Nat
  held : List HeldPub
  merge : Option Nat
  fresh : Bool
  signBad : Bool
  deriving DecidableEq, Repr

/-- A subscription at work (R295 to R297, OUT table 8): STATUS 0 disabled, 1 waiting, 2 VALID, 3 LOST. -/
structure SubSt where
  status : Nat
  simLatched : Bool
  first : Bool
  test : Bool
  stNum : BitVec 32
  sqNum : BitVec 32
  vals : List Int
  deadline : Option Nat
  cnt : List Word
  crBad : Bool
  auBad : Bool
  deriving DecidableEq, Repr

/-- A control lock (R298): STATE 0 FREE, 1 SELECTED, 2 OPERATE_PENDING; lease end in ns of module time. -/
structure Lock where
  state : Nat
  keep : Bool
  owner : Nat
  obj : Nat
  pairId : Nat
  leaseMs : Nat
  leaseEnd : Nat
  deriving DecidableEq, Repr

/-- State of OUT beside its registers: tables 0, 2, 4 to 6 and 8, staged writes, publications, subscriptions, locks. -/
structure Out where
  pcb : NMap (List Word)
  tmpl : NMap (List Word)
  sub : NMap (List Word)
  pubDesc : NMap Word
  subDesc : NMap Word
  curve : NMap (List Word)
  pend : List (Nat × Nat × List Word)
  pub : NMap PubSt
  subst : NMap SubSt
  locks : NMap Lock
  deriving DecidableEq, Repr

/-! ## SIO (chapter 10). Instants are edges. -/

/-- A message of the cross-link (R308). -/
inductive XMsg where
  | heartbeat (ns : Nat)
  | demand (cye : Nat)
  | goose (sub : Nat) (values : List Int) (bad : List Nat)
  | pairs (lockout : Nat)
  | config (crc : Nat)
  deriving DecidableEq, Repr

/-- An evaluation in one channel (R323, R324): its demand and alarm, discrepancy start and reaction, the two-step
sequence (0 idle, 1 selected) with its start and the end of its pulse. -/
structure EvSt where
  dem : Bool
  alarm : Bool
  disc : Option Nat
  react : Bool
  step : Nat
  selAt : Nat
  pulse : Option Nat
  deriving DecidableEq, Repr

/-- A pair's demand in one channel (R316, R317): sources present (bits as SRC), demand, its entry, the latch. -/
structure DemSt where
  src : Nat
  on : Bool
  since : Nat
  latched : Bool
  deriving DecidableEq, Repr

/-- One channel of the safety I/O: receiver levels, since when each differs from the filtered state, filtered states, states
latched at this and the previous safety cycle, evaluations, GOOSE results, cycle-engine demands, pair demands, closed
switches, and the edge at which the other channel counts as silent. -/
structure Chan where
  raw : Nat
  since : List (Option Nat)
  filt : Nat
  latch : Nat
  prev : Nat
  evals : List EvSt
  goose : Nat
  cye : Nat
  dems : List DemSt
  sw : Nat
  silentAt : Option Nat
  deriving DecidableEq, Repr

/-- A test in progress: channel (0 A, 1 B), start, and whether it belongs to a LOCKOUT reset. -/
structure PairTest where
  ch : Nat
  start : Nat
  reset : Bool
  deriving DecidableEq, Repr

/-- A safe output pair (R305, R320, R327): LOCKOUT and reason, module time of the last change of energised state, deferrals
and retry instants of the channels, last second in which each was tested, test in progress. -/
structure PairSt where
  lockout : Bool
  reason : Nat
  last : Nat
  defers : List Nat
  retry : List (Option Nat)
  done : List Nat
  test : Option PairTest
  deriving DecidableEq, Repr

/-- A timed output (R313 to R315, R328): level that the cycle engine asks for, commanded level, readback; `wait` holds the
output off until its source's next edge. -/
structure ToutSt where
  cye : Bool
  level : Bool
  readback : Bool
  fault : Bool
  openLoad : Bool
  reason : Nat
  wait : Bool
  defers : Nat
  retry : Option Nat
  done : Nat
  test : Option Nat
  deriving DecidableEq, Repr

/-- State of SIO beside its registers. -/
structure Sio where
  tbl : NMap (List Word)
  a : Chan
  b : Chan
  pairs : List PairSt
  touts : List ToutSt
  /-- Since when the receivers of an input differ, or agree while it is FAULT (R310). -/
  differ : List (Option Nat)
  agree : List (Option Nat)
  /-- Since when a feedback input misses its expected state, and failed checks (R321). -/
  fbSince : List (Option Nat)
  fbBad : Nat
  nextSample : Nat
  nextCycle : Nat
  nextBeat : Nat
  nextRate : Nat
  /-- Consecutive safety cycles in which the channels differ. -/
  mismatch : Nat
  starting : Bool
  /-- After a takeover: 2 until the first output instant, 1 until the safety cycle after it (R332). -/
  takeover : Nat
  /-- The supply of the timed outputs is removed (R308). -/
  cut : Bool
  toB : List XMsg
  toA : List XMsg
  deriving DecidableEq, Repr

/-! ## CAP (chapter 13) -/

/-- A segment (CAP table 6): words 0 and 1, last holder of the grant, function a grant waits for. -/
structure Seg where
  base : Nat
  en : Bool
  size : Nat
  grant : Nat
  last : Nat
  clearing : Option Nat
  deriving DecidableEq, Repr

/-- The current record of a capture (R409 to R421). Instants are grid ticks; the trigger is in 2^-32 ns. -/
structure Rec where
  seq : Nat
  segFirst : Nat
  span : Nat
  first : Option Int
  trig : Option Nat
  mask : Nat
  tTrig : Int
  post : Nat
  ignored : Nat
  extra : Nat
  flags : Nat
  gap : Nat
  degr : Nat
  clk : Nat
  deriving DecidableEq, Repr

/-- A capture context (CAP table 6, R404 to R418): STATE 0 FREE, 1 READY, 2 POST, 3 REARM. `streams` lists entry index,
RATE, CH_COUNT, SLOT_BASE, APPID, CONF_REV and svID CRC as armed; `lost` the streams that are lost; `auto` is the expiry of MODE 2
in 2^-32 ns. -/
structure Cap where
  state : Nat
  lastEnd : Nat
  mode : Nat
  chain : Bool
  full : Bool
  owner : Nat
  streams : List (List Nat)
  lost : List Nat
  mask : Nat
  samples : Nat
  pos : Nat
  seg0 : Nat
  segN : Nat
  tmo : Nat
  records : Nat
  ready : Nat
  load : Nat
  cur : Rec
  held : Option (Nat × Nat)
  extra : Nat
  gap : Nat
  auto : Option Nat
  /-- Sources of the last trigger presented and its instant (R413). -/
  lastTrig : Option Nat
  deriving DecidableEq, Repr

/-- State of CAP beside its registers. `recs` lists the records in the region by first segment and span; `tin` TRIGGERS and
UNUSED of the trigger inputs. -/
structure CapSt where
  segs : NMap Seg
  caps : NMap Cap
  recs : List (Nat × Nat)
  tin : NMap (Word × Word)
  deriving DecidableEq, Repr

/-! ## PAR (chapter 14). Instants are edges unless named otherwise. -/

/-- A mirrored command that the peer stored and has not seen committed (R442). -/
structure Mirrored where
  fn : Nat
  hdr : CmdHdr
  op : Op
  plan : Nat
  gate : Nat
  lock : Nat
  cap : Nat
  deriving DecidableEq, Repr

/-- Fragments of a message that are in hand (R434). -/
structure Frags where
  path : Bool
  typ : Nat
  next : Nat
  body : List Byte
  endsAt : Nat
  deriving DecidableEq, Repr

/-- A resync that the active module serves (R452, R453): request instant, whether the snapshot has been taken, its end, the
tasks still to send, and for the current task the copy that waits for a run that starts after `after`. -/
structure ResyncTx where
  reqAt : Nat
  snap : Bool
  snapAt : Nat
  tasks : List Nat
  total : Nat
  after : Nat
  deriving DecidableEq, Repr

/-- A resync of the returning module (R452, R453): parts of a kind in hand, whether kinds 1 to 6 are installed, COMMIT
bodies that wait, task copies that wait for a period start, tasks installed, and TASKS of RESYNC_END. -/
structure ResyncRx where
  kind : Nat
  data : List Byte
  installed : Bool
  commits : List (List Byte)
  waiting : List (Nat × Nat × List Byte)
  done : List Nat
  ended : Option Nat
  deriving DecidableEq, Repr

/-- State of PAR beside its registers. Paths: false Baswick link, true process bus. -/
structure Par where
  seqBl : Nat
  seqPb : Nat
  lastBl : Option (Nat × Nat)
  lastPb : Option (Nat × Nat)
  dueBl : Option Nat
  duePb : Option Nat
  /-- Edge at which the peer fails, and edge of the last valid heartbeat (R433, R439). -/
  failDue : Option Nat
  lastHb : Option Nat
  /-- A frame failed check 3 or 4 since the last valid heartbeat (PAR table 7); edge until which AUTH_SEEN reports it. -/
  evidence : Bool
  authSeen : Nat
  badBl : Bool
  badPb : Bool
  peerSeqs : List Nat
  highEpoch : Nat
  /-- Next heartbeat multiples (R431), in units of 100 µs of module time. -/
  nextBl : Nat
  nextPb : Nat
  lastTx : Option Nat
  lastCommit : Nat
  listenDue : Option Nat
  demotedDue : Option Nat
  retryDue : Option Nat
  frags : List Frags
  /-- Last stored SEQ of each function (R442), stored commands, replicas of completions (R445). -/
  storedSeq : NMap (BitVec 32)
  stored : List Mirrored
  replicas : NMap (List Cpl)
  /-- Entries of COMMIT messages that wait to be sent (R443). -/
  commits : List (List Byte)
  tx : Option ResyncTx
  rx : Option ResyncRx
  reportNext : Option Nat
  reportDue : Option Nat
  lastFails : Nat
  /-- Time-difference event raised since |PAR_TIME_DIFF| was last within tolerance. -/
  timeBad : Bool
  /-- PROG_ID of the peer's last heartbeat; the last HEALTH_REPORT is overdue (R454, R520); messages that both paths carry,
  as accepted from one path, so that the second copy is dropped (R441). -/
  peerProg : Nat
  reportLate : Bool
  copies : List (Bool × Nat × List Byte)
  deriving DecidableEq, Repr

end Sys2Proof.Machine
end

