-- ==== Sys2Proof/Machine/Inits.lean ====
section
/-! DEFINITION. The value of each block's state right after reset (R536). Values that the spec does not give are
marked with the log entry that names them. -/

namespace Sys2Proof.Machine

/-- GLB table 1 with every strap at its absent value, but DEBUG_LOCK fitted (R527, log entry 4). -/
def Straps.init : Straps :=
  { pairPos := false, slotId := 0, safetyIo := false, timeSrc := false, maint := true, genMax := 0,
    bootSlot := false, debugLock := true, p89 := false }

/-- A bundle that verifies, as delivered in slot 0 (log entry 4, DESIGN CHOICE). -/
def Bundle.delivered : Bundle := { version := 0, images := [[], [], []], verifies := true }

/-- GLB before the first power-on. -/
def Glb.init : Glb :=
  { phase := .off, straps := Straps.init, strapSeen := false, slots := [some Bundle.delivered, none],
    bootValid := false, coverOpen := false, loopOpen := false, loopReads := 0, rtc := 0, rtcEdge := 0,
    backupLost := false, resetReq := none, resetShut := false, resetWait := [], maintReq := none, pfEdge := none,
    confirmDue := none, fwWrite := none, ovCard := false, ovAux := false, hot := false, vbatFitted := false }

/-- A domain that is not tracked. -/
def Dom.init : Dom :=
  { master := none, port := 0, syncDue := none, annDue := none, syncOk := false, annOk := false, lost := false,
    lostAt := 0, syncFrom := [], annFrom := [] }

/-- IRIG-B not selected. -/
def Irig.init : Irig :=
  { frameDue := none, ppsDue := none, ppsMissDue := none, ppsPresent := false, lost := false, lostAt := 0 }

/-- TIM after reset: module time does not run; both clocks at 0 (log entry 4). -/
def Tim.init : Tim :=
  { edge := 0, clkA := 0, clkB := 0, mt := 0, running := false, grid := false, slewAcc := 0, selB := false,
    dom1 := Dom.init, dom2 := Dom.init, irig := Irig.init, lockA := none, lastA := 0, lockB := none, lastB := 0,
    hold := none, ocxoBad := false, cls := 0, ppsOut := false, ppsFall := 0, ppsLast := none,
    pdlyCount := List.replicate 12 0, pdlyReq := List.replicate 12 false, pdlyDue := List.replicate 12 0,
    delayDue := [0, 0], pdlyT1 := List.replicate 12 0, pdlyT2 := List.replicate 12 0,
    pdlyT4 := List.replicate 12 0, gridAt := none }

/-- No step of the ladder active. -/
def Ladder.init : Ladder :=
  { steps := List.replicate 6 { on := false, since := 0, trig := [], marked := [] }, inForce := 0 }

/-- JNL before the first power-on: nothing recorded, the next record is number 1 (R494, log entry 4). -/
def Jnl.init : Jnl :=
  { birth := [], birthPos := 0, birthFull := false, birthCopies := [], ring := [], ringPos := 0, nextRseq := 1,
    prevSeal := 0, lastTag := List.replicate 16 0, buf := [], held := [], cls0 := 0, drops := [0, 0, 0, 0],
    dropFirst := 0, dropLast := 0, flushing := none, flushDue := none, opSec := 0, opEdge := 0, opStored := 0,
    pcyc := 0, pfSealed := false, unjournaled := 0, reads := [], almCount := [0, 0, 0, 0], almCode := [0, 0, 0, 0],
    almHold := 0, almDue := false, flags := 0, unclean := false, dropCnt := [0, 0, 0, 0], coalesced := 0, flushes := 0 }

/-- The type and parent of a built-in node (DIA table 2). -/
def nodeKind (n : Nat) : Nat × Nat :=
  if n = 0 then (2, 0x7FF)
  else if n = 1 then (1, 0)
  else if n = 2 then (0, 0)
  else if 16 ≤ n ∧ n ≤ 31 then
    (if n = 18 ∨ n = 22 ∨ n = 24 ∨ n = 25 then 4 else if n = 20 then 2 else 0, 1)
  else if 32 ≤ n ∧ n ≤ 43 then (0, 18)
  else if 48 ≤ n ∧ n ≤ 51 then (0, 20)
  else if 64 ≤ n ∧ n ≤ 79 then (0, 22)
  else if 80 ≤ n ∧ n ≤ 103 then (0, 24)
  else if 256 ≤ n ∧ n ≤ 767 then (0, 22)
  else if 768 ≤ n ∧ n ≤ 1024 then (0, 25)
  else (0, 0x7FF)

/-- A node that nothing has changed since reset: in use and OK for the pair, the module, the blocks, the phasor lanes,
the cores and the PF; ABSENT for everything that is not in use at reset (R518, R520). -/
def nodeDflt (n : Nat) : Node :=
  let inUse := n = 0 ∨ n = 1 ∨ (16 ≤ n ∧ n ≤ 31) ∨ (48 ≤ n ∧ n ≤ 51) ∨ (64 ≤ n ∧ n ≤ 79) ∨ n = 768
  let st := if inUse then 0 else 3
  { causes := [], own := if n < 1280 then st else 0, typ := (nodeKind n).1, k := 0, parent := (nodeKind n).2, en := decide (n < 1280),
    state := st, reason := 0, changes := 0, last := 0 }

/-- No self-test of a target has run. -/
def StResult.init (_ : Nat) : StResult := { passes := 0, fails := 0, last := 0 }

/-- DIA after reset. -/
def Dia.init : Dia :=
  { nodes := [], bank := List.replicate 656 0, timSnap := List.replicate 11 0, seq := 0, source := 0, snapEdge := none,
    locked := false, missed := 0, flags := 0, queue := [], results := [], cyclePos := 0, cycleSlices := 0, passStandby := 0, failStandby := 0 }

/-- A function's event path after reset. -/
def EvtFn.init (_ : Nat) : EvtFn :=
  { prod := 0, cons := 0, pend := [], tally := [0, 0, 0, 0], dropFirst := 0, dropLast := 0, drop := 0,
    held := [] }

/-- Telemetry after reset. -/
def Tel.init : Tel := { evts := [], jnl := Jnl.init, dia := Dia.init, out := [] }

/-- A function's rings before they are enabled. -/
def FnState.init (_ : Nat) : FnState :=
  { errRing := none, flrBusy := false, hostIdx := [0, 0, 0, 0, 0, 0], modIdx := [0, 0, 0, 0, 0, 0],
    fetchedIdx := 0, cmds := [], bulks := [], planes := [], accSeq := 0, pendSet := [], reaccept := [],
    reportDue := true, outstanding := 0, backlog := [], changed := false, missing := false, skipped := 0,
    kick := false, kickEdge := 0, marked := [], vecs := [], sent := [], inFetch := 0, bulkIdx := 0, planeSeq := 0 }

/-- A requester that waits for nothing (R391: backoff 1, wait 0). -/
def ArbReq.init (_ : Nat) : ArbReq := { backoff := 1, wait := 0, pending := 0, since := none, starved := false }

/-- HIF after reset. -/
def Hif.init : Hif :=
  { fns := [], lastServed := 0, cplDue := [], rxPosts := [], linkUp := false, gen := 0, width := 0, tag10 := false,
    epoch := 0, pollNs := 0, unmasked := [], msixTbl := [], unmirroredSaid := false,
    vfEnable := false, numVf := 0, vfs := [], staged := [], svcReq := [], arb := [], arbLast := 0, arbAt := 0,
    inFlight := [], dbWait := [], kickWait := [], quota := 0, accAt := none, credit := 0,
    delivLast := 0 }

/-- A port that is not enabled. -/
def Port.init : Port :=
  { optic := none, trial := none, trainDue := none, mbps := 0, queues := List.replicate 8 [],
    held := List.replicate 8 none, bulkQ := [], xoffDue := none }

/-- MAC after reset. -/
def Mac.init : Mac :=
  { ports := List.replicate 12 Port.init, nodes := [], seqs := List.replicate 5 0, fwd := [], tc := [],
    supDue := List.replicate 5 0, fullSaid := 0 }

/-- An absent key position. -/
def KeyPos.none : KeyPos := { present := false, keyId := 0, notBefore := 0, notAfter := 0, key := [] }

/-- An EMPTY slot (R465). -/
def KeySlot.init (_ : Nat) : KeySlot :=
  { engine := 0, alg := 0, migratable := false, state := 0, parent := 0x1FF, p0 := KeyPos.none, p1 := KeyPos.none,
    gen := 0, lateUse := 0 }

/-- A slot that nothing has been stored for (log entry 4). -/
def KeyStore.init (_ : Nat) : KeyStore :=
  { copy0 := none, copy1 := none, valid := false, copy := false, pend := false, gen := 0, crcOk := true,
    written := false, wasInval := false }

/-- KEY before the first power-on: life cycle PROVISION, as the module leaves manufacture (R481). -/
def Key.init : Key :=
  { helper := true, lc := 1, ownerSeed := List.replicate 32 0, rootOk := false,
    mr := List.replicate 4 (List.replicate 48 0), slots := [], store := [], genMax := 0, updates := [], expired := [],
    migBoot := false, erase := none, att := none, attBuf := [], endorsement := [], table4 := List.replicate 48 0 }

/-- Status of a stream that is disabled (R131). -/
def SvStat.init (_ : Nat) : SvStat :=
  { state := 0, syncOk := false, simLatched := false, lastCnt := 0, dMin := none, dMax := none,
    cnt := List.replicate 13 0 }

/-- A stream at its start (R132). -/
def SvStream.init (_ : Nat) : SvStream :=
  { next := none, buf := [], handed := [], newest := none, missRun := 0, silRun := 0, last := none, evf := 0, unsync := false,
    crBad := false, auBad := false, neg := false, hist := [] }

/-- An all-zero subscription entry (R102). -/
def subDflt (_ : Nat) : List Word := List.replicate 16 0

/-- SVI after reset. -/
def Svi.init : Svi :=
  { sub := [], pend := [], load := none, stat := [], streams := [], running := false, stopReq := false, restart := false, k0 := 0,
    gTicks := 0, nextClose := 0, nextTick := 0, passes := [], planes := [], views := [], degr := [], highSaid := false, above := 0,
    lowSince := none, decim := 0, decimOn := 0, asdus := 0, samples := 0 }

/-- A cleared profile, a zero slot map entry, a cleared reference configuration (R143, R145, R159). -/
def profDflt (_ : Nat) : List Word := List.replicate 8 0

/-- No phasor: zero and invalid (FPE table 8). -/
def Phasor.none : Phasor := { re := 0, im := 0, h2 := 0, h5 := 0, q := 1, f := 0, flags := 16 }

/-- What an IDLE reference reports (R163). -/
def RefRep.idle : RefRep :=
  { freq := 50 * 2 ^ 24, rocof := 0, angle := 0, mag := 0, state := 0, nom := false, skip := false, holdMs := 0, q := 1,
    f := 0, fRes := 50 * 2 ^ 24, seq := 0, tick := 0 }

/-- An IDLE reference (R159). -/
def RefSt.init (_ : Nat) : RefSt :=
  { state := 0, count := 0, fresh := true, fp := Option.none, fFilt := 0, rocof := 0, fAvg := [], fHist := [],
    rAvg := [], theta := 0, tPrev := 0, goodTheta := 0, goodTick := 0, fHold := 0, thetaHold := 0, holdFrom := 0,
    holdTick := 0, seq := 0, rep := RefRep.idle }

/-- FPE after reset. -/
def Fpe.init : Fpe :=
  { prof := [], coef := [], smap := [], refCfg := [], pend := [], chains := [], glide := Option.none, bad := [],
    satSec := [], refs := [], ph := [], planes := [], lanes := List.replicate 4 true }

/-- A FREE gate (R174). -/
def Gate.init (_ : Nat) : Gate :=
  { w := List.replicate 10 0, state := 0, rocofCap := false, refChanged := false, slipped := false,
    angleValid := false, afterCommit := false, byProgram := false, takeover := false, checkDone := false, slips := 0,
    owner := 0, prog := false, loc := 0, f := 0, e := 0, angleErr := 0, extra := 0, check := false, gone := false }

/-- GTE after reset. -/
def Gte.init : Gte := { gates := [], map := [], pulses := [], level := 0 }

/-- A block instance that nothing has initialised. -/
def InstSt.init (_ : Nat) : InstSt := { st := [], q := 0, from' := Option.none }

/-- A task that is not present. -/
def TaskSt.init (_ : Nat) : TaskSt :=
  { state := 0, halve := false, next := 0, run := Option.none, prev := Option.none, last := Option.none, rel := [],
    ovrLast := false, returnRuns := 0, lastStart := 0, lastCompl := 0, maxCompl := 0, overruns := 0, skipCnt := 0,
    held := 0, fallback := 0, holds := [], reqs := [] }

/-- An input that has not been lost and has latched nothing. -/
def HoldSt.init (_ : Nat) : HoldSt := { m := 0, last := Option.none }

/-- A host input word after reset (R251). -/
def HostWord.init (_ : Nat) : HostWord :=
  { owner := 0, en := false, lease := 0, value := 0, q := 0, late := false, fresh := false, at' := 0, writes := 0 }

/-- A host output word that nothing has been released to. -/
def OutWord.init (_ : Nat) : OutWord := { value := 0, q := 0, ns := 0, task := 0, mirrored := Option.none }

/-- A working, idle core. -/
def Core.init : Core := { failed := false, ecc := 0, busyFrom := Option.none, busy := 0, loadPct := 0 }

/-- CYE after reset. -/
def Cye.init : Cye :=
  { prog := Option.none, running := false, tasks := [], insts := [], startAt := Option.none, stopAt := Option.none,
    cores := List.replicate 16 Core.init, sigs := [], words := [], ow := [], pend := [], cfgPend := [], gev := [],
    staged := Option.none, retained := Option.none, lastMap := [], loading := Option.none, exch := Option.none,
    carry := Option.none, old := Option.none, oldTasks := [], oldInsts := [] }

/-- A PCB that does not publish. -/
def PubSt.init (_ : Nat) : PubSt :=
  { on := false, stNum := 0, sqNum := 0, spdu := 0, vals := [], change := 0, tq := 0, interval := 0,
    nextTx := Option.none, held := [], merge := Option.none, fresh := false, signBad := false }

/-- A disabled subscription. -/
def SubSt.init (_ : Nat) : SubSt :=
  { status := 0, simLatched := false, first := true, test := false, stNum := 0, sqNum := 0, vals := [],
    deadline := Option.none, cnt := List.replicate 11 0, crBad := false, auBad := false }

/-- A FREE lock. -/
def Lock.init (_ : Nat) : Lock :=
  { state := 0, keep := false, owner := 0, obj := 0, pairId := 0, leaseMs := 0, leaseEnd := 0 }

/-- OUT after reset. -/
def Out.init : Out :=
  { pcb := [], tmpl := [], sub := [], pubDesc := [], subDesc := [], curve := [], pend := [], pub := [], subst := [],
    locks := [] }

/-- An idle evaluation, a pair without demand, a pair that has not been tested, a timed output that is off. -/
def EvSt.init : EvSt :=
  { dem := false, alarm := false, disc := Option.none, react := false, step := 0, selAt := 0, pulse := Option.none }
def DemSt.init : DemSt := { src := 0, on := false, since := 0, latched := false }
def PairSt.init : PairSt :=
  { lockout := false, reason := 0, last := 0, defers := [0, 0], retry := [Option.none, Option.none], done := [0, 0],
    test := Option.none }
def ToutSt.init : ToutSt :=
  { cye := false, level := false, readback := false, fault := false, openLoad := false, reason := 0, wait := false,
    defers := 0, retry := Option.none, done := 0, test := Option.none }

/-- A channel of the safety I/O after reset. -/
def Chan.init : Chan :=
  { raw := 0, since := List.replicate 32 Option.none, filt := 0, latch := 0, prev := 0,
    evals := List.replicate 8 EvSt.init, goose := 0, cye := 0, dems := List.replicate 8 DemSt.init, sw := 0,
    silentAt := Option.none }

/-- SIO after reset: every output de-energised (R306). -/
def Sio.init : Sio :=
  { tbl := [], a := Chan.init, b := Chan.init, pairs := List.replicate 8 PairSt.init,
    touts := List.replicate 16 ToutSt.init, differ := List.replicate 32 Option.none,
    agree := List.replicate 32 Option.none, fbSince := List.replicate 32 Option.none, fbBad := 0,
    nextSample := 0, nextCycle := 0, nextBeat := 0, nextRate := 0, mismatch := 0, starting := false, takeover := 0, cut := false,
    toB := [], toA := [] }

/-- A disabled, ungranted segment (R400). -/
def Seg.init (_ : Nat) : Seg := { base := 0, en := false, size := 0, grant := 511, last := 511, clearing := Option.none }

/-- No record. -/
def Rec.init : Rec :=
  { seq := 0, segFirst := 0, span := 0, first := Option.none, trig := Option.none, mask := 0, tTrig := 0,
    post := 0, ignored := 0, extra := 0, flags := 0, gap := 0, degr := 0, clk := 0 }

/-- A FREE capture context. -/
def Cap.init (_ : Nat) : Cap :=
  { state := 0, lastEnd := 0, mode := 0, chain := false, full := false, owner := 0, streams := [], lost := [], mask := 0,
    samples := 0, pos := 0, seg0 := 0, segN := 0, tmo := 0, records := 0, ready := 0, load := 0, cur := Rec.init,
    held := Option.none, extra := 0, gap := 0xFFFFFFFF, auto := Option.none,
    lastTrig := Option.none }

/-- CAP after reset. -/
def CapSt.init : CapSt := { segs := [], caps := [], recs := [], tin := [] }

/-- PAR after reset: OFF. -/
def Par.init : Par :=
  { seqBl := 1, seqPb := 1, lastBl := Option.none, lastPb := Option.none, dueBl := Option.none, duePb := Option.none,
    failDue := Option.none, lastHb := Option.none, evidence := false, authSeen := 0, badBl := false, badPb := false,
    peerSeqs := List.replicate 5 0, highEpoch := 0, nextBl := 0, nextPb := 0, lastTx := Option.none, lastCommit := 0,
    listenDue := Option.none, demotedDue := Option.none, retryDue := Option.none, frags := [], storedSeq := [],
    stored := [], replicas := [], commits := [], tx := Option.none, rx := Option.none, reportNext := Option.none,
    reportDue := Option.none, lastFails := 0, timeBad := false,
    peerProg := 0, reportLate := false, copies := [] }

end Sys2Proof.Machine
end

