-- ==== Sys2Proof/Machine/State.lean ====
section
/-! DEFINITION. The state of the machine. -/

namespace Sys2Proof.Machine

/-- The module: everything the spec gives it but the command queue and the bytes of the capture region. -/
structure Pnm where
  /-- The register file (R562), by offset; see `resetVal` for what an unlisted register holds. -/
  regs : NMap Word
  /-- Staged words of writable multi-word registers (R558), by the offset of the _LO word; `none` where nothing has been
  written since module reset. -/
  staged : NMap (Option Word)
  /-- Latched higher words of read-only multi-word registers (R557), by their offset. -/
  latched : NMap (Option Word)
  /-- Free values drawn so far (log entry 3); the model's own. -/
  free : Nat
  tim : Tim
  glb : Glb
  ladder : Ladder
  tel : Tel
  scans : List Scan
  hif : Hif
  mac : Mac
  key : Key
  svi : Svi
  fpe : Fpe
  gte : Gte
  cye : Cye
  out : Out
  sio : Sio
  cap : CapSt
  par : Par
  deriving DecidableEq, Repr

/-- The module before its first power-on: every field at its reset value, memories as delivered (R536, log entry 4). -/
def Pnm.init : Pnm :=
  { regs := [], staged := [], latched := [], free := 0, tim := Tim.init, glb := Glb.init, ladder := Ladder.init, tel := Tel.init,
    scans := [], hif := Hif.init, mac := Mac.init, key := Key.init, svi := Svi.init, fpe := Fpe.init, gte := Gte.init,
    cye := Cye.init, out := Out.init, sio := Sio.init, cap := CapSt.init, par := Par.init }

/-- The reasons to stop with a fault: none. Every command of the table has an effect in the spec, and an access outside
the capture region is answered as the spec says it is (R557, R570). -/
inductive Fault where
  deriving DecidableEq, Repr

/-- The reasons to refuse a command. -/
inductive Refusal where
  /-- Raised by the dispatch for a command that has no meaning yet; safe: a run ends there and proves nothing. -/
  | notModelled (mnemonic : String)
  deriving DecidableEq, Repr

/-- The machine: the module, the bytes of the capture region, and the commands that wait, first in, first out. -/
structure State where
  /-- The commands that wait, the oldest at the front (log entry 1). -/
  pending : List Instr
  /-- The capture region's bytes (R31) that differ from zero, by address. -/
  mem : Memory
  m : Pnm
  deriving DecidableEq, Repr

/-- What a step, or a command's meaning, answers. -/
abbrev Result := Host.Outcome State Fault Refusal

/-- The machine before its first power-on: nothing waits, nothing is stored, every register at its reset value. -/
def State.reset : State := { pending := [], mem := [], m := Pnm.init }

end Sys2Proof.Machine
end

