-- ==== Sys2Proof/Machine/Ops.lean ====
section
/-! DEFINITION. The operations every block shares: the register file, time, raising an event with its three paths
(event ring, journal, health tree), the degradation ladder, snapshots. Each of them is one record update of the
module, so that what it leaves alone is plain to see. -/

namespace Sys2Proof.Machine

/-! ## Register file -/

/-- Read the stored word of a register. -/
def rd (m : Pnm) (o : Nat) : Word := NMap.get resetVal m.regs o

/-- Bits [hi:lo] of a register. -/
def rf (m : Pnm) (o hi lo : Nat) : Nat := bits (rd m o) hi lo

/-- Bit i of a register. -/
def rb (m : Pnm) (o i : Nat) : Bool := bit (rd m o) i

/-- Store a register word. -/
def wr (m : Pnm) (o : Nat) (v : Word) : Pnm := { m with regs := NMap.set resetVal m.regs o v }

/-- Store bits [hi:lo] of a register. -/
def wf (m : Pnm) (o hi lo v : Nat) : Pnm := wr m o (setBits (rd m o) hi lo v)

/-- Set bit i of a register, as hardware sets a flag. -/
def sb (m : Pnm) (o i : Nat) : Pnm := wf m o i i 1

/-- Clear bit i of a register. -/
def cb (m : Pnm) (o i : Nat) : Pnm := wf m o i i 0

/-- Add to a wrapping 32-bit counter register. -/
def inc (m : Pnm) (o : Nat) (n : Nat := 1) : Pnm := wr m o (wrapAdd (rd m o) n)

/-- Store `k` words at rising offsets. -/
def wrs (m : Pnm) (o : Nat) : List Word → Pnm
  | [] => m
  | w :: t => wrs (wr m o w) (o + 4) t

/-- Name a configuration error: the FIELD byte, and the index field at [hi:lo]; CFG_REJECT is bit `flagBit` of the
flags register where the block has one. -/
def cfgErr (m : Pnm) (errReg field : Nat) : Pnm := wf m errReg 7 0 field

/-- Draw a free value (log entry 3): the module with the counter advanced. -/
def drawFree (m : Pnm) : Pnm := { m with free := m.free + 1 }

/-! ## Time -/

/-- Counter-clock edges per microsecond, millisecond and second (R43). -/
def edgesUs : Nat := 625
def edgesMs : Nat := 625000
def edgesS : Nat := 625000000

/-- 2^-32 ns units per nanosecond. -/
def nsU : Nat := 2 ^ 32

/-- Module time in whole ns; 0 while it does not run (R12, R494). -/
def nowNs (m : Pnm) : Nat := if m.tim.running then m.tim.mt / nsU else 0

/-- The fraction of module time in 2^-32 ns. -/
def nowFrac (m : Pnm) : Nat := if m.tim.running then m.tim.mt % nsU else 0

/-- A deadline that has been reached. -/
def due (d : Option Nat) (now : Nat) : Bool :=
  match d with
  | some t => decide (t ≤ now)
  | none => false

/-- Exact instants are counted in units of 1/(9 x 2^32) ns, in which a grid tick (15,625/18 ns, R68) is whole. -/
def unitNs : Nat := 9 * 2 ^ 32

/-- A second in these units. -/
def unitS : Nat := 1000000000 * unitNs

/-- One grid tick in these units (R68). -/
def unitTick : Nat := 15625 * 2 ^ 31

/-- Module time in these units. -/
def nowU (m : Pnm) : Nat := 9 * m.tim.mt

/-- Grid ticks per plane tick, P of Work table 1, by rate code 0 to 5 (R20). -/
def planeP (code : Nat) : Nat :=
  if code = 0 then 960 else if code = 1 then 480 else if code = 2 then 288 else if code = 3 then 240
  else if code = 4 then 120 else 80

/-- Plane rate per second by rate code (Work table 1). -/
def planeRate (code : Nat) : Nat := 1152000 / planeP code

/-- The exact instant of grid tick `g` since second 0, in exact units (R68). -/
def gridInstant (g : Nat) : Nat := g * unitTick

/-- Exact units to whole ns. -/
def uNs (u : Nat) : Nat := u / unitNs

/-- Exact units to the fraction in 2^-32 ns. -/
def uFrac (u : Nat) : Nat := (u % unitNs) / 9

/-- The staged _LO of a writable multi-word register: the word last written, or the committed one (R558). -/
def stagedLo (m : Pnm) (lo : Nat) : Word := (NMap.get (fun _ => none) m.staged lo).getD (rd m lo)

/-- Stage a _LO word (R558). -/
def stage (m : Pnm) (lo : Nat) (v : Word) : Pnm :=
  { m with staged := NMap.set (fun _ => none) m.staged lo (some v) }

/-- The module runs: BOOT_DONE is set (R531). -/
def alive (m : Pnm) : Bool := decide (m.glb.phase = .run)

/-- Register writes outside GLB take effect (R561): after BOOT_DONE, and not between a reset request and its effect. -/
def wrOk (m : Pnm) : Bool := alive m && m.glb.resetReq.isNone

/-- HIF fetches from host memory: not after a power-fail warning, and not after a reset request (R538, R542). -/
def hifFetches (m : Pnm) : Bool := m.glb.pfEdge.isNone && m.glb.resetReq.isNone

/-- A change of the module that happens only while it runs. -/
def whenAlive (f : Pnm → Pnm) (m : Pnm) : Pnm := if alive m then f m else m

/-- A register write outside GLB (R561). -/
def whenWr (f : Pnm → Pnm) (m : Pnm) : Pnm := if wrOk m then f m else m

/-- A change under a condition on the present state. -/
def onlyIf (c : Bool) (f : Pnm → Pnm) (m : Pnm) : Pnm := if c then f m else m

/-! ## Outputs -/

/-- Append to what the module hands out. -/
def emit (m : Pnm) (es : List Emit) : Pnm := { m with tel := { m.tel with out := m.tel.out ++ es } }

/-! ## Roles (R33, PAR table 6) -/

/-- The pair state: 0 OFF, 1 LISTEN, 2 ACTIVE, 3 STANDBY, 4 SYNCING, 5 DEMOTED, 6 MAINT (R437). -/
def pairState (m : Pnm) : Nat := rf m Reg.PAR_STAT 2 0

/-- Role maintenance. -/
def inMaint (m : Pnm) : Bool := decide (pairState m = 6)

/-- Role unpaired or active: what reaches the process is released (R34, Work table 4). -/
def releases (m : Pnm) : Bool := decide (pairState m = 0 ∨ pairState m = 2)

/-- Role standby. -/
def standby (m : Pnm) : Bool := decide (pairState m = 1 ∨ pairState m = 3 ∨ pairState m = 4 ∨ pairState m = 5)

/-! ## Completions (R349, R352) -/

/-- Add a replica completion of function f; the last 64 stay (R445). -/
def addReplica (f : Nat) (c : Cpl) (m : Pnm) : Pnm :=
  let l := NMap.get (fun _ => []) m.par.replicas f
  let l' := if l.any (fun x => decide (x.ref.seq = c.ref.seq)) then l else (l ++ [c]).drop (l.length + 1 - 64)
  { m with par := { m.par with replicas := NMap.set (fun _ => []) m.par.replicas f l' } }

/-- A completion of an accepted command becomes due, with its DONE_NS; its entry of the pending set goes (R364), and it is
written at the next acceptance instant. A standby keeps the completion of a mirrored command as a replica (R445). -/
def completeAt (ref : CmdRef) (a : Ans) (done : Nat) (m : Pnm) : Pnm :=
  let c : Cpl :=
    { ref := ref, bulk := false, rx := none, status := a.status, late := a.late, replaced := a.replaced,
      doneNs := done, r0 := a.r0, r1 := a.r1 }
  let fns := NMap.upd FnState.init m.hif.fns ref.fn fun s => { s with pendSet := s.pendSet.filter (· ≠ ref.seq) }
  let m1 := { m with hif := { m.hif with fns := fns } }
  if ref.replica && standby m then addReplica ref.fn c m1
  else { m1 with hif := { m1.hif with cplDue := m1.hif.cplDue ++ [c] } }

/-- A completion that becomes due now. -/
def complete (ref : CmdRef) (a : Ans) (m : Pnm) : Pnm := completeAt ref a (nowNs m) m

/-- The answer with a status alone. -/
def ans (status : Nat) : Ans := { status := status }

/-- The answer with a status and two results. -/
def ansR (status r0 r1 : Nat) : Ans := { status := status, r0 := loW r0, r1 := loW r1 }

/-! ## Functions' event rings (R359, R490 to R492) -/

/-- Word of ring r of function f: base, size, index (HIF table 15). -/
def ringReg (f r o : Nat) : Nat := Reg.fn f (0x40 + 16 * r + o)

/-- Entries of ring r of function f; 0 when the ring is absent (R342). -/
def ringSize (m : Pnm) (f r : Nat) : Nat :=
  let s := rf m (ringReg f r 8) 3 0
  if 4 ≤ s ∧ s ≤ 12 then 2 ^ s else 0

/-- Host address of entry i of ring r (R342). -/
def ringAddr (m : Pnm) (f r i esize : Nat) : Nat :=
  (rd m (ringReg f r 0)).toNat + 2 ^ 32 * (rd m (ringReg f r 4)).toNat + (i % ringSize m f r) * esize

/-- PHASE of entry i of a ring of n entries (R343): 1 on even passes. -/
def phaseBit (n i : Nat) : Nat := if (i / n) % 2 = 0 then 2 ^ 31 else 0

/-- The rings of function f are enabled. -/
def fnOn (m : Pnm) (f : Nat) : Bool := rb m (Reg.fn f 0) 0

/-- Function f has an event ring that takes entries. -/
def evtRingOn (m : Pnm) (f : Nat) : Bool := fnOn m f && decide (0 < ringSize m f 4)

/-- An event: source block (counted in the order of the PF BAR0 blocks from GLB), code, class, payload items, and the
functions beside the PF that receive it (R359). `extra` is content of its journal record beyond the items (R496). -/
structure Ev where
  src : Nat
  code : Nat
  cls : Nat
  items : List Nat
  fns : List Nat := []
  extra : List Byte := []

/-- Count a drop of class c (R491). -/
def EvtFn.dropOne (e : EvtFn) (c now : Nat) : EvtFn :=
  { e with tally := modAt e.tally c (· + 1), drop := e.drop + 1,
           dropFirst := if e.tally.all (· = 0) then now else e.dropFirst, dropLast := now }

/-- R490: the entry that a new event of class c displaces: the latest FIRST_NS among the highest class above c. -/
def evtVictim (l : List PendEvt) (c : Nat) : Option Nat :=
  let top := l.foldl (fun a e => max a e.cls) 0
  if top ≤ c then none
  else
    (l.zipIdx.foldl (fun (best : Option (Nat × Nat)) (p : PendEvt × Nat) =>
      if p.1.cls = top then
        match best with
        | some (f, _) => if f ≤ p.1.firstNs then some (p.1.firstNs, p.2) else best
        | none => some (p.1.firstNs, p.2)
      else best) none).map (·.2)

/-- R490: an event enters the pending set of a function. -/
def EvtFn.push (e : EvtFn) (code cls : Nat) (items : List Nat) (now : Nat) : EvtFn :=
  if e.pend.any (fun p => p.code = code ∧ p.items = items ∧ code ≠ 0) then
    { e with pend := e.pend.map fun p =>
        if p.code = code ∧ p.items = items then { p with count := satAdd 65535 p.count 1, lastNs := now } else p }
  else
    let n : PendEvt := { code := code, cls := cls, items := items, count := 1, firstNs := now, lastNs := now }
    if e.pend.length < 256 then { e with pend := e.pend ++ [n] }
    else match evtVictim e.pend cls with
      | some i => { (e.dropOne ((e.pend[i]?.map (·.cls)).getD 0) now) with pend := e.pend.eraseIdx i ++ [n] }
      | none => e.dropOne cls now

/-- R491: the free entries that class c keeps for the classes above it. -/
def evtReserve (c n : Nat) : Nat := if c = 0 then 0 else if c = 1 then n / 16 else if c = 2 then n / 8 else n / 4

/-- The 32 bytes of an event entry (R359). -/
def evtWords (p : PendEvt) (phase : Nat) : List Word :=
  let it := fun i => p.items.getD i 0 % 65536
  [loW (p.code + 256 * p.cls), loW (p.count + phase), loW p.firstNs, hiW p.firstNs, loW p.lastNs, hiW p.lastNs,
   loW (it 0 + 65536 * it 1), loW (it 2 + 65536 * it 3)]

/-- The vector of an event of function f (HIF table 13a). -/
def evtVector (m : Pnm) (f code cls : Nat) : Nat :=
  let slot := rf m (Reg.HIF_EVT_VEC + 4 * (code / 4)) (8 * (code % 4) + 5) (8 * (code % 4))
  if f = 0 ∧ slot ≠ 0 ∧ code < 128 then slot else if cls ≤ 1 then 1 else 2

/-- The vector is not masked (R361, log entry 6). -/
def unmasked (m : Pnm) (f v : Nat) : Bool := m.hif.unmasked.contains (f, v)

/-- An MSI-X message of function f and vector v, or nothing where the vector is masked. -/
def msixOut (m : Pnm) (f v : Nat) : List Emit := if unmasked m f v then [.msix f v] else []

/-- A masked vector sets its PBA bit (R361). -/
def EvtFn.hold (m : Pnm) (f v : Nat) (e : EvtFn) : EvtFn :=
  if unmasked m f v || e.held.contains v then e else { e with held := e.held ++ [v] }

/-- R491: write pending entries of one function to its event ring, class by class and by FIRST_NS; `urgent` takes
class 0 only (R361). A loss summary goes ahead of every other entry (R492). -/
def EvtFn.drain (m : Pnm) (f : Nat) (urgent : Bool) (e : EvtFn) : EvtFn × List Emit :=
  let n := ringSize m f 4
  let free := fun (x : EvtFn) => n - (x.prod - x.cons)
  let put := fun (x : EvtFn × List Emit) (p : PendEvt) =>
    ({ x.1 with prod := x.1.prod + 1 },
     x.2 ++ [Emit.write f (ringAddr m f 4 x.1.prod 32) (evtWords p (phaseBit n x.1.prod))])
  let lossy := !urgent && e.tally.any (· ≠ 0) && decide (n / 4 < free e)
  let s0 : EvtFn × List Emit :=
    if lossy then
      put ({ e with tally := [0, 0, 0, 0] }, [])
        { code := 0, cls := 1, items := e.tally.map (min 65535 ·), count := 1, firstNs := e.dropFirst,
          lastNs := e.dropLast }
    else (e, [])
  let go := if urgent then e.pend.filter (·.cls = 0) else e.pend
  let keep := if urgent then e.pend.filter (·.cls ≠ 0) else []
  let sorted := [0, 1, 2, 3].flatMap fun c =>
    sortBy (fun a b => decide (a.firstNs ≤ b.firstNs)) (go.filter (·.cls = c))
  let s1 := sorted.foldl (fun x p =>
    if evtReserve p.cls n < free x.1 then put x p else (x.1.dropOne p.cls (nowNs m), x.2)) s0
  ({ s1.1 with pend := keep }, s1.2)

/-- R359, R342: an event reaches function f's pending set, or is counted as dropped where f has no event ring.
A class-0 entry is written at once, with its vector (R361). -/
def evtTo (m : Pnm) (ev : Ev) (x : NMap EvtFn × List Emit) (f : Nat) : NMap EvtFn × List Emit :=
  let e := NMap.get EvtFn.init x.1 f
  if evtRingOn m f then
    let e1 := e.push ev.code ev.cls (ev.items.map (· % 65536)) (nowNs m)
    if ev.cls = 0 then
      let r := e1.drain m f true
      let v := evtVector m f ev.code 0
      (NMap.set EvtFn.init x.1 f (r.1.hold m f v), x.2 ++ r.2 ++ msixOut m f v)
    else (NMap.set EvtFn.init x.1 f e1, x.2)
  else (NMap.set EvtFn.init x.1 f { e with drop := e.drop + 1 }, x.2)

/-! ## The journal's volatile buffer (R488 to R502) -/

/-- Length of a record in bytes, L = 16 x UNITS (R494). -/
def JRec.size (r : JRec) : Nat := 16 * max 4 (cdiv (56 + r.payload.length) 16)

/-- Bytes of a record list. -/
def recBytes (l : List JRec) : Nat := l.foldl (fun a r => a + r.size) 0

/-- Microseconds within the operating second (R494, R495). -/
def opUsOf (m : Pnm) (j : Jnl) : Nat := min 999999 ((m.tim.edge - j.opEdge) / edgesUs)

/-- Bytes of shared space in use (R498): classes 1 to 3, and class 0 beyond its reserve of 64 KiB. -/
def sharedUsed (l : List JRec) : Nat :=
  recBytes (l.filter (·.cls ≠ 0)) + (recBytes (l.filter (·.cls = 0)) - 65536)

/-- Free bytes of the 192 KiB shared space. -/
def sharedFree (l : List JRec) : Nat := 196608 - sharedUsed l

/-- Count dropped records of class c (R498). -/
def Jnl.dropOne (j : Jnl) (c now : Nat) : Jnl :=
  { j with drops := modAt j.drops c (· + 1), dropCnt := modAt j.dropCnt c (· + 1), flags := setBit j.flags 1 true,
           dropFirst := if j.drops.all (· = 0) then now else j.dropFirst, dropLast := now }

/-- R498: the admission limits of JNL table 1 for a record of `n` bytes. -/
def jnlAdmits (class3 : Bool) (buf : List JRec) (c n : Nat) : Bool :=
  if c = 0 then decide (recBytes (buf.filter (·.cls = 0)) + n ≤ 65536) || decide (n ≤ sharedFree buf)
  else if c = 1 then decide (n ≤ sharedFree buf)
  else if c = 2 then decide (n + 32768 ≤ sharedFree buf)
  else class3 && decide (n + 98304 ≤ sharedFree buf)

/-- Index of the last unflushed record of class c. -/
def lastOfClass (buf : List JRec) (from' c : Nat) : Option Nat :=
  (buf.zipIdx.filter fun p => decide (from' ≤ p.2 ∧ p.1.cls = c)).getLast?.map (·.2)

/-- R498: make room for a class-0 record by displacing unflushed records of class 3, then 2, then 1, latest first. -/
def jnlDisplace (now need from' : Nat) : Nat → Jnl → Jnl
  | 0, j => j
  | k + 1, j =>
    if jnlAdmits true j.buf 0 need then j
    else
      let v := match lastOfClass j.buf from' 3 with
        | some i => some i
        | none => match lastOfClass j.buf from' 2 with
          | some i => some i
          | none => lastOfClass j.buf from' 1
      match v with
      | some i =>
        jnlDisplace now need from' k
          { (j.dropOne ((j.buf[i]?.map (·.cls)).getD 0) now) with buf := j.buf.eraseIdx i }
      | none => j

/-- R498, R492: after a drop, once more than 96 KiB of shared space is free, a loss summary comes first. -/
def jnlLoss (m : Pnm) (j : Jnl) : Jnl :=
  if j.drops.any (· ≠ 0) ∧ 98304 < sharedFree j.buf then
    let r : JRec :=
      { cls := 1, code := 0, source := 13, payload := j.drops.flatMap fun d => leBytes 2 (min 65535 d), count := 1,
        opSec := j.opSec, opUs := opUsOf m j, pcyc := j.pcyc, modNs := j.dropFirst, lastSec := j.opSec,
        lastUs := opUsOf m j, rseq := 0 }
    { j with drops := [0, 0, 0, 0], buf := j.buf ++ [r] }
  else j

/-- The edge at which a flush falls due after a record of class c enters (R500). -/
def jnlDue (m : Pnm) (j : Jnl) (c : Nat) : Option Nat :=
  let lim := m.tim.edge + (if c ≤ 1 then 2 * edgesMs else edgesS)
  match j.flushDue with
  | some t => some (min t lim)
  | none => some lim

/-- A flush starts: the records in the buffer now are the ones it appends (R500). -/
def Jnl.startFlush (j : Jnl) : Jnl :=
  match j.flushing with
  | some _ => j
  | none => { j with flushing := some j.buf.length, flushDue := none }

/-- R500: the flush that a full enough buffer starts. -/
def jnlFill (m : Pnm) (j : Jnl) : Jnl :=
  if rf m Reg.JNL_CFG 15 8 * 1024 ≤ recBytes j.buf then j.startFlush else j

/-- A record joins another: COUNT and LAST move (R498, R499). -/
def JRec.join (m : Pnm) (j : Jnl) (r : JRec) : JRec :=
  { r with count := satAdd 65535 r.count 1, lastSec := j.opSec, lastUs := opUsOf m j }

/-- The first index from `from'` of a record with the same CODE and SOURCE, and payload where `pay` is given. -/
def findRec (buf : List JRec) (from' code source : Nat) (pay : Option (List Byte)) : Option Nat :=
  (buf.zipIdx.find? fun p => decide (from' ≤ p.2 ∧ p.1.code = code ∧ p.1.source = source) &&
    (match pay with | some b => decide (p.1.payload = b) | none => true)).map (·.2)

/-- R498: a record that joins nothing is admitted, displaces others, or is dropped. -/
def jnlPut (m : Pnm) (r : JRec) (j0 : Jnl) : Jnl :=
  let from' := j0.flushing.getD 0
  let j1 := jnlLoss m j0
  let j2 := if r.cls = 0 then jnlDisplace (nowNs m) r.size from' j1.buf.length j1 else j1
  if jnlAdmits (rb m Reg.JNL_CFG 0) j2.buf r.cls r.size then
    jnlFill m { j2 with buf := j2.buf ++ [r], cls0 := if r.cls = 0 then j2.cls0 + 1 else j2.cls0,
                        flushDue := jnlDue m j2 r.cls }
  else if r.cls = 0 then
    match findRec j2.buf from' r.code r.source none with
    | some i => { j2 with buf := modAt j2.buf i (JRec.join m j2) }
    | none => j2.dropOne 0 (nowNs m)
  else j2.dropOne r.cls (nowNs m)

/-- R498 to R502: a record of the given class, code, source and payload enters the journal. -/
def jnlEnter (m : Pnm) (cls code source : Nat) (payload : List Byte) (j0 : Jnl) : Jnl :=
  if j0.pfSealed then { j0 with unjournaled := j0.unjournaled + 1 }
  else
    match findRec j0.buf (j0.flushing.getD 0) code source (some payload) with
    | some i => { j0 with buf := modAt j0.buf i (JRec.join m j0), coalesced := j0.coalesced + 1 }
    | none =>
      let r : JRec :=
        { cls := cls, code := code, source := source, payload := payload, count := 1,
          opSec := j0.opSec, opUs := opUsOf m j0, pcyc := j0.pcyc, modNs := nowNs m, lastSec := j0.opSec,
          lastUs := opUsOf m j0, rseq := 0 }
      if cls = 0 ∧ 2000 ≤ j0.cls0 then
        match findRec j0.held 0 code source none with
        | some i => { j0 with held := modAt j0.held i (JRec.join m j0) }
        | none => { j0 with held := j0.held ++ [r] }
      else jnlPut m r j0

/-- R496: the journal record of an event; event 0x20 is not journaled (R542). -/
def jnlEvent (m : Pnm) (ev : Ev) (j : Jnl) : Jnl :=
  if ev.code = 0x20 then j
  else jnlEnter m ev.cls ev.code ev.src (ev.items.flatMap (fun i => leBytes 2 i) ++ ev.extra) j

/-- R507: the members and the state changes of the alarm publication. -/
def almEvent (m : Pnm) (ev : Ev) (j : Jnl) : Jnl :=
  { j with almCount := modAt j.almCount ev.cls (fun c => (c + 1) % 2 ^ 32),
           almCode := modAt j.almCode ev.cls (fun _ => ev.code),
           almDue := j.almDue || (rb m Reg.JNL_ALM 0 &&
             (decide (ev.cls ≤ 1) || (decide (ev.cls = 2) && decide (j.almHold ≤ m.tim.edge)))),
           almHold := if ev.cls = 2 ∧ j.almHold ≤ m.tim.edge then m.tim.edge + 100 * edgesMs else j.almHold }

/-! ## Raising an event -/

/-- An event reaches the rings of its receivers, the journal and the alarm publication (R489); nothing happens where
`c` is false. -/
def raiseT (m : Pnm) (c : Bool) (ev : Ev) (t : Tel) : Tel :=
  if c then
    let r := ev.fns.foldl (evtTo m ev) (evtTo m ev (t.evts, t.out) 0)
    { t with evts := r.1, out := r.2, jnl := almEvent m ev (jnlEvent m ev t.jnl) }
  else t

/-! ## Snapshots (R70, R516, R517) -/

/-- D: the selected clock minus module time, in 2^-32 ns (R48); 0 before RUN. -/
def slewD (t : Tim) : Int :=
  if t.running then sx 96 ((if t.selB then t.clkB else t.clkA) + 2 ^ 96 - t.mt) else 0

/-- The TIM snapshot: clocks A and B, module time (ns low, ns high, fraction) and D in ns (R70). -/
def timSnapWords (t : Tim) : List Word :=
  let three := fun (c : Nat) => [loW (c / nsU), hiW (c / nsU), loW (c % nsU)]
  let d := ux 64 (slewD t / (nsU : Int))
  three t.clkA ++ three t.clkB ++ three t.mt ++ [loW d, hiW d]

/-- Health-node states of 16 nodes packed two bits each (DIA table 1). -/
def nodePack (d : Dia) (k : Nat) : Word :=
  loW ((List.range 16).foldl (fun a i => a + (NMap.get nodeDflt d.nodes (16 * k + i)).state * 4 ^ i) 0)

/-- Counters of the blocks in words 496 to 511 of the bank. -/
def bankRegs : List Nat :=
  [Reg.SVI_RX_UNMATCHED, Reg.SVI_RX_MATCH_DROP, Reg.SVI_PLANES_CLOSED, Reg.FPE_SAT_COUNT, Reg.GTE_FIRED,
   Reg.GTE_MISSED, Reg.GTE_SLIP_COUNT, Reg.CYE_OVERRUNS, Reg.CYE_SKIPS, Reg.CYE_FALLBACKS, Reg.OUT_PUB_SENT,
   Reg.OUT_SUB_UNMATCHED, Reg.OUT_LOCK_RELEASES, Reg.HIF_ACCEPTED, Reg.CAP_RECORDS, Reg.SIO_TEST_FAILS]

/-- Word w of the snapshot bank (DIA table 1). -/
def bankWord (m : Pnm) (t : Tel) (seq src code w : Nat) : Word :=
  if w = 0 then loW seq else if w = 1 then loW src
  else if w = 2 then loW (nowNs m) else if w = 3 then hiW (nowNs m)
  else if w = 4 then loW t.jnl.opSec else if w = 5 then loW (opUsOf m t.jnl)
  else if w = 6 then loW t.jnl.pcyc else if w = 7 then loW code
  else if 16 ≤ w ∧ w < 496 then
    let p := (w - 16) / 40; let i := (w - 16) % 40
    if i < 32 then rd m (Reg.port (Reg.MAC_PORT_CNT + 4 * i) p)
    else if i < 36 then rd m (Reg.port (Reg.MAC_RX_OCTETS_LO + 4 * (i - 32)) p)
    else 0
  else if 496 ≤ w ∧ w < 512 then rd m (bankRegs.getD (w - 496) 0)
  else if 512 ≤ w ∧ w < 520 then rd m (Reg.PAR_CNT + 4 * (w - 512))
  else if 520 ≤ w ∧ w < 524 then t.jnl.dropCnt.getD (w - 520) 0
  else if 528 ≤ w ∧ w < 656 then nodePack t.dia (w - 528)
  else 0

/-- R516, R517: a snapshot trigger of one source (bit mask) with an event code; triggers on one edge give one snapshot, and a
locked bank counts the miss. -/
def snapT (m : Pnm) (c : Bool) (src code : Nat) (t : Tel) : Tel :=
  let same := c && decide (t.dia.snapEdge = some m.tim.edge)
  let take := c && !same && !t.dia.locked
  let seq := t.dia.seq + 1
  let d : Dia :=
    if same then
      let s := Nat.lor t.dia.source src
      { t.dia with source := s, bank := (t.dia.bank.set 1 (loW s)).set 7 (if code = 0 then wrd t.dia.bank 7 else loW code) }
    else if take then
      { t.dia with bank := (List.range 656).map (bankWord m t seq src code), timSnap := timSnapWords m.tim,
                   seq := seq, source := src, snapEdge := some m.tim.edge, locked := rb m Reg.DIA_SNAP_CFG 0 }
    else if c then { t.dia with missed := t.dia.missed + 1, flags := setBit t.dia.flags 1 true }
    else t.dia
  raiseT m take { src := 14, code := 0x06, cls := 3, items := [seq % 65536, src] } { t with dia := d }

/-- An event with the snapshot it may trigger (R516, EVT_EN). -/
def eventT (m : Pnm) (c : Bool) (ev : Ev) (t : Tel) : Tel :=
  snapT m (c && rb m Reg.DIA_SNAP_CFG 1 && decide (rf m Reg.DIA_SNAP_CFG 15 8 = ev.code)) 2 ev.code (raiseT m c ev t)

/-- Raise an event where `c` holds. -/
def raiseIf (c : Bool) (ev : Ev) (m : Pnm) : Pnm := { m with tel := eventT m c ev m.tel }

/-- Raise an event. -/
def raise (ev : Ev) (m : Pnm) : Pnm := raiseIf true ev m

/-- A snapshot trigger where `c` holds. -/
def snapIf (c : Bool) (src : Nat) (m : Pnm) : Pnm := { m with tel := snapT m c src 0 m.tel }

/-- A journal record that belongs to no event (JNL table 3). -/
def journal (cls code source : Nat) (payload : List Byte) (m : Pnm) : Pnm :=
  { m with tel := { m.tel with jnl := jnlEnter m cls code source payload m.tel.jnl } }

/-! ## The health tree (R518 to R521) -/

/-- The built-in children of a node (DIA table 2). -/
def builtinKids (p : Nat) : List Nat :=
  if p = 0 then [1, 2]
  else if p = 1 then List.range' 16 16
  else if p = 18 then List.range' 32 12
  else if p = 20 then List.range' 48 4
  else if p = 22 then List.range' 64 16 ++ List.range' 256 512
  else if p = 24 then List.range' 80 24
  else if p = 25 then List.range' 768 257
  else []

/-- The states of the children of node p that are not ABSENT (R519). -/
def kidStates (d : Dia) (p : Nat) : List Nat :=
  ((builtinKids p).map (fun k => (NMap.get nodeDflt d.nodes k).state) ++
   (d.nodes.filter (fun q => decide (q.1 ≠ p ∧ q.2.en = true ∧ q.2.parent = p ∧ (1280 ≤ q.1 ∨ q.1 = 0)))).map
     (·.2.state)).filter (· ≠ 3)

/-- R519: the aggregate of a node's children. -/
def aggregate (typ k : Nat) (c : List Nat) : Nat :=
  let worst := c.foldl max 0
  if typ = 0 ∨ c = [] then 0
  else if typ = 1 then worst
  else if typ = 2 then (if c.all (· = 2) then 2 else if c.any (· ≠ 0) then 1 else 0)
  else if typ = 3 then (if (c.filter (· ≠ 2)).length < k then 2 else if c.any (· ≠ 0) then 1 else 0)
  else if worst = 2 then 1 else worst

/-- R519: the state of a node with its own state and its children. -/
def nodeState (d : Dia) (n : Nat) (nd : Node) : Nat :=
  if nd.own = 3 ∨ nd.en = false then 3 else max nd.own (aggregate nd.typ nd.k (kidStates d n))

/-- R521: recompute node n and its ancestors; each change of STATE raises event 0x03, and an entry into FAILED sets
DIA_FLAGS.NODE_FAILED and starts a flush (R500); a change of node 0 or 1 is a state change of the alarm publication (R507). -/
def recomputeT (m : Pnm) : Nat → Nat → Tel → Tel
  | 0, _, t => t
  | fuel + 1, n, t =>
    let nd := NMap.get nodeDflt t.dia.nodes n
    let st := nodeState t.dia n nd
    let ch := decide (st ≠ nd.state)
    let rs := if st = 0 ∨ st = 3 then 0 else (nd.causes.foldl (fun (b : Nat × Nat) c =>
      if b.2 < c.2 then c else b) (0, 0)).1
    let nd' : Node :=
      { nd with
        state := st, reason := rs, changes := if ch then satAdd 65535 nd.changes 1 else nd.changes,
        last := if ch then nowNs m else nd.last }
    let d' : Dia :=
      { t.dia with
        nodes := NMap.set nodeDflt t.dia.nodes n nd',
        flags := if ch && decide (st = 2) then setBit t.dia.flags 3 true else t.dia.flags }
    let t1 := eventT m ch { src := 14, code := 0x03, cls := if st = 2 ∨ nd.state = 2 then 1 else 2,
                            items := [n, st, rs] } { t with dia := d' }
    let t2 : Tel :=
      { t1 with
        jnl := { (if ch && decide (st = 2) then t1.jnl.startFlush else t1.jnl) with
                 almDue := t1.jnl.almDue || (ch && decide (n ≤ 1) && rb m Reg.JNL_ALM 0) } }
    if ch ∧ nd.parent ≠ 0x7FF then recomputeT m fuel nd.parent t2 else t2

/-- The own state that a node's causes give: the worst of them (R518). -/
def ownOf (used : Bool) (causes : List (Nat × Nat)) : Nat :=
  if used then causes.foldl (fun a c => max a c.2) 0 else 3

/-- A cause of node n's own state appears (state 1 or 2) or goes (state 0), named by its REASON. -/
def nodeCauseT (m : Pnm) (n reason st : Nat) (t : Tel) : Tel :=
  let nd := NMap.get nodeDflt t.dia.nodes n
  let cs := nd.causes.filter (fun c => decide (c.1 ≠ reason)) ++ (if st = 0 then [] else [(reason, st)])
  let nd' : Node := { nd with causes := cs, own := if nd.own = 3 then 3 else ownOf true cs }
  recomputeT m 2048 n { t with dia := { t.dia with nodes := NMap.set nodeDflt t.dia.nodes n nd' } }

/-- Node n comes into use, or leaves it and is ABSENT (R518). -/
def nodeUseT (m : Pnm) (n : Nat) (used : Bool) (t : Tel) : Tel :=
  let nd := NMap.get nodeDflt t.dia.nodes n
  let nd' : Node := { nd with own := ownOf used nd.causes }
  recomputeT m 2048 n { t with dia := { t.dia with nodes := NMap.set nodeDflt t.dia.nodes n nd' } }

/-- A cause of a node's own state appears or goes. -/
def nodeCause (n reason st : Nat) (m : Pnm) : Pnm := { m with tel := nodeCauseT m n reason st m.tel }

/-- A node comes into use or leaves it. -/
def nodeUse (n : Nat) (used : Bool) (m : Pnm) : Pnm := { m with tel := nodeUseT m n used m.tel }

/-! ## The degradation ladder (R37 to R39) -/

/-- The health node of a step's cause (Work table 5). -/
def stepNode (step cause : Nat) : Nat :=
  if step = 1 then 17 else if step = 2 then 19 else if step = 3 then 20 else if step = 4 then 32 + cause
  else if step = 5 then 256 + cause else 25

/-- Steps 1, 2, 3 and 5 have the minimum dwell of 1 s (R39). -/
def stepDwells (step : Nat) : Bool := decide (step ≠ 4 ∧ step ≠ 6)

/-- The VFs that exist. -/
def vfList (m : Pnm) : List Nat := (m.hif.vfs.filter (fun p => decide (p.2 ≠ .absent))).map (·.1)

/-- The event of a step: code 0x30 to 0x35, 1 on entry and 0 on leaving (R37). -/
def stepEvent (m : Pnm) (step on : Nat) : Ev :=
  { src := if step = 1 then 1 else if step = 2 then 3 else if step = 3 then 4 else if step = 4 then 2
           else if step = 5 then 6 else 9,
    code := 0x2F + step, cls := 2, items := [on], fns := vfList m }

/-- Step `step` of the ladder. -/
def getStep (m : Pnm) (step : Nat) : Step :=
  m.ladder.steps.getD (step - 1) { on := false, since := 0, trig := [], marked := [] }

/-- A step of the ladder is active. -/
def stepOn (m : Pnm) (step : Nat) : Bool := (getStep m step).on

/-- R37: a trigger of a step appears. -/
def ladderEnter (step cause : Nat) (m : Pnm) : Pnm :=
  let s := getStep m step
  let s' : Step := { on := true, since := if s.on then s.since else m.tim.edge,
                     trig := if s.trig.contains cause then s.trig else s.trig ++ [cause],
                     marked := if s.marked.contains cause then s.marked else s.marked ++ [cause] }
  { m with ladder := { m.ladder with steps := setAt m.ladder.steps (step - 1) s' },
           tel := nodeCauseT m (stepNode step cause) step 1 (eventT m (!s.on) (stepEvent m step 1) m.tel) }

/-- R37, R39: the step is left: event, node reasons and the DEGRADE bit. -/
def ladderLeave (step : Nat) (m : Pnm) : Pnm :=
  let s := getStep m step
  let off : Step := { on := false, since := 0, trig := [], marked := [] }
  { m with ladder := { m.ladder with steps := setAt m.ladder.steps (step - 1) off },
           tel := s.marked.foldl (fun t c => nodeCauseT m (stepNode step c) step 0 t)
             (eventT m s.on (stepEvent m step 0) m.tel) }

/-- R37, R39: a trigger of a step goes. Without a trigger the step is left at once, or at the end of its dwell. -/
def ladderClear (step cause : Nat) (m : Pnm) : Pnm :=
  let s := getStep m step
  let tr := s.trig.filter (· ≠ cause)
  if s.on && tr.isEmpty && (!stepDwells step || decide (s.since + edgesS ≤ m.tim.edge)) then ladderLeave step m
  else if s.on && !tr.isEmpty then
    let s' : Step := { s with trig := tr, marked := s.marked.filter (· ≠ cause) }
    { m with ladder := { m.ladder with steps := setAt m.ladder.steps (step - 1) s' },
             tel := nodeCauseT m (stepNode step cause) step 0 m.tel }
  else
    { m with ladder := { m.ladder with steps := setAt m.ladder.steps (step - 1) { s with trig := tr } } }

/-- The DEGRADE bits of the active steps (Work table 5). -/
def degradeNow (m : Pnm) : Nat := (List.range 6).foldl (fun a i => a + b2n (stepOn m (i + 1)) * 2 ^ i) 0

end Sys2Proof.Machine
end

