-- ==== Sys2Proof/Machine/Chain.lean ====
section
/-! DEFINITION. Sample rates, quality, profiles and the arithmetic of a slot's chain: FIR stages, plane resampler, group
delay, fade (chapters 04 and 05). Instants are grid ticks since second 0. -/

namespace Sys2Proof.Machine

/-- Grid ticks in a second (R68). -/
def ticksPerSec : Nat := 1152000

/-- Grid ticks per sample of a rate code (SVI table 1); 0 for a reserved code. -/
def svN (code : Nat) : Nat :=
  if code = 1 then 288 else if code = 2 then 240 else if code = 3 then 90 else if code = 4 then 80
  else if code = 5 then 75 else if code = 6 then 12 else 0

/-- Samples per second of a rate code; 0 for a reserved code. -/
def svRate (code : Nat) : Nat := if svN code = 0 then 0 else ticksPerSec / svN code

/-! ## Quality and flags (R121 to R123) -/

/-- The validity of SVI table 4; 0b10 received counts as invalid. -/
def validity (q : Nat) : Nat := if q % 4 = 2 then 1 else q % 4

/-- The worse of two validities, in the order good, questionable, invalid. -/
def worseValidity (a b : Nat) : Nat := if a = 1 ∨ b = 1 then 1 else if a = 3 ∨ b = 3 then 3 else 0

/-- R123: two qualities combined: worst validity and the OR of bits [13:2]. -/
def qJoin (a b : Nat) : Nat :=
  worseValidity (validity a) (validity b) + (Nat.lor (a / 4 % 4096) (b / 4 % 4096)) * 4

/-- Raise a quality's validity from good to questionable. -/
def qQuest (q : Nat) : Nat := qJoin q 3

/-- SUBST equals MISSING, and FLAGGED says that the flag word is not zero (R123). -/
def qFinish (q f : Nat) : Nat := q % 16384 + (if f.testBit 0 then 0x4000 else 0) + (if f = 0 then 0 else 0x8000)

/-- A value whose every sample is missing (R113, R115): 0, invalid, MISSING. -/
def Val.missing : Val := { v := 0, q := 1, f := 1 }

/-- The quality and flags of several values combined; the value is the first argument. -/
def Val.join (v : Int) (l : List Val) : Val :=
  { v := v, q := l.foldl (fun a x => qJoin a x.q) 0, f := l.foldl (fun a x => Nat.lor a x.f) 0 }

/-! ## Profiles (R135, R140 to R144) -/

/-- A stage of a profile word: TAPS, DEC_M1, BASE. -/
def stageWord (taps dec base : Nat) : Word := loW (taps + 256 * (dec - 1) + 65536 * base)

/-- The preset profiles 0 to 7 (FPE table 1); their coefficients occupy no words. -/
def presetWords (p : Nat) : List Word :=
  let w := fun (rate s1 s2 rs delay : Nat) => [loW rate, loW s1, loW s2, 0, loW rs, loW delay, 0, 0]
  if p = 0 then w 15 0 0 0 0
  else if p = 1 then w 2 3 0 0 240
  else if p = 2 then w 1 0 0 (2 + 256 * 6) 288
  else if p = 3 then w 4 (7 + 256 * 2) 0 0 240
  else if p = 4 then w 3 (31 + 256) 0 (4 + 256 * 3) 1710
  else if p = 5 then w 5 (31 + 256) 0 (4 + 256 * 5) 1425
  else if p = 6 then w 6 (21 + 256 * 4) (31 + 256 * 3) 0 1020
  else w 1 15 0 (4 + 256 * 6) 2592

/-- The first half and centre tap of the preset stages (R142), in Q1.22. -/
def presetHalf (p stage : Nat) : List Int :=
  if p = 1 then [0x100000, 0x200000]
  else if p = 3 then [23455, 268520, 1037620, 1535115]
  else if p = 4 then
    [-6593, -6086, 4718, 18717, 10809, -29332, -54649, 0, 103859, 107572, -78859, -283611, -155694, 454276, 1223817,
     1576413]
  else if p = 5 then
    [5905, 7913, 2393, -13171, -27569, -15797, 32704, 81881, 62153, -57936, -201129, -199571, 78988, 590664, 1096069,
     1307311]
  else if p = 6 then
    if stage = 0 then
      [-10911, -13841, -16820, -8218, 27945, 104152, 221199, 363869, 503211, 605222, 642686]
    else
      [-2722, 2221, 9749, 18657, 22338, 10702, -22564, -71029, -111100, -107230, -26812, 141354, 374683, 618577,
       803830, 872998]
  else if p = 7 then [-14563, 16480, 0, -86164, 272843, -526780, 751657, 3367359]
  else []

/-- R142: a coefficient n/d rounded convergently to Q1.22. -/
def q22 (n : Int) (d : Nat) : Int := roundHalfEven (n * 2 ^ 22) d

/-- The linear and cubic resampler rows at the fraction a/b (R142). -/
def linRow (a b : Nat) : List Int := [q22 ((b : Int) - a) b, q22 a b]

/-- R142: the four cubic coefficients at the fraction a/b. -/
def cubRow (a b : Nat) : List Int :=
  let x : Int := a; let n : Int := b; let d := 6 * b * b * b
  [q22 (-(x * (x - n) * (x - 2 * n))) d, q22 (3 * ((x + n) * (x - n) * (x - 2 * n))) d,
   q22 (-(3 * ((x + n) * x * (x - 2 * n)))) d, q22 ((x + n) * x * (x - n)) d]

/-- The words of profile p (R141, R143). -/
def profWords (m : Pnm) (p : Nat) : List Word :=
  if p < 8 then presetWords p else if p < 16 then profDflt p else NMap.get profDflt m.fpe.prof p

/-- RATE of a profile. -/
def pRate (e : List Word) : Nat := fld e 0 3 0

/-- The present stages of a profile: taps, decimation, base (R135). -/
def pStages (e : List Word) : List (Nat × Nat × Nat) :=
  ([1, 2, 3].map fun i => (fld e i 7 0, fld e i 10 8 + 1, fld e i 31 16)).takeWhile fun s => decide (s.1 ≠ 0)

/-- RS_Q, RS_PHASES and RS_BASE. -/
def pQ (e : List Word) : Nat := fld e 4 4 0
def pPhases (e : List Word) : Nat := fld e 4 14 8
def pRsBase (e : List Word) : Nat := fld e 4 31 16

/-- M_out for an input spacing of `n` grid ticks. -/
def mOut (e : List Word) (n : Nat) : Nat := (pStages e).foldl (fun a s => a * s.2.1) n

/-- R140: the group delay in grid ticks for an input spacing of `n`. -/
def groupDelay (e : List Word) (n : Nat) : Nat :=
  let r := (pStages e).foldl (fun (a : Nat × Nat) s => (a.1 * s.2.1, a.2 + (s.1 - 1) / 2 * a.1)) (n, 0)
  r.2 + pQ e / 2 * r.1

/-- DELAY_GT of a profile (R140). -/
def delayGt (e : List Word) : Nat := if svN (pRate e) = 0 then 0 else groupDelay e (svN (pRate e))

/-- A word of coefficient memory as a signed number (R137, R144). -/
def coefAt (m : Pnm) (w : Nat) : Int := sx 24 (NMap.get (fun _ => 0) m.fpe.coef w).toNat

/-- The N symmetric coefficients of stage i of profile p (R134, R144). -/
def stageCoef (m : Pnm) (p i taps base : Nat) : List Int :=
  let h := if p < 8 then presetHalf p i else (List.range ((taps + 1) / 2)).map fun k => coefAt m (base + k)
  h ++ h.dropLast.reverse

/-- The Q coefficients of phase i of a profile's resampler (R136, R144). -/
def rsCoef (m : Pnm) (p i : Nat) (e : List Word) : List Int :=
  if p < 8 then (if pQ e = 2 then linRow i (pPhases e) else cubRow i (pPhases e))
  else (List.range (pQ e)).map fun q => coefAt m (pRsBase e + i * pQ e + q)

/-! ## FIR stages and resampler (R134 to R139) -/

/-- R137: round_conv of an accumulator at 22 bits, saturated to INT32; true where it saturates. -/
def outQ22 (acc : Int) : Int × Bool :=
  let y := roundHalfEven acc (2 ^ 22)
  (satS 32 y, decide (satS 32 y ≠ y))

/-- The weighted sum of values with its combined quality and flags; OVERFLOW where it saturates (R138). -/
def weigh (co : List Int) (xs : List Val) : Val × Bool :=
  let acc := (co.zip xs).foldl (fun a p => a + p.1 * p.2.v) 0
  let r := outQ22 acc
  let j := Val.join r.1 xs
  ({ j with q := if r.2 then qJoin j.q 4 else j.q }, r.2)

/-- The value of a level at an instant; a value that was never delivered is missing (R115). -/
def smpAt (l : List Smp) (g : Int) : Val :=
  match l.find? (fun s => decide (s.g = g)) with
  | some s => s.x
  | none => Val.missing

/-- One value enters a level of a chain and what follows from it (R134): the levels, newest first, and how many outputs
saturated. `st` lists taps, decimation and coefficients of the stages from this level on; `mIn` is the spacing. -/
def feed : List (Nat × Nat × List Int) → Nat → List (List Smp) → Smp → List (List Smp) × Nat
  | [], _, lv, s => ([(s :: lv.headD []).take 520], 0)
  | (n, d, co) :: st, mIn, lv, s =>
    let l0 := (s :: lv.headD []).take n
    let half : Int := ((n - 1) / 2 : Nat)
    let tau := s.g - half * mIn
    if tau % ((mIn * d : Nat) : Int) = 0 then
      let xs := (List.range n).map fun (i : Nat) => smpAt l0 (tau + ((i : Int) - half) * mIn)
      let y := weigh co xs
      let r := feed st (mIn * d) lv.tail { g := tau, x := y.1 }
      (l0 :: r.1, r.2 + b2n y.2)
    else (l0 :: lv.tail, 0)

/-- The stages of profile p with their coefficients. -/
def legStages (m : Pnm) (p : Nat) : List (Nat × Nat × List Int) :=
  (pStages (profWords m p)).zipIdx.map fun x => (x.1.1, x.1.2.1, stageCoef m p x.2 x.1.1 x.1.2.2)

/-- The stage outputs of a leg. -/
def legZ (m : Pnm) (l : Leg) : List Smp := l.lv.getD (pStages (profWords m l.prof)).length []

/-- R136: the plane value of a leg at grid tick T, for a stream spacing of `n`. -/
def legPlane (m : Pnm) (l : Leg) (n : Nat) (P T : Nat) : Val × Bool :=
  let e := profWords m l.prof
  let z := legZ m l
  let mo := mOut e n
  if pQ e = 0 ∨ mo = 0 then (smpAt z T, false)
  else
    let tn := T / mo * mo
    let g := Nat.gcd mo P
    let xs := (List.range (pQ e)).map fun (q : Nat) =>
      smpAt z ((tn : Int) + ((q : Int) - ((pQ e / 2 : Nat) : Int) + 1) * (mo : Int))
    weigh (rsCoef m l.prof ((T - tn) / g) e) xs

/-- R150: the fade step of a leg at an instant: 0 before its fade, 2^log2 from its end on. -/
def fadeStep (l : Leg) (P : Nat) (g : Int) : Nat :=
  match l.fadeAt with
  | none => 2 ^ l.log2
  | some ks => min (2 ^ l.log2) (-(((ks : Int) - g) / ((max P 1 : Nat) : Int)) + 1).toNat

/-- R150: the value faded between old and new at step j of 2^log2. -/
def fade (log2 j : Nat) (old new : Val) : Val :=
  if j = 0 then old else if 2 ^ log2 ≤ j then new
  else Val.join (roundHalfEven (((2 ^ log2 : Nat) - j : Int) * old.v + (j : Int) * new.v) (2 ^ log2)) [old, new]

/-- The plane value of a slot: its legs folded in order, and the saturated outputs among them. -/
def chainPlane (m : Pnm) (legs : List Leg) (n P T : Nat) : Val × Nat :=
  legs.foldl (fun (a : Val × Nat) l =>
    let j := fadeStep l P T
    if j = 0 then a
    else
      let y := legPlane m l n P T
      (fade l.log2 j a.1 y.1, a.2 + b2n y.2)) (Val.missing, 0)

/-- The stage output that the phasor path sees at an instant (R150). -/
def chainZ (m : Pnm) (legs : List Leg) (P : Nat) (g : Int) : Val :=
  legs.foldl (fun a l =>
    let j := fadeStep l P g
    if j = 0 then a else fade l.log2 j a (smpAt (legZ m l) g)) Val.missing

/-- A leg has faded in whole at plane tick T. -/
def faded (P T : Nat) (l : Leg) : Bool := decide (fadeStep l P T = 2 ^ l.log2)

/-- One input enters the running legs of a slot: those that no later leg has replaced. Answers the saturated outputs. -/
def feedLegs (m : Pnm) (n P T : Nat) (s : Smp) : List Leg → List Leg × Nat
  | [] => ([], 0)
  | l :: t =>
    let r := feedLegs m n P T s t
    if t.any (faded P T) then (l :: r.1, r.2)
    else
      let y := feed (legStages m l.prof) n l.lv s
      ({ l with lv := y.1 } :: r.1, r.2 + y.2)

/-- The latest input of a slot's stage 1 (R139). -/
def lastInput (legs : List Leg) : Option Smp := (legs.getLast?).bind fun l => (l.lv.headD []).head?

end Sys2Proof.Machine
end

