-- ==== Sys2Proof/Machine/Key.lean ====
section
/-! DEFINITION. KEY: measurements, derivation, slots, import and retirement, stored records, migration, life cycle and
attestation (chapter 15). An engine's use of a key begins and ends within one command; the operations that are in flight
when a key is retired are an operand of KEY_RETIRE (R476). -/

namespace Sys2Proof.Machine

/-! ## Measurements and derivation (R459 to R463) -/

/-- MR := SHA-384(MR followed by D) for register i. -/
def mrExtend (i : Nat) (d : List Byte) (m : Pnm) : Pnm :=
  let mr := modAt m.key.mr i fun x => Config.sha384 (x ++ d)
  let m1 := { m with key := { m.key with mr := mr } }
  if i = 3 ∧ rd m Reg.KEY_MR3_COUNT ≠ 0xFFFFFFFF#32 then inc m1 Reg.KEY_MR3_COUNT else m1

/-- Measurement register i. -/
def mrOf (m : Pnm) (i : Nat) : List Byte := m.key.mr.getD i []

/-- Counter-mode KDF of R461, `len` bits, under the root. -/
def kdf (label : List Nat) (context : List Byte) (len : Nat) : List Byte :=
  let tail := label.map (BitVec.ofNat 8) ++ [0] ++ context ++ beBytes 4 len
  (Config.hmac384 Config.root (beBytes 4 1 ++ tail) ++ Config.hmac384 Config.root (beBytes 4 2 ++ tail)).take (len / 8)

/-- The first three context fields (KEY table 2). -/
def ctxHead (m : Pnm) : List Byte :=
  [1, if m.key.lc = 3 then 3 else 1, if m.glb.straps.debugLock then 0 else 1]

/-- Subsystem ID (Scope table 1). -/
def subsystemId : Nat := 0x8100 + Config.variant.toNat

/-- A -K module. -/
def isK : Bool := Config.variant.getLsbD 1

/-- MR0 to MR2 as the context holds them. -/
def ctxMr (mr : List (List Byte)) : List Byte := mr.getD 0 [] ++ mr.getD 1 [] ++ mr.getD 2 []

/-- VARIANT and OWNER_SEED. -/
def ctxOwner (m : Pnm) : List Byte := beBytes 2 subsystemId ++ m.key.ownerSeed

/-- KWK under the given measurements (KEY table 3, "MHR-KWK"). -/
def kwkOf (m : Pnm) (mr : List (List Byte)) : List Byte :=
  kdf [0x4D, 0x48, 0x52, 0x2D, 0x4B, 0x57, 0x4B] (ctxHead m ++ ctxMr mr) 256

/-- KWK_ID under the given measurements ("MHR-KWKID"). -/
def kwkIdOf (m : Pnm) (mr : List (List Byte)) : Nat :=
  ofBe (kdf [0x4D, 0x48, 0x52, 0x2D, 0x4B, 0x57, 0x4B, 0x49, 0x44] (ctxHead m ++ ctxMr mr) 64)

/-- The journal sealing key ("MHR-JNL"). -/
def jnlKey (m : Pnm) : List Byte := kdf [0x4D, 0x48, 0x52, 0x2D, 0x4A, 0x4E, 0x4C] (ctxHead m) 256

/-- The order of the P-384 group (R462). -/
def p384n : Nat :=
  0xFFFFFFFFFFFFFFFFFFFFFFFFFFFFFFFFFFFFFFFFFFFFFFFFC7634D81F4372DDF581A0DB248B0A77AECEC196ACCC52973

/-- R462: a private key from a KDF output. -/
def privKey (c : List Byte) : Nat := ofBe c % (p384n - 1) + 1

/-- The attestation key ("MHR-AK"). -/
def akKey (m : Pnm) : Nat :=
  privKey (kdf [0x4D, 0x48, 0x52, 0x2D, 0x41, 0x4B] (ctxHead m ++ ctxOwner m ++ ctxMr m.key.mr) 512)

/-- The identity key ("MHR-IDK"). -/
def idkKey (m : Pnm) : Nat :=
  privKey (kdf [0x4D, 0x48, 0x52, 0x2D, 0x49, 0x44, 0x4B] (ctxHead m ++ ctxOwner m) 512)

/-- R463: IDK, and with it AK, exists. -/
def idkPresent (m : Pnm) : Bool :=
  m.key.rootOk && (decide (m.key.lc = 1 && !isK) || decide (m.key.lc = 2))

/-! ## Slots (R465, R466) -/

/-- Slot s; slot 0 is the derived JNL key (R465). -/
def getSlot (m : Pnm) (s : Nat) : KeySlot :=
  if s = 0 then
    if m.key.rootOk then
      { engine := 4, alg := 2, migratable := false, state := 1, parent := 0x1FF,
        p0 := { present := true, keyId := 0, notBefore := 0, notAfter := 0, key := jnlKey m }, p1 := KeyPos.none,
        gen := 0, lateUse := 0 }
    else KeySlot.init 0
  else NMap.get KeySlot.init m.key.slots s

/-- Store slot s. -/
def putSlot (s : Nat) (k : KeySlot) (m : Pnm) : Pnm :=
  { m with key := { m.key with slots := NMap.set KeySlot.init m.key.slots s k } }

/-- The stored record and commit word of slot s. -/
def getStore (m : Pnm) (s : Nat) : KeyStore := NMap.get KeyStore.init m.key.store s

/-- Change what is stored for slot s. -/
def putStore (s : Nat) (k : KeyStore) (m : Pnm) : Pnm :=
  { m with key := { m.key with store := NMap.set KeyStore.init m.key.store s k } }

/-- R466: a position of a slot is usable now. The image path ignores time while module time does not run. -/
def posUsable (m : Pnm) (image : Bool) (k : KeySlot) (p : KeyPos) : Bool :=
  p.present && decide (k.state = 1) &&
  (if m.tim.running then
     decide (p.notBefore ≤ nowNs m) && (decide (p.notAfter = 0) || decide (nowNs m ≤ p.notAfter))
   else image)

/-- The usable positions of a slot. -/
def usable (m : Pnm) (image : Bool) (k : KeySlot) : List KeyPos :=
  [k.p0, k.p1].filter (posUsable m image k)

/-- R466: the position that verification uses. -/
def verifyKey (m : Pnm) (image : Bool) (s id : Nat) : Option KeyPos :=
  (usable m image (getSlot m s)).find? fun p => decide (p.keyId = id)

/-- R466: the position that signing uses. -/
def signKey (m : Pnm) (s : Nat) : Option KeyPos :=
  (usable m false (getSlot m s)).foldl (fun b p =>
    match b with
    | some q => if q.notBefore < p.notBefore then some p else some q
    | none => some p) none

/-- R32: the slot is bound to the engine. -/
def boundTo (m : Pnm) (s engine : Nat) : Bool := decide ((getSlot m s).engine = engine)

/-- The tag of an algorithm of KEY table 5 over data. -/
def macTag (alg : Nat) (key iv data : List Byte) : List Byte :=
  if alg = 3 then Config.hmac256 key data else Config.gmac key iv data

/-- IEC 62351-6 verification of a frame with the key of a slot (R107, R294). -/
def authOk (m : Pnm) (slot : Nat) (a : Option Auth) : Bool :=
  match a with
  | none => false
  | some x =>
    match verifyKey m false slot x.keyId.toNat with
    | none => false
    | some p => decide (macTag (getSlot m slot).alg p.key (x.covered.take 12) x.covered = x.tag)

/-- Event 0x08: a slot's state changed. -/
def slotEvent (s st : Nat) (m : Pnm) : Pnm := raise { src := 12, code := 0x08, cls := 2, items := [s, st] } m

/-- Put slot s into a state, with the event where it is a change. -/
def setSlotState (s st : Nat) (m : Pnm) : Pnm :=
  let k := getSlot m s
  raiseIf (decide (k.state ≠ st)) { src := 12, code := 0x08, cls := 2, items := [s, st] }
    (putSlot s { k with state := st } m)

/-! ## Records (R472, R474) -/

/-- The IV of a position block: SLOT, position, copy, GEN, four zero bytes (R472). -/
def recIv (s pos : Nat) (copy : Bool) (gen : Nat) : List Byte :=
  beBytes 2 s ++ beBytes 1 pos ++ beBytes 1 (b2n copy) ++ beBytes 4 gen ++ [0, 0, 0, 0]

/-- The slot attribute word (KEY table 4). -/
def attrWord (k : KeySlot) (st : Nat) : Nat :=
  k.engine + 16 * k.alg + 256 * b2n k.migratable + 4096 * st + 65536 * k.parent

/-- Bytes 0x000 to 0x01F of a record. -/
def recHead (s gen attr kwkId mig : Nat) : List Byte :=
  leBytes 4 0x53425A4D ++ leBytes 4 (1 + 65536 * s) ++ leBytes 4 gen ++ leBytes 4 attr ++ leBytes 8 kwkId ++
    leBytes 8 mig

/-- Position bytes +0x00 to +0x2F. -/
def posHead (p : KeyPos) (alg : Nat) (iv : List Byte) : List Byte :=
  leBytes 8 (1 + 16 * alg + 256 * p.key.length) ++ leBytes 8 p.keyId ++ leBytes 8 p.notBefore ++
    leBytes 8 p.notAfter ++ iv ++ [0, 0, 0, 0]

/-- Seal a position under a wrapping key. -/
def sealPos (kwk head : List Byte) (s pos : Nat) (copy : Bool) (gen alg : Nat) (p : KeyPos) : SealedPos :=
  if p.present then
    let iv := recIv s pos copy gen
    let r := Config.gcmSeal kwk iv (head ++ posHead p alg iv) (p.key ++ List.replicate (96 - p.key.length) 0)
    { present := true, keyId := p.keyId, notBefore := p.notBefore, notAfter := p.notAfter, keyLen := p.key.length,
      iv := iv, cipher := r.1, tag := r.2 }
  else
    { present := false, keyId := 0, notBefore := 0, notAfter := 0, keyLen := 0, iv := [], cipher := [], tag := [] }

/-- A record of a slot (R472). -/
def sealRec (m : Pnm) (mr : List (List Byte)) (mig s : Nat) (copy : Bool) (gen : Nat) (k : KeySlot) : KeyRec :=
  let id := kwkIdOf m mr
  let kwk := kwkOf m mr
  let head := recHead s gen (attrWord k 1) id mig
  { gen := gen, engine := k.engine, alg := k.alg, migratable := k.migratable, parent := k.parent, kwkId := id,
    migTag := mig, p0 := sealPos kwk head s 0 copy gen k.alg k.p0, p1 := sealPos kwk head s 1 copy gen k.alg k.p1 }

/-- Open a position block; none where its tag fails. -/
def openPos (kwk head : List Byte) (alg : Nat) (p : SealedPos) : Option KeyPos :=
  if p.present then
    let q : KeyPos := { present := true, keyId := p.keyId, notBefore := p.notBefore, notAfter := p.notAfter,
                        key := List.replicate p.keyLen 0 }
    match Config.gcmOpen kwk p.iv (head ++ posHead q alg p.iv) p.cipher p.tag with
    | some t => some { q with key := t.take p.keyLen }
    | none => none
  else some KeyPos.none

/-- The committed copy of a slot. -/
def KeyStore.committed (k : KeyStore) : Option KeyRec := if k.copy then k.copy1 else k.copy0

/-- The other copy. -/
def KeyStore.other (k : KeyStore) : Option KeyRec := if k.copy then k.copy0 else k.copy1

/-- Replace the other copy. -/
def KeyStore.setOther (k : KeyStore) (r : Option KeyRec) : KeyStore :=
  if k.copy then { k with copy0 := r } else { k with copy1 := r }

/-- The GEN of a slot's next record (R472). -/
def nextGen (m : Pnm) (st : KeyStore) : Nat := if st.crcOk && st.written then st.gen + 1 else m.key.genMax + 1

/-- R474: the record of a slot is written to the uncommitted copy and committed. -/
def commitRec (s : Nat) (k : KeySlot) (m : Pnm) : Pnm :=
  let st := getStore m s
  let g := nextGen m st
  let st1 := st.setOther (some (sealRec m m.key.mr 0 s (!st.copy) g k))
  let m1 := putStore s { st1 with valid := true, copy := !st.copy, pend := false, gen := g, crcOk := true,
                                  written := true, wasInval := false } m
  putSlot s { k with gen := g } { m1 with key := { m1.key with genMax := max m.key.genMax g } }

/-- R474, R475: VALID 0 with the same GEN, and both copies erased. -/
def commitInvalid (s : Nat) (m : Pnm) : Pnm :=
  let st := getStore m s
  putStore s { st with valid := false, pend := false, copy0 := none, copy1 := none, written := true,
                       wasInval := true, crcOk := true } m

/-! ## Invalidation (R475) -/

/-- The slots whose PARENT names s. -/
def childrenOf (m : Pnm) (s : Nat) : List Nat :=
  (m.key.slots.filter fun p => decide (p.2.parent = s ∧ p.1 ≠ s ∧ p.2.state ≠ 0)).map (·.1)

/-- R475: a slot and its descendants, parents before children; the depth is at most 8 (R477). -/
def descend (m : Pnm) : Nat → List Nat → List Nat
  | 0, l => l
  | n + 1, l => if l = [] then [] else l ++ descend m n (l.flatMap (childrenOf m))

/-- R475: slot s and every descendant become INVALIDATED; keys are zeroised and commit words written. -/
def invalidate (s : Nat) (m : Pnm) : Pnm :=
  (descend m 8 [s]).foldl (fun x i =>
    let k := getSlot x i
    let x1 := raiseIf (decide (k.state ≠ 2)) { src := 12, code := 0x08, cls := 2, items := [i, 2] }
      (putSlot i { k with state := 2, p0 := KeyPos.none, p1 := KeyPos.none } x)
    commitInvalid i x1) m

/-! ## Commands (R467 to R471) -/

/-- Key bytes of an algorithm. -/
def algBytes (a : Nat) : Nat := if a = 1 then 16 else if a = 4 then 96 else 32

/-- A row of KEY table 5: engine and algorithm. -/
def algRow (e a : Nat) : Bool :=
  if a = 1 then decide (e = 1 ∨ e = 2) else if a = 2 then decide (e = 1 ∨ e = 2 ∨ e = 3)
  else if a = 3 then decide (e = 1 ∨ e = 2) else if a = 4 then decide (e = 5)
  else if a = 5 then decide (e = 6) else false

/-- Depth of a slot in the parent tree (R477). -/
def depthOf (m : Pnm) : Nat → Nat → Nat
  | 0, _ => 0
  | n + 1, s => let k := getSlot m s; if k.parent = 0x1FF then 1 else 1 + depthOf m n k.parent

/-- R468: the first failing check of KEY table 7 (0 when none fails), the slot, and the plain key. -/
def importCheck (m : Pnm) (len : Nat) (b : List Byte) : Nat × Nat × List Byte :=
  let w := fun o => leAt b o 4
  let slot := bitsN (w 8) 8 0
  let attr := w 0xC
  let engine := bitsN attr 2 0
  let alg := bitsN attr 6 4
  let mig := attr.testBit 8
  let parent := bitsN attr 24 16
  let klen := leAt b 0x28 1
  let wslot := bitsN (w 8) 24 16
  let k := getSlot m slot
  let ws := getSlot m wslot
  let clear := decide (wslot = 0x1FF)
  let body := bytesAt b 0x40 klen
  let tag := bytesAt b (0x40 + klen) 16
  let iv := bytesAt b 0x2C 12
  let opened := (usable m false ws).findSome? fun p => Config.gcmOpen p.key iv (bytesAt b 0 0x40) body tag
  let ps := getSlot m parent
  let nb := leAt b 0x18 8
  let na := leAt b 0x20 8
  let code :=
    if len ≠ 80 + klen ∨ 192 < len then 1
    else if w 0 ≠ 0x4B425A4D ∨ leAt b 4 2 ≠ 1 ∨ leAt b 6 2 ≠ 64 ∨ leAt b 0x38 8 ≠ 0 ∨ slot = 0 then 2
    else if algRow engine alg = false ∨ klen ≠ algBytes alg then 3
    else if k.state = 1 ∧ (k.alg ≠ alg ∨ k.engine ≠ engine) then 4
    else if clear ∧ (m.key.lc ≠ 1 ∨ inMaint m = false ∨ engine ≠ 6) then 5
    else if !clear ∧ (ws.state ≠ 1 ∨ ws.engine ≠ 6 ∨ usable m false ws = []) then 6
    else if !clear ∧ opened = none then 7
    else if parent ≠ 0x1FF ∧ (parent = slot ∨ ps.state ≠ 1 ∨ ps.engine ≠ 6 ∨ 7 < depthOf m 9 parent ∨
        (mig ∧ ps.migratable = false)) then 8
    else if na ≠ 0 ∧ (na ≤ nb ∨ na ≤ nowNs m) then 9
    else 0
  (code, slot, if clear then body else opened.getD [])

/-- R471: an update of the slot is being committed. -/
def updating (m : Pnm) (s : Nat) : Bool := m.key.updates.any fun u => decide (u.slot = s)

/-- R467, R468: a KEY_IMPORT is decided; an accepted one completes with the commit. -/
def keyImport (ref : CmdRef) (len : Nat) (b : List Byte) (m : Pnm) : Pnm × Option Ans :=
  if len = 0 then (m, some (ans 0x01))
  else if rf m Reg.KEY_MIG_STAT 1 0 ≠ 0 then (m, some (ans 0x1F))
  else
    let c := importCheck m len b
    if c.1 ≠ 0 then (m, some (ansR 0x1E c.1 c.2.1))
    else
      let attr := leAt b 0xC 4
      let k := getSlot m c.2.1
      let p : KeyPos :=
        { present := true, keyId := leAt b 0x10 8, notBefore := leAt b 0x18 8, notAfter := leAt b 0x20 8,
          key := c.2.2 }
      let base := if k.state = 1 then k else KeySlot.init 0
      let n : KeySlot :=
        { base with
          engine := bitsN attr 2 0, alg := bitsN attr 6 4, migratable := attr.testBit 8, state := 1,
          parent := bitsN attr 24 16,
          p0 := if bitsN (leAt b 8 4) 12 12 = 0 then p else base.p0,
          p1 := if bitsN (leAt b 8 4) 12 12 = 0 then base.p1 else p }
      ({ m with key := { m.key with updates := m.key.updates ++ [{ slot := c.2.1, new := n, ref := some ref }] } },
       none)

/-- R470: a KEY_RETIRE is decided at acceptance. -/
def keyRetire (s mask : Nat) (m : Pnm) : Pnm × Option Ans :=
  if mask % 4 = 0 then (m, some (ans 0x01))
  else
    let k := getSlot m s
    if s = 0 ∨ k.state ≠ 1 then (m, some (ans 0x14))
    else
      let k1 := { k with p0 := if mask % 2 = 1 then KeyPos.none else k.p0,
                         p1 := if mask / 2 % 2 = 1 then KeyPos.none else k.p1 }
      if k1.p0.present = false ∧ k1.p1.present = false then (invalidate s m, some (ans 0))
      else
        let m1 := putSlot s k1 m
        ({ m1 with key := { m1.key with updates := m1.key.updates ++ [{ slot := s, new := k1, ref := none }] } },
         some (ans 0))

/-- R476: an operation of slot s, in flight when the slot became INVALIDATED, completed with the old key, n times over. -/
def lateUse (s n : Nat) (m : Pnm) : Pnm :=
  let k := getSlot m s
  let m1 := putSlot s { k with lateUse := k.lateUse + loW n } m
  raise { src := 12, code := 0x09, cls := 2, items := [s] }
    (sb (wr m1 Reg.KEY_LATE_USE (rd m1 Reg.KEY_LATE_USE + loW n)) Reg.KEY_FLAGS 1)

/-- R470, R476: the key position (P1 where set) that an operation of slot s uses was there in `was` and is not any more. -/
def lostPos (was m : Pnm) (q : Nat × Bool) : Bool :=
  let pos := fun (x : Pnm) => if q.2 then (getSlot x q.1).p1 else (getSlot x q.1).p0
  decide ((getSlot was q.1).state = 1) && (pos was).present && !(pos m).present

/-- R476: of the operations in flight, those that a command that began in `was` left without their key. -/
def lateUses (was : Pnm) (flight : List (Nat × Bool)) (m : Pnm) : Pnm :=
  let late := (flight.filter (lostPos was m)).map (·.1)
  late.eraseDups.foldl (fun x s => lateUse s (late.count s) x) m

/-- R469, R474: the oldest update is read back and committed; an import completes. -/
def keyCommitDone (m : Pnm) : Pnm :=
  match m.key.updates with
  | [] => m
  | u :: t =>
    let was := getSlot m u.slot
    let m1 := { m with key := { m.key with updates := t, expired := m.key.expired.filter (· ≠ u.slot) } }
    if u.ref.isNone ∧ was.state ≠ 1 then m1
    else
      let m2 := raiseIf (decide (was.state ≠ 1)) { src := 12, code := 0x08, cls := 2, items := [u.slot, 1] }
        (commitRec u.slot { u.new with lateUse := was.lateUse } m1)
      match u.ref with
      | some r => complete r (ansR 0 0 u.slot) m2
      | none => m2

/-- R466: a position of slot s passes its NOT_AFTER with no other usable position. -/
def keyExpiry (s : Nat) (m : Pnm) : Pnm :=
  let k := getSlot m s
  let past := fun (p : KeyPos) => p.present && decide (p.notAfter ≠ 0) && decide (p.notAfter < nowNs m)
  if m.tim.running ∧ k.state = 1 ∧ (past k.p0 ∨ past k.p1) ∧ usable m false k = [] ∧ m.key.expired.contains s = false then
    raise { src := 12, code := 0x0E, cls := 2, items := [s] }
      (sb { m with key := { m.key with expired := s :: m.key.expired } } Reg.KEY_FLAGS 5)
  else m

/-! ## Start (R458 to R460, R473, R479) -/

/-- R473: the outcome of loading slot s: STATE, 6 meaning a failing tag (DAMAGED with kind 3), and the slot. -/
def loadOutcome (m : Pnm) : Nat → Nat → Nat × KeySlot
  | 0, _ => (2, KeySlot.init 0)
  | n + 1, s =>
    let st := getStore m s
    let dead := fun (x : Nat) => (x, { KeySlot.init 0 with state := x })
    if st.crcOk = false then dead 4
    else if st.valid = false then dead (if st.wasInval then 2 else 0)
    else match st.committed with
      | none => dead 4
      | some r =>
        let k : KeySlot :=
          { engine := r.engine, alg := r.alg, migratable := r.migratable, state := 1, parent := r.parent,
            p0 := KeyPos.none, p1 := KeyPos.none, gen := r.gen, lateUse := 0 }
        if r.kwkId ≠ kwkIdOf m m.key.mr then (3, { k with state := 3 })
        else
          let head := recHead s r.gen (attrWord k 1) r.kwkId r.migTag
          let kwk := kwkOf m m.key.mr
          match openPos kwk head r.alg r.p0, openPos kwk head r.alg r.p1 with
          | some a, some b =>
            let p := if r.parent = 0x1FF then 1 else (loadOutcome m n r.parent).1
            if p = 1 then (1, { k with p0 := a, p1 := b })
            else if p = 3 then (3, { k with state := 3 })
            else (2, { k with state := 2 })
          | _, _ => (6, { k with state := 4 })

/-- R473: discard a half-written update of slot s. -/
def discardHalf (s : Nat) (m : Pnm) : Pnm :=
  let st := getStore m s
  match st.other with
  | some r =>
    if st.pend = false ∧ st.gen < r.gen then
      raise { src := 12, code := 0x0A, cls := 1, items := [s, 1], extra := leBytes 4 r.gen }
        (sb (putStore s (st.setOther none) m) Reg.KEY_FLAGS 2)
    else m
  | none => m

/-- R473: load slot s. -/
def loadSlot (s : Nat) (m : Pnm) : Pnm :=
  let r := loadOutcome m 9 s
  let m1 := putSlot s r.2 (discardHalf s m)
  if r.1 = 4 then raise { src := 12, code := 0x0A, cls := 1, items := [s, 2] } (sb m1 Reg.KEY_FLAGS 3)
  else if r.1 = 6 then raise { src := 12, code := 0x0A, cls := 1, items := [s, 3] } (sb m1 Reg.KEY_FLAGS 3)
  else if r.1 = 3 then sb m1 Reg.KEY_FLAGS 4
  else if r.1 = 2 ∧ (getStore m s).valid then slotEvent s 2 (commitInvalid s m1)
  else m1

/-- R479: the pending migration of slot s: 1 committed, 2 discarded, 0 none pending. -/
def migSlot (s : Nat) (m : Pnm) : Pnm × Nat :=
  let st := getStore m s
  if st.pend && st.crcOk then
    match st.other with
    | some r =>
      if r.migTag = kwkIdOf m m.key.mr then
        let m1 := putStore s { st with copy := !st.copy, gen := r.gen, pend := false } m
        ({ m1 with key := { m1.key with genMax := max m.key.genMax r.gen } }, 1)
      else (putStore s { st.setOther none with pend := false } m, 2)
    | none => (putStore s { st with pend := false } m, 2)
  else (m, 0)

/-- R479: every pending migration is resolved; event 0x0B with the result. -/
def migResolve (m : Pnm) : Pnm :=
  let r := (m.key.store.map (·.1)).foldl (fun (x : Pnm × Nat × Nat) s =>
    let y := migSlot s x.1
    (y.1, if y.2 = 0 then x.2.1 else y.2, x.2.2 + (if y.2 = 0 then 0 else 1))) (m, 0, 0)
  if r.2.1 = 0 then r.1
  else raise { src := 12, code := 0x0B, cls := 2, items := [0, r.2.1] }
    (wr r.1 Reg.KEY_MIG_STAT (loW (4 * r.2.1 + 65536 * r.2.2)))

/-- R458 to R460: root and measurements of a start, from the three firmware images of the boot slot. -/
def keyMeasure (pufOk : Bool) (images : List (List Byte)) (m : Pnm) : Pnm :=
  let mr := (List.range 3).map fun i => Config.sha384 (List.replicate 48 0 ++ Config.sha384 (images.getD i []))
  let ok := pufOk && m.key.helper
  { m with key := { m.key with rootOk := ok, mr := mr ++ [List.replicate 48 0], slots := [], updates := [],
                               expired := [], att := none, attBuf := [], endorsement := [] } }

/-- R482: the destruction of a transition to state `to`: every record and commit word; for SCRAPPED the helper data,
so that the root is lost. GEN_MAX stays (R472). -/
def destroy (dest : Nat) (m : Pnm) : Pnm :=
  { m with key := { m.key with store := [], helper := m.key.helper && decide (dest ≠ 4),
                               rootOk := m.key.rootOk && decide (dest ≠ 4) } }

/-- R475: every slot that a transition ends becomes INVALIDATED and its keys are zeroised. -/
def invalidateAll (m : Pnm) : Pnm :=
  (m.key.slots.filter fun p => decide (p.2.state ≠ 0 ∧ p.2.state ≠ 2)).foldl (fun x p =>
    raise { src := 12, code := 0x08, cls := 2, items := [p.1, 2] }
      (putSlot p.1 { p.2 with state := 2, p0 := KeyPos.none, p1 := KeyPos.none } x)) m

/-- R549: every stored record is erased; commit words keep their GEN with VALID 0, and the slots load EMPTY. -/
def keyErase (m : Pnm) : Pnm :=
  { m with key := { m.key with
                    store := m.key.store.map fun p =>
                      (p.1, { p.2 with copy0 := none, copy1 := none, valid := false, pend := false, written := true,
                                       crcOk := true, wasInval := false }) } }

/-- Parent depth of a stored slot (R473, R477). -/
def recDepth (m : Pnm) : Nat → Nat → Nat
  | 0, _ => 0
  | n + 1, s =>
    match (getStore m s).committed with
    | some r => if r.parent = 0x1FF then 1 else 1 + recDepth m n r.parent
    | none => 1

/-- R473, R479: slots of a start; without the root every slot is EMPTY, event 0x0D is raised and KEY is FAILED
(R458). -/
def keyStart (m : Pnm) : Pnm :=
  if m.key.rootOk then
    let m1 := migResolve m
    (sortBy (fun a b => decide (recDepth m1 9 a ≤ recDepth m1 9 b)) (m1.key.store.map (·.1))).foldl (fun x s => loadSlot s x) m1
  else nodeCause 28 (128 + 0x0D) 2 (raise { src := 12, code := 0x0D, cls := 1, items := [] } m)

/-! ## Migration (R478) -/

/-- A write of KEY_MIG_CTRL with PREPARE: outside PHASE 0 it is refused. -/
def migPrepare (boot : Bool) (m : Pnm) : Pnm :=
  if rf m Reg.KEY_MIG_STAT 1 0 ≠ 0 then cfgErr (sb m Reg.KEY_FLAGS 0) Reg.KEY_CFG_ERR 4
  else
    wr (wf { m with key := { m.key with migBoot := boot } } Reg.KEY_MIG_CTRL 4 4 (b2n boot)) Reg.KEY_MIG_STAT 1

/-- The slots that migrate (R478). -/
def migSlots (m : Pnm) : List Nat :=
  (m.key.slots.filter fun p => decide (p.2.state = 1) && p.2.migratable && decide (p.1 ≠ 0)).map (·.1)

/-- One slot's migrated record. -/
def migWrite (mr : List (List Byte)) (s : Nat) (m : Pnm) : Pnm :=
  let st := getStore m s
  let k := getSlot m s
  putStore s { st.setOther (some (sealRec m mr (kwkIdOf m mr) s (!st.copy) (st.gen + 1) k)) with pend := true } m

/-- R478: preparation ends, with the records written or with a verification failure. -/
def migPrepareDone (m : Pnm) : Pnm :=
  if rf m Reg.KEY_MIG_STAT 1 0 = 1 then
    match m.glb.slots.getD (b2n m.key.migBoot) none with
    | some b =>
      if b.verifies then
        let mr := (List.range 3).map fun i =>
          Config.sha384 (List.replicate 48 0 ++ Config.sha384 (b.images.getD i []))
        let l := migSlots m
        raise { src := 12, code := 0x0B, cls := 2, items := [2, 0] }
          (wr (l.foldl (fun x s => migWrite mr s x) m) Reg.KEY_MIG_STAT (loW (2 + 65536 * l.length)))
      else raise { src := 12, code := 0x0B, cls := 2, items := [0, 3] } (wr m Reg.KEY_MIG_STAT (loW (4 * 3)))
    | none => raise { src := 12, code := 0x0B, cls := 2, items := [0, 3] } (wr m Reg.KEY_MIG_STAT (loW (4 * 3)))
  else m

/-- R478: a write of KEY_MIG_CTRL.CANCEL; outside PHASE 2 it is refused. -/
def migCancel (m : Pnm) : Pnm :=
  if rf m Reg.KEY_MIG_STAT 1 0 ≠ 2 then cfgErr (sb m Reg.KEY_FLAGS 0) Reg.KEY_CFG_ERR 5
  else
    let m1 := (m.key.store.map (·.1)).foldl (fun x s =>
      let st := getStore x s
      if st.pend then putStore s { st.setOther none with pend := false } x else x) m
    wf (wf m1 Reg.KEY_MIG_STAT 1 0 0) Reg.KEY_MIG_STAT 24 16 0

/-! ## Life cycle (R481, R482) -/

/-- The UID (R486). -/
def uidBytes : List Byte := (List.range 4).flatMap fun i => leBytes 4 (Config.factoryUid i).toNat

/-- Table 4 as bytes: indices 0 and 1 the RMA token, index 2 the owner seed (R481, R482). -/
def table4Bytes (m : Pnm) : List Byte := bytesOf m.key.table4

/-- A transition of KEY table 10 that software can request. -/
def lcPermitted (from' dest : Nat) : Bool :=
  (decide (from' = 1) && decide (dest = 2)) || ((decide (from' = 1) || decide (from' = 2)) && decide (dest = 3)) ||
    (decide (from' ≠ 4) && decide (dest = 4))

/-- R482: a write of KEY_CTRL.LC_GO. -/
def lcGo (m : Pnm) : Pnm :=
  let dest := rf m Reg.KEY_LC_REQ 2 0
  let res := fun (c : Nat) (x : Pnm) => wf x Reg.KEY_LC_STAT 3 0 c
  let seed := bytesAt (table4Bytes m) 128 32
  let seedZero := decide (seed = List.replicate 32 0)
  let msg := uidBytes ++ beBytes 4 m.tel.jnl.pcyc ++ beBytes 1 dest
  if inMaint m = false then res 2 m
  else if rf m Reg.KEY_LC_REQ 31 16 ≠ 0x4C43 then res 3 m
  else if lcPermitted m.key.lc dest = false then res 4 m
  else if dest = 3 ∧ Config.ecdsaVerify Config.serviceKey msg (bytesAt (table4Bytes m) 0 96) = false then res 5 m
  else if dest = 2 ∧ seedZero = isK then res 6 m
  else
    let m1 := { m with key := { m.key with
                                lc := dest, ownerSeed := if dest = 2 ∧ isK then seed else m.key.ownerSeed,
                                erase := if dest = 3 ∨ dest = 4 then some dest else none } }
    let m2 := res 1 (wf m1 Reg.KEY_LC_STAT 4 4 (b2n (decide (dest = 3 ∨ dest = 4))))
    (if dest = 3 ∨ dest = 4 then invalidateAll else id)
      (raise { src := 12, code := 0x0C, cls := 1, items := [dest] } m2)

/-- R482: the destruction of a transition ends. -/
def lcDestructionDone (m : Pnm) : Pnm :=
  match m.key.erase with
  | some dest =>
    let m1 := destroy dest m
    wf (wf { m1 with key := { m1.key with erase := none } } Reg.KEY_LC_STAT 4 4 0) Reg.KEY_MIG_STAT 1 0 0
  | none => m

/-! ## Attestation (R483 to R485) -/

/-- A CBOR head: major type and argument, in the shortest form (RFC 8949). -/
def cborHead (major n : Nat) : List Byte :=
  let b := fun (x : Nat) => BitVec.ofNat 8 (32 * major + x)
  if n < 24 then [b n] else if n < 256 then b 24 :: beBytes 1 n else if n < 65536 then b 25 :: beBytes 2 n
  else if n < 2 ^ 32 then b 26 :: beBytes 4 n else b 27 :: beBytes 8 n

/-- Unsigned integer, byte string, array and map heads. -/
def cborU (n : Nat) : List Byte := cborHead 0 n
def cborB (l : List Byte) : List Byte := cborHead 2 l.length ++ l

/-- A Boolean. -/
def cborBool (b : Bool) : List Byte := [if b then 0xF5 else 0xF4]

/-- COSE_Key of a P-384 public key (KEY table 11, key 15). -/
def coseKey (pub : List Byte) : List Byte :=
  cborHead 5 4 ++ cborU 1 ++ cborU 2 ++ cborHead 1 0 ++ cborU 2 ++ cborHead 1 1 ++ cborB (pub.take 48) ++
    cborHead 1 2 ++ cborB (pub.drop 48)

/-- The protected header: algorithm -35 and kid (R484). -/
def coseHead (pub : List Byte) : List Byte :=
  cborHead 5 2 ++ cborU 1 ++ cborHead 1 34 ++ cborU 4 ++ cborB ((Config.sha384 pub).take 8)

/-- A COSE_Sign1 with empty external data (R484). -/
def coseSign1 (key : Nat) (payload : List Byte) : List Byte :=
  let head := coseHead (Config.ecdsaPublic key)
  let tbs := cborHead 4 4 ++ (cborHead 3 10 ++ [0x53, 0x69, 0x67, 0x6E, 0x61, 0x74, 0x75, 0x72, 0x65, 0x31]) ++
    cborB head ++ cborB [] ++ cborB payload
  cborHead 4 4 ++ cborB head ++ cborHead 5 0 ++ cborB payload ++ cborB (Config.ecdsaSign key tbs)

/-- The slot inventory of claim 14. -/
def slotInventory (m : Pnm) : List Byte :=
  let all := (if m.key.rootOk then [(0, getSlot m 0)] else []) ++ m.key.slots.filter (fun p => decide (p.2.state ≠ 0))
  Config.sha384 (all.flatMap fun p => beBytes 2 p.1 ++ beBytes 4 (attrWord p.2 p.2.state) ++ beBytes 8 p.2.p0.keyId ++
    beBytes 8 p.2.p1.keyId)

/-- A 64-bit register pair. -/
def rd64 (m : Pnm) (lo : Nat) : Nat := (rd m lo).toNat + 2 ^ 32 * (rd m (lo + 4)).toNat

/-- The claim set of KEY table 11, taken now. -/
def claims (m : Pnm) : List Byte :=
  let nonce := (List.range 8).flatMap fun i => leBytes 4 (rd m (Reg.KEY_NONCE + 4 * i)).toNat
  cborHead 5 15 ++
  cborU 1 ++ cborB nonce ++ cborU 2 ++ cborB uidBytes ++ cborU 3 ++ cborU subsystemId ++ cborU 4 ++ cborU m.key.lc ++
  cborU 5 ++ cborBool m.glb.straps.debugLock ++
  cborU 6 ++ cborHead 4 3 ++ cborB (mrOf m 0) ++ cborB (mrOf m 1) ++ cborB (mrOf m 2) ++
  cborU 7 ++ cborHead 4 2 ++ cborB (mrOf m 3) ++ cborU (rd m Reg.KEY_MR3_COUNT).toNat ++
  cborU 8 ++ cborU (b2n (rb m Reg.GLB_STAT 2)) ++
  cborU 9 ++ cborHead 4 2 ++ cborU m.tel.jnl.pcyc ++ cborU m.tel.jnl.opSec ++
  cborU 10 ++ cborHead 4 2 ++ cborU (nowNs m) ++ cborU m.tim.cls ++
  cborU 11 ++ cborHead 4 2 ++ cborU (pairState m) ++ cborU (rd m Reg.PAR_EPOCH).toNat ++
  cborU 12 ++ cborU (rd64 m Reg.CYE_PROG_ID_LO) ++
  cborU 13 ++ cborU (NMap.get nodeDflt m.tel.dia.nodes 1).state ++
  cborU 14 ++ cborB (slotInventory m) ++
  cborU 15 ++ coseKey (Config.ecdsaPublic (akKey m))

/-- R485: the endorsement, built at each start. -/
def buildEndorsement (m : Pnm) : Pnm :=
  if idkPresent m then
    let pay := cborHead 5 6 ++ cborU 1 ++ cborB uidBytes ++ cborU 2 ++ cborU m.key.lc ++
      cborU 3 ++ cborHead 4 3 ++ cborB (mrOf m 0) ++ cborB (mrOf m 1) ++ cborB (mrOf m 2) ++
      cborU 4 ++ coseKey (Config.ecdsaPublic (akKey m)) ++ cborU 5 ++ cborU subsystemId ++
      cborU 6 ++ cborU m.tel.jnl.pcyc
    { m with key := { m.key with endorsement := coseSign1 (idkKey m) pay } }
  else m

/-- R483: a write of KEY_CTRL.ATT_GO takes the claims. -/
def attGo (m : Pnm) : Pnm :=
  if m.key.att.isSome then wf m Reg.KEY_ATT_STAT 1 0 3
  else if idkPresent m = false then
    wr { m with key := { m.key with attBuf := [] } } Reg.KEY_ATT_STAT 2
  else sb { m with key := { m.key with att := some (claims m) } } Reg.KEY_STAT 6

/-- R483: the signed statement and the endorsement are placed in table 2. -/
def attDone (m : Pnm) : Pnm :=
  match m.key.att with
  | some c =>
    let s := coseSign1 (akKey m) c
    let b := leBytes 4 s.length ++ s ++ leBytes 4 m.key.endorsement.length ++ m.key.endorsement
    wr (cb { m with key := { m.key with att := none, attBuf := b } } Reg.KEY_STAT 6) Reg.KEY_ATT_STAT
      (loW (1 + 65536 * b.length))
  | none => m

/-- R459: a write of KEY_CTRL.MR3_EXT; refused while the count is saturated. -/
def mr3Ext (m : Pnm) : Pnm :=
  if rd m Reg.KEY_MR3_COUNT = 0xFFFFFFFF#32 then cfgErr (sb m Reg.KEY_FLAGS 0) Reg.KEY_CFG_ERR 1
  else mrExtend 3 ((List.range 12).flatMap fun i => leBytes 4 (rd m (Reg.KEY_TBL_DATA + 4 * i)).toNat) m

/-! ## The KEY window (R486) -/

/-- KEY table 14: the sixteen words of slot status. -/
def slotWords (m : Pnm) (s : Nat) : List Word :=
  let k := getSlot m s
  let p := fun (x : KeyPos) =>
    [loW x.keyId, hiW x.keyId, loW x.notBefore, hiW x.notBefore, loW x.notAfter, hiW x.notAfter]
  [loW (attrWord k k.state),
   loW (b2n k.p0.present + 2 * b2n (posUsable m false k k.p0) + 256 * b2n k.p1.present +
     512 * b2n (posUsable m false k k.p1) + 65536 * b2n (getStore m s).pend),
   loW k.gen, k.lateUse] ++ p k.p0 ++ p k.p1

/-- The words a read of the KEY window returns. -/
def keyTblWords (m : Pnm) (t i : Nat) : List Word :=
  if t = 0 then slotWords m i
  else if t = 1 then (if i ≤ 3 then wordsOf 12 (mrOf m i) else [])
  else if t = 2 then (if i ≤ 63 then wordsOf 16 ((m.key.attBuf.drop (64 * i)).take 64) else [])
  else if t = 3 then
    if idkPresent m ∧ i ≤ 3 then
      wordsOf 12 (((Config.ecdsaPublic (if i ≤ 1 then idkKey m else akKey m)).drop (48 * (i % 2))).take 48)
    else []
  else if t = 4 ∧ i ≤ 2 then (m.key.table4.drop (16 * i)).take 16
  else []

/-- A window command register with its RW fields, GO and the other write-only bits reading 0. -/
def storeCmd (reg : Nat) (mask cmd : Word) (m : Pnm) : Pnm := wr m reg (cmd &&& mask)

/-- R486: a read through the KEY window; tables 5 to 7 are refused. -/
def keyTblRead (cmd : Word) (m : Pnm) : Pnm :=
  let m1 := storeCmd Reg.KEY_TBL_CMD 0x000701FF#32 cmd m
  let t := bits cmd 18 16
  if 5 ≤ t then sb (sb m1 Reg.KEY_TBL_STAT 1) Reg.KEY_FLAGS 0
  else
    let w := keyTblWords m t (bits cmd 8 0)
    wrs m1 Reg.KEY_TBL_DATA (w ++ List.replicate (16 - w.length) 0)

/-- R486: a write through the KEY window: table 4 in maintenance, or refused. -/
def keyTblWrite (cmd : Word) (m : Pnm) : Pnm :=
  let m1 := storeCmd Reg.KEY_TBL_CMD 0x001701FF#32 cmd m
  let t := bits cmd 18 16
  let i := bits cmd 8 0
  let refuse := fun (e : Nat) =>
    wf (cfgErr (sb (sb m1 Reg.KEY_TBL_STAT 1) Reg.KEY_FLAGS 0) Reg.KEY_CFG_ERR e) Reg.KEY_CFG_ERR 17 8
      (if t = 4 then i else t)
  if t ≠ 4 ∨ 2 < i then refuse 3
  else if inMaint m = false then refuse 2
  else
    let w := (List.range 16).map fun k => rd m (Reg.KEY_TBL_DATA + 4 * k)
    { m1 with key := { m1.key with table4 := m.key.table4.take (16 * i) ++ w ++ m.key.table4.drop (16 * i + 16) } }

/-- KEY_STAT with its computed fields. -/
def keyStatWord (m : Pnm) : Word :=
  let n := (m.key.slots.filter fun p => decide (p.2.state = 1)).length + b2n m.key.rootOk
  setBits (setBits (setBits (setBits (setBits (rd m Reg.KEY_STAT) 0 0 (b2n m.key.rootOk)) 1 1
    (b2n m.glb.straps.debugLock)) 4 2 m.key.lc) 5 5 (b2n (idkPresent m))) 25 16 n

end Sys2Proof.Machine
end

