-- ==== Sys2Proof/Machine/Tim.lean ====
section
/-! DEFINITION. TIM: clocks, module time, selection, sources, holdover, time classes, 1PPS and IRIG-B (chapter 02). -/

namespace Sys2Proof.Machine

/-! ## Clocks and module time -/

/-- The increment of clock B or A as 32.32 ns (R44). -/
def incOf (m : Pnm) (b : Bool) : Nat :=
  if b then (rd m Reg.TIM_INC_B_LO).toNat + nsU * (rd m Reg.TIM_INC_B_HI).toNat
  else (rd m Reg.TIM_INC_A_LO).toNat + nsU * (rd m Reg.TIM_INC_A_HI).toNat

/-- The slew term of one edge (R48, log entry 16): the budget accumulates at RATE ns per second of module time and
never carries module time past the selected clock. Answers the signed term and the remainder kept. -/
def slewTerm (t : Tim) (inc rate : Nat) : Int × Nat :=
  let d := slewD t
  let budget := t.slewAcc + inc * rate
  let step := min (budget / 1000000000) d.natAbs
  if d = 0 then (0, 0) else (if d < 0 then -(step : Int) else (step : Int), budget % 1000000000)

/-- One edge of the 625 MHz counter clock (R43, R48). -/
def timEdge (m : Pnm) : Pnm :=
  let t := m.tim
  let inc := incOf m t.selB
  let s := slewTerm t inc (rf m Reg.TIM_SLEW 16 0)
  { m with
    tim := { t with
             edge := t.edge + 1,
             clkA := (t.clkA + incOf m false) % 2 ^ 96,
             clkB := (t.clkB + incOf m true) % 2 ^ 96,
             mt := if t.running then (((t.mt + inc : Nat) : Int) + s.1).toNat % 2 ^ 96 else t.mt,
             slewAcc := if t.running then s.2 else t.slewAcc } }

/-- The clock that clock code c names: 0 module time, 1 A, 2 B (R61). -/
def clkOf (m : Pnm) (c : Nat) : Nat := if c = 0 then m.tim.mt else if c = 1 then m.tim.clkA else m.tim.clkB

/-! ## Time classes (R59, R60) -/

/-- A class code, a reserved code counting as TL (R59). -/
def classCode (c : Nat) : Nat := if c ≤ 6 then c else 0

/-- The best class whose bound is at least |D| (TIM table 1). -/
def classOfD (d : Nat) : Nat :=
  if d ≤ 1000 * nsU then 6 else if d ≤ 4000 * nsU then 5 else if d ≤ 25000 * nsU then 4
  else if d ≤ 100000 * nsU then 3 else if d ≤ 1000000 * nsU then 2 else if d ≤ 10000000 * nsU then 1 else 0

/-- Rows of TIM table 2: start in seconds and class; the first column after at least 1 h of lock. -/
def holdRows (long : Bool) : List (Nat × Nat) :=
  if long then [(0, 6), (120, 5), (1200, 4), (7200, 3), (28800, 2), (259200, 1), (1296000, 0)]
  else [(0, 2), (3600, 1), (86400, 0)]

/-- The class of a schedule position in 2^-32 ns. -/
def holdRowClass (long : Bool) (pos : Nat) : Nat :=
  (holdRows long).foldl (fun a r => if r.1 * 1000000000 * nsU ≤ pos then r.2 else a) 0

/-- The holdover class now (R60); T5 outside holdover, where it bounds nothing. -/
def holdClass (t : Tim) : Nat :=
  match t.hold with
  | none => 6
  | some h => if t.ocxoBad then 0 else holdRowClass h.long (h.pos + (t.mt - h.startMt))

/-- The declared class of the selected clock (TIM_LOCK.CLASS_x). -/
def declaredClass (m : Pnm) : Nat :=
  classCode (if m.tim.selB then rf m Reg.TIM_LOCK 15 12 else rf m Reg.TIM_LOCK 11 8)

/-- The class that R59 gives: the worst of the three. -/
def classNow (m : Pnm) : Nat :=
  min (declaredClass m) (min (classOfD (slewD m.tim).natAbs) (holdClass m.tim))

/-- R59: the reported class follows, and a change raises event 0x39. -/
def reclass (m : Pnm) : Pnm :=
  let c := classNow m
  { m with
    tim := { m.tim with cls := c },
    tel := eventT m (decide (c ≠ m.tim.cls)) { src := 1, code := 0x39, cls := 2, items := [c], fns := vfList m } m.tel }

/-! ## Sources, selection and holdover (R50 to R58) -/

/-- The source of clock B or A is LOST (R54, R55). -/
def srcLost (m : Pnm) (b : Bool) : Bool :=
  if b then m.tim.dom2.lost else if rb m Reg.TIM_SRC_A 0 then m.tim.irig.lost else m.tim.dom1.lost

/-- The edge at which the source of a clock became LOST. -/
def srcLostAt (m : Pnm) (b : Bool) : Nat :=
  if b then m.tim.dom2.lostAt else if rb m Reg.TIM_SRC_A 0 then m.tim.irig.lostAt else m.tim.dom1.lostAt

/-- The lock time of a clock in edges (R58): its current interval, else its latest one. -/
def lockTime (t : Tim) (b : Bool) : Nat :=
  match (if b then t.lockB else t.lockA) with
  | some s => t.edge - s
  | none => if b then t.lastB else t.lastA

/-- Edges as 2^-32 ns (1.6 ns each). -/
def edgesToU (e : Nat) : Nat := e * 8 * nsU / 5

/-- R57, R60: holdover begins for the selected clock; step 1 of the ladder. -/
def beginHold (m : Pnm) : Pnm :=
  let b := m.tim.selB
  let long := decide (3600 * edgesS ≤ lockTime m.tim b)
  let first := (((holdRows long).find? (fun r => decide (r.2 ≤ m.tim.cls))).map (·.1)).getD 0
  let pos := max (first * 1000000000 * nsU) (edgesToU (m.tim.edge - srcLostAt m b))
  ladderEnter 1 0 { m with tim := { m.tim with hold := some { startMt := m.tim.mt, long := long, pos := pos } } }

/-- R57: holdover ends. -/
def endHold (m : Pnm) : Pnm :=
  ladderClear 1 0 { m with tim := { m.tim with hold := none } }

/-- The residual that selecting a clock would give, in 2^-32 ns. -/
def wouldD (m : Pnm) (b : Bool) : Int := sx 96 ((if b then m.tim.clkB else m.tim.clkA) + 2 ^ 96 - m.tim.mt)

/-- TIM_SLEW_LIMIT.LIMIT in 2^-32 ns. -/
def slewLimit (m : Pnm) : Nat := rf m Reg.TIM_SLEW_LIMIT 16 0 * 1000 * nsU

/-- R50: the change of selection to clock `b` is refused. -/
def selRefused (m : Pnm) (b : Bool) : Bool := m.tim.running && decide (slewLimit m < (wouldD m b).natAbs)

/-- R50, R53: an accepted change of selection. A selection of a clock whose source is LOST begins holdover (R57); a
selection of a clock whose source is usable leaves none. -/
def selChange (m : Pnm) (b : Bool) : Pnm :=
  let m1 := raise { src := 1, code := 0x36, cls := 2, items := [b2n b] }
    (wf { m with tim := { m.tim with selB := b } } Reg.TIM_SEL 0 0 (b2n b))
  let m2 := if m.tim.running && srcLost m b then beginHold m1
            else if m.tim.hold.isSome then endHold m1 else m1
  reclass m2

/-- R50: a refused change. -/
def selRefuse (m : Pnm) : Pnm :=
  raise { src := 1, code := 0x37, cls := 2, items := [] } (sb m Reg.TIM_FLAGS 0)

/-- Clear the LOCK bit of a clock and end its lock interval (R56, R58). -/
def clearLock (m : Pnm) (b : Bool) : Pnm :=
  let t := m.tim
  let m1 := cb m Reg.TIM_LOCK (b2n b)
  if b then { m1 with tim := { t with lockB := none, lastB := match t.lockB with | some s => t.edge - s | none => t.lastB } }
  else { m1 with tim := { t with lockA := none, lastA := match t.lockA with | some s => t.edge - s | none => t.lastA } }

/-- The clock that follows source 1 (domain 1), 2 (domain 2) or 3 (IRIG-B), where one does (R54). -/
def clockOfSource (m : Pnm) (src : Nat) : Option Bool :=
  if src = 2 then some true
  else if src = 1 then (if rb m Reg.TIM_SRC_A 0 then none else some false)
  else if rb m Reg.TIM_SRC_A 0 then some false else none

/-- Mark a source LOST (R55). -/
def markLost (m : Pnm) (src : Nat) : Pnm :=
  let t := m.tim
  let d := fun (x : Dom) => { x with lost := true, lostAt := t.edge, syncDue := none, annDue := none,
                                     syncOk := false, annOk := false, syncFrom := [], annFrom := [] }
  { m with tim := if src = 1 then { t with dom1 := d t.dom1 }
                  else if src = 2 then { t with dom2 := d t.dom2 }
                  else { t with irig := { t.irig with lost := true, lostAt := t.edge } } }

/-- R55, R52, R56, R57: a source becomes LOST. -/
def sourceLost (src : Nat) (m : Pnm) : Pnm :=
  let m1 := raise { src := 1, code := 0x38, cls := 2, items := [src, 1] } (markLost m src)
  match clockOfSource m src with
  | none => m1
  | some b =>
    let m2 := clearLock m1 b
    if m.tim.running && decide (b = m.tim.selB) then
      if rb m Reg.TIM_SEL 1 && rb m Reg.TIM_LOCK (b2n (!b)) then
        if selRefused m2 (!b) then reclass (beginHold (selRefuse m2)) else selChange m2 (!b)
      else reclass (if m.tim.hold.isSome then m2 else beginHold m2)
    else reclass m2

/-- R55: a source becomes usable again. -/
def sourceBack (src : Nat) (m : Pnm) : Pnm :=
  raise { src := 1, code := 0x38, cls := 2, items := [src, 0] } m

/-! ## Register writes -/

/-- R47: a write of TIM_CTRL. -/
def timRunWrite (data : Word) (m : Pnm) : Pnm :=
  if bit data 0 ∧ m.tim.running = false then
    let c := if m.tim.selB then m.tim.clkB else m.tim.clkA
    let m1 := sb { m with tim := { m.tim with
                                   mt := c, running := true, slewAcc := 0,
                                   gridAt := some (cdiv c (1000000000 * nsU) * (1000000000 * nsU)) } } Reg.TIM_CTRL 0
    reclass (if srcLost m m.tim.selB then beginHold m1 else m1)
  else m

/-- R44, R45: a write of TIM_INC_x_HI. -/
def timIncWrite (b : Bool) (hi : Word) (m : Pnm) : Pnm :=
  let lo := if b then Reg.TIM_INC_B_LO else Reg.TIM_INC_A_LO
  let v := (stagedLo m lo).toNat + nsU * hi.toNat
  if 15984 * nsU ≤ v * 10000 ∧ v * 10000 ≤ 16016 * nsU then wr (wr m lo (stagedLo m lo)) (lo + 4) hi
  else cfgErr (sb m Reg.TIM_FLAGS 2) Reg.TIM_CFG_ERR (if b then 9 else 8)

/-- R46, R51: a write of TIM_STEP_x_HI. -/
def timStepWrite (b : Bool) (hi : Word) (m : Pnm) : Pnm :=
  let lo := if b then Reg.TIM_STEP_B_LO else Reg.TIM_STEP_A_LO
  let s : Int := sx 64 ((stagedLo m lo).toNat + nsU * hi.toNat) * (nsU : Int)
  let c := if b then m.tim.clkB else m.tim.clkA
  let c' := (((c : Int) + s) % ((2 ^ 96 : Nat) : Int)).toNat
  if m.tim.running ∧ b = m.tim.selB ∧ slewLimit m < (sx 96 (c' + 2 ^ 96 - m.tim.mt)).natAbs then
    sb m Reg.TIM_FLAGS 1
  else reclass { m with tim := if b then { m.tim with clkB := c' } else { m.tim with clkA := c' } }

/-- R49: a write of TIM_SLEW or TIM_SLEW_LIMIT. -/
def timSlewWrite (limit : Bool) (data : Word) (m : Pnm) : Pnm :=
  let v := bits data 16 0
  if 1 ≤ v ∧ v ≤ 100000 then wr m (if limit then Reg.TIM_SLEW_LIMIT else Reg.TIM_SLEW) (BitVec.ofNat 32 v)
  else cfgErr m Reg.TIM_CFG_ERR (if limit then 2 else 1)

/-- R50, R52: a write of TIM_SEL. -/
def timSelWrite (data : Word) (m : Pnm) : Pnm :=
  let m1 := wf m Reg.TIM_SEL 1 1 (b2n (bit data 1))
  let b := bit data 0
  if b = m.tim.selB then m1 else if selRefused m b then selRefuse m1 else selChange m1 b

/-- R56, R58: one LOCK bit under a write. -/
def lockBit (b want : Bool) (m : Pnm) : Pnm :=
  let have_ := rb m Reg.TIM_LOCK (b2n b)
  if want ∧ srcLost m b = false then
    if have_ then m
    else
      let m1 := sb m Reg.TIM_LOCK (b2n b)
      { m1 with tim := if b then { m.tim with lockB := some m.tim.edge } else { m.tim with lockA := some m.tim.edge } }
  else if have_ ∧ want = false then clearLock m b else m

/-- R56, R57: a write of TIM_LOCK; it may end holdover. -/
def timLockWrite (data : Word) (m : Pnm) : Pnm :=
  let m1 := wf (lockBit true (bit data 1) (lockBit false (bit data 0) m)) Reg.TIM_LOCK 15 8 (bits data 15 8)
  let b := m.tim.selB
  let ends := m.tim.hold.isSome && bit data (b2n b) && !srcLost m b && decide (m.tim.cls ≤ declaredClass m1)
  reclass (if ends then endHold m1 else m1)

/-- Enable or change a tracked domain (R55, TIM table 5). -/
def timDomWrite (n : Nat) (data : Word) (m : Pnm) : Pnm :=
  let reg := if n = 1 then Reg.TIM_DOM1_CFG else Reg.TIM_DOM2_CFG
  let err := if bits data 31 24 = 0 then 2 + n
             else if bits data 9 8 = 3 ∧ bits data 21 12 ≠ 0 then 4 + n
             else if bits data 9 8 = 3 ∧ bit data 22 = false then 4 + n else 0
  let bad := bit data 10 && decide (err ≠ 0)
  let on := bit data 10 && !bad
  let m1 := wr m reg (setBit data 10 on)
  let m2 := if bad then cfgErr m1 Reg.TIM_CFG_ERR err else m1
  let was := rb m reg 10
  let d := if on then
             (if was then (if n = 1 then m.tim.dom1 else m.tim.dom2)
              else { Dom.init with syncDue := some (m.tim.edge + bits data 31 24 * 100 * edgesMs) })
           else Dom.init
  { m2 with tim := if n = 1 then { m2.tim with dom1 := d } else { m2.tim with dom2 := d } }

/-- A write of TIM_SRC_A: IRIG-B timers run from the instant SRC becomes 1 (R55). -/
def timSrcWrite (data : Word) (m : Pnm) : Pnm :=
  let m1 := wf m Reg.TIM_SRC_A 0 0 (b2n (bit data 0))
  if bit data 0 then
    if rb m Reg.TIM_SRC_A 0 then m1
    else { m1 with tim := { m1.tim with irig := { m1.tim.irig with
                                                  frameDue := some (m.tim.edge + 3 * edgesS),
                                                  ppsDue := some (m.tim.edge + 3 * edgesS), lost := false } } }
  else { m1 with tim := { m1.tim with irig := { m1.tim.irig with frameDue := none, ppsDue := none, lost := false } } }

/-- R67: a write of TIM_PPS_WIDTH; larger values are ignored. -/
def timPpsWidthWrite (data : Word) (m : Pnm) : Pnm :=
  if bits data 18 0 ≤ 500000 then wr m Reg.TIM_PPS_WIDTH (BitVec.ofNat 32 (bits data 18 0)) else m

/-- A write of TIM_PPS_OFS: signed, within 1 ms (TIM table 5); a value outside that range is ignored. -/
def timPpsOfsWrite (data : Word) (m : Pnm) : Pnm :=
  if (sx 32 data.toNat).natAbs ≤ 1000000 then wr m Reg.TIM_PPS_OFS data else m

/-! ## Timers and inputs -/

/-- R47: the sample grid starts; the first plane tick falls on grid tick 0 of its second (R20). -/
def gridStart (m : Pnm) : Pnm :=
  if m.tim.running ∧ due m.tim.gridAt m.tim.mt then
    let first := 9 * m.tim.gridAt.getD 0 / unitTick
    { m with tim := { m.tim with grid := true, gridAt := none }, svi := { m.svi with nextTick := first, passes := [] } }
  else m

/-- R55: the Sync timeout of a domain. -/
def syncTimeout (two : Bool) (m : Pnm) : Pnm :=
  let d := if two then m.tim.dom2 else m.tim.dom1
  if due d.syncDue m.tim.edge ∧ d.lost = false then sourceLost (1 + b2n two) m else m

/-- R55: the Announce timeout of a domain. -/
def announceTimeout (two : Bool) (m : Pnm) : Pnm :=
  let d := if two then m.tim.dom2 else m.tim.dom1
  if due d.annDue m.tim.edge ∧ d.lost = false then sourceLost (1 + b2n two) m else m

/-- R55: no good IRIG-B frame, or no 1PPS, for 3 s. -/
def irigLostTimeout (m : Pnm) : Pnm :=
  let i := m.tim.irig
  if (due i.frameDue m.tim.edge ∨ due i.ppsDue m.tim.edge) ∧ i.lost = false ∧ rb m Reg.TIM_SRC_A 0 then
    sourceLost 3 { m with tim := { m.tim with irig := { i with frameDue := none, ppsDue := none } } }
  else m

/-- Days from 1970-01-01 to the first day of year y of the Gregorian calendar. -/
def yearDays (y : Nat) : Nat := 365 * (y - 1970) + ((y - 1) / 4 - 1969 / 4) - ((y - 1) / 100 - 1969 / 100) + ((y - 1) / 400 - 1969 / 400)

/-- The PTP second of a UTC year and second of the year (R65). -/
def irigSecond (m : Pnm) (year secOfYear : Nat) : Nat :=
  (((yearDays year * 86400 + secOfYear : Nat) : Int) + sx 16 (rf m Reg.TIM_UTC_OFS 15 0)).toNat

/-- R65: an IRIG-B frame: its checks, the year it carries, the second of the year, the IEEE 1344 time-quality code,
and how many edges ago its on-time reference edge came. -/
def irigFrame (ok : Bool) (year : Option Nat) (secOfYear tq edgesAgo : Nat) (m : Pnm) : Pnm :=
  let cfgYear := rf m Reg.TIM_IRIG_CFG 31 16
  let y := match year with | some v => v | none => cfgYear
  let noYear := decide (y = 0)
  let ts := (m.tim.clkA + 2 ^ 96 - edgesAgo * incOf m false % 2 ^ 96) % 2 ^ 96
  let sec := irigSecond m y secOfYear
  let tqv := if rb m Reg.TIM_IRIG_CFG 1 then tq % 16 else 0
  let statOf := fun (good : Bool) =>
    BitVec.ofNat 32 (1 + 2 * b2n good + 4 * b2n year.isSome + 16 * (if good then tqv else 0))
  if ok = false then sb (wr m Reg.TIM_IRIG_STAT (statOf false)) Reg.TIM_FLAGS 3
  else
    let m1 := wrs (wr m Reg.TIM_IRIG_STAT (statOf (!noYear))) Reg.TIM_IRIG_TS_LO
      [loW (ts / nsU), hiW (ts / nsU), loW (ts % nsU)]
    if noYear then
      if rb m Reg.TIM_SRC_A 0 ∧ m.tim.irig.lost = false then sourceLost 3 m1 else m1
    else
      let m2 := wrs m1 Reg.TIM_IRIG_SEC_LO [loW sec, hiW sec]
      let i := m.tim.irig
      let on := rb m Reg.TIM_SRC_A 0
      let back := on && i.lost && i.ppsPresent
      let m3 := { m2 with
                  tim := { m2.tim with
                           irig := { i with frameDue := if on then some (m.tim.edge + 3 * edgesS) else none,
                                            lost := i.lost && !back } } }
      if back then sourceBack 3 m3 else m3

/-- R66: a rising edge at the 1PPS input. -/
def ppsInEdge (m : Pnm) : Pnm :=
  let c := m.tim.clkA
  let i := m.tim.irig
  let m1 := wrs m Reg.TIM_PPS_IN_TS_LO [loW (c / nsU), hiW (c / nsU), loW (c % nsU)]
  { m1 with
    tim := { m1.tim with
             irig := { i with ppsPresent := true, ppsMissDue := some (m.tim.edge + 1100 * edgesMs),
                              ppsDue := if rb m Reg.TIM_SRC_A 0 then some (m.tim.edge + 3 * edgesS) else none } } }

/-- R66: 1PPS absent for more than 1.1 s. -/
def ppsMissing (m : Pnm) : Pnm :=
  if due m.tim.irig.ppsMissDue m.tim.edge then
    let m1 := sb m Reg.TIM_FLAGS 4
    { m1 with tim := { m1.tim with irig := { m1.tim.irig with ppsPresent := false, ppsMissDue := none } } }
  else m

/-- R60: the OCXO leaves its tolerance. -/
def ocxoFault (m : Pnm) : Pnm :=
  reclass (sb { m with tim := { m.tim with ocxoBad := true } } Reg.TIM_FLAGS 5)

/-- R60: the OCXO is within its tolerance again. -/
def ocxoRegained (m : Pnm) : Pnm := reclass { m with tim := { m.tim with ocxoBad := false } }

/-- R67: the reading of the clock that TIM_PPS_OUT.CLK names, less the offset. -/
def ppsClock (m : Pnm) : Nat :=
  let c := clkOf m (rf m Reg.TIM_PPS_OUT 2 1)
  (((c : Int) - sx 32 (rd m Reg.TIM_PPS_OFS).toNat * (nsU : Int)) % ((2 ^ 96 : Nat) : Int)).toNat

/-- R67: the pulse of this edge is due: the output is enabled, its width is not zero, the named clock runs, and a
second plus the offset has been reached since the previous edge. -/
def ppsDueNow (m : Pnm) : Bool :=
  let k := rf m Reg.TIM_PPS_OUT 2 1
  rb m Reg.TIM_PPS_OUT 0 && decide (k ≠ 3) && (decide (k ≠ 0) || m.tim.running) &&
  decide (rf m Reg.TIM_PPS_WIDTH 18 0 ≠ 0) && !m.tim.ppsOut &&
  decide (ppsClock m % (1000000000 * nsU) < 2 * nsU) &&
  decide (m.tim.ppsLast ≠ some (ppsClock m / (1000000000 * nsU)))

/-- R67: the 1PPS output rises; the instant recorded is the exact one. -/
def ppsOutPulse (m : Pnm) : Pnm :=
  if ppsDueNow m then
    let s := ppsClock m / (1000000000 * nsU)
    let at' := ((s * 1000000000 : Nat) : Int) + sx 32 (rd m Reg.TIM_PPS_OFS).toNat
    emit { m with
           tim := { m.tim with
                    ppsOut := true, ppsLast := some s,
                    ppsFall := at'.toNat * nsU + rf m Reg.TIM_PPS_WIDTH 18 0 * 1000 * nsU } }
      [.pin .ppsOut true at'.toNat 0]
  else m

/-- R67: the 1PPS output falls. -/
def ppsOutEnd (m : Pnm) : Pnm :=
  if m.tim.ppsOut ∧ m.tim.ppsFall ≤ clkOf m (rf m Reg.TIM_PPS_OUT 2 1) then
    emit { m with tim := { m.tim with ppsOut := false } } [.pin .ppsOut false (m.tim.ppsFall / nsU) 0]
  else m

/-- R70: a write of TIM_SNAP_CTRL. -/
def timSnapWrite (data : Word) (m : Pnm) : Pnm :=
  if bit data 0 then
    { m with tel := { m.tel with dia := { m.tel.dia with timSnap := timSnapWords m.tim } } } else m

/-- R39: the dwell of a step ends; the step is left where its trigger has gone. -/
def ladderDwell (step : Nat) (m : Pnm) : Pnm :=
  let s := getStep m step
  if s.on ∧ s.trig = [] ∧ s.since + edgesS ≤ m.tim.edge then ladderLeave step m else m

/-! ## Words that TIM's read-only registers show -/

/-- TIM_STAT (TIM table 5). -/
def timStatWord (m : Pnm) : Word :=
  BitVec.ofNat 32 (b2n m.tim.running + 2 * b2n m.tim.grid + 4 * b2n m.tim.selB + 8 * b2n m.tim.hold.isSome +
    16 * b2n (decide (slewD m.tim ≠ 0)) + 256 * m.tim.cls)

/-- TIM_DOM_STAT. -/
def timDomStatWord (m : Pnm) : Word :=
  let d := fun (x : Dom) => b2n x.annOk + 2 * b2n x.syncOk + 4 * b2n x.lost + 16 * x.port
  BitVec.ofNat 32 (d m.tim.dom1 + 256 * d m.tim.dom2)

/-- TIM_HOLD_S (R57). -/
def timHoldWord (m : Pnm) : Word :=
  if m.tim.hold.isSome then BitVec.ofNat 32 ((m.tim.edge - srcLostAt m m.tim.selB) / edgesS) else 0

/-- TIM_GRID_SEC and TIM_GRID_N (R68). -/
def timGridWords (m : Pnm) : Word × Word :=
  if m.tim.grid then
    (BitVec.ofNat 32 (m.tim.mt / (1000000000 * nsU)), BitVec.ofNat 32 ((nowU m % unitS) / unitTick))
  else (0, 0)

/-- TIM_IRIG_STAT with LOST in bit 3. -/
def timIrigStatWord (m : Pnm) : Word := setBit (rd m Reg.TIM_IRIG_STAT) 3 m.tim.irig.lost

end Sys2Proof.Machine
end

