-- ==== Sys2Proof/Machine/Mac.lean ====
section
/-! DEFINITION. MAC: ports, training, the receive path up to classification, transmit queues, pause, PRP and HSR
(chapter 03). Pair q of ports is (P2q, P2q+1). Ethernet addresses are held with the first octet on the wire in
bits [7:0], as SVI table 2 holds DMAC. -/

namespace Sys2Proof.Machine

/-! ## Ports -/

/-- Port p. -/
def getPort (m : Pnm) (p : Nat) : Port := m.mac.ports.getD p Port.init

/-- Change port p. -/
def modPort (m : Pnm) (p : Nat) (f : Port → Port) : Pnm :=
  { m with mac := { m.mac with ports := modAt m.mac.ports p f } }

/-- A register of port p. -/
def pr (base p : Nat) : Nat := Reg.port base p

/-- MAC_PORTn_CTRL.EN. -/
def portEn (m : Pnm) (p : Nat) : Bool := rb m (pr Reg.MAC_PORT_CTRL p) 0

/-- MAC_PORTn_STAT.LINK_UP. -/
def linkUp (m : Pnm) (p : Nat) : Bool := rb m (pr Reg.MAC_PORT_STAT p) 0

/-- Name a MAC configuration error (FIELD, PORT). -/
def macErr (field port : Nat) (m : Pnm) : Pnm :=
  wf (wf m Reg.MAC_CFG_ERR 7 0 field) Reg.MAC_CFG_ERR 11 8 port

/-- The speed codes of a port's row in fallback order (MAC table 1). -/
def portSpeeds (p : Nat) : List Nat :=
  if p ≤ 7 then [0, 1, 2] else if p ≤ 9 then [2, 3] else if p = 10 then [4] else [0, 1]

/-- The speeds a port tries from its configured speed on (R72); P8 and P9 have no fallback. -/
def trySpeeds (p speed : Nat) : List Nat :=
  if p = 8 ∨ p = 9 then [speed] else (portSpeeds p).dropWhile (· ≠ speed)

/-- Line rate in Mbit/s of a speed code. -/
def speedMbps (code : Nat) (hundred : Bool) : Nat :=
  if code = 0 then 25000 else if code = 1 then 10000 else if code = 2 then 1000 else if code = 3 then 100
  else if hundred then 100 else 1000

/-- MAC_PORTn_CFG.SPEED. -/
def cfgSpeed (m : Pnm) (p : Nat) : Nat := rf m (pr Reg.MAC_PORT_CFG p) 2 0

/-- The port's optic supports a speed; P10 has no optic (R72). -/
def opticHas (o : Option Optic) (p s : Nat) : Bool :=
  if p = 10 then true else match o with | some x => x.speeds.contains s | none => false

/-- R72, R75: read the optic and begin training at the first speed of the order that it supports. -/
def startTrain (p : Nat) (o : Option Optic) (m : Pnm) : Pnm :=
  let s := (trySpeeds p (cfgSpeed m p)).find? (opticHas o p)
  let unsup := decide (p ≠ 10) && o.isSome && (portSpeeds p).all (fun x => !opticHas o p x)
  let idw := match o with | some x => BitVec.ofNat 32 (x.ident % 256 + 256 * b2n x.ddm) | none => 0
  let m1 := wf (wr m (pr Reg.MAC_PORT_OPT_ID p) idw) (pr Reg.MAC_PORT_STAT p) 6 6 (b2n (o.isSome && decide (p ≠ 10)))
  let m2 := if unsup then sb m1 (pr Reg.MAC_PORT_FLAGS p) 3 else m1
  modPort m2 p fun x => { x with optic := o, trial := s,
                                 trainDue := if s.isSome then some (m.tim.edge + 500 * edgesMs) else none }

/-- R95: add one to counter i of port p; a change of bit 31 raises event 0x3B. -/
def cnt (p i : Nat) (m : Pnm) : Pnm :=
  let o := pr (Reg.MAC_PORT_CNT + 4 * i) p
  let v := rd m o
  raiseIf (decide (bit v 31 ≠ bit (v + 1) 31)) { src := 2, code := 0x3B, cls := 3, items := [p, i] } (wr m o (v + 1))

/-- Add n to counter i of port p. -/
def cntN (p i : Nat) : Nat → Pnm → Pnm
  | 0, m => m
  | n + 1, m => cntN p i n (cnt p i m)

/-- Add octets to a 64-bit octet counter (R95). -/
def octets (lo n : Nat) (m : Pnm) : Pnm :=
  let v := (rd m lo).toNat + nsU * (rd m (lo + 4)).toNat + n
  wr (wr m lo (loW v)) (lo + 4) (hiW v)

/-- The effects of a link that goes down (R73, R83): state, discarded queues, step 4, flag and event. -/
def linkLost (p : Nat) (m : Pnm) : Pnm :=
  let lost := (getPort m p).queues.foldl (fun a q => a + q.length) 0
  let m1 := wf (cb (cb m (pr Reg.MAC_PORT_STAT p) 0) (pr Reg.MAC_PORT_STAT p) 7) (pr Reg.MAC_PORT_STAT p) 5 1 7
  let m2 := modPort m1 p fun x => { x with queues := List.replicate 8 [], held := List.replicate 8 none, mbps := 0 }
  let m3 := cnt p 30 (cntN p 29 lost m2)
  raise { src := 2, code := 0x3A, cls := 2, items := [p] } (ladderClear 4 p (sb m3 (pr Reg.MAC_PORT_FLAGS p) 0))

/-- R72, R98: a write of MAC_PORTn_CTRL with the optic that the port finds. -/
def portCtrlWrite (p : Nat) (data : Word) (o : Option Optic) (m : Pnm) : Pnm :=
  let speed := cfgSpeed m p
  let ml := rf m (pr Reg.MAC_PORT_CFG p) 27 16
  let was := portEn m p
  if bit data 0 ∧ was = false then
    if (portSpeeds p).contains speed = false then macErr 1 p m
    else if ml < 64 ∨ 2048 < ml then macErr 2 p m
    else startTrain p o (nodeUse (32 + p) true (sb m (pr Reg.MAC_PORT_CTRL p) 0))
  else if bit data 0 = false ∧ was then
    let m1 := if linkUp m p then linkLost p m else m
    nodeUse (32 + p) false (modPort (cb m1 (pr Reg.MAC_PORT_CTRL p) 0) p fun x =>
      { x with trial := none, trainDue := none, xoffDue := none })
  else m

/-- R73: a write of 1 to RETRAIN. -/
def portRetrain (p : Nat) (m : Pnm) : Pnm :=
  if portEn m p then startTrain p (getPort m p).optic (if linkUp m p then linkLost p m else m) else m

/-- R72: 500 ms without a link: the next speed of the fallback order. -/
def trainTimeout (p : Nat) (m : Pnm) : Pnm :=
  let x := getPort m p
  if due x.trainDue m.tim.edge then
    let nxt := match x.trial with
      | some s => ((trySpeeds p (cfgSpeed m p)).dropWhile (· ≠ s)).tail.find? (opticHas x.optic p)
      | none => none
    modPort m p fun y => { y with trial := nxt,
                                  trainDue := if nxt.isSome then some (m.tim.edge + 500 * edgesMs) else none }
  else m

/-- R62: load the factory delays of a trained speed unless CUSTOM is 1. -/
def loadDelays (p speed : Nat) (m : Pnm) : Pnm :=
  if rb m (Reg.tport Reg.TIM_PORT_CFG p) 0 then m
  else
    let id := match (getPort m p).optic with | some x => x.ident | none => 0
    wr (wr m (Reg.tport Reg.TIM_PORT_RXDLY p) (Config.factoryDelay p speed id false))
      (Reg.tport Reg.TIM_PORT_TXDLY p) (Config.factoryDelay p speed id true)

/-- R72 to R74: a link comes up at the speed under trial. `hundred` is a 100 Mbit/s outcome on P10; `fec` is the FEC
that auto-negotiation or the optic type yields for code 3. -/
def linkComesUp (p : Nat) (hundred : Bool) (fec : Nat) (m : Pnm) : Pnm :=
  match (getPort m p).trial with
  | none => m
  | some s =>
    let below := decide (s ≠ cfgSpeed m p) || (decide (p = 10) && hundred)
    let fc := rf m (pr Reg.MAC_PORT_CFG p) 5 4
    let fa := if s ≠ 0 then 0 else if fc = 3 then fec % 3 else fc
    let m1 := wr m (pr Reg.MAC_PORT_STAT p)
      (setBits (setBits (setBits (setBits (rd m (pr Reg.MAC_PORT_STAT p)) 0 0 1) 3 1 s) 5 4 fa) 7 7 (b2n below))
    let m2 := modPort m1 p fun x => { x with trial := none, trainDue := none, mbps := speedMbps s hundred }
    let m3 := raise { src := 2, code := 0x3A, cls := 2, items := [p] }
      (sb (loadDelays p s m2) (pr Reg.MAC_PORT_FLAGS p) 0)
    if below then ladderEnter 4 p m3 else ladderClear 4 p m3

/-- R73: a link goes down and the port retrains from its configured speed. -/
def linkGoesDown (p : Nat) (m : Pnm) : Pnm :=
  if linkUp m p then startTrain p (getPort m p).optic (linkLost p m) else m

/-- One optic's diagnostic page (R75): port, temperature, supply, bias, powers, alarm and warning bytes. -/
def opticRead (m : Pnm) (r : Nat × Nat × Nat × Nat × Nat × Nat × BitVec 32) : Pnm :=
  let (p, temp, vcc, bias, tx, rx, aw) := r
  match (getPort m p).optic with
  | some o =>
    if o.ddm then
      let fresh := aw &&& ~~~ rd m (pr Reg.MAC_PORT_OPT_AW p)
      let al := decide (bits fresh 15 0 ≠ 0)
      let wn := decide (bits fresh 31 16 ≠ 0)
      let m1 := wrs m (pr Reg.MAC_PORT_OPT_TEMP p)
        [loW (temp % 65536), loW (vcc % 65536), loW (bias % 65536), loW (tx % 65536), loW (rx % 65536), aw]
      let m2 := if al then sb m1 (pr Reg.MAC_PORT_FLAGS p) 1 else m1
      let m3 := if wn then sb m2 (pr Reg.MAC_PORT_FLAGS p) 2 else m2
      raiseIf (al || wn) { src := 2, code := 0x3C, cls := 2, items := [p] } m3
    else m
  | none => m

/-! ## Pairs -/

/-- Mode of the pair of port p: 0 independent, 1 PRP, 2 HSR (R86). P10 and P11 belong to no pair. -/
def pairMode (m : Pnm) (p : Nat) : Nat :=
  if p ≤ 9 then rf m Reg.MAC_PAIRMODE (2 * (p / 2) + 1) (2 * (p / 2)) else 0

/-- The other port of a pair. -/
def otherPort (p : Nat) : Nat := if p % 2 = 0 then p + 1 else p - 1

/-- A write of MAC_PAIRMODE (R86). -/
def pairModeWrite (data : Word) (m : Pnm) : Pnm :=
  let code := fun q => bits data (2 * q + 1) (2 * q)
  let old := fun q => rf m Reg.MAC_PAIRMODE (2 * q + 1) (2 * q)
  match (List.range 5).find? (fun q => code q = 3) with
  | some q => macErr 7 (2 * q) m
  | none =>
    if code 4 = 2 then macErr 4 8 m
    else match (List.range 5).find? (fun q => code q ≠ old q && (portEn m (2 * q) || portEn m (2 * q + 1))) with
      | some q => macErr 3 (2 * q) m
      | none => wf m Reg.MAC_PAIRMODE 9 0 (bits data 9 0)

/-- ENTRY_FORGET of the pair's mode in edges (R87). -/
def entryForget (m : Pnm) (p : Nat) : Nat :=
  rf m (if pairMode m p = 2 then Reg.MAC_HSR_CFG else Reg.MAC_PRP_CFG) 31 16 * edgesMs

/-- The port's address. -/
def portAddr (m : Pnm) (p : Nat) : BitVec 48 :=
  BitVec.ofNat 48 ((rd m (pr Reg.MAC_PORT_ADDR_LO p)).toNat + nsU * rf m (pr Reg.MAC_PORT_ADDR_HI p) 15 0)

/-- A group address: the first octet's lowest bit. -/
def isGroup (a : BitVec 48) : Bool := a.getLsbD 0

/-- R88: a new source enters the node table; when the table is full it takes the place of the entry unheard the longest, if that
entry is older than ENTRY_FORGET. Answers whether it entered. -/
def nodeEnter (p : Nat) (e : NodeEnt) (m : Pnm) : Pnm × Bool :=
  let now := m.tim.edge
  if m.mac.nodes.length < 4096 then ({ m with mac := { m.mac with nodes := m.mac.nodes ++ [e] } }, true)
  else
    let oldest := m.mac.nodes.foldl (fun a n => min a n.heard) now
    if oldest + entryForget m p < now then
      ({ m with mac := { m.mac with nodes := (m.mac.nodes.eraseP (·.heard = oldest)) ++ [e] } }, true)
    else
      let say := decide (m.mac.fullSaid + edgesS ≤ now) || decide (m.mac.fullSaid = 0)
      (raiseIf say { src := 2, code := 0x3D, cls := 2, items := [p / 2] }
        (sb { m with mac := { m.mac with fullSaid := if say then now else m.mac.fullSaid } } Reg.MAC_NODE_STAT 16), false)

/-- The entry of a source on a pair in the node table. -/
def nodeIdx (m : Pnm) (q : Nat) (src : BitVec 48) : Option Nat :=
  m.mac.nodes.findIdx? fun n => decide (n.pair = q ∧ n.src = src)

/-- The outcome of duplicate discard for a sequence number from a source on a pair (R87, R88): the module, whether
the number is held already, and whether discard could not be applied (NO_DDT). -/
def dupCheck (p : Nat) (src : BitVec 48) (seq : BitVec 16) (m : Pnm) : Pnm × Bool × Bool :=
  let now := m.tim.edge
  let fg := entryForget m p
  match nodeIdx m (p / 2) src with
  | some i =>
    match m.mac.nodes[i]? with
    | some n =>
      let live := n.seqs.filter (fun s => decide (now < s.2))
      let back := (n.high - seq).toNat
      if live.any (·.1 = seq) then
        ({ m with mac := { m.mac with nodes := setAt m.mac.nodes i { n with heard := now } } }, true, false)
      else if 256 < back ∧ back < 32768 ∧ live ≠ [] then
        ({ m with mac := { m.mac with nodes := setAt m.mac.nodes i { n with heard := now } } }, false, true)
      else
        let n' : NodeEnt := { n with seqs := ((seq, now + fg) :: live).take 256,
                                     high := if live = [] ∨ 32768 ≤ back then seq else n.high, heard := now }
        ({ m with mac := { m.mac with nodes := setAt m.mac.nodes i n' } }, false, false)
    | none => (m, false, false)
  | none =>
    let r := nodeEnter p { pair := p / 2, src := src, seqs := [(seq, now + fg)], high := seq, heard := now } m
    (r.1, false, !r.2)

/-- MAC table 2: a supervision frame tells the node table of its source; it is not delivered. -/
def supRx (p : Nat) (src : BitVec 48) (m : Pnm) : Pnm :=
  match nodeIdx m (p / 2) src with
  | some i => { m with mac := { m.mac with nodes := modAt m.mac.nodes i fun n => { n with heard := m.tim.edge } } }
  | none => (nodeEnter p { pair := p / 2, src := src, seqs := [], high := 0, heard := m.tim.edge } m).1

/-- R88: an entry unheard for MAC_NODE_FORGET seconds leaves the node table. -/
def nodeForget (pair : Nat) (src : BitVec 48) (m : Pnm) : Pnm :=
  let lim := rf m Reg.MAC_NODE_FORGET 15 0 * edgesS
  let keep := m.mac.nodes.filter fun n => !(decide (n.pair = pair ∧ n.src = src ∧ n.heard + lim ≤ m.tim.edge))
  let m1 := { m with mac := { m.mac with nodes := keep } }
  if keep.length < 4096 then cb m1 Reg.MAC_NODE_STAT 16 else m1

/-! ## Transmit -/

/-- A frame enters the queue of its PCP; on a port without a link it is discarded and counted (R83). -/
def enqueue (p : Nat) (f : TxFrame) (m : Pnm) : Pnm :=
  if portEn m p && linkUp m p then
    modPort m p fun x => { x with queues := modAt x.queues (f.pcp % 8) (· ++ [f]) }
  else cnt p 29 m

/-- A frame that the module originates on port p (R89, R92): on both ports of a PRP or HSR pair, with one sequence
number, else on the port alone. Peer-delay messages go out on their port as they are. -/
def originate (p : Nat) (f : TxFrame) (m : Pnm) : Pnm :=
  let mode := pairMode m p
  if mode = 0 then enqueue p f m
  else
    let q := p / 2
    let s := m.mac.seqs.getD q 0
    let m1 := { m with mac := { m.mac with seqs := setAt m.mac.seqs q (s + 1) } }
    if mode = 1 then
      enqueue (2 * q + 1) { f with rct := some (s, true), len := f.len + 6 }
        (enqueue (2 * q) { f with rct := some (s, false), len := f.len + 6 } m1)
    else
      enqueue (2 * q + 1) { f with hsr := some s, len := f.len + 6 }
        (enqueue (2 * q) { f with hsr := some s, len := f.len + 6 } m1)

/-- A plain frame of a PCP and a body. -/
def txFrame (pcp len : Nat) (tag : Option (BitVec 3 × BitVec 12)) (body : TxBody) : TxFrame :=
  { pcp := pcp, len := len, rct := none, hsr := none, tag := tag, ingress := none, body := body }

/-- The tag and PCP of peer-delay messages (R80). -/
def pdelayTag (m : Pnm) (p : Nat) : Option (BitVec 3 × BitVec 12) :=
  if rb m (pr Reg.MAC_PORT_PTPTX p) 0 then
    some (BitVec.ofNat 3 (rf m (pr Reg.MAC_PORT_PTPTX p) 3 1), BitVec.ofNat 12 (rf m (pr Reg.MAC_PORT_PTPTX p) 15 4))
  else none

/-- Send XOFF or XON for BULK_PRIO (R85). -/
def sendPfc (p quanta : Nat) (m : Pnm) : Pnm :=
  cnt p 28 (emit m [.pfc p (rf m (pr Reg.MAC_PORT_PFC p) 10 8) quanta])

/-- Bytes in a port's bulk queue (R81). -/
def bulkFill (x : Port) : Nat := x.bulkQ.foldl (fun a w => a + w.data.length) 0

/-- Half of the time of 0xFFFF quanta of 512 bit times, in edges (R84, R85). -/
def halfQuanta (mbps : Nat) : Nat := 0xFFFF * 512 * 625 / (2 * max mbps 1)

/-- R85: XOFF when the bulk queue exceeds 48 KiB. -/
def pfcXoff (p : Nat) (m : Pnm) : Pnm :=
  let x := getPort m p
  if rb m (pr Reg.MAC_PORT_PFC p) 11 && x.xoffDue.isNone && decide (49152 < bulkFill x) then
    modPort (sendPfc p 0xFFFF m) p fun y => { y with xoffDue := some (m.tim.edge + halfQuanta x.mbps) }
  else m

/-- R85: XON when the bulk queue has fallen to 16 KiB. -/
def pfcXon (p : Nat) (m : Pnm) : Pnm :=
  let x := getPort m p
  if x.xoffDue.isSome && decide (bulkFill x ≤ 16384) then
    modPort (sendPfc p 0 m) p fun y => { y with xoffDue := none }
  else m

/-- R85: XOFF is repeated every half of the quanta time while the queue stays above 16 KiB. -/
def xoffRepeat (p : Nat) (m : Pnm) : Pnm :=
  let x := getPort m p
  if due x.xoffDue m.tim.edge then
    if 16384 < bulkFill x then
      modPort (sendPfc p 0xFFFF m) p fun y => { y with xoffDue := some (m.tim.edge + halfQuanta x.mbps) }
    else pfcXon p m
  else m

/-- R84: a PFC frame holds or releases the queues of obeyed priorities. -/
def pfcRx (p : Nat) (vec : Nat) (quanta : List (BitVec 16)) (m : Pnm) : Pnm :=
  let x := getPort m p
  let obey := rf m (pr Reg.MAC_PORT_PFC p) 7 0
  let h := (List.range 8).map fun i =>
    if vec.testBit i && obey.testBit i then
      let q := (quanta.getD i 0).toNat
      if q = 0 then none else some (m.tim.edge + q * 512 * 625 / max x.mbps 1)
    else x.held.getD i none
  cnt p 15 (modPort m p fun y => { y with held := h })

/-- R84: the quanta of a held priority expire. -/
def pauseExpiry (p prio : Nat) (m : Pnm) : Pnm :=
  if due ((getPort m p).held.getD prio none) m.tim.edge then
    modPort m p fun y => { y with held := setAt y.held prio none }
  else m

/-- R89, R92: a supervision frame on both ports of pair q. -/
def supervision (q : Nat) (m : Pnm) : Pnm :=
  let mode := pairMode m (2 * q)
  let cfg := if mode = 2 then Reg.MAC_HSR_CFG else Reg.MAC_PRP_CFG
  let life := rf m cfg 15 8
  if (mode = 1 ∨ mode = 2) ∧ rb m cfg 0 ∧ life ≠ 0 ∧ m.mac.supDue.getD q 0 ≤ m.tim.edge then
    let s := m.mac.seqs.getD q 0
    originate (2 * q) (txFrame 0 64 none (.supervision (decide (mode = 2)) s))
      { m with mac := { m.mac with supDue := setAt m.mac.supDue q (m.tim.edge + life * 100 * edgesMs) } }
  else m

/-- A port takes part in peer delay (R64): PDLY_EN and membership of an enabled Layer 2 domain. -/
def pdelayOn (m : Pnm) (p : Nat) : Bool :=
  let dom := fun (r : Nat) => rb m r 10 && decide (rf m r 9 8 ≠ 3) && (rf m r 23 12).testBit p
  rb m (Reg.tport Reg.TIM_PORT_CFG p) 1 && decide (p ≤ 10) && (dom Reg.TIM_DOM1_CFG || dom Reg.TIM_DOM2_CFG)

/-- R64: Pdelay_Req, once per second. A request still unanswered breaks the run of consistent exchanges. -/
def pdelaySend (p : Nat) (m : Pnm) : Pnm :=
  if pdelayOn m p ∧ m.tim.pdlyDue.getD p 0 ≤ m.tim.edge then
    let miss := m.tim.pdlyReq.getD p false
    let c := if miss then 0 else m.tim.pdlyCount.getD p 0
    let m1 := { m with tim := { m.tim with
                                pdlyReq := setAt m.tim.pdlyReq p true,
                                pdlyCount := setAt m.tim.pdlyCount p c,
                                pdlyDue := setAt m.tim.pdlyDue p (m.tim.edge + edgesS) } }
    let m2 := if miss then cb m1 (Reg.tport Reg.TIM_PORT_CFG p) 2 else m1
    enqueue p (txFrame (rf m (pr Reg.MAC_PORT_PTPTX p) 3 1) 72 (pdelayTag m p) (.pdelayReq 0)) m2
  else m

/-- R64: Delay_Req of a domain on P10 under the 1588 default profile, once per second. -/
def delayReqSend (two : Bool) (m : Pnm) : Pnm :=
  let r := if two then Reg.TIM_DOM2_CFG else Reg.TIM_DOM1_CFG
  if rb m r 10 ∧ rf m r 9 8 = 3 ∧ m.tim.delayDue.getD (b2n two) 0 ≤ m.tim.edge then
    enqueue 10 (txFrame (rf m (pr Reg.MAC_PORT_PTPTX 10) 3 1) 90 none (.delayReq (1 + b2n two) (rb m r 11)))
      { m with tim := { m.tim with delayDue := setAt m.tim.delayDue (b2n two) (m.tim.edge + edgesS) } }
  else m

/-! ## PTP (R61, R62, R64, R93) -/

/-- The tracked domain of a PTP message on a port: 1 or 2 (R54, R64). -/
def ptpDomain (m : Pnm) (p : Nat) (overUdp : Bool) (num : Nat) : Option Nat :=
  let ok := fun (r : Nat) => rb m r 10 && decide (rf m r 7 0 = num) && (rf m r 23 12).testBit p &&
    (decide (rf m r 9 8 = 3) == overUdp)
  if ok Reg.TIM_DOM1_CFG then some 1 else if ok Reg.TIM_DOM2_CFG then some 2 else none

/-- Duration of a frame of `len` bytes on a line, in 2^-32 ns. -/
def lineTime (mbps len : Nat) : Nat := len * 8000 * nsU / max mbps 1

/-- A 16.16 ns delay register in 2^-32 ns. -/
def dly (w : Word) : Nat := w.toNat * 65536

/-- The receive timestamp of a frame whose last bit arrives now (R61, R62), in clock code c. -/
def rxStamp (m : Pnm) (p c len : Nat) : Nat :=
  clkOf m c - (lineTime (getPort m p).mbps len + dly (rd m (Reg.tport Reg.TIM_PORT_RXDLY p)))

/-- The transmit timestamp of a frame that starts now (R62). -/
def txStamp (m : Pnm) (p c : Nat) : Nat := clkOf m c + dly (rd m (Reg.tport Reg.TIM_PORT_TXDLY p))

/-- The clock a PTP frame's timestamp is taken in: A for domain 1, B for domain 2 (R61). -/
def domClk (d : Option Nat) : Nat := d.getD 0

/-- R64: a peer-delay exchange completes with the responder's follow-up. -/
def pdelayDone (p : Nat) (t3 : Int) (m : Pnm) : Pnm :=
  let t := m.tim
  if t.pdlyReq.getD p false then
    let turn : Int := (t.pdlyT4.getD p 0 : Int) - (t.pdlyT1.getD p 0 : Int)
    let d := (turn - (t3 - t.pdlyT2.getD p 0)) / 2
    let c := t.pdlyCount.getD p 0 + 1
    let m1 := { m with tim := { t with pdlyReq := setAt t.pdlyReq p false, pdlyCount := setAt t.pdlyCount p c } }
    let m2 := wr m1 (Reg.tport Reg.TIM_PORT_PDLY p) (BitVec.ofNat 32 (ux 32 (d / 65536)))
    if 3 ≤ c then sb m2 (Reg.tport Reg.TIM_PORT_CFG p) 2 else m2
  else m

/-- R55: a Sync of a tracked domain. The first master heard is the current one until the domain becomes LOST. -/
def domSync (edge tmo p : Nat) (src : BitVec 80) (d : Dom) : Dom :=
  if d.lost then { d with syncFrom := src :: d.syncFrom.filter (· ≠ src), port := p }
  else if d.master = none ∨ d.master = some src then
    { d with master := some src, port := p, syncOk := true, syncDue := some (edge + tmo) }
  else d

/-- R55: an Announce of a tracked domain. -/
def domAnnounce (edge intervalMs p : Nat) (src : BitVec 80) (d : Dom) : Dom :=
  if d.lost then
    { d with annFrom := src :: d.annFrom.filter (· ≠ src), port := p, annDue := some (edge + 3 * intervalMs * edgesMs) }
  else if d.master = none ∨ d.master = some src then
    { d with master := some src, port := p, annOk := true, annDue := some (edge + 3 * intervalMs * edgesMs) }
  else d

/-- R55: the master whose Sync and Announce have both arrived since the domain became LOST. -/
def domBack (d : Dom) : Option (BitVec 80) :=
  if d.lost then d.syncFrom.find? (fun s => d.annFrom.contains s) else none

/-- R55, R64: a PTP message of a tracked domain updates the domain and the peer delay. -/
def ptpTrack (p n : Nat) (f : PtpFrame) (len : Nat) (m : Pnm) : Pnm :=
  let r := if n = 2 then Reg.TIM_DOM2_CFG else Reg.TIM_DOM1_CFG
  let tmo := rf m r 31 24 * 100 * edgesMs
  let d0 := if n = 2 then m.tim.dom2 else m.tim.dom1
  let put := fun (d : Dom) => { m with tim := if n = 2 then { m.tim with dom2 := d } else { m.tim with dom1 := d } }
  let after := fun (d : Dom) =>
    match domBack d with
    | some s => sourceBack n (put { d with lost := false, master := some s, port := p, syncOk := true, annOk := true,
                                           syncDue := some (m.tim.edge + tmo), syncFrom := [], annFrom := [] })
    | none => put d
  match f.kind with
  | .sync => after (domSync m.tim.edge tmo p f.source d0)
  | .announce => after (domAnnounce m.tim.edge f.intervalMs p f.source d0)
  | .pdelayReq =>
    if pdelayOn m p then
      enqueue p (txFrame (rf m (pr Reg.MAC_PORT_PTPTX p) 3 1) 72 (pdelayTag m p)
        (.pdelayResp f (rxStamp m p n len / nsU))) m
    else m
  | .pdelayResp =>
    { m with tim := { m.tim with
                      pdlyT2 := setAt m.tim.pdlyT2 p ((f.bodyNs : Int) * nsU - f.correction * 65536),
                      pdlyT4 := setAt m.tim.pdlyT4 p (rxStamp m p n len) } }
  | .pdelayRespFollowUp => pdelayDone p ((f.bodyNs : Int) * nsU + f.correction * 65536) m
  | _ => m

/-- PTP messages that are delivered to the PF (R64). -/
def ptpToPf (k : PtpKind) : Bool := k = .sync || k = .followUp || k = .announce || k = .delayResp

/-- R93: the amount by which a forwarded PTP frame's correction is raised, in 2^-16 ns rounded to the nearest. -/
def tcAdd (m : Pnm) (ing eg n stamp : Nat) : Int × Bool :=
  let res : Int := (txStamp m eg n : Int) - (stamp : Int)
  let valid := rb m (Reg.tport Reg.TIM_PORT_CFG ing) 2
  ((res + 32768) / 65536 + (if valid then sx 32 (rd m (Reg.tport Reg.TIM_PORT_PDLY ing)).toNat else 0), valid)

/-- R93: transparent-clock correction as a forwarded PTP frame leaves port `eg`, which counts it (log entry 25). -/
def tcLeave (eg : Nat) (f : Frame) (pf : PtpFrame) (ing sA sB sM : Nat) (m : Pnm) : Pnm × Int :=
  let dom := match ptpDomain m ing false pf.domain.toNat with | some d => d | none => 0
  let r := tcAdd m ing eg dom (if dom = 1 then sA else if dom = 2 then sB else sM)
  let warned := fun (x : Pnm) => if r.2 then x else sb x (pr Reg.MAC_PORT_FLAGS ing) 5
  let flagged := fun (x : Pnm) => cnt eg 25 (warned x)
  let q := eg / 2
  match pf.kind with
  | .sync =>
    if pf.twoStep then
      let e : TcEnt := { pair := q, domain := pf.domain, source := pf.source, seqId := pf.seqId, value := r.1 }
      let mine := m.mac.tc.filter (fun x => decide (x.pair = q))
      let rest := m.mac.tc.filter (fun x => decide (x.pair ≠ q))
      (warned { m with mac := { m.mac with tc := rest ++ (mine.drop (mine.length - 63)) ++ [e] } }, 0)
    else (flagged m, r.1)
  | .followUp =>
    match m.mac.tc.find? (fun x => decide (x.pair = q ∧ x.domain = pf.domain ∧ x.source = pf.source ∧ x.seqId = pf.seqId)) with
    | some x => (cnt eg 25 { m with mac := { m.mac with tc := m.mac.tc.erase x } }, x.value)
    | none => (cnt eg 26 m, 0)
  | .delayReq => (flagged m, r.1)
  | .delayResp => (flagged m, r.1)
  | _ => let _ := f; (m, 0)

/-- R83: the frame that a port sends next: the highest priority that is not held, in order within its queue. -/
def nextTx (x : Port) : Option (Nat × TxFrame) :=
  ([7, 6, 5, 4, 3, 2, 1, 0].findSome? fun i =>
    match x.queues.getD i [], x.held.getD i none with
    | f :: _, none => some (i, f)
    | _, _ => none)

/-- What starts on the wire with a frame: counters, octets, and the frame itself. -/
def txOut (p : Nat) (f : TxFrame) (m : Pnm) : Pnm :=
  emit (octets (pr Reg.MAC_TX_OCTETS_LO p) f.len (cnt p 27 m)) [.tx p f]

/-- The number of a domain of a peer-delay message, for its timestamps. -/
def pdelayClk (m : Pnm) (p : Nat) : Nat :=
  if rb m Reg.TIM_DOM1_CFG 10 && (rf m Reg.TIM_DOM1_CFG 23 12).testBit p then 1 else 2

/-- R83: a frame starts on the wire of port p. Answers the bulk frame that asked for its timestamp, if it was one. -/
def frameStart (p : Nat) (m : Pnm) : Pnm × Option (BitVec 32 × Bool × Nat) :=
  match nextTx (getPort m p) with
  | none => (m, none)
  | some (i, f) =>
    let m1 := modPort m p fun x => { x with queues := modAt x.queues i List.tail }
    match f.body with
    | .pdelayReq _ =>
      (txOut p f { m1 with tim := { m1.tim with pdlyT1 := setAt m1.tim.pdlyT1 p (txStamp m p (pdelayClk m p)) } }, none)
    | .pdelayResp g _ =>
      (enqueue p { f with body := .pdelayRespFollowUp g (txStamp m p (domClk (ptpDomain m p false g.domain.toNat)) / nsU) }
        (txOut p f m1), none)
    | .forward g _ =>
      match g.body, f.ingress with
      | .ptp _ pf, some (ing, sA, sB, sM) =>
        let r := tcLeave p g pf ing sA sB sM m1
        (txOut p { f with body := .forward g r.2 } r.1, none)
      | _, _ => (txOut p f m1, none)
    | .bulk tag ts _ => (txOut p f m1, some (tag, ts, txStamp m p 0))
    | _ => (txOut p f m1, none)

/-! ## Receive (R76 to R82, R87, R90) -/

/-- A frame that has passed MAC: the frame status word's flags and the class of MAC table 2. -/
structure RxResult where
  m : Pnm
  /-- Class code, or none where the frame went no further. -/
  cls : Option Nat
  status : Nat

/-- R76: the status bits of a frame's checks. -/
def frameChecks (m : Pnm) (p : Nat) (f : Frame) : Nat :=
  b2n (!f.fcsOk) + 2 * b2n (!f.codeOk) + 4 * b2n (decide (f.len < 64)) +
    8 * b2n (decide (rf m (pr Reg.MAC_PORT_CFG p) 27 16 < f.len))

/-- The counters of a bad frame (MAC table 4); a coding error under FEC is also an uncorrected FEC error. -/
def countBad (p st : Nat) (m : Pnm) : Pnm :=
  let c := fun (b i : Nat) (x : Pnm) => if st.testBit b then cnt p i x else x
  let fec := decide (rf m (pr Reg.MAC_PORT_STAT p) 5 4 ≠ 0) && st.testBit 1
  let m1 := c 3 4 (c 2 3 (c 1 2 (c 0 1 m)))
  if fec then cnt p 31 m1 else m1

/-- A frame waits in the port's bulk queue for a PF receive buffer, or is dropped and counted (R81, R356). -/
def toPf (p : Nat) (f : Frame) (status clk ts : Nat) (m : Pnm) : Pnm :=
  let waiting := m.mac.ports.foldl (fun a x => a + x.bulkQ.length) 0
  let d := f.raw.take (rf m (pr Reg.MAC_PORT_CFG p) 27 16)
  if waiting < m.hif.rxPosts.length ∧ bulkFill (getPort m p) + d.length ≤ 65536 then
    let w : RxWait :=
      { port := p, status := status + 16 * b2n (decide (d.length < f.raw.length)), clk := clk, tsNs := ts / nsU,
        tsFrac := ts % nsU, vid := (f.tag.map (·.2.toNat)).getD 0, pcp := (f.tag.map (·.1.toNat)).getD 0,
        origLen := f.len, data := d }
    pfcXoff p (modPort m p fun x => { x with bulkQ := x.bulkQ ++ [w] })
  else cnt p 14 m

/-- R79: the VLAN checks let the frame in. -/
def vlanOk (m : Pnm) (p : Nat) (f : Frame) : Bool :=
  match f.tag with
  | none => rb m (pr Reg.MAC_PORT_CFG p) 8
  | some (_, vid) =>
    !rb m (pr Reg.MAC_PORT_CFG p) 9 ||
      (List.range 8).any (fun k => rb m (pr (Reg.MAC_PORT_VID + 4 * k) p) 15 &&
        decide (rf m (pr (Reg.MAC_PORT_VID + 4 * k) p) 11 0 = vid.toNat))

/-- The class of MAC table 2 on a port. -/
def classOf (m : Pnm) (p : Nat) (b : FrameBody) : Nat :=
  match b with
  | .sv _ => if p ≤ 9 then 1 else 0
  | .goose _ => if p ≤ 10 then 2 else 0
  | .ptp udp _ => if p ≤ 10 ∧ (udp = false ∨ p = 10) then 3 else 0
  | .pair _ => if p ≤ 9 ∨ p = 11 then 4 else 0
  | .rgoose _ => if p ≤ 10 then 5 else 0
  | .sup => if pairMode m p ≠ 0 then 6 else 0
  | _ => 0

/-- R85: a frame of classes SV, GOOSE, PTP, PAIR or RGOOSE at BULK_PRIO is a conflict. -/
def pfcConflict (p cls : Nat) (f : Frame) (m : Pnm) : Pnm :=
  match f.tag with
  | some (pcp, _) =>
    if 1 ≤ cls ∧ cls ≤ 5 ∧ rb m (pr Reg.MAC_PORT_PFC p) 11 ∧ pcp.toNat = rf m (pr Reg.MAC_PORT_PFC p) 10 8 then
      let m1 := modPort (sendPfc p 0 m) p fun x => { x with xoffDue := none }
      raise { src := 2, code := 0x3E, cls := 2, items := [p] }
        (sb (cb m1 (pr Reg.MAC_PORT_PFC p) 11) (pr Reg.MAC_PORT_FLAGS p) 4)
    else m
  | none => m

/-- The class counter of a frame handed to its block (MAC table 4). Frames of classes OTHER and PTP count where they are
delivered or refused (`otherRx`, `ptpRx`). -/
def countClass (p c : Nat) (m : Pnm) : Pnm :=
  if c = 1 then cnt p 5 m else if c = 2 ∨ c = 5 then cnt p 6 m else if c = 4 then cnt p 8 m
  else if c = 6 then cnt p 20 m else m

/-- R77, from the redundancy trailer on: duplicate discard, address check, classification. -/
def classify (p : Nat) (f : Frame) (st : Nat) (m : Pnm) : RxResult :=
  if isGroup f.dst = false ∧ f.dst ≠ portAddr m p then { m := cnt p 10 m, cls := none, status := st }
  else
    let c := classOf m p f.body
    if p = 11 ∧ c ≠ 4 then { m := cnt p 10 m, cls := none, status := st }
    else
      let m1 := pfcConflict p c f (countClass p c m)
      { m := m1, cls := some c, status := st + 4096 * c }

/-- R77: an S-tagged frame is of class OTHER, whatever its destination; on P11 it counts in MAC_RX_ORPHAN. -/
def stagRx (p st : Nat) (m : Pnm) : RxResult :=
  let m1 := cnt p 13 m
  if p = 11 then { m := cnt p 10 m1, cls := none, status := st } else { m := m1, cls := some 0, status := st }

/-- R77, from the S-tag test on, for a frame that has no redundancy trailer. -/
def tagRx (p : Nat) (f : Frame) (st : Nat) (m : Pnm) : RxResult :=
  if f.stag then stagRx p st m
  else if vlanOk m p f = false then { m := cnt p 11 m, cls := none, status := st }
  else classify p f st m

/-- R90: an HSR-tagged frame on a ring port: removed, forwarded, delivered. -/
def hsrRx (p : Nat) (f : Frame) (seq : BitVec 16) (st : Nat) (m : Pnm) : RxResult :=
  let own := (List.range 12).any fun i => decide (portAddr m i = f.src)
  if own then { m := cnt p 22 m, cls := none, status := st }
  else
    let q := p / 2
    let unicastHere := decide (f.dst = portAddr m p)
    let seen := m.mac.fwd.any fun x => decide (x.1 = q ∧ x.2.1 = p ∧ x.2.2.1 = f.src ∧ x.2.2.2.1 = seq ∧
      m.tim.edge < x.2.2.2.2 + entryForget m p)
    let m1 :=
      if unicastHere || seen then m
      else
        let keep := (m.mac.fwd.filter fun x => decide (m.tim.edge < x.2.2.2.2 + entryForget m p)).take 1023
        let back := fun c => rxStamp m p c f.len
        cnt p 21 (enqueue (otherPort p)
          { pcp := (f.tag.map (·.1.toNat)).getD 0, len := f.len, rct := none, hsr := some seq, tag := f.tag,
            ingress := some (p, back 1, back 2, back 0), body := .forward f 0 }
          { m with mac := { m.mac with fwd := (q, p, f.src, seq, m.tim.edge) :: keep } })
    if isGroup f.dst = false ∧ unicastHere = false then { m := m1, cls := none, status := st }
    else
      let r := dupCheck p f.src seq m1
      let ptpTracked := match f.body with
        | .ptp u g => (ptpDomain m p u g.domain.toNat).isSome
        | _ => false
      if r.2.1 then
        if ptpTracked then tagRx p f (st + 512) r.1
        else { m := cnt p 23 r.1, cls := none, status := st }
      else tagRx p f (st + 64 * b2n r.2.2) r.1

/-- R77: a good frame, from the HSR tag on. -/
def goodRx (p : Nat) (f : Frame) (m : Pnm) : RxResult :=
  let mode := pairMode m p
  let st0 := 32 * b2n f.stag
  match f.body with
  | .pfc v q => { m := pfcRx p v.toNat q m, cls := none, status := 0 }
  | .pause => { m := cnt p 16 m, cls := none, status := 0 }
  | _ =>
    if mode = 2 ∧ f.hsr.isSome then hsrRx p f (f.hsr.getD 0) st0 m
    else
      let m0 := if mode = 2 then cnt p 24 m else m
      let st1 := st0 + 256 * b2n (decide (mode = 2))
      if mode = 1 ∧ f.stag = false ∧ vlanOk m0 p f then
        match f.rct with
        | none => classify p f st1 (cnt p 19 m0)
        | some (seq, lanB) =>
          let wrong := decide (lanB ≠ decide (p % 2 = 1))
          let m1 := if wrong then cnt p 18 m0 else m0
          let r := dupCheck p f.src seq m1
          if r.2.1 then { m := cnt p 17 r.1, cls := none, status := st1 }
          else classify p f (st1 + 64 * b2n r.2.2 + 128 * b2n wrong) r.1
      else tagRx p f st1 m0

/-- R76, R82: a whole frame at a port, up to its class. -/
def macRx (p : Nat) (f : Frame) (m : Pnm) : RxResult :=
  let st := frameChecks m p f
  if st ≠ 0 then
    let m1 := countBad p st m
    let m2 := if rb m (pr Reg.MAC_PORT_CFG p) 6 && decide (14 ≤ f.len) then toPf p f st 0 (rxStamp m p 0 f.len) m1 else m1
    { m := m2, cls := none, status := st }
  else goodRx p f (octets (pr Reg.MAC_RX_OCTETS_LO p) f.len (cnt p 0 m))

/-- R64, R77: a PTP frame that has been classified; one of a domain that TIM does not track counts as such and not in
MAC_RX_PTP (log entry 20). -/
def ptpRx (p : Nat) (overUdp : Bool) (g : PtpFrame) (f : Frame) (st : Nat) (m : Pnm) : Pnm :=
  match ptpDomain m p overUdp g.domain.toNat with
  | none => cnt p 12 m
  | some n =>
    let m1 := ptpTrack p n g f.len (cnt p 7 m)
    if ptpToPf g.kind then toPf p f st n (rxStamp m p n f.len) m1 else m1

/-- R77: a frame of class OTHER; one that is not delivered counts in MAC_RX_ORPHAN in place of MAC_RX_OTHER (log entry 20). -/
def otherRx (p : Nat) (f : Frame) (st : Nat) (m : Pnm) : Pnm :=
  if rb m (pr Reg.MAC_PORT_CFG p) 7 then toPf p f st 0 (rxStamp m p 0 f.len) (cnt p 9 m) else cnt p 10 m

/-! ## Register writes and views -/

/-- A write of MAC_PORTn_CFG (R71): a speed outside the port's row is ignored and named. -/
def portCfgWrite (p : Nat) (data : Word) (m : Pnm) : Pnm :=
  let v := data &&& 0x0FFF03F7#32
  if (portSpeeds p).contains (bits data 2 0) then wr m (pr Reg.MAC_PORT_CFG p) v
  else macErr 1 p (wr m (pr Reg.MAC_PORT_CFG p) (setBits v 2 0 (cfgSpeed m p)))

/-- A write of MAC_PRP_CFG or MAC_HSR_CFG; a zero ENTRY_FORGET is ignored. -/
def redCfgWrite (reg : Nat) (data : Word) (m : Pnm) : Pnm :=
  let v := data &&& 0xFFFFFF01#32
  if bits data 31 16 = 0 then macErr 5 0 (wr m reg (setBits v 31 16 (rf m reg 31 16))) else wr m reg v

/-- A write of MAC_NODE_FORGET; zero is ignored. -/
def nodeForgetWrite (data : Word) (m : Pnm) : Pnm :=
  if bits data 15 0 = 0 then macErr 6 0 m else wr m Reg.MAC_NODE_FORGET (BitVec.ofNat 32 (bits data 15 0))

/-- MAC_PORTn_STAT with XOFF and PAUSED. -/
def portStatWord (m : Pnm) (p : Nat) : Word :=
  let x := getPort m p
  setBits (setBits (rd m (pr Reg.MAC_PORT_STAT p)) 8 8 (b2n x.xoffDue.isSome)) 9 9 (b2n (x.held.any Option.isSome))

/-- MAC_NODE_STAT. -/
def nodeStatWord (m : Pnm) : Word := setBits (rd m Reg.MAC_NODE_STAT) 12 0 m.mac.nodes.length

end Sys2Proof.Machine
end

