-- ==== Sys2Proof/Machine/Svi.lean ====
section
/-! DEFINITION. SVI: subscriptions, frame checks, placement on the sample grid, deadlines and substitutes, overload, and
the sample plane's values (chapter 04). -/

namespace Sys2Proof.Machine

/-! ## Subscription entries (R99 to R105) -/

/-- Entry i of the subscription table. -/
def subEntry (m : Pnm) (i : Nat) : List Word := NMap.get subDflt m.svi.sub i

/-- The enabled entries with their indices, in order. -/
def enabledSubs (m : Pnm) : List (Nat × List Word) := m.svi.sub.filter fun p => fbit p.2 0 0

/-- RATE, CH_COUNT and SLOT_BASE of an entry, and its sample spacing in grid ticks. -/
def eRate (e : List Word) : Nat := fld e 0 15 12
def eCh (e : List Word) : Nat := fld e 0 20 16
def eBase (e : List Word) : Nat := fld e 1 12 0
def eN (e : List Word) : Nat := svN (eRate e)

/-- R101: the stream units of an entry. -/
def eUnits (e : List Word) : Nat := cdiv (eCh e) 8 * cdiv (svRate (eRate e)) 4800

/-- The enabled entry that maps a slot. -/
def slotEntry (m : Pnm) (s : Nat) : Option (Nat × List Word) :=
  (enabledSubs m).find? fun p => decide (eBase p.2 ≤ s ∧ s < eBase p.2 + eCh p.2)

/-- The slots of an entry. -/
def eSlots (e : List Word) : List Nat := List.range' (eBase e) (eCh e)

/-- The plane spacing P in grid ticks (R20). -/
def planeTicks (m : Pnm) : Nat := planeP (rf m Reg.SVI_PLANE 2 0)

/-- Slot-map fields of a slot (R145): PROFILE, REF, PH_EN. -/
def slotProf (m : Pnm) (s : Nat) : Nat := bits (NMap.get (fun _ => 0) m.fpe.smap s) 7 0
def slotRef (m : Pnm) (s : Nat) : Nat := bits (NMap.get (fun _ => 0) m.fpe.smap s) 13 8
def slotPh (m : Pnm) (s : Nat) : Bool := bit (NMap.get (fun _ => 0) m.fpe.smap s) 14

/-- R140, R149: the chain delay of a slot in grid ticks; the larger of the two while a Glide runs. -/
def slotDelay (m : Pnm) (s : Nat) : Nat :=
  let d := fun (p : Nat) => delayGt (profWords m p)
  match m.fpe.glide with
  | some g => if g.slots.contains s then max (d g.src) (d g.dst) else d (slotProf m s)
  | none => d (slotProf m s)

/-- R112: the stream delay G_s in grid ticks. -/
def streamDelay (m : Pnm) (e : List Word) : Nat := (eSlots e).foldl (fun a s => max a (slotDelay m s)) 0

/-- The G that RUN would latch, with one more entry enabled (R112, R119). -/
def gLatch (m : Pnm) (extra : List (List Word)) : Nat :=
  ((enabledSubs m).map (·.2) ++ extra).foldl (fun a e => max a (streamDelay m e)) 0

/-- Bytes of the alignment buffer: 1.5 MiB (R118). -/
def bufBytes : Nat := 1572864

/-- R118: the reservation of an entry for a hold time in microseconds and a G in grid ticks. -/
def reservation (P hold g : Nat) (e : List Word) : Nat :=
  let span := (g + P) * unitTick + (hold + 250) * 1000 * unitNs
  eCh e * 8 * cdiv span (max 1 (eN e) * unitTick)

/-- R119: the reservations of a list of entries fit. -/
def reserved (m : Pnm) (hold g : Nat) (l : List (List Word)) : Bool :=
  decide (l.foldl (fun a e => a + reservation (planeTicks m) hold g e) 0 ≤ bufBytes)

/-- The bits of an entry's words that hold fields (SVI table 2); reserved bits are not stored. -/
def subMask : List Word :=
  [0xFFFFFFFF, 0x0FFF3FFF, 0x00FF03FF, 0xFFFFFFFF, 0xFFFFFFFF, 0x0000FFFF, 0xFFFFFFFF, 0x00FF01FF, 0xFFFFFFFF,
   0xFFFFFFFF, 0xFFFFFFFF, 0xFFFFFFFF, 0xFFFFFFFF, 0, 0, 0]

/-- The match key of an entry (R103): APPID, svID length, CRC and head. -/
def eKey (e : List Word) : Nat × Nat × Word × List Word :=
  (fld e 3 15 0, fld e 7 23 16, wrd e 8, (e.drop 9).take 4)

/-- R104: the first failing check of an entry that asks to be enabled (SVI_CFG_ERR.FIELD), 0 when none fails. -/
def subCheck (m : Pnm) (i : Nat) (e : List Word) : Nat :=
  let others := ((enabledSubs m).filter fun p => decide (p.1 ≠ i)).map (·.2)
  let all := others ++ [e]
  let sync := fld e 0 3 2
  let sid := fld e 2 23 16
  let g := if m.svi.running then m.svi.gTicks else
    all.foldl (fun a x => max a (streamDelay m x)) 0
  if eRate e = 0 then 1
  else if eCh e = 0 then 2
  else if fld e 2 9 0 = 0 then 10
  else if fld e 7 23 16 = 0 then 3
  else if eN e = 0 then 1
  else if 24 < eCh e then 2
  else if 129 < fld e 7 23 16 then 3
  else if sync = 2 ∧ (sid < 5 ∨ 254 < sid) then 19
  else if 8192 < eBase e + eCh e then 4
  else if others.any (fun o => decide (eBase e < eBase o + eCh o ∧ eBase o < eBase e + eCh e)) then 5
  else if others.any (fun o => decide (eKey o = eKey e)) then 6
  else if 1024 < all.foldl (fun a x => a + eUnits x) 0 ∨ 8192 < all.foldl (fun a x => a + eCh x) 0 then 7
  else if reserved m (rf m Reg.SVI_PLANE 27 16) g all = false then 8
  else if fbit e 0 8 ∧ boundTo m (fld e 7 8 0) 1 = false then 9
  else if fbit e 0 10 ∧ (eRate e = 4 ∨ eRate e = 6 ∨ eCh e ≠ 8) then 15
  else if fbit e 0 10 ∧ sync ≠ 0 then 16
  else if eRate e = 6 ∧ fbit e 1 13 = false then 20
  else 0

/-- R105: the write changes only SIM_MODE, PRIO, MISS_HOLD and KEY_SLOT. -/
def liveOk (old new : List Word) : Bool :=
  decide ((wrd old 0 &&& 0x00FFFF1D#32) = (wrd new 0 &&& 0x00FFFF1D#32)) &&
  decide ((wrd old 7 &&& 0xFFFFFE00#32) = (wrd new 7 &&& 0xFFFFFE00#32)) &&
  (List.range 16).all fun k => decide (k = 0 ∨ k = 7 ∨ wrd old k = wrd new k)

/-- An SVI write was refused: CFG_REJECT, FIELD and ENTRY. -/
def sviErr (field entry : Nat) (m : Pnm) : Pnm :=
  wf (cfgErr (sb m Reg.SVI_FLAGS 0) Reg.SVI_CFG_ERR field) Reg.SVI_CFG_ERR 17 8 entry

/-- Stream status of entry i. -/
def getStat (m : Pnm) (i : Nat) : SvStat := NMap.get SvStat.init m.svi.stat i
def putStat (i : Nat) (s : SvStat) (m : Pnm) : Pnm :=
  { m with svi := { m.svi with stat := NMap.set SvStat.init m.svi.stat i s } }

/-- The stream of entry i. -/
def getStream (m : Pnm) (i : Nat) : SvStream := NMap.get SvStream.init m.svi.streams i
def putStream (i : Nat) (s : SvStream) (m : Pnm) : Pnm :=
  { m with svi := { m.svi with streams := NMap.set SvStream.init m.svi.streams i s } }

/-- Drop the chains of some slots: their delay lines are empty. -/
def dropChains (l : List Nat) (m : Pnm) : Pnm :=
  { m with fpe := { m.fpe with chains := l.foldl NMap.del m.fpe.chains, ph := l.foldl NMap.del m.fpe.ph } }

/-- Store an entry with what its enabling, disabling or SIM_MODE entails (R108, R132). -/
def subStore (i : Nat) (e : List Word) (m : Pnm) : Pnm :=
  let old := subEntry m i
  let m1 := { m with svi := { m.svi with sub := NMap.set subDflt m.svi.sub i e } }
  let st := getStat m i
  let st1 := { st with simLatched := st.simLatched && fbit e 0 1 }
  if fbit e 0 0 && !fbit old 0 0 then
    dropChains (eSlots e) (putStream i (SvStream.init i) (putStat i { st1 with state := 1, syncOk := false } m1))
  else if !fbit e 0 0 && fbit old 0 0 then
    dropChains (eSlots old) (putStream i (SvStream.init i) (putStat i { st1 with state := 0 } m1))
  else putStat i st1 m1

/-- R104, R105: one entry is checked and commits; FIELD where it is refused, or 0. -/
def subCommit (i : Nat) (w : List Word) (m : Pnm) : Pnm × Nat :=
  let e := (w.zip subMask).map fun p => p.1 &&& p.2
  let old := subEntry m i
  let off := e.set 0 (setBit (wrd e 0) 0 false)
  if fbit e 0 0 = false then (subStore i e m, 0)
  else if fbit old 0 0 ∧ liveOk old e = false then (m, 11)
  else
    let c := subCheck m i e
    if c = 0 then (subStore i e m, 0) else (subStore i off m, c)

/-! ## Chain checks (R147) -/

/-- FPE table 3: why the chain of a mapped slot cannot run with profile `p`; 0 when it can. -/
def chainReason (m : Pnm) (s p : Nat) (e : List Word) : Nat :=
  let w := profWords m p
  let n := eN e
  let mo := mOut w n
  let P := planeTicks m
  if pRate w = 0 then 6
  else if pRate w ≠ 15 ∧ pRate w ≠ eRate e then 1
  else if m.svi.running ∧ m.svi.gTicks < groupDelay w n then 2
  else if pQ w = 0 ∧ (mo = 0 ∨ P % mo ≠ 0) then 3
  else if pQ w ≠ 0 ∧ pPhases w ≠ mo / Nat.gcd mo P then 4
  else if slotPh m s ∧ (mo = 0 ∨ ticksPerSec < 4000 * mo ∨ 19200 * mo < ticksPerSec) then 5
  else 0

/-- The mapped slots with their entries. -/
def mappedSlots (m : Pnm) : List (Nat × List Word) := (enabledSubs m).flatMap fun p => (eSlots p.2).map fun s => (s, p.2)

/-- R147: the reasons are checked; event 0x4C for each slot that newly cannot run or whose reason has changed. -/
def checkChains (m : Pnm) : Pnm :=
  let bad := (mappedSlots m).filterMap fun x =>
    let r := chainReason m x.1 (slotProf m x.1) x.2
    if r = 0 then none else some (x.1, r)
  let sorted := sortBy (fun a b => decide (a.1 ≤ b.1)) bad
  let news := sorted.filter fun p => decide (NMap.get (fun _ => 0) m.fpe.bad p.1 ≠ p.2)
  let m1 := { m with fpe := { m.fpe with bad := sorted } }
  let m2 := news.foldl (fun x p => raise { src := 4, code := 0x4C, cls := 2, items := [p.1, p.2] } x) m1
  let first := sorted.headD (0, 0)
  let m3 := wr (wr m2 Reg.FPE_CHAIN_ERR (loW (first.1 + 65536 * first.2))) Reg.FPE_CHAIN_ERR_COUNT (loW sorted.length)
  if sorted = [] then m3 else sb m3 Reg.FPE_FLAGS 2

/-! ## Staged entries (R105) -/

/-- R130: the staged entries of the window and of a TABLE_LOAD commit. -/
def subCommitAll (m : Pnm) : Pnm :=
  if m.svi.pend = [] then m
  else
    let m1 := m.svi.pend.foldl (fun x p =>
      let r := subCommit p.1 p.2 x
      if r.2 = 0 then r.1 else sviErr r.2 p.1 (sb r.1 Reg.SVI_TBL_STAT 1)) m
    checkChains (cb { m1 with svi := { m1.svi with pend := [] } } Reg.SVI_TBL_STAT 0)

/-! ## The window (R130, R131) -/

/-- SVI table 11. -/
def statWords (m : Pnm) (i : Nat) : List Word :=
  let s := getStat m i
  let e := subEntry m i
  let dec := fbit e 0 0 && m.svi.decimOn.testBit (fld e 0 7 5)
  loW (s.state + 4 * b2n s.syncOk + 8 * b2n s.simLatched + 16 * b2n dec + 65536 * s.lastCnt) ::
    loW (ux 32 (s.dMin.getD 0)) :: loW (ux 32 (s.dMax.getD 0)) :: s.cnt

/-- A GO with WRITE 0. -/
def sviTblRead (cmd : Word) (m : Pnm) : Pnm :=
  let m1 := storeCmd Reg.SVI_TBL_CMD 0x000053FF#32 cmd m
  let i := bits cmd 9 0
  if bit cmd 12 then
    let m2 := wrs m1 Reg.SVI_TBL_DATA (statWords m i)
    if bit cmd 14 then putStat i { getStat m i with dMin := none, dMax := none } m2 else m2
  else wrs m1 Reg.SVI_TBL_DATA (subEntry m i)

/-- A GO with WRITE 1: staged for the next plane tick, or committed at once while the grid does not run (R577); a write
to the stream-status table is refused. -/
def sviTblWrite (cmd : Word) (m : Pnm) : Pnm :=
  let m1 := storeCmd Reg.SVI_TBL_CMD 0x000073FF#32 cmd m
  if bit cmd 12 then sb m1 Reg.SVI_TBL_STAT 1
  else
    let w := (List.range 16).map fun k => rd m (Reg.SVI_TBL_DATA + 4 * k)
    let m2 := sb { m1 with svi := { m1.svi with pend := m1.svi.pend ++ [(bits cmd 9 0, w)] } } Reg.SVI_TBL_STAT 0
    if m.tim.grid then m2 else subCommitAll m2

/-! ## Running (R112, R115, R116) -/

/-- R152: the divider code that a start takes. -/
def divAtStart (m : Pnm) : Nat :=
  let want := rf m Reg.FPE_PHASOR 1 0
  ((List.range 4).find? fun c => decide (want ≤ c ∧ planeRate (rf m Reg.SVI_PLANE 2 0) ≤ 4800 * 2 ^ c)).getD 3

/-- R115: SVI starts with the plane of plane tick `k0`. -/
def sviStart (k0 : Nat) (m : Pnm) : Pnm :=
  let g := gLatch m []
  let st := (enabledSubs m).foldl (fun a p =>
    NMap.set SvStat.init a p.1 { NMap.get SvStat.init a p.1 with state := 1 }) m.svi.stat
  let m1 := { m with
              svi := { m.svi with running := true, stopReq := false, restart := false, k0 := k0, gTicks := g,
                                  nextClose := k0, planes := [], streams := [], stat := st, highSaid := false },
              fpe := { m.fpe with chains := [], ph := [], planes := [] } }
  let m2 := wf (wr (sb (sb m1 Reg.SVI_STAT 0) Reg.SVI_CTRL 0) Reg.SVI_GDELAY
    (loW (roundHalfEven (g * 15625 : Nat) 18).toNat)) Reg.FPE_STAT 1 0 (divAtStart m)
  checkChains m2

/-- R115, R116: a write of SVI_CTRL.RUN = 1. -/
def sviRun (m : Pnm) : Pnm :=
  if m.svi.stopReq then sb { m with svi := { m.svi with restart := true } } Reg.SVI_CTRL 0
  else if m.svi.running then m
  else if m.tim.grid = false then sviErr 21 0 m
  else sviStart m.svi.nextTick m

/-- R115: a write of SVI_CTRL.RUN = 0 requests a stop at the next plane tick. -/
def sviStop (m : Pnm) : Pnm :=
  if m.svi.running then
    cb { m with svi := { m.svi with stopReq := true, restart := false } } Reg.SVI_CTRL 0
  else m

/-- R115: SVI stops: RUNNING clears and the alignment buffer is emptied. -/
def sviStopEffect (m : Pnm) : Pnm :=
  cb { m with
       svi := { m.svi with running := false, stopReq := false, planes := [], streams := [], highSaid := false },
       fpe := { m.fpe with chains := [], ph := [], planes := [] } } Reg.SVI_STAT 0

/-- The first multiple of `p` grid ticks whose instant lies after now. -/
def nextTickAfter (m : Pnm) (p : Nat) : Nat := (nowU m / unitTick / p + 1) * p

/-- R115: a write of SVI_PLANE. -/
def sviPlaneWrite (data : Word) (m : Pnm) : Pnm :=
  let code := bits data 2 0
  let hold := bits data 27 16
  let g := gLatch m []
  let m1 := wr m Reg.SVI_PLANE (data &&& 0x0FFF0007#32)
  if rb m Reg.SVI_CTRL 0 ∨ m.svi.running ∨ m.cye.running then sviErr 12 0 m
  else if 6 ≤ code then sviErr 22 0 m
  else if hold < 20 ∨ 4000 < hold then sviErr 13 0 m
  else if reserved m1 hold g ((enabledSubs m).map (·.2)) = false then sviErr 8 0 m
  else if m.tim.grid ∧ code ≠ rf m Reg.SVI_PLANE 2 0 then
    { m1 with svi := { m1.svi with nextTick := nextTickAfter m (planeP code) } }
  else m1

/-- A write of SVI_LEAD_TOL; more than 1000 µs is refused. -/
def sviLeadWrite (data : Word) (m : Pnm) : Pnm :=
  if 1000 < bits data 9 0 then sviErr 17 0 m else wr m Reg.SVI_LEAD_TOL (data &&& 0x3FF#32)

/-- A write of SVI_SILENT; zero is ignored. -/
def sviSilentWrite (data : Word) (m : Pnm) : Pnm :=
  if bits data 7 0 = 0 then sviErr 18 0 m else wr m Reg.SVI_SILENT (data &&& 0xFF#32)

/-- R124, R577: a write of SVI_VIEWf; it applies from the next plane tick, or at once without a grid. -/
def sviViewWrite (f : Nat) (data : Word) (m : Pnm) : Pnm :=
  let v := data &&& 0x3FFF1FFF#32
  if 8192 < bits v 12 0 + bits v 29 16 then sviErr 14 f m
  else
    let at' := if m.tim.grid then m.svi.nextTick else 0
    let h := NMap.get (fun _ => []) m.svi.views f
    let m1 := wr m (Reg.SVI_VIEW + 4 * f) v
    { m1 with svi := { m1.svi with views := NMap.set (fun _ => []) m1.svi.views f (((at', v) :: h).take 16) } }

/-- The view word of function f in force at plane tick T. -/
def viewAt (m : Pnm) (f T : Nat) : Word :=
  match (NMap.get (fun _ => []) m.svi.views f).find? (fun p => decide (p.1 ≤ T)) with
  | some p => p.2
  | none => 0

/-! ## Instants of a plane (R21, R113) -/

/-- H in exact units. -/
def holdU (m : Pnm) : Nat := rf m Reg.SVI_PLANE 27 16 * 1000 * unitNs

/-- C(k) of the plane of plane tick T in exact units (R21). -/
def closeAt (m : Pnm) (T : Nat) : Nat := (T + m.svi.gTicks) * unitTick + holdU m

/-- The ceiling of an integer quotient. -/
def icdiv (a : Int) (b : Nat) : Int := -((-a) / (b : Int))

/-- D(t) of a sample with stream delay `gs`, in exact units (R113). -/
def deadline (m : Pnm) (gs : Nat) (t : Int) : Int :=
  let P := planeTicks m
  (icdiv (t - gs) P * (P : Int) + (m.svi.gTicks : Int)) * (unitTick : Int) + (holdU m : Int)

/-! ## Frames (R107 to R111) -/

/-- Add one to counter c of a stream. -/
def SvStat.count (s : SvStat) (c : Nat) : SvStat := { s with cnt := modAt s.cnt c (· + 1) }

/-- Count on stream i. -/
def countOn (i c : Nat) (m : Pnm) : Pnm := putStat i ((getStat m i).count c) m

/-- The svID octets as the entry's words hold them. -/
def svidHead (l : List Byte) : List Word := wordsOf 4 (bytesAt l 0 16)

/-- R103: the entry that a frame matches. -/
def svMatch (m : Pnm) (f : SvFrame) : Option (Nat × List Word) :=
  (enabledSubs m).find? fun p => decide (fld p.2 3 15 0 = f.appid.toNat ∧ fld p.2 7 23 16 = f.svId.length ∧
    (wrd p.2 8).toNat = crc32c f.svId ∧ (p.2.drop 9).take 4 = svidHead f.svId)

/-- R107: smpRate and smpMod agree with RATE. -/
def rateAgrees (rate : Nat) (a : SvAsdu) : Bool :=
  let md := (a.smpMod.map (·.toNat)).getD 0
  if 1 < md then false
  else match a.smpRate with
    | none => true
    | some r => if md = 1 then decide (r.toNat = rate)
                else decide (r.toNat * 50 = rate ∨ r.toNat * 60 = rate)

/-- Samples in a count cycle (R109). -/
def cntCycle (e : List Word) : Nat := if fbit e 1 13 then svRate (eRate e) / 2 else svRate (eRate e)

/-- R107: the format check passes. -/
def formatOk (e : List Word) (f : SvFrame) : Bool :=
  f.asnOk && f.lenOk && decide (f.noAsdu = fld e 0 23 21 + 1) && decide (f.asdus.length = f.noAsdu) &&
  f.asdus.all fun a =>
    decide (a.octets = eCh e * 8 ∧ a.data.length = eCh e ∧ a.smpCnt.toNat < cntCycle e) && rateAgrees (svRate (eRate e)) a &&
      a.smpSynch.isSome

/-- R109: the sample meets SYNC_REQ. -/
def synced (m : Pnm) (e : List Word) (a : SvAsdu) : Bool :=
  let v := (a.smpSynch.map (·.toNat)).getD 0
  let r := fld e 0 3 2
  if r = 0 then decide (v = 1 ∨ v = 2 ∨ (5 ≤ v ∧ v ≤ 254))
  else if r = 1 then decide (v = 2)
  else if r = 2 then decide (v = fld e 2 23 16)
  else decide (v = 2) && (match a.gmId with
    | some g => decide (g.toNat = rd64 m Reg.SVI_GM_ID1_LO ∨ g.toNat = rd64 m Reg.SVI_GM_ID2_LO)
    | none => false)

/-- R129: the priority of an entry is decimated. -/
def decimated (m : Pnm) (e : List Word) : Bool := m.svi.decimOn.testBit (fld e 0 7 5)

/-- Bytes held in the alignment buffer (R118). -/
def bufFill (m : Pnm) : Nat :=
  m.svi.streams.foldl (fun a p => a + p.2.buf.foldl (fun b s => b + 8 * s.vals.length) 0) 0

/-- R118: the fill after a placement: peak, BUF_HIGH and event 0x45. -/
def noteFill (m : Pnm) : Pnm :=
  let n := bufFill m
  let m1 := wr m Reg.SVI_BUF_PEAK (loW (max n (rd m Reg.SVI_BUF_PEAK).toNat))
  let high := decide (bufBytes * 9 ≤ n * 10)
  let m2 := if high then sb m1 Reg.SVI_FLAGS 1 else m1
  raiseIf (high && !m.svi.highSaid) { src := 3, code := 0x45, cls := 2, items := [] }
    { m2 with svi := { m2.svi with highSaid := high } }

/-- R109: the instant of a synchronised sample, in grid ticks. -/
def syncInstant (m : Pnm) (e : List Word) (a : SvAsdu) (arr : Int) : Int :=
  let cyc : Int := if fbit e 1 13 then 576000 else 1152000
  let off : Int := (a.smpCnt.toNat * eN e : Nat)
  let lead : Int := (rf m Reg.SVI_LEAD_TOL 9 0 * 1000 * unitNs : Nat)
  (arr + lead - off * unitTick) / (cyc * unitTick) * cyc + off

/-- R110: the instant of an unsynchronised sample: the nearest, and the earlier of two. -/
def arrivalInstant (e : List Word) (arr : Int) : Int :=
  let p : Int := (eN e * unitTick : Nat)
  let x := arr - (fld e 3 31 16 * 1000 * unitNs : Nat)
  let k : Int := (p - 2 * x) / (2 * p)
  Int.neg k * (eN e : Int)

/-- R111: the apparent delay in ns, recorded with its extremes. -/
def noteDelay (i : Nat) (d : Int) (m : Pnm) : Pnm :=
  let s := getStat m i
  let v := satS 32 d
  putStat i { s with dMin := some (match s.dMin with | some x => min x v | none => v),
                     dMax := some (match s.dMax with | some x => max x v | none => v) } m

/-- R107, R110 to R114: a sample whose instant is decided. -/
def placeSample (i : Nat) (e : List Word) (a : SvAsdu) (arr t : Int) (vals : List (Int × Nat)) (fl : Nat) (m : Pnm) : Pnm :=
  let apparent := arr - t * unitTick
  let m0 := noteDelay i (apparent / (unitNs : Int)) m
  let gs := streamDelay m e
  let s := getStream m0 i
  match (s.buf ++ s.handed).find? (fun x => decide (x.g = t)) with
  | some x =>
    let m1 := countOn i 4 m0
    if x.vals.map (·.1) = vals.map (·.1) then m1 else countOn i 5 m1
  | none =>
    if t < (m.svi.k0 : Int) - gs then m0
    else if deadline m gs t - 3000 * unitNs < arr then
      putStream i { s with evf := Nat.lor s.evf 2 } (countOn i 2 m0)
    else if bufBytes < bufFill m + 8 * vals.length then m0
    else
      let ooo := match s.newest with | some n => decide (t < n) | none => false
      let neg := decide (apparent < 0)
      let x : Sample := { g := t, vals := vals, f := Nat.lor fl (if neg then 8 else 0) }
      let m1 := if ooo then countOn i 6 m0 else m0
      let m2 := if neg then countOn i 12 m1 else m1
      let m3 := raiseIf (neg && !s.neg) { src := 3, code := 0x46, cls := 2, items := [i] } m2
      let m4 := putStream i { s with buf := s.buf ++ [x], neg := neg,
                                     silRun := if (getStat m3 i).state = 2 then s.silRun else 0,
                                     newest := some (match s.newest with | some n => max n t | none => t) }
        (countOn i 1 m3)
      let st := getStat m4 i
      let m5 := putStat i { st with state := 2, lastCnt := a.smpCnt.toNat } m4
      noteFill (raiseIf (decide (st.state = 3)) { src := 3, code := 0x40, cls := 2, items := [i, 0] } m5)

/-- R107: one ASDU of an accepted frame. -/
def asduRx (i : Nat) (e : List Word) (sim : Bool) (arr : Int) (m : Pnm) (a : SvAsdu) : Pnm :=
  if decimated m e && decide (a.smpCnt.toNat % 2 = 1) then m
  else
    let ok := synced m e a
    let s := getStream m i
    let m1 := raiseIf (decide (s.unsync = ok)) { src := 3, code := 0x41, cls := 2, items := [i, b2n (!ok)] } m
    let m2 := putStream i { s with unsync := !ok } (putStat i { getStat m i with syncOk := ok } m1)
    let vals := a.data.map fun d => (sx 32 d.1.toNat, d.2.toNat % 16384)
    let vals1 := vals.map fun v => (v.1, qJoin v.2 0)
    let fl := if sim then 16 else 0
    if ok then placeSample i e a arr (syncInstant m e a arr) vals1 fl m2
    else
      let m3 := countOn i 11 m2
      if fbit e 0 4 then
        placeSample i e a arr (arrivalInstant e arr) (vals1.map fun v => (v.1, qQuest v.2)) (Nat.lor fl 4) m3
      else
        let s1 := getStream m3 i
        putStream i { s1 with evf := Nat.lor s1.evf 4 } m3

/-- R129: every priority is decimated, the load exceeds 100 %, and the entry has the lowest one. -/
def dropLowest (m : Pnm) (e : List Word) : Bool :=
  let prios := (enabledSubs m).map fun p => fld p.2 0 7 5
  prios.all (fun p => m.svi.decimOn.testBit p) && decide (100 < rf m Reg.SVI_STAT 23 16) &&
    prios.all (fun p => decide (fld e 0 7 5 ≤ p))

/-- A failed frame check: counter, event flag and, on the first of a run, its event (R120, R132). -/
def frameFail (i c fl : Nat) (m : Pnm) : Pnm :=
  let s := getStream m i
  putStream i { s with evf := Nat.lor s.evf fl } (countOn i c m)

/-- R107: an SV frame of port p; `arr` is its arrival instant in exact units. -/
def svRx (p : Nat) (fr : Frame) (f : SvFrame) (arr : Int) (m : Pnm) : Pnm :=
  match svMatch m f with
  | none => inc m Reg.SVI_RX_UNMATCHED
  | some (i, e) =>
    let vidBad := fbit e 0 9 && decide (fr.tag.map (·.2.toNat) ≠ some (fld e 1 27 16))
    let dst := (wrd e 4).toNat + 2 ^ 32 * fld e 5 15 0
    let dstBad := fbit e 0 11 && decide (fr.dst.toNat ≠ dst)
    if (fld e 2 9 0).testBit p = false ∨ vidBad ∨ dstBad then countOn i 0 m
    else if dropLowest m e then m
    else if formatOk e f = false then frameFail i 7 0x80 m
    else if decimated m e && f.asdus.all (fun a => decide (a.smpCnt.toNat % 2 = 1)) then m
    else
      let s := getStream m i
      let authBad := fbit e 0 8 && !authOk m (fld e 7 8 0) f.auth
      let m1 := putStream i { s with auBad := authBad }
        { m with svi := { m.svi with asdus := m.svi.asdus + f.asdus.length,
                                     samples := m.svi.samples + f.asdus.length * eCh e } }
      if authBad then
        raiseIf (!s.auBad) { src := 3, code := 0x43, cls := 2, items := [i] } (frameFail i 8 0x20 m1)
      else
        let crBad := f.asdus.any fun a => decide (a.confRev ≠ wrd e 6)
        let m2 := putStream i { getStream m1 i with crBad := crBad } m1
        if crBad then
          raiseIf (!s.crBad) { src := 3, code := 0x42, cls := 2, items := [i] } (frameFail i 9 0x40 m2)
        else
          let st := getStat m2 i
          let simBad := if fbit e 0 1 then st.simLatched && !f.sim else f.sim
          if simBad then countOn i 10 m2
          else
            let latch := fbit e 0 1 && f.sim && !st.simLatched
            let m3 := raiseIf latch { src := 3, code := 0x44, cls := 2, items := [i] }
              (putStat i { st with simLatched := st.simLatched || latch } m2)
            if m.svi.running then f.asdus.foldl (asduRx i e f.sim arr) m3 else m3

/-- R127: frames dropped before matching. -/
def matchDrop (n : Nat) (m : Pnm) : Pnm := sb (inc m Reg.SVI_RX_MATCH_DROP n) Reg.SVI_FLAGS 2

/-! ## Handover (R113, R139) -/

/-- Feed one input to the chain of every channel of a stream; `xs` are the values of its channels. -/
def feedStream (e : List Word) (T : Nat) (g : Int) (xs : List Val) (m : Pnm) : Pnm :=
  ((eSlots e).zip xs).foldl (fun x p =>
    let legs := match NMap.get (fun _ => []) x.fpe.chains p.1 with
      | [] => [{ prof := slotProf x p.1, fadeAt := none, log2 := 0, lv := [] }]
      | l => l
    let r := feedLegs x (eN e) (planeTicks x) T { g := g, x := p.2 } legs
    let x1 := { x with fpe := { x.fpe with chains := NMap.set (fun _ => []) x.fpe.chains p.1 r.1 } }
    if r.2 = 0 then x1
    else
      let sec := nowNs x / 1000000000
      let say := decide (NMap.get (fun _ => none) x.fpe.satSec p.1 ≠ some sec)
      raiseIf say { src := 4, code := 0x49, cls := 2, items := [p.1] }
        { (sb (inc x1 Reg.FPE_SAT_COUNT r.2) Reg.FPE_FLAGS 1) with
          fpe := { x1.fpe with satSec := NMap.set (fun _ => none) x1.fpe.satSec p.1 (some sec) } }) m

/-- R113, R139: the input that stream i hands over for instant g. -/
def handOne (i : Nat) (e : List Word) (T : Nat) (m : Pnm) (g : Int) : Pnm :=
  let s := getStream m i
  let dec := decimated m e
  let df := if dec then 0x100 else 0
  let odd := decide ((g / (eN e : Int)) % 2 = 1)
  if dec && odd then
    let xs := (eSlots e).map fun sl =>
      match lastInput (NMap.get (fun _ => []) m.fpe.chains sl) with
      | some y => { y.x with f := Nat.lor y.x.f df }
      | none => { Val.missing with f := Nat.lor 1 df }
    feedStream e T g xs (putStream i { s with hist := (g, xs) :: s.hist, next := some (g + eN e) } m)
  else
    match s.buf.find? (fun x => decide (x.g = g)) with
    | some x =>
      let xs := x.vals.map fun v => ({ v := v.1, q := v.2, f := Nat.lor x.f df } : Val)
      feedStream e T g xs
        (putStream i { s with hist := (g, xs) :: s.hist, next := some (g + eN e), missRun := 0, silRun := 0, last := some x.vals,
                              buf := s.buf.filter (fun y => decide (y.g ≠ g)),
                              handed := (x :: s.handed).take 256 } m)
    | none =>
      let hold := decide (s.missRun < fld e 0 31 24)
      let xs := (List.range (eCh e)).map fun c =>
        match s.last, hold with
        | some l, true =>
          let v := l.getD c (0, 1)
          ({ v := v.1, q := qJoin (qQuest v.2) 0x80, f := Nat.lor 1 df } : Val)
        | _, _ => { v := 0, q := 1, f := Nat.lor 1 df }
      feedStream e T g xs
        (putStream i { s with hist := (g, xs) :: s.hist, next := some (g + eN e), missRun := s.missRun + 1,
                              silRun := s.silRun + 1 } (countOn i 3 m))

/-- R113, R115: every input that the plane of plane tick T needs is handed over. -/
def handStream (T : Nat) (m : Pnm) (p : Nat × List Word) : Pnm :=
  let gs := streamDelay m p.2
  let n := eN p.2
  let s := getStream m p.1
  let first := match s.next with
    | some g => g
    | none => icdiv ((T : Int) - gs) n * (n : Int)
  let count := (((T + gs : Nat) : Int) - first) / (n : Int) + 1
  (List.range count.toNat).foldl (fun x (k : Nat) => handOne p.1 p.2 T x (first + k * n)) m

/-- The plane value of a mapped slot at plane tick T (R106, R120, R123, R147). -/
def slotValue (m : Pnm) (evf T s : Nat) (e : List Word) : Val × Nat :=
  let r := NMap.get (fun _ => 0) m.fpe.bad s
  if r ≠ 0 ∧ r ≠ 5 then ({ v := 0, q := 0x41 + (if evf = 0 then 0 else 0x8000), f := evf }, 0)
  else
    let y := chainPlane m (NMap.get (fun _ => []) m.fpe.chains s) (eN e) (planeTicks m) T
    let f := Nat.lor y.1.f evf
    ({ v := y.1.v, q := qFinish y.1.q f, f := f }, y.2)

/-- An unmapped slot (R106). -/
def Val.unmapped : Val := { v := 0, q := 0x8001, f := 0x200 }

/-- Legs that no phasor window reaches any more leave the chain (R157). -/
def pruneLegs (m : Pnm) (P T n : Nat) : List Leg → List Leg
  | [] => []
  | l :: t =>
    let old := t.any fun x => faded P T x && (match x.fadeAt with
      | some ks => decide (ks + 2 ^ x.log2 * P + 520 * mOut (profWords m x.prof) n < T)
      | none => true)
    if old then pruneLegs m P T n t else l :: pruneLegs m P T n t

/-- R21, R113, R120, R123: the plane of plane tick T: handover, values and event flags. -/
def sviClose (T : Nat) (m : Pnm) : Pnm :=
  let P := planeTicks m
  let m1 := (enabledSubs m).foldl (handStream T) m
  let r := (enabledSubs m1).foldl (fun (a : NMap Val × List (Nat × Nat)) p =>
    let evf := (getStream m1 p.1).evf
    (eSlots p.2).foldl (fun b s =>
      let y := slotValue m1 evf T s p.2
      (NMap.set (fun _ => Val.unmapped) b.1 s y.1, if y.2 = 0 then b.2 else b.2 ++ [(s, y.2)])) a) ([], [])
  let pl : Plane := { tick := T, closeU := closeAt m T, vals := r.1 }
  let m2 : Pnm :=
    { m1 with
      svi := { m1.svi with
               planes := (pl :: m1.svi.planes).take 16, nextClose := T + P,
               streams := m1.svi.streams.map fun p => (p.1, { p.2 with evf := 0 }),
               highSaid := m1.svi.highSaid && decide (bufBytes * 9 ≤ bufFill m1 * 10) },
      fpe := { m1.fpe with
               chains := m1.fpe.chains.map fun c =>
                 (c.1, pruneLegs m1 P T ((slotEntry m1 c.1).map (fun e => eN e.2) |>.getD 1) c.2) } }
  r.2.foldl (fun x p =>
    let sec := nowNs x / 1000000000
    let say := decide (NMap.get (fun _ => none) x.fpe.satSec p.1 ≠ some sec)
    raiseIf say { src := 4, code := 0x49, cls := 2, items := [p.1] }
      { (sb (inc x Reg.FPE_SAT_COUNT p.2) Reg.FPE_FLAGS 1) with
        fpe := { x.fpe with satSec := NMap.set (fun _ => none) x.fpe.satSec p.1 (some sec) } })
    (inc m2 Reg.SVI_PLANES_CLOSED)

/-! ## Silence and overload (R117, R127 to R129) -/

/-- R117: a receiving stream with enough consecutive missing instants becomes SILENT. -/
def streamSilent (i : Nat) (m : Pnm) : Pnm :=
  let st := getStat m i
  if st.state = 2 ∧ rf m Reg.SVI_SILENT 7 0 ≤ (getStream m i).silRun then
    raise { src := 3, code := 0x40, cls := 2, items := [i, 1] } (putStat i { st with state := 3 } m)
  else m

/-- R127: the load in percent over the plane tick that ends. -/
def loadPct (m : Pnm) : Nat :=
  let r := planeRate (rf m Reg.SVI_PLANE 2 0)
  max (m.svi.asdus * r * 100 / 6400000) (max (m.svi.samples * r * 100 / 48000000) (bufFill m * 100 / bufBytes))

/-- R127, R128: at each plane tick the load is measured, and the decimation decided before it comes into force. -/
def measureLoad (m : Pnm) : Pnm :=
  let l := loadPct m
  let low := decide (l < 90)
  let m1 := wf { m with svi := { m.svi with
                                 asdus := 0, samples := 0, decimOn := m.svi.decim,
                                 above := if 100 < l then m.svi.above + 1 else 0,
                                 lowSince := if low then some (m.svi.lowSince.getD m.tim.edge) else none } }
    Reg.SVI_STAT 23 16 (min l 255)
  let all := (enabledSubs m).all fun p => m.svi.decimOn.testBit (fld p.2 0 7 5)
  if 100 < l ∧ all ∧ m.svi.decimOn ≠ 0 then sb m1 Reg.SVI_FLAGS 3 else m1

/-- The priorities with an enabled entry, lowest first. -/
def prioList (m : Pnm) : List Nat :=
  (List.range 8).filter fun p => (enabledSubs m).any fun x => decide (fld x.2 0 7 5 = p)

/-- R128: four overloaded plane ticks in a row decimate the lowest undecimated priority. -/
def ingestOverload (m : Pnm) : Pnm :=
  if 4 ≤ m.svi.above then
    let m1 := { m with svi := { m.svi with above := 0 } }
    match (prioList m).find? (fun p => !m.svi.decim.testBit p) with
    | some p => ladderEnter 2 0 { m1 with svi := { m1.svi with decim := Nat.lor m.svi.decim (2 ^ p) } }
    | none => ladderEnter 2 0 m1
  else m

/-- R128: after 1 s below 90 % the highest decimated priority returns. -/
def decimReturn (m : Pnm) : Pnm :=
  match m.svi.lowSince, ([7, 6, 5, 4, 3, 2, 1, 0].find? fun p => m.svi.decim.testBit p) with
  | some t, some p =>
    if t + edgesS ≤ m.tim.edge then
      let d := m.svi.decim - 2 ^ p
      let m1 := { m with svi := { m.svi with decim := d, lowSince := some m.tim.edge } }
      if d = 0 then ladderClear 2 0 m1 else m1
    else m
  | _, _ => m

/-! ## Words of read-only registers -/

/-- SVI_STAT with STEP2 and DECIM_MASK. -/
def sviStatWord (m : Pnm) : Word :=
  setBits (setBits (rd m Reg.SVI_STAT) 1 1 (b2n (stepOn m 2))) 15 8 m.svi.decimOn

/-- SVI_UNITS (R101). -/
def sviUnitsWord (m : Pnm) : Word :=
  let l := (enabledSubs m).map (·.2)
  loW (l.foldl (fun a e => a + eUnits e) 0 + 65536 * l.foldl (fun a e => a + eCh e) 0)

end Sys2Proof.Machine
end

