-- ==== Sys2Proof/Machine/Trig.lean ====
section
/-! DEFINITION. Cosine, sine, angle and square root for the phasor path (R155, R156, R162). Fixed-point series with
60 fraction bits; C(a) and S(a) lie anywhere within 1 LSB of the exact value, as R155 allows (log entry 10). -/

namespace Sys2Proof.Machine

/-- 2 pi in units of 2^-60. -/
def twoPi60 : Int := 7244019458077122842

/-- One: 2^60. -/
def one60 : Int := 2 ^ 60

/-- The sum of a power series whose term k + 1 is term k times -x^2 / ((i + 1)(i + 2)), i rising by 2. -/
def series (x2 : Int) : Nat → Int → Int → Int
  | 0, _, _ => 0
  | n + 1, i, t => t + series x2 n (i + 2) (-(t * x2 / one60) / ((i + 1) * (i + 2)))

/-- Cosine and sine of a first-quadrant angle x in radians, in units of 2^-60. -/
def cosSin0 (x : Int) : Int × Int :=
  let x2 := x * x / one60
  (series x2 16 0 one60, series x2 16 1 x)

/-- Cosine and sine of `a` in units of 2^-40 turn. -/
def cosSin (a : Nat) : Int × Int :=
  let q : Nat := a % 2 ^ 40 / 2 ^ 38
  let r : Nat := a % 2 ^ 38
  let cs := if r = 0 then (one60, 0) else cosSin0 ((r : Int) * twoPi60 / 2 ^ 40)
  if q = 0 then (cs.1, cs.2) else if q = 1 then (-cs.2, cs.1) else if q = 2 then (-cs.1, -cs.2) else (cs.2, -cs.1)

/-- An integer within 1 of v / 2^38, v in units of 2^-60 and the result in Q1.22: the free choice c, limited. -/
def within1 (v c : Int) : Int :=
  let lo := -((-v) / 2 ^ 38) - 1
  let hi := v / 2 ^ 38 + 1
  max lo (min hi c)

/-- C(a) of R155. -/
def cosA (a : Nat) : Int := within1 (cosSin (a % 2 ^ 32 * 256)).1 (Config.cosQ (BitVec.ofNat 32 a))

/-- S(a) of R155. -/
def sinA (a : Nat) : Int := within1 (cosSin (a % 2 ^ 32 * 256)).2 (Config.sinQ (BitVec.ofNat 32 a))

/-- The largest r of at most `n` bits, built from the top, with r * r ≤ s. -/
def isqrtBits (s : Nat) : Nat → Nat → Nat
  | 0, r => r
  | n + 1, r => if (r + 2 ^ n) * (r + 2 ^ n) ≤ s then isqrtBits s n (r + 2 ^ n) else isqrtBits s n r

/-- floor(sqrt(s) + 0.5) for s below 2^80 (R156). -/
def roundSqrt (s : Nat) : Nat :=
  let r := isqrtBits s 41 0
  if r < s - r * r then r + 1 else r

/-- The magnitude of a phasor, saturated to 32 bits, and whether it saturates (R156). -/
def magnitude (re im : Int) : Nat × Bool :=
  let h := roundSqrt (re.natAbs * re.natAbs + im.natAbs * im.natAbs)
  (min h (2 ^ 32 - 1), decide (2 ^ 32 ≤ h))

/-- Bisection of the angle of (re, im), in units of 2^-40 turn: the largest a below the angle, from `a` in steps of
halving size, inside the half turn that starts at `base`. -/
def angleBits (re im : Int) (base : Nat) : Nat → Nat → Nat
  | 0, a => a
  | n + 1, a =>
    let cs := cosSin (base + a + 2 ^ n)
    if cs.2 * re ≤ cs.1 * im then angleBits re im base n (a + 2 ^ n) else angleBits re im base n a

/-- The angle of a non-zero phasor, rounded to 2^-32 turn (R162). -/
def angleOf (re im : Int) : Nat :=
  let base := if im < 0 ∨ (im = 0 ∧ re < 0) then 2 ^ 39 else 0
  ((base + angleBits re im base 39 0 + 128) / 256) % 2 ^ 32

end Sys2Proof.Machine
end

