-- ==== Sys2Proof/Machine/Fpe.lean ====
section
/-! DEFINITION. FPE: tables, Glide, phasors, harmonic magnitudes, phase references and phasor lanes (chapter 05). -/

namespace Sys2Proof.Machine

/-! ## Tables (R141 to R146, R159, R168) -/

/-- An FPE write was refused: CFG_REJECT, FIELD and INDEX. -/
def fpeErr (field index : Nat) (m : Pnm) : Pnm :=
  wf (cfgErr (sb m Reg.FPE_FLAGS 0) Reg.FPE_CFG_ERR field) Reg.FPE_CFG_ERR 23 8 index

/-- The words of coefficient memory that a profile uses (R144): first word and length of each range. -/
def profRanges (e : List Word) : List (Nat × Nat) :=
  (pStages e).map (fun s => (s.2.2, (s.1 + 1) / 2)) ++ (if pQ e = 0 then [] else [(pRsBase e, pPhases e * pQ e)])

/-- The spacings after each stage divide a second (R135). -/
def spacingsOk : List (Nat × Nat × Nat) → Nat → Bool
  | [], _ => true
  | s :: t, n => decide (ticksPerSec % (n * s.2.1) = 0) && spacingsOk t (n * s.2.1)

/-- The FPE_CFG_ERR code that refuses a profile (FPE table 2, R135, R144), or 0. -/
def profCheck (e : List Word) : Nat :=
  let taps := [fld e 1 7 0, fld e 2 7 0, fld e 3 7 0]
  let rate := pRate e
  let q := pQ e
  if rate = 0 ∨ (7 ≤ rate ∧ rate ≤ 14) then 1
  else if rate = 15 ∧ (taps.any (· ≠ 0) ∨ q ≠ 0) then 1
  else if taps.any (fun t => decide (t ≠ 0 ∧ t % 2 = 0)) then 2
  else if (taps.getD 0 0 = 0 ∧ taps.getD 1 0 ≠ 0) ∨ (taps.getD 1 0 = 0 ∧ taps.getD 2 0 ≠ 0) then 3
  else if rate ≠ 15 ∧ spacingsOk (pStages e) (svN rate) = false then 4
  else if q ≠ 0 ∧ (q % 2 = 1 ∨ 16 < q) then 5
  else if q ≠ 0 ∧ (pPhases e = 0 ∨ 64 < pPhases e) then 6
  else if (profRanges e).any (fun r => decide (65536 < r.1 + r.2)) then 7
  else 0

/-- R146: a profile is in use. -/
def profInUse (m : Pnm) (p : Nat) : Bool := (mappedSlots m).any fun x => decide (slotProf m x.1 = p)

/-- A Glide runs and concerns the profile. -/
def glideHas (m : Pnm) (p : Nat) : Bool :=
  match m.fpe.glide with | some g => decide (g.src = p ∨ g.dst = p) | none => false

/-- A profile entry with its reserved bits cleared and DELAY_GT computed (R140, R143). -/
def profStored (w : List Word) : List Word :=
  let e := [wrd w 0 &&& 0xF#32, wrd w 1 &&& 0xFFFF07FF#32, wrd w 2 &&& 0xFFFF07FF#32, wrd w 3 &&& 0xFFFF07FF#32,
            wrd w 4 &&& 0xFFFF7F1F#32, 0, 0, 0]
  e.set 5 (loW (delayGt e))

/-- The reference configuration without reserved bits. -/
def refStored (w : List Word) : List Word :=
  [wrd w 0 &&& 0x1FFF0007#32, wrd w 1 &&& 0x1FFF1FFF#32, wrd w 2, wrd w 3 &&& 0xFFFF#32, wrd w 4, 0, 0, 0]

/-- Configuration of reference r. -/
def refCfg (m : Pnm) (r : Nat) : List Word := NMap.get profDflt m.fpe.refCfg r

/-- State of reference r. -/
def getRef (m : Pnm) (r : Nat) : RefSt := NMap.get RefSt.init m.fpe.refs r

/-- Nominal frequency of a configuration in 2^-24 Hz. -/
def nominal (c : List Word) : Int := if fbit c 0 1 then 60 * 2 ^ 24 else 50 * 2 ^ 24

/-- 40 Hz to 70 Hz (R153). -/
def clampF (f : Int) : Int := max (40 * 2 ^ 24) (min (70 * 2 ^ 24) f)

/-- PLANE_SEQ of a plane tick (SVI table 6). -/
def planeSeq (m : Pnm) (T : Nat) : Word := BitVec.ofInt 32 (((T : Int) - m.svi.k0) / (planeTicks m : Int))

/-- What a reference reports outside TRACKING, ACQUIRING and HOLDING (R163). -/
def idleRep (c : List Word) (s : RefSt) (T mag q f : Nat) : RefRep :=
  { freq := (nominal c).toNat, rocof := 0, angle := 0, mag := mag, state := s.state, nom := fbit c 0 1, skip := false,
    holdMs := 0, q := q / 4 * 4 + 1, f := f, fRes := (nominal c).toNat, seq := s.seq, tick := T }

/-- R161: a reference changes state, with event 0x48. -/
def refMove (r st T : Nat) (s : RefSt) (m : Pnm) : Pnm :=
  raise { src := 4, code := 0x48, cls := 2, items := [r, st] }
    { m with fpe := { m.fpe with
                      refs := NMap.set RefSt.init m.fpe.refs r { s with state := st, seq := planeSeq m T } } }

/-- R159: a reference configuration write; FIELD where it is refused, or 0. -/
def refCommit (r : Nat) (w : List Word) (m : Pnm) : Pnm × Nat :=
  let c := refStored w
  let old := refCfg m r
  let srcs := if fbit c 0 2 then [fld c 0 28 16, fld c 1 12 0, fld c 1 28 16] else [fld c 0 28 16]
  let code :=
    if fbit c 0 0 = false then 0
    else if fld c 2 7 0 = 0 ∨ fld c 2 15 8 = 0 ∨ fld c 2 23 16 = 0 then 11
    else if fld c 2 31 24 = 0 then 12
    else if srcs.any (fun s => !slotPh m s) then 13
    else 0
  let live := fbit c 0 0 && fbit old 0 0 && decide (code = 0)
  if live ∧ ((c.set 2 0 ≠ old.set 2 0) ∨ fld c 2 31 24 ≠ fld old 2 31 24) then
    (m, if fld c 2 31 24 ≠ fld old 2 31 24 then 12 else 13)
  else
    let c1 := if code = 0 then c else c.set 0 (setBit (wrd c 0) 0 false)
    let m1 := { m with fpe := { m.fpe with refCfg := NMap.set profDflt m.fpe.refCfg r c1 } }
    let s := getRef m r
    let T := m.svi.nextTick
    if live then
      ({ m1 with fpe := { m1.fpe with
          refs := NMap.set RefSt.init m1.fpe.refs r
            { s with fAvg := s.fAvg.take (fld c 2 7 0), fHist := s.fHist.take (fld c 2 15 8 + 1),
                     rAvg := s.rAvg.take (fld c 2 23 16) } } }, 0)
    else if fbit c1 0 0 then
      let n := { RefSt.init r with state := 4, fp := some (nominal c1), seq := s.seq }
      (refMove r 4 T { n with rep := idleRep c1 n T 0 1 0 } m1, code)
    else if fbit old 0 0 then
      let n := { RefSt.init r with seq := s.seq }
      (refMove r 0 T { n with rep := idleRep c1 n T 0 1 0 } m1, code)
    else (m1, code)

/-- R143 to R146, R159: one staged write commits; FIELD where it is refused, or 0. -/
def fpeCommit (t i : Nat) (w : List Word) (m : Pnm) : Pnm × Nat :=
  if t = 0 then
    let e := profStored w
    if 8 ≤ i ∧ i < 16 then (m, 20)
    else if i < 8 then (m, 8)
    else if glideHas m i then (m, 14)
    else if profInUse m i then (m, 8)
    else
      let c := if e.all (· = 0) then 0 else profCheck e
      if c = 0 then ({ m with fpe := { m.fpe with prof := NMap.set profDflt m.fpe.prof i e } }, 0) else (m, c)
  else if t = 1 then
    let v := wrd w 0 &&& 0x7FFF#32
    let p := bits v 7 0
    let busy := match m.fpe.glide with | some g => g.slots.contains i | none => false
    if 8 ≤ p ∧ p < 16 then (m, 20)
    else if busy then (m, 14)
    else if p ≠ slotProf m i ∧ (slotEntry m i).isSome then (m, 10)
    else ({ m with fpe := { m.fpe with smap := NMap.set (fun _ => 0) m.fpe.smap i v } }, 0)
  else if t = 2 then
    let hit := fun (p : Nat) => decide (16 ≤ p) &&
      (profRanges (profWords m p)).any (fun r => decide (r.1 ≤ i ∧ i < r.1 + r.2))
    let gl := match m.fpe.glide with | some g => hit g.src || hit g.dst | none => false
    if gl then (m, 14)
    else if (mappedSlots m).any (fun x => hit (slotProf m x.1)) then (m, 9)
    else ({ m with fpe := { m.fpe with coef := NMap.set (fun _ => 0) m.fpe.coef i (wrd w 0 &&& 0xFFFFFF#32) } }, 0)
  else refCommit i w m

/-- R168: the staged writes commit, and the chains are checked (R147). -/
def fpeCommitAll (m : Pnm) : Pnm :=
  if m.fpe.pend = [] then m
  else
    let m1 := m.fpe.pend.foldl (fun x p =>
      let r := fpeCommit p.1 p.2.1 p.2.2 x
      if r.2 = 0 then r.1 else fpeErr r.2 p.2.1 (sb r.1 Reg.FPE_TBL_STAT 1)) m
    checkChains (cb { m1 with fpe := { m1.fpe with pend := [] } } Reg.FPE_TBL_STAT 0)

/-- FPE table 9. -/
def refWords (r : RefRep) : List Word :=
  [loW r.freq, loW (ux 32 r.rocof), loW r.angle, loW r.mag,
   loW (r.state + 8 * b2n r.nom + 16 * b2n r.skip + 65536 * min r.holdMs 65535), loW (r.q % 65536 + 65536 * r.f),
   loW r.fRes, r.seq]

/-- A GO with WRITE 0 (R168). -/
def fpeTblRead (cmd : Word) (m : Pnm) : Pnm :=
  let m1 := storeCmd Reg.FPE_TBL_CMD 0x0007FFFF#32 cmd m
  let i := bits cmd 15 0
  let t := bits cmd 18 16
  let w :=
    if t = 0 ∧ i < 256 then profWords m i
    else if t = 1 ∧ i < 8192 then [NMap.get (fun _ => 0) m.fpe.smap i]
    else if t = 2 then [NMap.get (fun _ => 0) m.fpe.coef i]
    else if t = 3 ∧ i < 64 then refCfg m i
    else if t = 4 ∧ i < 64 then refWords (getRef m i).rep
    else []
  if t = 1 ∨ t = 2 then wrs m1 Reg.FPE_TBL_DATA w
  else wrs m1 Reg.FPE_TBL_DATA (w ++ List.replicate (8 - w.length) 0)

/-- A GO with WRITE 1 (R168, R577). Table 4 is read-only; reserved tables and indices beyond a table are refused. -/
def fpeTblWrite (cmd : Word) (m : Pnm) : Pnm :=
  let m1 := storeCmd Reg.FPE_TBL_CMD 0x0017FFFF#32 cmd m
  let i := bits cmd 15 0
  let t := bits cmd 18 16
  if t = 4 then fpeErr 19 i (sb m1 Reg.FPE_TBL_STAT 1)
  else if 5 ≤ t ∨ (t = 0 ∧ 256 ≤ i) ∨ (t = 1 ∧ 8192 ≤ i) ∨ (t = 3 ∧ 64 ≤ i) then
    sb (sb m1 Reg.FPE_TBL_STAT 1) Reg.FPE_FLAGS 0
  else
    let w := (List.range 8).map fun k => rd m (Reg.FPE_TBL_DATA + 4 * k)
    let m2 := sb { m1 with fpe := { m1.fpe with pend := m1.fpe.pend ++ [(t, i, w)] } } Reg.FPE_TBL_STAT 0
    if m.tim.grid then m2 else fpeCommitAll m2

/-- A write of FPE_PHASOR: ignored and named while SVI_CTRL.RUN is 1. -/
def fpePhasorWrite (data : Word) (m : Pnm) : Pnm :=
  if rb m Reg.SVI_CTRL 0 then fpeErr 18 0 m else wr m Reg.FPE_PHASOR (data &&& 3#32)

/-! ## Glide (R148 to R151) -/

/-- R148: the slots whose slot-map entry names a profile. -/
def slotsOf (m : Pnm) (p : Nat) : List Nat := (List.range 8192).filter fun s => decide (slotProf m s = p)

/-- R148: a write of FPE_GLIDE with GO. -/
def glideGo (data : Word) (m : Pnm) : Pnm :=
  let a := bits data 7 0
  let b := bits data 15 8
  let lg := bits data 19 16
  let m1 := wr m Reg.FPE_GLIDE (data &&& 0xFFFFF#32)
  let here := (mappedSlots m).filter fun x => decide (slotProf m x.1 = a)
  let cannot := here.any fun x => decide (chainReason m x.1 b x.2 ≠ 0)
  let rates := here.any fun x => slotPh m x.1 &&
    decide (mOut (profWords m a) (eN x.2) ≠ mOut (profWords m b) (eN x.2))
  if m.fpe.glide.isSome then fpeErr 14 b m1
  else if a = b then fpeErr 15 b m1
  else if 8 ≤ b ∧ b < 16 then fpeErr 20 b m1
  else if cannot then fpeErr 17 b m1
  else if rates then fpeErr 16 b m1
  else if 10 < lg then sb m1 Reg.FPE_FLAGS 0
  else
    sb { m1 with fpe := { m1.fpe with glide := some { src := a, dst := b, log2 := lg, slots := slotsOf m a, k1 := none,
                                                      ks := 0, j := 0 } } } Reg.FPE_STAT 2

/-- FPE table 4, t1: the new chains start with empty delay lines. -/
def glideLegs (g : Glide) (ks : Nat) (m : Pnm) : Pnm :=
  let here := (mappedSlots m).filter fun x => g.slots.contains x.1
  here.foldl (fun x p =>
    let old := match NMap.get (fun _ => []) x.fpe.chains p.1 with
      | [] => [{ prof := g.src, fadeAt := none, log2 := 0, lv := [] }]
      | l => l
    let new : Leg := { prof := g.dst, fadeAt := some ks, log2 := g.log2, lv := [] }
    { x with fpe := { x.fpe with chains := NMap.set (fun _ => []) x.fpe.chains p.1 (old ++ [new]) } }) m

/-- R149 to R151: the running Glide at plane tick T. -/
def glideTick (T : Nat) (m : Pnm) : Pnm :=
  match m.fpe.glide with
  | none => m
  | some g =>
    let P := planeTicks m
    let put := fun (x : Glide) (y : Pnm) => { y with fpe := { y.fpe with glide := some x } }
    let used := (mappedSlots m).any fun x => g.slots.contains x.1
    let step := fun (x : Glide) => { x with j := if x.ks ≤ T then min (2 ^ x.log2) ((T - x.ks) / P + 1) else 0 }
    match g.k1 with
    | none =>
      if used = false then put { g with k1 := some T, ks := T, j := 2 ^ g.log2 } m
      else
        let gc := (mappedSlots m).foldl (fun a x =>
          if g.slots.contains x.1 then max a (groupDelay (profWords m g.dst) (eN x.2)) else a) 0
        let ks := T + cdiv gc P * P
        put (step { g with k1 := some T, ks := ks }) (glideLegs g ks m)
    | some _ => if g.j = 2 ^ g.log2 then m else put (step g) m

/-- R149: the last fade step has been reached: the slot map names TO, whose chains run on every slot (R148). -/
def glideEnd (m : Pnm) : Pnm :=
  match m.fpe.glide with
  | none => m
  | some g =>
    if g.j = 2 ^ g.log2 ∧ g.k1.isSome then
      let sm := g.slots.foldl (fun a s =>
        NMap.set (fun _ => 0) a s (setBits (NMap.get (fun _ => 0) a s) 7 0 g.dst)) m.fpe.smap
      let bd := m.fpe.bad.filter fun p => !g.slots.contains p.1
      raise { src := 4, code := 0x4A, cls := 3, items := [g.src, g.dst] }
        (sb (cb { m with fpe := { m.fpe with glide := none, smap := sm, bad := bd } } Reg.FPE_STAT 2) Reg.FPE_FLAGS 4)
    else m

/-- FPE_GLIDE_STAT. -/
def glideStatWord (m : Pnm) : Word :=
  match m.fpe.glide with
  | none => 0
  | some g => loW ((if g.k1.isSome ∧ g.j ≠ 0 then 2 else 1) + 4 * g.j)

/-! ## Phasors (R152 to R158) -/

/-- TICK_IN_SEC of a plane tick. -/
def tickInSec (m : Pnm) (T : Nat) : Nat := T % ticksPerSec / planeTicks m

/-- R152: a phasor plane tick. -/
def phasorTick (m : Pnm) (T : Nat) : Bool := decide (tickInSec m T % 2 ^ rf m Reg.FPE_STAT 1 0 = 0)

/-- R154: point n of a window: its value, and whether the interpolation saturates. -/
def windowPoint (z : Int → Val) (mo T : Nat) (fr : Int) (n : Nat) : Val × Bool :=
  let tau : Int := ((T : Int) - 2 * mo) * 2 ^ 32 - roundHalfEven (((63 - n) * 18000 * 2 ^ 56 : Nat) : Int) fr.toNat
  let mu : Int := mo * 2 ^ 32
  let j := tau / mu
  let ph := (roundHalfEven ((tau - j * mu) * 1024) (mo * 2 ^ 32)).toNat
  let j1 := if ph = 1024 then j + 1 else j
  weigh (cubRow (ph % 1024) 1024) ((List.range 4).map fun (q : Nat) => z ((j1 + (q : Int) - 1) * mo))

/-- R155: one component pair from the points and their angles in 2^-32 turn. -/
def dft (xs : List Int) (ang : Nat → Nat) : Int × Int × Bool :=
  let r := xs.zipIdx.foldl (fun (a : Int × Int) p => (a.1 + p.1 * cosA (ang p.2), a.2 - p.1 * sinA (ang p.2))) (0, 0)
  let re := roundHalfEven (r.1 * 5931642) (2 ^ 50)
  let im := roundHalfEven (r.2 * 5931642) (2 ^ 50)
  (satS 32 re, satS 32 im, decide (satS 32 re ≠ re ∨ satS 32 im ≠ im))

/-- R153 to R158: the phasor of a slot at plane tick T with resampling frequency `fr`; `st` is the state of its
reference at the previous phasor plane tick. -/
def slotPhasor (z : Int → Val) (mo T : Nat) (fr : Int) (st : Nat) : Phasor :=
  let pts := (List.range 64).map (windowPoint z mo T fr)
  let xs := pts.map (·.1.v)
  let rot := roundHalfEven (fr * ((2 * mo * 256 : Nat) : Int)) 1152000
  let turn := fun (h n : Nat) => ux 32 ((h : Int) * ((n : Int) - 63) * 2 ^ 26)
  let a1 := fun (n : Nat) => ux 32 ((turn 1 n : Int) - rot)
  let f1 := dft xs a1
  let f2 := dft xs (turn 2)
  let f5 := dft xs (turn 5)
  let h2 := magnitude f2.1 f2.2.1
  let h5 := magnitude f5.1 f5.2.1
  let sat := f1.2.2 || f2.2.2 || f5.2.2 || h2.2 || h5.2
  let j := Val.join 0 (pts.map (·.1))
  { re := f1.1, im := f1.2.1, h2 := h2.1, h5 := h5.1, q := qFinish (if sat then qJoin j.q 4 else j.q) j.f, f := j.f,
    flags := b2n (decide (st = 0 ∨ st = 4)) + 2 * b2n (decide (st = 3)) + 8 * b2n sat }

/-- The lane of a slot (R165). -/
def laneOf (s : Nat) : Nat := s / 2048

/-- R166: the slot's phasor is computed at plane tick T. -/
def laneTakes (m : Pnm) (s T : Nat) : Bool :=
  let f := (m.fpe.lanes.filter (! ·)).length
  if m.fpe.lanes.getD (laneOf s) true then true
  else if f = 4 then false
  else decide ((tickInSec m T / 2 ^ rf m Reg.FPE_STAT 1 0 + s) % 2 ^ f = 0)

/-- R158: a repeated entry. -/
def Phasor.repeated (p : Phasor) : Phasor :=
  { p with q := Nat.lor (qQuest p.q) 0x80 + p.q / 16384 * 16384, flags := Nat.lor p.flags 4 }

/-- The entry of a mapped slot at plane tick T, and whether it was computed (R147, R158, R166). -/
def phasorOf (m : Pnm) (T s : Nat) (e : List Word) : Phasor × Bool :=
  if !slotPh m s || decide (NMap.get (fun _ => 0) m.fpe.bad s ≠ 0) then (Phasor.none, true)
  else if (m.fpe.lanes.all (! ·)) then (Phasor.none, false)
  else if laneTakes m s T then
    let r := getRef m (slotRef m s)
    let legs := NMap.get (fun _ => []) m.fpe.chains s
    let mo := mOut (profWords m ((legs.getLast?.map (·.prof)).getD (slotProf m s))) (eN e)
    (slotPhasor (chainZ m legs (planeTicks m)) mo T (clampF r.rep.fRes) r.rep.state, true)
  else
    match NMap.get (fun _ => none) (m.fpe.ph.map fun p => (p.1, some p.2)) s with
    | some p => (p.repeated, false)
    | none => (Phasor.none, false)

/-! ## Phase references (R160 to R163) -/

/-- R160: the positive-sequence phasor of three. -/
def posSeq (a b c : Phasor) : Int × Int :=
  let x : Int := 1398101; let r : Int := -699051; let i : Int := 1210791
  let re := x * a.re + (r * b.re - i * b.im) + (r * c.re + i * c.im)
  let im := x * a.im + (r * b.im + i * b.re) + (r * c.im - i * c.re)
  (satS 32 (roundHalfEven re (2 ^ 22)), satS 32 (roundHalfEven im (2 ^ 22)))

/-- The mean of a list of integers, rounded convergently; 0 of an empty list. -/
def meanRound (l : List Int) (d : Nat) : Int :=
  if l = [] then 0 else roundHalfEven (l.foldl (· + ·) 0) (l.length * d)

/-- What R162 computes at a computed tick. -/
structure RefStep where
  theta : Nat
  fPrev : Int
  fRaw : Int
  good : Bool
  passes : Bool
  s : RefSt

/-- R161, R162: the update of a reference from its source phasor (re, im), magnitude and validity; `dt` is in grid
ticks. -/
def refUpdate (c : List Word) (s : RefSt) (re im : Int) (mag q dt : Nat) : RefStep :=
  let zero := decide (re = 0 ∧ im = 0)
  let theta := if zero then s.theta else angleOf re im
  let fPrev := if s.state = 3 then s.fHold else s.fp.getD s.fFilt
  let q32 : Int := 2 ^ 32 * 1152000
  let x := ((theta : Int) - s.theta) * 1152000 - fPrev * (dt * 256)
  let w := (x + q32 / 2) % q32 - q32 / 2
  let fRaw := if s.fresh then fPrev else roundHalfEven (fPrev * (256 * dt : Nat) + w) (256 * dt)
  let passes := decide (validity q ≠ 1 ∧ fld c 4 31 0 ≤ mag) && !zero
  let good := passes && decide (40 * 2 ^ 24 ≤ fRaw ∧ fRaw ≤ 70 * 2 ^ 24) &&
    decide ((fRaw - fPrev).natAbs * 100 ≤ fld c 2 31 24 * 2 ^ 24)
  let fAvg := ((if s.state = 3 ∧ good = false then s.fHold else fRaw) :: s.fAvg).take (fld c 2 7 0)
  let fFilt := meanRound fAvg 1
  let nw := fld c 2 15 8
  let fHist := (fFilt :: s.fHist).take (nw + 1)
  let rAvg := match fHist[nw]? with
    | some f0 => (roundHalfEven ((fFilt - f0) * (1152000 * 2 ^ 24)) (nw * dt) :: s.rAvg).take (fld c 2 23 16)
    | none => s.rAvg
  { theta := theta, fPrev := fPrev, fRaw := fRaw, good := good, passes := passes,
    s := { s with fresh := false, fp := none, fFilt := fFilt, fAvg := fAvg, fHist := fHist, rAvg := rAvg,
                  rocof := meanRound rAvg (2 ^ 32), theta := theta } }

/-- The averages that FPE table 6 clears. -/
def RefSt.cleared (s : RefSt) : RefSt := { s with fAvg := [], fHist := [], rAvg := [] }

/-- FPE table 6: the state after a computed tick T; HOLD_MS is `hold`. On entry into ACQUIRING the averages hold nothing and
the filtered frequency stands at the nominal one (log entry 21). -/
def refNext (c : List Word) (u : RefStep) (T : Nat) (s0 : RefSt) : RefSt :=
  let s := u.s
  let nf := fld c 2 7 0
  let hold := fld c 3 15 0
  let s1 := if u.good then { s with goodTheta := u.theta, goodTick := T } else s
  if s.state = 4 then
    let k := if u.passes then s.count + 1 else 0
    if 2 ≤ k then { s1.cleared with state := 1, count := 0, fp := some (nominal c), fFilt := nominal c } else { s1 with count := k }
  else if s.state = 1 then
    if u.good then
      if nf + fld c 2 15 8 + fld c 2 23 16 ≤ s.count + 1 then { s1 with state := 2, count := 0 }
      else { s1 with count := s.count + 1 }
    else { s1.cleared with count := 0, fp := some (clampF u.fRaw) }
  else if s.state = 2 then
    if u.good then s1
    else { s1 with state := if hold = 0 then 4 else 3, count := 0, fHold := u.fPrev, thetaHold := s0.goodTheta,
                   holdFrom := s0.goodTick, holdTick := T }
  else if s.state = 3 then
    let k := if u.good then s.count + 1 else 0
    if u.good ∧ nf ≤ k then { s1 with state := 2, count := 0 }
    else if hold * 1152 ≤ T - s.holdTick then { s1 with state := 4, count := 0 }
    else { s1 with count := k }
  else s1

/-- R163: what a reference reports at plane tick T. -/
def refReport (c : List Word) (s : RefSt) (T mag q f : Nat) : RefRep :=
  let base := idleRep c s T mag q f
  if s.state = 2 then
    { base with freq := ux 32 s.fFilt, rocof := satS 32 s.rocof, angle := s.theta, q := q, fRes := (clampF s.fFilt).toNat }
  else if s.state = 1 then
    { base with freq := ux 32 s.fFilt, angle := s.theta, q := qQuest q + q / 16384 * 16384,
                fRes := (clampF s.fFilt).toNat }
  else if s.state = 3 then
    let adv := roundHalfEven (s.fHold * ((T - s.holdFrom : Nat) * 256 : Int)) 1152000
    { base with freq := ux 32 s.fHold, angle := ux 32 ((s.thetaHold : Int) + adv),
                q := Nat.lor (qQuest q) 0x80 + q / 16384 * 16384, holdMs := (T - s.holdTick) / 1152,
                fRes := (clampF s.fHold).toNat }
  else base

/-- R161 to R163, R166: reference r at plane tick T, from the channel entries of this tick and whether each was
computed. -/
def refTick (T : Nat) (ph : Nat → Phasor × Bool) (m : Pnm) (r : Nat) : Pnm :=
  let c := refCfg m r
  let s := getRef m r
  if fbit c 0 0 = false then m
  else
    let slots := if fbit c 0 2 then [fld c 0 28 16, fld c 1 12 0, fld c 1 28 16] else [fld c 0 28 16]
    let src := slots.map ph
    if src.any (fun x => !x.2) then
      { m with fpe := { m.fpe with
                        refs := NMap.set RefSt.init m.fpe.refs r { s with rep := { s.rep with skip := true } } } }
    else
      let a := (src.getD 0 (Phasor.none, true)).1
      let v := if fbit c 0 2 then
          posSeq a (src.getD 1 (Phasor.none, true)).1 (src.getD 2 (Phasor.none, true)).1
        else (a.re, a.im)
      let f := src.foldl (fun x y => Nat.lor x y.1.f) 0
      let q := qFinish (src.foldl (fun x y => qJoin x y.1.q) 0) f
      let mag := (magnitude v.1 v.2).1
      let dt := if s.fresh ∨ T ≤ s.tPrev then planeTicks m * 2 ^ rf m Reg.FPE_STAT 1 0 else T - s.tPrev
      let u := refUpdate c s v.1 v.2 mag q dt
      let n := refNext c u T s
      let n1 : RefSt := { n with tPrev := T, seq := if n.state = s.state then s.seq else planeSeq m T }
      let n2 := { n1 with rep := refReport c n1 T mag q f }
      let m1 := { m with fpe := { m.fpe with refs := NMap.set RefSt.init m.fpe.refs r n2 } }
      raiseIf (decide (n.state ≠ s.state)) { src := 4, code := 0x48, cls := 2, items := [r, n.state] } m1

/-- A reference becomes LOST. -/
def refLost (T : Nat) (m : Pnm) (r : Nat) : Pnm :=
  let c := refCfg m r
  let s := getRef m r
  if fbit c 0 0 ∧ s.state ≠ 4 then
    let s1 := { s with count := 0 }
    refMove r 4 T { s1 with rep := { idleRep c { s1 with state := 4, seq := planeSeq m T } T 0 1 0 with state := 4 } } m
  else m

/-- R116: at a plane tick at which no plane closes because SVI is stopped, every enabled reference is LOST. -/
def refsLost (T : Nat) (m : Pnm) : Pnm := (List.range 64).foldl (refLost T) m

/-- FPE table 6: HOLD_MS has elapsed in HOLDING. -/
def refHoldExpiry (r : Nat) (m : Pnm) : Pnm :=
  let s := getRef m r
  let c := refCfg m r
  if s.state = 3 ∧ closeAt m s.holdTick + fld c 3 15 0 * 1000000 * unitNs ≤ nowU m then
    refLost (s.holdTick + fld c 3 15 0 * 1152) m r
  else m

/-! ## Lanes and the phasor plane's results (R164 to R166) -/

/-- R165: lane L fails its check. -/
def laneFail (m : Pnm) (l : Nat) : Pnm :=
  if m.fpe.lanes.getD l false then
    let m1 := { m with fpe := { m.fpe with lanes := setAt m.fpe.lanes l false } }
    let m2 := raise { src := 4, code := 0x4B, cls := 2, items := [l] }
      (sb (wf m1 Reg.FPE_STAT (4 + l) (4 + l) 0) Reg.FPE_FLAGS 3)
    nodeCause (48 + l) (128 + 0x4B) 2 (ladderEnter 3 l m2)
  else m

/-- R165: a failed lane passes its self-test and returns. -/
def laneReturn (l : Nat) (m : Pnm) : Pnm :=
  if m.fpe.lanes.getD l true then m
  else
    let m1 := { m with fpe := { m.fpe with lanes := setAt m.fpe.lanes l true } }
    ladderClear 3 l (nodeCause (48 + l) (128 + 0x4B) 0 (wf m1 Reg.FPE_STAT (4 + l) (4 + l) 1))

/-- R155 to R166: the phasors and references of plane tick T, after the lane checks; `bad` is the mask of lanes whose
check vector differs. -/
def fpeClose (T bad : Nat) (m : Pnm) : Pnm :=
  if phasorTick m T then
    let m1 := ((List.range 4).filter fun l => bad.testBit l).foldl laneFail m
    let all := (mappedSlots m1).map fun x => (x.1, phasorOf m1 T x.1 x.2)
    let sorted := sortBy (fun a b => decide (a.1 ≤ b.1)) all
    let kept := sorted.filter fun x => decide (x.2.1.flags.testBit 4 = false) || x.2.2
    let m2 := { m1 with fpe := { m1.fpe with
                                 ph := kept.foldl (fun a x =>
                                   if x.2.2 then NMap.ins a x.1 x.2.1 else a) m1.fpe.ph } }
    let m3 := (List.range 64).foldl (refTick T fun s =>
      match all.find? (fun x => decide (x.1 = s)) with
      | some x => x.2
      | none => (Phasor.none, true)) m2
    let pl : PhPlane :=
      { tick := T, closeU := closeAt m T, ph := sorted.map fun x => (x.1, x.2.1),
        refs := (List.range 64).map fun r => (getRef m3 r).rep }
    { m3 with fpe := { m3.fpe with planes := (pl :: m3.fpe.planes).take 16 } }
  else m

/-- FPE_STAT with STEP3. -/
def fpeStatWord (m : Pnm) : Word := setBits (rd m Reg.FPE_STAT) 8 8 (b2n (stepOn m 3))

end Sys2Proof.Machine
end

