-- ==== Sys2Proof/Machine/Gte.lean ====
section
/-! DEFINITION. GTE: gate entries, owners, arming, updates and cancellations, prediction, slips, conflicts, commit, the
angle check, window and registers (chapter 06). What a gate does at its firing instant is in `Fire`. -/

namespace Sys2Proof.Machine

/-! ## Entries (R174) -/

/-- Gate i. -/
def getGate (m : Pnm) (i : Nat) : Gate := NMap.get Gate.init m.gte.gates i

/-- Store gate i. -/
def putGate (i : Nat) (g : Gate) (m : Pnm) : Pnm :=
  { m with gte := { m.gte with gates := NMap.set Gate.init m.gte.gates i g } }

/-- Fields of bytes 0x00 to 0x27. -/
def Gate.mode (g : Gate) : Bool := fbit g.w 0 0
def Gate.useRocof (g : Gate) : Bool := fbit g.w 0 1
def Gate.holdOk (g : Gate) : Bool := fbit g.w 0 2
def Gate.refPol (g : Gate) : Bool := fbit g.w 0 3
def Gate.checkEn (g : Gate) : Bool := fbit g.w 0 4
def Gate.ref (g : Gate) : Nat := fld g.w 0 13 8
def Gate.target (g : Gate) : Nat := fld g.w 0 31 16
def Gate.skip (g : Gate) : Nat := fld g.w 1 7 0
def Gate.slipMax (g : Gate) : Nat := fld g.w 1 15 8
def Gate.action (g : Gate) : Nat := fld g.w 1 19 16
def Gate.comp (g : Gate) : Nat := fld g.w 2 31 0
def Gate.arg (g : Gate) : Nat := fld g.w 3 15 0
def Gate.earliest (g : Gate) : Nat := dw g.w 4
def Gate.latest (g : Gate) : Nat := dw g.w 6
def Gate.value (g : Gate) : Nat := fld g.w 8 31 0

/-- ARMED, WAITING, COMMITTED or PEER_PENDING (GTE table 3). -/
def Gate.active (g : Gate) : Bool := decide (1 ≤ g.state ∧ g.state ≤ 4)

/-- ARMED or WAITING: before commit. -/
def Gate.open' (g : Gate) : Bool := decide (g.state = 1 ∨ g.state = 2)

/-- The 64 bytes of an entry as 16 words (GTE table 1). -/
def gateWords (g : Gate) : List Word :=
  (List.range 10).map (wrd g.w) ++
  [loW (g.state + 2 ^ 8 * b2n g.rocofCap + 2 ^ 9 * b2n g.refChanged + 2 ^ 10 * b2n g.slipped + 2 ^ 11 * b2n g.angleValid +
        2 ^ 12 * b2n g.afterCommit + 2 ^ 13 * b2n g.byProgram + 2 ^ 14 * b2n g.takeover + 2 ^ 15 * b2n g.checkDone +
        2 ^ 16 * g.slips),
   loW (g.owner + 2 ^ 9 * b2n g.prog + 2 ^ 16 * g.loc), loW (g.f / nsU), hiW (g.f / nsU), loW (g.f % nsU),
   loW g.angleErr]

/-- The words that arming stores, without reserved bits. -/
def gateMask : List Word :=
  [0xFFFF3F1F, 0x000FFFFF, 0xFFFFFFFF, 0x0000FFFF, 0xFFFFFFFF, 0xFFFFFFFF, 0xFFFFFFFF, 0xFFFFFFFF, 0xFFFFFFFF, 0]

/-- The program range: first index and count (R176). -/
def progBase (m : Pnm) : Nat := rf m Reg.GTE_PROG_RANGE 9 0
def progCount (m : Pnm) : Nat := rf m Reg.GTE_PROG_RANGE 26 16

/-- The index lies in the program range. -/
def inProg (m : Pnm) (i : Nat) : Bool := decide (progBase m ≤ i ∧ i < progBase m + progCount m)

/-- The index is mapped to a VF gate number. -/
def isMapped (m : Pnm) (i : Nat) : Bool := m.gte.map.any fun p => decide (p.2.2 = i)

/-- The index that a VF's gate number is mapped to. -/
def mappedIdx (m : Pnm) (f n : Nat) : Option Nat :=
  (m.gte.map.find? fun p => decide (p.1 = f ∧ p.2.1 = n)).map (·.2.2)

/-- The gate share of function f (VFS table 8). -/
def gateShare (m : Pnm) (f : Nat) : Nat := rf m (Reg.shr f 1) 10 0

/-- R379: the gates of function f that count as use. -/
def gateUse (m : Pnm) (f : Nat) : Nat :=
  (m.gte.gates.filter fun p => p.2.active && !p.2.prog && decide (p.2.owner = f)).length

/-- GTE_STAT. -/
def gteStatWord (m : Pnm) : Word :=
  loW ((m.gte.gates.filter fun p => p.2.active).length +
       65536 * (m.gte.gates.filter fun p => decide (p.2.state = 3)).length)

/-- A GTE write or window operation was refused: CFG_REJECT, FIELD and INDEX. -/
def gteErr (field index : Nat) (m : Pnm) : Pnm :=
  wf (cfgErr (sb m Reg.GTE_FLAGS 0) Reg.GTE_CFG_ERR field) Reg.GTE_CFG_ERR 17 8 index

/-! ## Events and endings (R176, R180, R202) -/

/-- The VF that receives the events of gate g (R176, R180): none for the PF, the program, or a VF that is not
IN_SERVICE or was disabled since the gate was armed. -/
def gateFns (m : Pnm) (g : Gate) : List Nat :=
  if g.prog ∨ g.owner = 0 ∨ g.gone then []
  else if NMap.get (fun _ => VfState.absent) m.hif.vfs g.owner = .inService then [g.owner] else []

/-- An event of gate i: index, owner's number, further items. -/
def gateEvent (i code cls : Nat) (items : List Nat) (m : Pnm) : Pnm :=
  let g := getGate m i
  raise { src := 5, code := code, cls := cls, items := [i, g.loc] ++ items, fns := gateFns m g } m

/-- R176: a number at or above the VF's share is unmapped when its gate ends. -/
def unmapEnded (i : Nat) (m : Pnm) : Pnm :=
  let g := getGate m i
  if g.prog = false ∧ g.owner ≠ 0 ∧ gateShare m g.owner ≤ g.loc then
    { m with gte := { m.gte with map := m.gte.map.filter fun p => decide (p.2.2 ≠ i) } }
  else m

/-- Gate i ends in final state `st`, with its counter, flag and event (R197, R202). -/
def gateEnd (i st : Nat) (m : Pnm) : Pnm :=
  let m1 := putGate i { getGate m i with state := st } m
  let m2 := if st = 8 then inc m1 Reg.GTE_FIRED
    else if st = 11 then sb (inc m1 Reg.GTE_MISSED) Reg.GTE_FLAGS 2
    else if st = 13 then sb m1 Reg.GTE_FLAGS 1
    else m1
  unmapEnded i (gateEvent i (if st = 8 then 0x50 else 0x51) (if st = 8 then 1 else 2) [st] m2)

/-! ## Arming (R175 to R177) -/

/-- The largest ACT_ARG of an action (GTE table 2). -/
def argTop (action : Nat) : Nat := if action ≤ 3 then 15 else if action = 4 then 1023 else if action = 5 then 15 else 255

/-- R175: the first check on an entry's fields that fails (GTE_CFG_ERR.FIELD 5 to 10), or 0. -/
def gateFieldCheck (m : Pnm) (g : Gate) : Nat :=
  if g.action = 0 ∨ 6 < g.action then 5
  else if argTop g.action < g.arg then 6
  else if g.action ≤ 3 ∧ (rf m Reg.GTE_TOUT_CLAIM 15 0).testBit g.arg = false then 7
  else if 1000000000 < g.comp ∨ (g.action = 3 ∧ 1000000000 < g.value) then 8
  else if g.latest ≤ g.earliest then 9
  else if g.mode = false ∧ fbit (refCfg m g.ref) 0 0 = false then 10
  else 0

/-- A gate with the armed words of an entry and cleared status. -/
def gateFrom (w : List Word) : Gate :=
  { Gate.init 0 with w := (gateMask.zip (List.range 10)).map fun p => p.1 &&& wrd w p.2 }

/-- R175: an arming of a zero-width pulse arms nothing. -/
def gateZero (g : Gate) : Bool := decide (g.action = 3 ∧ g.value = 0)

/-- R177: gate i is ARMED for its owner. -/
def gateArmAt (i owner loc : Nat) (prog : Bool) (w : List Word) (m : Pnm) : Pnm :=
  putGate i { gateFrom w with state := 1, owner := owner, loc := loc, prog := prog } m

/-- R176: the index that an unmapped VF number gets: the lowest FREE one, else the lowest ended one. -/
def gateAlloc (m : Pnm) : Option Nat :=
  let ok := fun (i : Nat) => !inProg m i && !isMapped m i
  match (List.range 1024).find? fun i => ok i && decide ((getGate m i).state = 0) with
  | some i => some i
  | none => (List.range 1024).find? fun i => ok i && !(getGate m i).active

/-- R176: an index that the PF may name. -/
def pfMay (m : Pnm) (i : Nat) : Bool :=
  !inProg m i && !isMapped m i && !((getGate m i).active && (decide ((getGate m i).owner ≠ 0) || (getGate m i).prog))

/-- GATE_ARM (R175 to R177, R353): function f arms its gate `loc`; its module-wide index and state are reported. -/
def gateArm (f loc : Nat) (w : List Word) (m : Pnm) : Pnm × Option Ans :=
  let g := gateFrom w
  let bad := fun (s : Nat) => (m, some (ans s))
  if gateZero g then bad 0x01
  else if gateFieldCheck m g ≠ 0 then bad 0x14
  else if f ≠ 0 ∧ gateShare m f ≤ loc then bad 0x16
  else if f = 0 ∧ pfMay m loc = false then bad 0x16
  else
    let known := if f = 0 then some loc else mappedIdx m f loc
    let busy := match known with | some i => (getGate m i).active | none => false
    if busy then bad 0x14
    else if gateShare m f ≤ gateUse m f then bad 0x17
    else if rb m Reg.GTE_CTRL 0 = false then bad 0x14
    else match known with
      | some i => (gateArmAt i f loc false w m, some (ansR 0 i 1))
      | none =>
        match gateAlloc m with
        | none => bad 0x17
        | some i =>
          let m1 := { m with gte := { m.gte with map := m.gte.map ++ [(f, loc, i)] } }
          (gateArmAt i f loc false w m1, some (ansR 0 i 1))

/-- A window arm of index i (R175, R201): the FIELD code of a refusal, or 0. -/
def gateWindowCheck (m : Pnm) (i : Nat) (g : Gate) : Nat :=
  let c := gateFieldCheck m g
  if c ≠ 0 then c
  else if (getGate m i).active then 11
  else if rb m Reg.GTE_CTRL 0 = false then 13
  else if pfMay m i = false then 12
  else if gateShare m 0 ≤ gateUse m 0 then 14
  else 0

/-- R355: the entries of a container are armed as PF gates against the state that the preceding ones leave: the module,
and on a failure the entry's index and FIELD code. -/
def gateLoad (first : Nat) : List (List Word) → Pnm → Pnm × Option (Nat × Nat)
  | [], m => (m, none)
  | w :: t, m =>
    let g := gateFrom w
    if gateZero g then gateLoad (first + 1) t m
    else
      let c := if 1024 ≤ first then 12 else gateWindowCheck m first g
      if c ≠ 0 then (m, some (first, c))
      else gateLoad (first + 1) t (gateArmAt first 0 first false w m)

/-- R176: the running program arms its gate n; false where the checks of R175 refuse it. -/
def gateProgArm (n : Nat) (w : List Word) (m : Pnm) : Pnm × Bool :=
  let g := gateFrom w
  let i := progBase m + n
  if progCount m ≤ n ∨ 1024 ≤ i ∨ gateZero g ∨ gateFieldCheck m g ≠ 0 ∨ (getGate m i).active ∨
      rb m Reg.GTE_CTRL 0 = false then (m, false)
  else (gateArmAt i 0 n true w m, true)

/-! ## Update, cancellation, reading (R178, R179, R352) -/

/-- R395: the gate that function f means by number n: a VF's own mapped number, the PF's own gates. -/
def gateOf (m : Pnm) (f n : Nat) : Option Nat :=
  if f = 0 then (if isMapped m n ∨ (getGate m n).prog ∨ (getGate m n).owner ≠ 0 ∨ inProg m n then none else some n)
  else mappedIdx m f n

/-- The new timing words of an update (HIF table 9). -/
def updWords (mask comp target earliest latest : Nat) (w : List Word) : List Word :=
  let w1 := if mask.testBit 0 then w.set 2 (loW comp) else w
  let w2 := if mask.testBit 1 then w1.set 0 (setBits (wrd w1 0) 31 16 target) else w1
  let w3 := if mask.testBit 2 then (w2.set 4 (loW earliest)).set 5 (hiW earliest) else w2
  if mask.testBit 3 then (w3.set 6 (loW latest)).set 7 (hiW latest) else w3

/-- The FIELD code that refuses updated words: COMP_NS above its range, or a window that ends before it begins. -/
def updCheck (w : List Word) : Nat :=
  let g := { Gate.init 0 with w := w }
  if 1000000000 < g.comp then 8 else if g.latest ≤ g.earliest then 9 else 0

/-- GATE_UPDATE (R178). -/
def gateUpdate (f n mask comp target earliest latest : Nat) (m : Pnm) : Pnm × Option Ans :=
  if mask % 16 = 0 then (m, some (ans 0x01))
  else if mask.testBit 0 ∧ 1000000000 < comp then (m, some (ans 0x14))
  else match gateOf m f n with
    | none => (m, some (ans 0x16))
    | some i =>
      let g := getGate m i
      let w := updWords mask comp target earliest latest g.w
      if g.open' = false then (m, some (ansR 0x02 i g.state))
      else if updCheck w ≠ 0 then (m, some (ans 0x14))
      else (putGate i { g with w := w } m, some (ansR 0 i g.state))

/-- R179: a cancellation of gate i takes effect now: before commit, or at least 10 µs before F. -/
def cancels (m : Pnm) (g : Gate) : Bool :=
  g.open' || (decide (g.state = 3) && decide (m.tim.mt + 10000 * nsU ≤ g.f))

/-- R179, R181: cancel gate i. -/
def gateCancelAt (i : Nat) (byProg : Bool) (m : Pnm) : Pnm :=
  let g := getGate m i
  if cancels m g then
    gateEnd i 9 (putGate i { g with afterCommit := decide (g.state = 3), byProgram := byProg } m)
  else m

/-- GATE_CANCEL (R179). -/
def gateCancel (f n : Nat) (m : Pnm) : Pnm × Option Ans :=
  match gateOf m f n with
  | none => (m, some (ans 0x16))
  | some i =>
    let ok := cancels m (getGate m i)
    let m1 := gateCancelAt i false m
    (m1, some (ansR (if ok then 0 else 0x02) i (if ok then 9 else (getGate m i).state)))

/-- GATE_READ: the entry is written to host memory; its address is 64-byte aligned. -/
def gateRead (f n addr : Nat) (m : Pnm) : Pnm × Option Ans :=
  if addr % 64 ≠ 0 then (m, some (ans 0x14))
  else match gateOf m f n with
    | none => (m, some (ans 0x16))
    | some i => (emit m [.write f addr (gateWords (getGate m i))], some (ansR 0 i (getGate m i).state))

/-- R180: the owner VF is disabled. Its open gates end, and the events of its committed gates go to the PF. -/
def gatesOwnerGone (f : Nat) (m : Pnm) : Pnm :=
  let own := fun (g : Gate) => !g.prog && decide (g.owner = f)
  let l := (m.gte.gates.map (·.1)).filter fun i => (getGate m i).open' && own (getGate m i)
  let c := (m.gte.gates.map (·.1)).filter fun i => decide ((getGate m i).state = 3) && own (getGate m i)
  let m1 := c.foldl (fun x i => putGate i { getGate x i with gone := true } x) m
  l.foldl (fun x i => gateEnd i 14 x) m1

/-- R251: the program stops: its gates that are not committed are cancelled. -/
def gatesProgGone (m : Pnm) : Pnm :=
  let l := (m.gte.gates.filter fun p => p.2.open' && p.2.prog).map (·.1)
  l.foldl (fun x i => gateCancelAt i false x) m

/-- R385: end up to `n` gates of function f in descending order of their numbers; how many ended. -/
def gatesRevoke (f n : Nat) (m : Pnm) : Pnm × Nat :=
  let l := m.gte.gates.filter fun p => p.2.open' && !p.2.prog && decide (p.2.owner = f)
  let s := (sortBy (fun a b => decide (b.2.loc ≤ a.2.loc)) l).take n
  (s.foldl (fun x p => gateCancelAt p.1 false x) m, s.length)

/-! ## Prediction (R171, R182, R183) -/

/-- Inputs of a prediction (R182): FREQ in 2^-24 Hz, ROCOF in 2^-16 Hz/s, ANGLE in 2^-32 turn, T_p in exact units. -/
structure PredIn where
  f0 : Int
  r0 : Int
  a0 : Int
  tp : Int

/-- The units of angle of a prediction: 2^32 x unitS^2 to a turn. -/
def turnU : Int := 2 ^ 32 * (unitS : Int) * (unitS : Int)

/-- phi(tau) for tau in exact units. -/
def phiU (f0 rr tau : Int) : Int := f0 * tau * 2 ^ 8 * (unitS : Int) + rr * tau * tau * 2 ^ 15

/-- R183: Phi of a gate with `extra` crossings passed over. -/
def phiOf (p : PredIn) (g : Gate) (rr : Int) (extra : Nat) : Int :=
  let s := ((g.earliest + g.comp : Nat) : Int) * (unitNs : Int) - p.tp
  let ph := phiU p.f0 rr s
  let need := ((g.target : Int) * 2 ^ 16 - p.a0) * ((unitS : Int) * (unitS : Int)) - ph
  ph + need % turnU + ((g.skip + extra : Nat) : Int) * turnU

/-- Round num/den to the nearest integer, ties to even. -/
def roundRat (num den : Int) : Int := if den < 0 then roundHalfEven (-num) den.natAbs else roundHalfEven num den.natAbs

/-- R183: F in 2^-32 ns from tau = num / den in exact units. -/
def fOf (p : PredIn) (g : Gate) (num den : Int) : Nat :=
  (roundRat ((p.tp - (g.comp * unitNs : Nat)) * den + num) (9 * den)).toNat

/-- R183: F of a phase-mode gate and whether the ROCOF term was dropped. -/
def predict (p : PredIn) (g : Gate) (extra : Nat) : Nat × Bool :=
  let lin := fOf p g (phiOf p g 0 extra) (2 ^ 8 * (unitS : Int) * p.f0)
  let rr := if g.useRocof then p.r0 else 0
  if rr = 0 then (lin, false)
  else
    let u2 := (unitS : Int) * (unitS : Int)
    let n := p.f0 * p.f0 * u2 + 2 * rr * phiOf p g rr extra
    let lo : Int := 1600 * 2 ^ 48 * u2
    let hi : Int := 4900 * 2 ^ 48 * u2
    if lo ≤ n ∧ n ≤ hi then
      let r : Int := (isqrtBits (n.toNat * 2 ^ 128) 180 0 : Nat)
      (fOf p g (r - p.f0 * (unitS : Int) * 2 ^ 64) (rr * 2 ^ 72), false)
    else (lin, true)

/-- Store a prediction in gate g. -/
def Gate.predicted (g : Gate) (extra f : Nat) (cap : Bool) : Gate :=
  { g with extra := extra, f := f, e := f + g.comp * nsU, rocofCap := cap }

/-- R189, R191: raise EXTRA until F passes `ok`. -/
def slipTo (p : PredIn) (g : Gate) (ok : Nat → Bool) : Nat → Nat → Gate
  | 0, extra => let r := predict p g extra; g.predicted extra r.1 r.2
  | n + 1, extra =>
    let r := predict p g extra
    if ok r.1 then g.predicted extra r.1 r.2 else slipTo p g ok n (extra + 1)

/-- Edges of a gate's timed-output action at F (R191). -/
def gateEdges (g : Gate) (f : Nat) : List Nat := if g.action = 3 then [f, f + g.value * nsU] else [f]

/-- R191: an edge of gate i at F lies less than 1 µs from an edge of a committed gate on the same output. -/
def conflicts (m : Pnm) (i : Nat) (g : Gate) (f : Nat) : Bool :=
  decide (1 ≤ g.action ∧ g.action ≤ 3) && m.gte.gates.any fun p =>
    decide (p.1 ≠ i ∧ p.2.state = 3 ∧ 1 ≤ p.2.action ∧ p.2.action ≤ 3 ∧ p.2.arg = g.arg) &&
      (gateEdges g f).any fun a => (gateEdges p.2 p.2.f).any fun b =>
        decide (((a : Int) - (b : Int)).natAbs < 1000 * nsU)

/-- A slip of gate i: SLIPS, SLIPPED, counter and event 0x53. -/
def noteSlip (i : Nat) (g : Gate) (m : Pnm) : Pnm :=
  let n := min 255 (g.slips + 1)
  gateEvent i 0x53 2 [n] (inc (putGate i { g with slips := n, slipped := true } m) Reg.GTE_SLIP_COUNT)

/-- Crossings that a slip may have to try: 100 for each second between two instants. -/
def slipFuel (f bound : Nat) : Nat := (bound - f) / (nsU * 10000000) + 4096

/-- R187: gate i commits. -/
def gateCommit (i : Nat) (m : Pnm) : Pnm := gateEvent i 0x52 3 [] (putGate i { getGate m i with state := 3 } m)

/-- R187, R190, R191: expiry, conflict and commit of gate i, whose prediction stands; `hzn` is C(k) + S + HZN and `late`
C(k) + 30 µs, in exact units; `again` allows one slip on a conflict. -/
def settle (i : Nat) (p : PredIn) (late hzn : Nat) (m : Pnm) : Pnm :=
  let g := getGate m i
  if g.latest * nsU < g.f then gateEnd i 10 m
  else if hzn < 9 * g.f then m
  else if conflicts m i g g.f = false then gateCommit i m
  else if g.mode ∨ g.slipMax ≤ g.slips then gateEnd i 13 m
  else
    let g1 := slipTo p g (fun f => decide (late ≤ 9 * f) && !conflicts m i g f) (slipFuel 0 0) (g.extra + 1)
    let m1 := noteSlip i g1 m
    if g1.latest * nsU < g1.f then gateEnd i 10 m1
    else if hzn < 9 * g1.f then m1
    else gateCommit i m1

/-- R183: the re-prediction of gate i, ARMED or WAITING, at C(k) = `c` in exact units; `s` is the plane spacing. -/
def repredict (c s : Nat) (m : Pnm) (i : Nat) : Pnm :=
  let g := getGate m i
  let late := c + 30000 * unitNs
  let hzn := c + s + rf m Reg.GTE_HORIZON 14 0 * 1000 * unitNs
  if g.mode then
    let g1 := { g with state := 1, f := g.earliest * nsU }
    let m1 := putGate i g1 m
    if 9 * g1.f < late then gateEnd i 11 m1 else settle i { f0 := 0, r0 := 0, a0 := 0, tp := 0 } late hzn m1
  else
    let r := (getRef m g.ref).rep
    if r.state = 2 ∨ (r.state = 3 ∧ g.holdOk) then
      let p : PredIn := { f0 := r.freq, r0 := r.rocof, a0 := r.angle, tp := gridInstant r.tick }
      let g0 := { g with state := 1, refChanged := g.refChanged || decide (r.state = 3) }
      let x := predict p g0 g0.extra
      let g1 := g0.predicted g0.extra x.1 x.2
      if 9 * g1.f < late then
        if g1.slipMax ≤ g1.slips then gateEnd i 11 (putGate i g1 m)
        else
          let g2 := slipTo p g1 (fun f => decide (late ≤ 9 * f)) (slipFuel g1.f (late / 9)) (g1.extra + 1)
          settle i p late hzn (noteSlip i g2 m)
      else settle i p late hzn (putGate i g1 m)
    else if g.refPol then gateEnd i 12 m
    else
      let m1 := putGate i { g with state := 2 } m
      if g.latest * unitNs < late then gateEnd i 10 m1 else m1

/-- R192: a committed gate whose reference is not TRACKING. -/
def noteRef (m : Pnm) (i : Nat) : Pnm :=
  let g := getGate m i
  if g.mode = false ∧ (getRef m g.ref).rep.state ≠ 2 then putGate i { g with refChanged := true } m else m

/-! ## Angle check (R198) -/

/-- R198: ANGLE_ERR of gate g at the phasor plane tick T. -/
def angleError (r : RefRep) (g : Gate) (T : Nat) : Nat :=
  let dt : Int := (gridInstant T : Int) - 9 * (g.e : Int)
  let x := ((r.angle : Int) - (g.target : Int) * 2 ^ 16) * (unitS : Int) - (r.freq : Int) * 2 ^ 8 * dt
  ux 16 (roundHalfEven x (2 ^ 16 * unitS))

/-- R198: the angle check of gate i at T, the first phasor plane tick at or after E. -/
def angleCheck (T : Nat) (m : Pnm) (i : Nat) : Pnm :=
  let g := getGate m i
  if g.check ∧ 9 * g.e ≤ gridInstant T then
    let r := (getRef m g.ref).rep
    let v := angleError r g T
    let ok := decide (r.state = 2)
    gateEvent i 0x54 3 [v, b2n ok] (putGate i { g with check := false, checkDone := true, angleValid := ok, angleErr := v } m)
  else m

/-- R182: the re-prediction of plane tick T that begins at `c` in exact units, with the angle checks whose results it
brings. -/
def gatePass (T c : Nat) (m : Pnm) : Pnm :=
  let s := planeTicks m * unitTick
  let l := m.gte.gates.map (·.1)
  let m1 := if phasorTick m T then l.foldl (angleCheck T) m else m
  l.foldl (fun x i =>
    let g := getGate x i
    if g.open' then repredict c s x i else if g.state = 3 then noteRef x i else x) m1

/-! ## Roles and takeover (R199, R200) -/

/-- R199: a firing notice of the peer for gate i. -/
def gatePeerFired (i : Nat) (m : Pnm) : Pnm := if (getGate m i).state = 4 then gateEnd i 16 m else m

/-- R199: 1 ms after F without a notice while the peer stays active. -/
def peerNoticeTimeout (i : Nat) (m : Pnm) : Pnm :=
  let g := getGate m i
  if g.state = 4 ∧ g.f + 1000000 * nsU ≤ m.tim.mt then gateEnd i 15 m else m

/-- R200: at takeover, gates in PEER_PENDING and committed gates whose F lies before `first`, the first output instant
after it in exact units, return to ARMED. -/
def gatesTakeover (first : Nat) (m : Pnm) : Pnm :=
  let l := (m.gte.gates.filter fun p =>
    decide (p.2.state = 4) || (decide (p.2.state = 3) && decide (9 * p.2.f < first))).map (·.1)
  l.foldl (fun x i => putGate i { getGate x i with state := 1, takeover := true } x) m

/-! ## Timed-output levels (R193) -/

/-- The first counter-clock edge at or after an instant of module time (R68): the instant itself, in ns and 2^-32 ns, for
an edge that the command's time reaches (log entry 17). -/
def edgeAt (m : Pnm) (f : Nat) : Nat := max f m.tim.mt

/-- Output i is driven by gates: on or off. -/
def toutGate (i : Nat) (on : Bool) (m : Pnm) : Pnm :=
  { m with gte := { m.gte with level := if on then Nat.lor m.gte.level (2 ^ i)
                                        else if m.gte.level.testBit i then m.gte.level - 2 ^ i else m.gte.level } }

/-! ## Registers and window (R201) -/

/-- A write of GTE_CTRL: EN clears only while no gate is active. -/
def gteCtrlWrite (data : Word) (m : Pnm) : Pnm :=
  if bit data 0 = false ∧ m.gte.gates.any (fun p => p.2.active) then gteErr 4 0 m
  else wr m Reg.GTE_CTRL (data &&& 1#32)

/-- A write of GTE_HORIZON. -/
def gteHorizonWrite (data : Word) (m : Pnm) : Pnm :=
  let v := bits data 14 0
  if v < 500 ∨ 20000 < v then gteErr 1 0 m else wr m Reg.GTE_HORIZON (data &&& 0x7FFF#32)

/-- R380: the sum of the gate commitments of all functions. -/
def gateCommitted (m : Pnm) : Nat := (List.range 257).foldl (fun a f => a + max (gateShare m f) (gateUse m f)) 0

/-- A write of GTE_PROG_RANGE (R201, R380). -/
def gteRangeWrite (data : Word) (m : Pnm) : Pnm :=
  let b := bits data 9 0
  let c := bits data 26 16
  let above := (List.range' b (min c 1024)).any fun i =>
    isMapped m i || (decide ((getGate m i).state ≠ 0) && !(getGate m i).prog)
  if 1024 < b + c ∨ above ∨ 1024 < c + gateCommitted m then gteErr 2 0 m
  else wr m Reg.GTE_PROG_RANGE (data &&& 0x07FF03FF#32)

/-- A write of GTE_TOUT_CLAIM: an output that an active gate names stays claimed. -/
def gteClaimWrite (data : Word) (m : Pnm) : Pnm :=
  let used := m.gte.gates.find? fun p =>
    p.2.active && decide (1 ≤ p.2.action ∧ p.2.action ≤ 3) && !(bits data 15 0).testBit p.2.arg
  match used with
  | some p => gteErr 3 p.1 m
  | none => wr m Reg.GTE_TOUT_CLAIM (data &&& 0xFFFF#32)

/-- The window command as stored. -/
def gteCmd (cmd : Word) (m : Pnm) : Pnm := storeCmd Reg.GTE_TBL_CMD 0x000033FF#32 cmd m

/-- The entry in the data words. -/
def gteData (m : Pnm) : List Word := (List.range 16).map fun k => rd m (Reg.GTE_TBL_DATA + 4 * k)

/-- A refused window operation. -/
def gteRefuse (field i : Nat) (m : Pnm) : Pnm := gteErr field i (sb m Reg.GTE_TBL_STAT 1)

/-- OP 0: read. -/
def gteWindowRead (cmd : Word) (m : Pnm) : Pnm :=
  wrs (gteCmd cmd m) Reg.GTE_TBL_DATA (gateWords (getGate m (bits cmd 9 0)))

/-- OP 1: arm. -/
def gteWindowArm (cmd : Word) (m : Pnm) : Pnm :=
  let m1 := gteCmd cmd m
  let i := bits cmd 9 0
  let w := gteData m1
  if gateZero (gateFrom w) then m1
  else
    let c := gateWindowCheck m1 i (gateFrom w)
    if c ≠ 0 then gteRefuse c i m1 else gateArmAt i 0 i false (w.take 10) m1

/-- OP 2: update gate INDEX, whoever owns it, with the timing fields of the data words. -/
def gteWindowUpdate (cmd : Word) (m : Pnm) : Pnm :=
  let m1 := gteCmd cmd m
  let i := bits cmd 9 0
  let g := getGate m1 i
  let d := gateFrom (gteData m1)
  let w := updWords 15 d.comp d.target d.earliest d.latest g.w
  if g.open' = false then m1
  else if updCheck w ≠ 0 then gteRefuse (updCheck w) i m1
  else putGate i { g with w := w } m1

/-- OP 3: cancel. -/
def gteWindowCancel (cmd : Word) (m : Pnm) : Pnm := gateCancelAt (bits cmd 9 0) false (gteCmd cmd m)

end Sys2Proof.Machine
end

