-- ==== Sys2Proof/Machine/F64.lean ====
section
/-! DEFINITION. IEEE 754 binary64 with rounding to nearest, ties to even, subnormal values kept (R244). A number is its
64-bit pattern. -/

namespace Sys2Proof.Machine

/-- A binary64 value: (-1)^neg x m x 2^e where finite. -/
inductive FNum where
  | nan
  | inf (neg : Bool)
  | fin (neg : Bool) (m : Nat) (e : Int)
  deriving DecidableEq, Repr

/-- The value of a pattern. -/
def fDec (b : Nat) : FNum :=
  let neg := b.testBit 63
  let ex : Nat := b / 2 ^ 52 % 2048
  let fr : Nat := b % 2 ^ 52
  if ex = 2047 then (if fr = 0 then .inf neg else .nan)
  else if ex = 0 then .fin neg fr (-1074)
  else .fin neg (2 ^ 52 + fr) ((ex : Int) - 1075)

/-- The sign bit. -/
def fSign (neg : Bool) : Nat := if neg then 2 ^ 63 else 0

/-- An infinity. -/
def fInf (neg : Bool) : Nat := fSign neg + 2047 * 2 ^ 52

/-- A quiet NaN; sign and payload are open. -/
def fNan (a b : Nat) : Nat :=
  let x := (Config.nanBits a b).toNat
  fSign (x.testBit 51) + 2047 * 2 ^ 52 + 2 ^ 51 + x % 2 ^ 51

/-- num / den rounded to binary64, with sign `neg`. -/
def fRound (neg : Bool) (num den : Nat) : Nat :=
  if num = 0 then fSign neg
  else
    let at' := fun (e : Int) => if 0 ≤ e then (num, den * 2 ^ e.toNat) else (num * 2 ^ (-e).toNat, den)
    let e0 : Int := (Nat.log2 num : Int) - (Nat.log2 den : Int) - 52
    let p := at' e0
    let e1 := if p.1 / p.2 < 2 ^ 52 then e0 - 1 else e0
    let e := if e1 < -1074 then -1074 else e1
    let r := at' e
    let q := (roundHalfEven (r.1 : Int) r.2).toNat
    let bits := if q < 2 ^ 52 then q else (e + 1074).toNat * 2 ^ 52 + q
    if 2047 * 2 ^ 52 ≤ bits then fInf neg else fSign neg + bits

/-- m x 2^e as a fraction. -/
def fFrac (m : Nat) (e : Int) : Nat × Nat := if 0 ≤ e then (m * 2 ^ e.toNat, 1) else (m, 2 ^ (-e).toNat)

/-- An integer in binary64. -/
def fOfInt (i : Int) : Nat := fRound (decide (i < 0)) i.natAbs 1

/-- The signed numerators of two finite values over one denominator. -/
def fCommon (n1 : Bool) (m1 : Nat) (e1 : Int) (n2 : Bool) (m2 : Nat) (e2 : Int) : Int × Int × Nat :=
  let e := min e1 e2
  let s := fun (n : Bool) (m : Nat) (x : Int) =>
    let v : Int := (m * 2 ^ (x - e).toNat : Nat)
    if n then -v else v
  let d := fFrac 1 e
  (s n1 m1 e1 * d.1, s n2 m2 e2 * d.1, d.2)

/-- Addition. -/
def fAdd (a b : Nat) : Nat :=
  match fDec a, fDec b with
  | .nan, _ => fNan a b
  | _, .nan => fNan a b
  | .inf x, .inf y => if x = y then fInf x else fNan a b
  | .inf x, _ => fInf x
  | _, .inf y => fInf y
  | .fin n1 m1 e1, .fin n2 m2 e2 =>
    let c := fCommon n1 m1 e1 n2 m2 e2
    let s := c.1 + c.2.1
    if s = 0 then fSign (n1 && n2) else fRound (decide (s < 0)) s.natAbs c.2.2

/-- Negation. -/
def fNeg (a : Nat) : Nat := if a.testBit 63 then a - 2 ^ 63 else a + 2 ^ 63

/-- Absolute value. -/
def fAbs (a : Nat) : Nat := a % 2 ^ 63

/-- Subtraction. -/
def fSub (a b : Nat) : Nat := fAdd a (fNeg b)

/-- Multiplication. -/
def fMul (a b : Nat) : Nat :=
  match fDec a, fDec b with
  | .nan, _ => fNan a b
  | _, .nan => fNan a b
  | .inf x, .inf y => fInf (x != y)
  | .inf x, .fin n m _ => if m = 0 then fNan a b else fInf (x != n)
  | .fin n m _, .inf y => if m = 0 then fNan a b else fInf (n != y)
  | .fin n1 m1 e1, .fin n2 m2 e2 => let f := fFrac (m1 * m2) (e1 + e2); fRound (n1 != n2) f.1 f.2

/-- Division. -/
def fDiv (a b : Nat) : Nat :=
  match fDec a, fDec b with
  | .nan, _ => fNan a b
  | _, .nan => fNan a b
  | .inf _, .inf _ => fNan a b
  | .inf x, .fin n _ _ => fInf (x != n)
  | .fin n _ _, .inf y => fSign (n != y)
  | .fin n1 m1 e1, .fin n2 m2 e2 =>
    if m2 = 0 then (if m1 = 0 then fNan a b else fInf (n1 != n2))
    else let f := fFrac m1 (e1 - e2); fRound (n1 != n2) f.1 (f.2 * m2)

/-- Square root of a value that is not negative. -/
def fSqrt (a : Nat) : Nat :=
  match fDec a with
  | .nan => fNan a a
  | .inf _ => fInf false
  | .fin n m e =>
    if m = 0 then a
    else if n then fNan a a
    else
      let k : Int := e - 120 - e % 2
      let x := m * 2 ^ (e - k).toNat
      let r := isqrtBits x 90 0
      let f := fFrac (2 * r + (if r * r = x then 0 else 1)) (k / 2 - 1)
      fRound false f.1 f.2

/-- A value is NaN; a value is finite. -/
def fIsNan (a : Nat) : Bool := decide (fDec a = .nan)
def fFinite (a : Nat) : Bool := match fDec a with | .fin .. => true | _ => false

/-- a < b; false with a NaN. -/
def fLt (a b : Nat) : Bool :=
  match fDec a, fDec b with
  | .nan, _ => false
  | _, .nan => false
  | .inf x, .inf y => x && !y
  | .inf x, _ => x
  | _, .inf y => !y
  | .fin n1 m1 e1, .fin n2 m2 e2 => let c := fCommon n1 m1 e1 n2 m2 e2; decide (c.1 < c.2.1)

/-- a = b; false with a NaN. -/
def fEq (a b : Nat) : Bool := !fIsNan a && !fIsNan b && !fLt a b && !fLt b a

/-- a ≤ b; false with a NaN. -/
def fLe (a b : Nat) : Bool := fLt a b || fEq a b

/-- Smaller and larger of two values; a NaN operand gives a NaN. -/
def fMin (a b : Nat) : Nat := if fIsNan a || fIsNan b then fNan a b else if fLt b a then b else a
def fMax (a b : Nat) : Nat := if fIsNan a || fIsNan b then fNan a b else if fLt a b then b else a

/-- Round to an integer, nearest, ties to even; an infinity gives a value beyond every integer type; none for NaN (R249). -/
def fToInt (a : Nat) : Option Int :=
  match fDec a with
  | .nan => none
  | .inf n => some (if n then -(2 ^ 80) else 2 ^ 80)
  | .fin n m e =>
    let f := fFrac m e
    let r := roundHalfEven (f.1 : Int) f.2
    some (if n then -r else r)

/-- A binary32 pattern widened to binary64 (R224). -/
def fOfF32 (b : Nat) : Nat :=
  let neg := b.testBit 31
  let ex : Nat := b / 2 ^ 23 % 256
  let fr : Nat := b % 2 ^ 23
  if ex = 255 then (if fr = 0 then fInf neg else fNan b b)
  else
    let f := if ex = 0 then fFrac fr (-149) else fFrac (2 ^ 23 + fr) ((ex : Int) - 150)
    fRound neg f.1 f.2

/-- A decimal constant num / den in binary64. -/
def fConst (num den : Nat) : Nat := fRound false num den

end Sys2Proof.Machine
end

