-- ==== Sys2Proof/Machine/Fb.lean ====
section
/-! DEFINITION. The built-in function blocks: values, qualities and states (R239 to R249). -/

namespace Sys2Proof.Machine

/-! ## Quality and data types (R242 to R244) -/

/-- R242: two qualities combined: worst validity, OR of bits [15:2]. -/
def qMix (a b : Nat) : Nat :=
  let va := if a % 4 = 2 then 1 else a % 4
  let vb := if b % 4 = 2 then 1 else b % 4
  (if va = 1 ∨ vb = 1 then 1 else if va = 3 ∨ vb = 3 then 3 else 0) + Nat.lor (a / 4 % 16384) (b / 4 % 16384) * 4

/-- The combination of a list of qualities. -/
def qMixAll (l : List Nat) : Nat := l.foldl qMix 0

/-- Quality bits of SVI table 4. -/
def qOverflow : Nat := 4
def qRange : Nat := 8
def qIncons : Nat := 256
def qSubst : Nat := 16384
/-- VALIDITY invalid with OVERFLOW. -/
def qBad : Nat := 5

/-- VALIDITY good. -/
def qGood (q : Nat) : Bool := decide (q % 4 = 0)

/-- R244: a result in its type's range, and the quality bits it sets. -/
def fit (ty : Nat) (v : Int) : Int × Nat :=
  if ty = 0 then (if v = 0 then 0 else 1, 0)
  else if ty = 1 then (satS 32 v, if satS 32 v = v then 0 else qOverflow)
  else if ty = 4 then (v, if fFinite v.toNat then 0 else qBad)
  else (satS 64 v, if satS 64 v = v then 0 else qOverflow)

/-- R224, R249: conversion of a value between types 1 to 4; conversions that R249 does not state are open. -/
def convTo (ty dest : Nat) (x : TV) : TV :=
  if ty = dest then x
  else if ty = 0 ∨ dest = 0 then { v := Config.boolConv ty dest x.v, q := x.q }
  else if dest = 4 then { v := fOfInt x.v, q := x.q }
  else if ty = 4 then
    match fToInt x.v.toNat with
    | none => { v := 0, q := qMix x.q qBad }
    | some i => let r := fit dest i; { v := r.1, q := qMix x.q r.2 }
  else let r := fit dest x.v; { v := r.1, q := qMix x.q r.2 }

/-! ## Stateless blocks (R242, R244, R249) -/

/-- Arithmetic of two operands of a type; LREAL values are patterns. -/
def arith (op : BlkOp) (ty : Nat) (a b : Int) : Int × Nat :=
  if ty = 4 then
    let x := a.toNat; let y := b.toNat
    let r := match op with
      | .add => fAdd x y | .sub => fSub x y | .mul => fMul x y | .div => fDiv x y
      | .min => fMin x y | _ => fMax x y
    fit 4 r
  else
    match op with
    | .add => fit ty (a + b)
    | .sub => fit ty (a - b)
    | .mul => fit ty (a * b)
    | .min => fit ty (min a b)
    | .max => fit ty (max a b)
    | _ =>
      if b = 0 then
        let top : Int := if ty = 1 then 2 ^ 31 - 1 else 2 ^ 63 - 1
        (if a = 0 then 0 else if 0 < a then top else -top, qBad)
      else fit ty (Int.tdiv a b)

/-- ABS, NEG, SQRT and MOVE. -/
def unary (op : BlkOp) (ty : Nat) (a : Int) : Int × Nat :=
  match op with
  | .abs => if ty = 4 then fit 4 (fAbs a.toNat) else fit ty (a.natAbs : Int)
  | .neg => if ty = 4 then fit 4 (fNeg a.toNat) else fit ty (-a)
  | .sqrt =>
    if ty = 4 then (if fLt a.toNat 0 then (0, 1) else fit 4 (fSqrt a.toNat))
    else (if a < 0 then (0, 1) else fit ty (isqrtBits a.toNat 33 0 : Nat))
  | _ => fit ty a

/-- A comparison and whether a NaN takes part. -/
def compare' (op : BlkOp) (ty : Nat) (a b : Int) : Bool × Bool :=
  let x := a.toNat; let y := b.toNat
  let nan := decide (ty = 4) && (fIsNan x || fIsNan y)
  let lt := if ty = 4 then fLt x y else decide (a < b)
  let eq := if ty = 4 then fEq x y else decide (a = b)
  let r := match op with
    | .gt => !lt && !eq | .ge => !lt | .eq => eq | .ne => !eq | .le => lt || eq | _ => lt
  (r && !nan, nan)

/-- AND and OR: the good operands that decide, or all of them (R242). -/
def logic (dom : Bool) (xs : List TV) : TV :=
  let is := fun (x : TV) => decide (x.v ≠ 0)
  let dec := xs.filter fun x => decide (is x = dom) && qGood x.q
  let v := if dom then xs.any is else xs.all is
  { v := b2n v, q := qMixAll ((if dec = [] then xs else dec).map (·.q)) }

/-- The gate-request record that a GATE_REQ block assembles from its inputs, in the order MODE, USE_ROCOF, HOLD_OK,
REF_POL, CHECK_EN, REF, TARGET, SKIP_CYC, SLIP_MAX, ACTION, COMP_NS, ACT_ARG, EARLIEST_NS, LATEST_NS, ACT_VALUE, as
bytes 0x00 to 0x27 of GTE table 1 (R236). -/
def gateRecord (a : Nat → Int) : Nat :=
  let f := fun (i n : Nat) => ux n (a i)
  f 0 1 + 2 * f 1 1 + 4 * f 2 1 + 8 * f 3 1 + 16 * f 4 1 + 2 ^ 8 * f 5 6 + 2 ^ 16 * f 6 16 +
  2 ^ 32 * (f 7 8 + 2 ^ 8 * f 8 8 + 2 ^ 16 * f 9 4) + 2 ^ 64 * f 10 32 + 2 ^ 96 * f 11 16 + 2 ^ 128 * f 12 64 +
  2 ^ 192 * f 13 64 + 2 ^ 256 * f 14 32

/-- A stateless block. -/
def stateless (b : Blk) (xs : List TV) : TV :=
  let x := fun (i : Nat) => xs.getD i { v := 0, q := 0 }
  let qs := qMixAll (xs.map (·.q))
  let mk := fun (r : Int × Nat) => ({ v := r.1, q := qMix qs r.2 } : TV)
  let fold := fun (op : BlkOp) =>
    match xs with
    | [] => mk (0, 0)
    | h :: t => mk (t.foldl (fun (a : Int × Nat) y =>
        let r := arith op b.ty a.1 y.v
        (r.1, qMix a.2 r.2)) (h.v, (fit b.ty h.v).2))
  match b.op with
  | .add => fold .add
  | .mul => fold .mul
  | .min => fold .min
  | .max => fold .max
  | .sub => mk (arith .sub b.ty (x 0).v (x 1).v)
  | .div => mk (arith .div b.ty (x 0).v (x 1).v)
  | .limit =>
    let r := arith .max b.ty (x 1).v (x 0).v
    mk (arith .min b.ty r.1 (x 2).v)
  | .gt | .ge | .eq | .ne | .le | .lt =>
    let r := compare' b.op b.ty (x 0).v (x 1).v
    mk ((b2n r.1 : Nat), if r.2 then qBad else 0)
  | .and => logic false xs
  | .or => logic true xs
  | .xor => mk ((xs.filter fun y => decide (y.v ≠ 0)).length % 2, 0)
  | .not => mk (if (x 0).v = 0 then 1 else 0, 0)
  | .sel =>
    let y := if (x 0).v = 0 then x 1 else x 2
    { v := y.v, q := qMix (x 0).q y.q }
  | .mux =>
    let k := (x 0).v
    if 0 ≤ k ∧ k.toNat + 1 < xs.length then
      let y := x (k.toNat + 1)
      { v := y.v, q := qMix (x 0).q y.q }
    else { v := 0, q := qMix (x 0).q (1 + qRange) }
  | .conv => convTo b.ty b.dest (x 0)
  | .gateReq => mk (gateRecord (fun i => (x i).v), 0)
  | .qgate => if qGood (x 0).q then x 0 else { v := (x 1).v, q := Nat.lor (x 1).q qSubst }
  | _ => mk (unary b.op b.ty (x 0).v)

/-! ## Stateful blocks (R243, R245 to R248) -/

/-- Outputs, new state, quality bits that the block adds, whether the state quality clears, and whether the run changes
nothing at all (R247). -/
structure StepOut where
  outs : List Int
  st : List Int
  extra : Nat := 0
  clear : Bool := false
  frozen : Bool := false

/-- A timer preset below zero acts as 0 (R245). -/
def preset (pt : Int) : Int × Nat := if pt < 0 then (0, qRange) else (pt, 0)

/-- TON, TOF and TP (R245): IN, PT; state ET and IN_prev, and the TP state first. A TOF's initial ET below zero stands
for PT. -/
def timer (op : BlkOp) (st : List Int) (inp pt0 : Int) (dt : Nat) : StepOut :=
  let p := preset pt0
  let on := decide (inp ≠ 0)
  match op with
  | .ton =>
    let et := if !on || decide (st.getD 1 0 = 0) then 0 else min (st.getD 0 0 + dt) p.1
    { outs := [b2n (on && decide (p.1 ≤ et)), et], st := [et, b2n on], extra := p.2 }
  | .tof =>
    let e0 := if st.getD 0 0 < 0 then p.1 else st.getD 0 0
    let et := if on || decide (st.getD 1 0 ≠ 0) then 0 else min (e0 + dt) p.1
    { outs := [b2n (on || decide (et < p.1)), et], st := [et, b2n on], extra := p.2 }
  | _ =>
    let s := st.getD 0 0; let e := st.getD 1 0; let prev := decide (st.getD 2 0 ≠ 0)
    let a : Int × Int := if s = 0 ∧ on ∧ prev = false then (1, 0) else if s = 1 then (1, min (e + dt) p.1) else (s, e)
    let b : Int × Int := if a.1 = 1 ∧ p.1 ≤ a.2 then (2, a.2) else a
    let c : Int × Int := if b.1 = 2 ∧ on = false then (0, 0) else b
    { outs := [b2n (decide (c.1 = 1)), c.2], st := [c.1, c.2, b2n on], extra := p.2 }

/-- CTU and CTD (CYE table 7): count input, reset or load, PV. -/
def counter (up : Bool) (st : List Int) (cx rx pv : Int) : StepOut :=
  let cv := st.getD 0 0
  let edge := decide (cx ≠ 0) && decide (st.getD 1 0 = 0)
  let n :=
    if rx ≠ 0 then (if up then 0 else satS 32 pv)
    else if edge then
      (if up then (if cv < 2 ^ 31 - 1 then cv + 1 else cv) else (if Int.neg (2 ^ 31) < cv then cv - 1 else cv))
    else cv
  { outs := [b2n (if up then decide (pv ≤ n) else decide (n ≤ 0)), n], st := [n, if cx = 0 then 0 else 1],
    clear := decide (rx ≠ 0) }

/-- HYS_HI and HYS_LO (R246): X, ON, OFF. -/
def hysteresis (hi : Bool) (ty : Nat) (st : List Int) (x on off : Int) : StepOut :=
  let lt := fun (a b : Int) => if ty = 4 then fLt a.toNat b.toNat else decide (a < b)
  let le := fun (a b : Int) => if ty = 4 then fLe a.toNat b.toNat else decide (a ≤ b)
  let wrong := if hi then lt on off else lt off on
  let off' := if wrong then on else off
  let q := if (if hi then le on x else le x on) then 1
    else if (if hi then lt x off' else lt off' x) then 0
    else st.getD 0 0
  { outs := [q], st := [q], extra := if wrong then qIncons else 0 }

/-- Curve constants k, c, alpha, tr of CYE table 7a as numerator and denominator of 10^4; tr 0 stands for TR_USER. -/
def curve (c : Nat) : Nat × Nat × Nat × Nat :=
  if c = 0 then (1400, 0, 200, 0) else if c = 1 then (135000, 0, 10000, 0) else if c = 2 then (800000, 0, 20000, 0)
  else if c = 3 then (515, 1140, 200, 48500) else if c = 4 then (196100, 4910, 20000, 216000)
  else (282000, 1217, 20000, 291000)

/-- The binary64 constant n / 10^4. -/
def f4 (n : Nat) : Nat := fConst n 10000

/-- Binary64 of 1 and of 10^9. -/
def fOne : Nat := fConst 1 1
def fGiga : Nat := fConst 1000000000 1

/-- 1 - 2^-32 (R248). -/
def fOp : Nat := fConst (2 ^ 32 - 1) (2 ^ 32)

/-- IDMT (R247, R248): inputs G, GS, TMS, CURVE, PKP, RESET, TRD, TR_USER, k, c, alpha; state S, START, reset timer in
ns. The unit of ΔT and TRD against t(G) is the second (log entry 11). -/
def idmt (st : List Int) (x : Nat → Nat) (curveNo resetNo : Int) (dt : Nat) : StepOut :=
  let s0 := (st.getD 0 0).toNat; let start0 := st.getD 1 0; let rt0 := st.getD 2 0
  let g := x 0; let gs := x 1
  let tms := fMin (f4 1000000) (fMax (f4 100) (x 2))
  let pkp := fMin (f4 13000) (fMax (f4 10000) (x 4))
  let out := if tms ≠ x 2 ∨ pkp ≠ x 4 then qRange else 0
  let user := decide (curveNo = 6)
  let cv := curve curveNo.toNat
  let k := if user then x 8 else f4 cv.1
  let c := if user then x 9 else f4 cv.2.1
  let al := if user then x 10 else f4 cv.2.2.1
  let tr := if user ∨ cv.2.2.2 = 0 then x 7 else f4 cv.2.2.2
  let bad := decide (curveNo < 0 ∨ 6 < curveNo ∨ resetNo < 0 ∨ 2 < resetNo) || fLe gs 0 ||
    [x 0, x 1, x 2, x 4, x 6, x 7].any fun v => !fFinite v
  let r := fMin (fDiv g gs) (fConst 20 1)
  let p := if al = fOne then r else (Config.pow64 r al).toNat
  let t := fMul tms (fAdd (fDiv k (fSub p fOne)) c)
  let up := fLe (fMul pkp gs) g
  let tBad := user && up && !(fFinite t && fLt 0 t)
  let dts := fDiv (fOfInt dt) fGiga
  let mk := fun (s : Nat) (start rt : Int) (ex : Nat) (fz : Bool) =>
    ({ outs := [start, b2n (fLe fOp s), s], st := [s, start, rt], extra := ex,
       clear := decide (s0 ≠ 0 ∧ s = 0), frozen := fz } : StepOut)
  if bad || tBad then mk s0 start0 rt0 (1 + qRange) true
  else if up then mk (if start0 = 0 then s0 else fAdd s0 (fDiv dts t)) 1 0 out false
  else if fLt g (fMul (fMul (f4 9500) pkp) gs) then
    if resetNo = 0 then mk 0 0 rt0 out false
    else if resetNo = 1 then
      let rt := rt0 + dt
      mk (if fLe (x 6) (fDiv (fOfInt rt) fGiga) then 0 else s0) 0 rt out false
    else
      let r9 := fMin (fDiv g gs) (f4 9000)
      let d := fDiv (fMul tms tr) (fSub fOne (fMul r9 r9))
      mk (fMax 0 (fSub s0 (fDiv dts d))) 0 rt0 out false
  else mk s0 start0 rt0 out false

/-- One evaluation of a stateful block other than Z1. -/
def stateful (b : Blk) (st : List Int) (xs : List TV) (dt : Nat) : StepOut :=
  let v := fun (i : Nat) => (xs.getD i { v := 0, q := 0 }).v
  let old := st.getD 0 0
  let bool := fun (q : Bool) => ({ outs := [b2n q], st := [b2n q] } : StepOut)
  match b.op with
  | .ton | .tof | .tp => timer b.op st (v 0) (v 1) dt
  | .rTrig => { outs := [b2n (decide (v 0 ≠ 0 ∧ old = 0))], st := [if v 0 = 0 then 0 else 1] }
  | .fTrig => { outs := [b2n (decide (v 0 = 0 ∧ old ≠ 0))], st := [if v 0 = 0 then 0 else 1] }
  | .sr => bool (decide (v 0 ≠ 0 ∨ (old ≠ 0 ∧ v 1 = 0)))
  | .rs => bool (decide (v 1 = 0 ∧ (v 0 ≠ 0 ∨ old ≠ 0)))
  | .ctu => counter true st (v 0) (v 1) (v 2)
  | .ctd => counter false st (v 0) (v 1) (v 2)
  | .hysHi => hysteresis true b.ty st (v 0) (v 1) (v 2)
  | .hysLo => hysteresis false b.ty st (v 0) (v 1) (v 2)
  | _ => idmt st (fun i => (v i).toNat) (v 3) (v 5) dt

/-- A block keeps state between runs. -/
def isStateful (op : BlkOp) : Bool :=
  match op with
  | .ton | .tof | .tp | .rTrig | .fTrig | .sr | .rs | .ctu | .ctd | .z1 | .hysHi | .hysLo | .idmt | .native => true
  | _ => false

/-- State type of a stateful block (LFG table 7). -/
def stypeOf (op : BlkOp) : Nat :=
  match op with
  | .ton => 1 | .tof => 2 | .tp => 3 | .rTrig => 4 | .fTrig => 5 | .ctu => 6 | .ctd => 7 | .sr => 8 | .rs => 9
  | .hysHi => 10 | .hysLo => 11 | .idmt => 12 | .z1 => 13 | .native => 15 | _ => 0

/-! ## A run (R239, R240, R263) -/

/-- The outputs so far: one list per block of the body. -/
abbrev Env := List (List TV)

/-- The value of a source. -/
def srcVal (img : List TV) (env : Env) : Src → TV
  | .inp i => img.getD i { v := 0, q := 0 }
  | .out b p => (env.getD b []).getD p { v := 0, q := 0 }
  | .const c => { v := c, q := 0 }

/-- The state of a block's instance. -/
def instOf (insts : NMap InstSt) (b : Blk) : InstSt := NMap.get InstSt.init insts b.inst

/-- R239: the output of a Z1 block is its input at its previous evaluation. -/
def z1Out (i : InstSt) : TV := { v := i.st.getD 0 0, q := (i.st.getD 1 0).toNat }

/-- One block: its outputs and the new instance states. -/
def evalBlk (b : Blk) (xs : List TV) (insts : NMap InstSt) (dt : Nat) (tsNs : Nat) : List TV × NMap InstSt :=
  if isStateful b.op then
    let i := instOf insts b
    let d := match i.from' with | some t => tsNs - t | none => dt
    let put := fun (n : InstSt) => NMap.set InstSt.init insts b.inst { n with from' := none }
    match b.op with
    | .z1 =>
      let x := xs.getD 0 { v := 0, q := 0 }
      ([z1Out i], put { i with st := [x.v, x.q] })
    | .native =>
      let r := Config.nativeBlock b.inst xs i.st d
      (r.2, put { i with st := r.1 })
    | _ =>
      let r := stateful b i.st xs d
      let qs := qMixAll (xs.map (·.q))
      let q := if r.frozen then i.q else if r.clear then 0 else if r.st ≠ i.st then qMix i.q qs else i.q
      (r.outs.map fun v => { v := v, q := qMixAll [qs, q, r.extra] }, put { i with st := r.st, q := q })
  else ([stateless b xs], insts)

/-- The blocks of a body in order, from block number `k`. -/
def runBlks (img : List TV) (dt tsNs : Nat) : Nat → List Blk → Env → NMap InstSt → Env × NMap InstSt
  | _, [], env, s => (env, s)
  | k, b :: t, env, s =>
    let r := evalBlk b (b.args.map (srcVal img env)) s dt tsNs
    runBlks img dt tsNs (k + 1) t (setAt env k r.1) r.2

/-- A run of a body on its input image: values of the task's output-map entries, and the new states. -/
def runBody (body : TaskBody) (img : List TV) (dt tsNs : Nat) (s : NMap InstSt) : List TV × NMap InstSt :=
  let env0 : Env := body.blocks.map fun b => if b.op = .z1 then [z1Out (instOf s b)] else []
  let r := runBlks img dt tsNs 0 body.blocks env0 s
  (body.outs.map (srcVal img r.1), r.2)

/-- R239: no block reads an output before its block has been evaluated, Z1 outputs excepted. -/
def orderOk (body : TaskBody) : Bool :=
  let n := body.blocks.length
  let ok := fun (k : Nat) (s : Src) =>
    match s with
    | .out b _ => decide (b < k) || (decide (b < n) && decide ((body.blocks[b]?.map (·.op)) = some .z1))
    | _ => true
  (body.blocks.zipIdx.all fun p => p.1.args.all (ok p.2)) && body.outs.all (ok n)

/-- R241: the initial states of a body's instances. -/
def bodyInit (body : TaskBody) (s : NMap InstSt) : NMap InstSt :=
  body.blocks.foldl (fun a b =>
    if isStateful b.op then NMap.set InstSt.init a b.inst { st := b.init, q := 0, from' := none } else a) s

end Sys2Proof.Machine
end

