-- ==== Sys2Proof/Machine/Link.lean ====
section
/-! DEFINITION. PAR's transmit side: pair frames, their integrity value, fragments and the choice of path (R430 to R435,
R441). -/

namespace Sys2Proof.Machine

/-- The pair path is up (R433): false the Baswick link, true the process-bus path. -/
def pathUp (m : Pnm) (path : Bool) : Bool := rb m Reg.PAR_STAT (if path then 11 else 10)

/-- The module is in a state that sends heartbeats (PAR table 6). -/
def pairSends (m : Pnm) : Bool := decide (1 ≤ pairState m ∧ pairState m ≤ 5)

/-- The module is paired: its PAR state is not OFF (R427). -/
def paired (m : Pnm) : Bool := decide (pairState m ≠ 0)

/-- PAR table 1: the sub-header of a frame. -/
def pairHead (m : Pnm) (path : Bool) (typ frag : Nat) (more : Bool) (seq len : Nat) : List Byte :=
  beBytes 2 0x5A42 ++ beBytes 1 1 ++ beBytes 1 typ ++ beBytes 2 (rf m Reg.PAR_ID 15 0) ++
  beBytes 1 (b2n (rb m Reg.PAR_STAT 3) + 2 * b2n path + 4 * b2n more) ++ beBytes 1 frag ++ beBytes 4 m.hif.epoch ++
  beBytes 6 seq ++ beBytes 2 len ++ beBytes 4 (rd m Reg.PAR_EPOCH).toNat

/-- R435: the 96-bit IV. -/
def pairIv (pos path : Bool) (resetCnt seq : Nat) : List Byte :=
  beBytes 1 (b2n pos + 2 * b2n path) ++ beBytes 1 0 ++ beBytes 4 resetCnt ++ beBytes 6 seq

/-- R435: the integrity value with the link key, or zeros where no position is usable. -/
def pairIcv (m : Pnm) (iv data : List Byte) : List Byte :=
  match signKey m (rf m Reg.PAR_ID 24 16) with
  | some p => Config.gmac p.key iv data
  | none => List.replicate 16 0

/-- Next FRAME_SEQ of a path. -/
def pathSeq (m : Pnm) (path : Bool) : Nat := if path then m.par.seqPb else m.par.seqBl

/-- R434, R435: one pair frame on one port; a path whose counter is exhausted sends nothing. -/
def pairFrame (path : Bool) (port typ frag : Nat) (more : Bool) (body : List Byte) (m : Pnm) : Pnm :=
  let seq := pathSeq m path
  if 2 ^ 48 - 1 ≤ seq then m
  else
    let tag := if path then some (BitVec.ofNat 3 (rf m Reg.PAR_PB 30 28), BitVec.ofNat 12 (rf m Reg.PAR_PB 27 16))
      else none
    let dst := leBytes 6 ((rd m Reg.PAR_HB_DMAC_LO).toNat + 2 ^ 32 * rf m Reg.PAR_HB_DMAC_HI 15 0)
    let vlan := if path then beBytes 2 0x8100 ++ beBytes 2 (rf m Reg.PAR_PB 30 28 * 8192 + rf m Reg.PAR_PB 27 16) else []
    let data := dst ++ leBytes 6 (portAddr m port).toNat ++ vlan ++ beBytes 2 0x88B5 ++
      pairHead m path typ frag more seq body.length ++ body
    let bytes := data ++ pairIcv m (pairIv (rb m Reg.PAR_STAT 3) path m.hif.epoch seq) data
    let m1 := { m with par := if path then { m.par with seqPb := seq + 1 } else { m.par with seqBl := seq + 1 } }
    let m2 := raiseIf (decide (seq + 1 = 2 ^ 48 - 1)) { src := 11, code := 0x7F, cls := 2, items := [5, b2n path] } m1
    originate port (txFrame (rf m Reg.PAR_PB 30 28) (max 64 (bytes.length + 4)) tag (.pair bytes)) m2

/-- The ports of a path; a PRP or HSR pair counts once, since it sends on both of its ports (R431). -/
def pathPorts (m : Pnm) (path : Bool) : List Nat :=
  if path then
    (List.range 10).filter fun p => (rf m Reg.PAR_PB 9 0).testBit p &&
      (pairMode m p == 0 || p % 2 == 0 || !(rf m Reg.PAR_PB 9 0).testBit (p - 1))
  else [11]

/-- A body of at most 1936 bytes on one path. -/
def pairPart (path : Bool) (typ frag : Nat) (more : Bool) (body : List Byte) (m : Pnm) : Pnm :=
  (pathPorts m path).foldl (fun x p => pairFrame path p typ frag more body x) m

/-- R434: the parts of a message, with FRAG_INDEX and FRAG_MORE; `fuel` bounds their number. -/
def pairParts (path : Bool) (typ : Nat) : Nat → Nat → List Byte → Pnm → Pnm
  | 0, _, _, m => m
  | fuel + 1, frag, body, m =>
    if body.length ≤ 1936 then pairPart path typ frag false body m
    else pairParts path typ fuel (frag + 1) (body.drop 1936) (pairPart path typ frag true (body.take 1936) m)

/-- A message on one path. -/
def pairSend (path : Bool) (typ : Nat) (body : List Byte) (m : Pnm) : Pnm :=
  pairParts path typ (body.length / 1936 + 1) 0 body m

/-- R441: the path of mirror traffic. -/
def mirrorPath (m : Pnm) : Bool := !pathUp m false && pathUp m true

/-- R441: COMMIT, FIRE_NOTICE and PUB_NOTICE go on both paths whenever both are up. -/
def pairSendBoth (typ : Nat) (body : List Byte) (m : Pnm) : Pnm :=
  let m1 := if pathUp m false || !pathUp m true then pairSend false typ body m else m
  if pathUp m true then pairSend true typ body m1 else m1

/-- The peer takes mirrored commands: it is standby, or syncing from the snapshot on (R437, R452). -/
def peerTakes (m : Pnm) : Bool :=
  decide (rf m Reg.PAR_PEER 2 0 = 3) ||
    (decide (rf m Reg.PAR_PEER 2 0 = 4) && (match m.par.tx with | some t => t.snap | none => false))

/-- R366, R441: work opcodes wait for the peer's acknowledgement. -/
def mirroring (m : Pnm) : Bool :=
  decide (pairState m = 2) && rb m Reg.PAR_CFG 0 && !rb m Reg.PAR_STAT 9 && peerTakes m

/-- An entry of a COMMIT message waits for the next one (R443). -/
def commitLater (e : List Byte) (m : Pnm) : Pnm :=
  if mirroring m then { m with par := { m.par with commits := m.par.commits ++ [e] } } else m

/-- R443: a COMMIT message with the entries that wait. -/
def commitSend (acceptNs : Nat) (m : Pnm) : Pnm :=
  let es := m.par.commits
  if es = [] then m
  else
    pairSendBoth 4 (beBytes 8 acceptNs ++ beBytes 2 es.length ++ beBytes 6 0 ++ es.flatMap id)
      { m with par := { m.par with commits := [], lastCommit := acceptNs } }

end Sys2Proof.Machine
end

