-- ==== Sys2Proof/Machine/Out.lean ====
section
/-! DEFINITION. OUT: publication, the subscribed image and control locks (chapter 09). -/

namespace Sys2Proof.Machine

/-! ## Tables (OUT tables 1, 3, 6) -/

/-- An all-zero entry, template chunk and curve. -/
def zero16 (_ : Nat) : List Word := List.replicate 16 0
def curveDflt (_ : Nat) : List Word := [0, 0]

/-- PCB entry, subscription entry, curve, template chunk. -/
def pcbEntry (m : Pnm) (i : Nat) : List Word := NMap.get zero16 m.out.pcb i
def gsubEntry (m : Pnm) (i : Nat) : List Word := NMap.get zero16 m.out.sub i
def curveOf (m : Pnm) (c : Nat) : List Word := NMap.get curveDflt m.out.curve c
def tmplChunk (m : Pnm) (i : Nat) : List Word := NMap.get zero16 m.out.tmpl i

/-- Fields of a PCB entry (OUT table 1). -/
def pEn (e : List Word) : Bool := fbit e 0 0
def pCurve (e : List Word) : Nat := fld e 0 11 8
def pMembers (e : List Word) : Nat := fld e 0 23 16 + 1
def pOwner (e : List Word) : Nat := fld e 1 24 16
def pBase (e : List Word) : Nat := fld e 2 15 0
def pLens (e : List Word) : List Nat := [fld e 4 7 0, fld e 4 15 8, fld e 4 23 16, fld e 4 31 24]

/-- The descriptor of member j of a PCB and of a subscription entry (R280). -/
def pDesc (m : Pnm) (e : List Word) (j : Nat) : Word := NMap.get (fun _ => 0) m.out.pubDesc (pBase e + j)
def sMembers (e : List Word) : Nat := fld e 0 15 8 + 1
def sDesc (m : Pnm) (e : List Word) (j : Nat) : Word := NMap.get (fun _ => 0) m.out.subDesc (fld e 11 16 0 + j)

/-- TYPE, WRITER and QMEMBER of a descriptor (R280). -/
def dType (d : Word) : Nat := bits d 3 0
def dWriter (d : Word) : Nat := bits d 5 4
def dQm (d : Word) : Nat := bits d 15 8

/-- R285: the curve can run. -/
def curveRuns (c : List Word) : Bool :=
  decide (0 < fld c 0 15 0 ∧ 16 ≤ fld c 0 23 16 ∧ 0 < fld c 1 15 0 ∧ 16 ≤ fld c 0 31 24)

/-- An OUT write was refused: CFG_REJECT, FIELD and INDEX. -/
def outErr (field index : Nat) (m : Pnm) : Pnm :=
  wf (cfgErr (sb m Reg.OUT_FLAGS 0) Reg.OUT_CFG_ERR field) Reg.OUT_CFG_ERR 24 8 index

/-- State of PCB i. -/
def getPub (m : Pnm) (i : Nat) : PubSt := NMap.get PubSt.init m.out.pub i
def putPub (i : Nat) (s : PubSt) (m : Pnm) : Pnm :=
  { m with out := { m.out with pub := NMap.set PubSt.init m.out.pub i s } }

/-- State of subscription i. -/
def getSub (m : Pnm) (i : Nat) : SubSt := NMap.get SubSt.init m.out.subst i
def putSub (i : Nat) (s : SubSt) (m : Pnm) : Pnm :=
  { m with out := { m.out with subst := NMap.set SubSt.init m.out.subst i s } }

/-! ## Member values (R280, R283, OUT table 2) -/

/-- The range of an integer member type. -/
def typeRange (t : Nat) : Int × Int :=
  if t = 1 then (0, 1) else if t = 2 then (-128, 127) else if t = 3 then (-32768, 32767)
  else if t = 4 then (-2147483648, 2147483647)
  else if t = 5 ∨ t = 12 then (-9223372036854775808, 9223372036854775807)
  else if t = 6 then (0, 255) else if t = 7 then (0, 65535) else if t = 10 then (0, 3) else if t = 11 then (0, 8191)
  else (0, 4294967295)

/-- R283: an integer saturated to a member type, with the quality bits this adds. -/
def satType (t : Nat) (v : Int) : Int × Nat :=
  let r := typeRange t
  let x := max r.1 (min r.2 v)
  (x, if x = v then 0 else qOverflow)

/-- A nonnegative rational rounded to a FLOAT32 pattern without sign, nearest with ties to even; beyond the largest finite
value it saturates there (R283, log entry 10). -/
def f32Abs (num den : Nat) : Nat × Bool :=
  if num = 0 then (0, false)
  else
    let e0 : Int := (Nat.log2 num : Int) - (Nat.log2 den : Int)
    let e := if (if 0 ≤ e0 then num < den * 2 ^ e0.toNat else num * 2 ^ (-e0).toNat < den) then e0 - 1 else e0
    let sc : Int := max e (-126) - 23
    let n := if sc < 0 then num * 2 ^ (-sc).toNat else num
    let d := if sc < 0 then den else den * 2 ^ sc.toNat
    let q := (roundHalfEven (n : Int) d).toNat
    let k := q + (sc + 149).toNat * 2 ^ 23
    let k' := if max e (-126) = -126 then q else k
    if 0x7F800000 ≤ k' then (0x7F7FFFFF, true) else (k', false)

/-- A binary64 pattern as a FLOAT32 pattern with the quality bits this adds (R283): a NaN gives 0. -/
def f32OfF64 (b : Nat) : Int × Nat :=
  let sgn := if b / 2 ^ 63 % 2 = 1 then 2 ^ 31 else 0
  match fDec b with
  | .nan => (0, qBad)
  | .inf _ => ((sgn + 0x7F800000 : Nat), 0)
  | .fin _ mant e =>
    let nd := fFrac mant e
    let r := f32Abs nd.1 nd.2
    ((sgn + r.1 : Nat), if r.2 then qOverflow else 0)

/-- R283: an LREAL as a value of a member type. -/
def lrealTo (t : Nat) (b : Nat) : Int × Nat :=
  if t = 9 then f32OfF64 b
  else if t = 1 then (b2n (!fEq b 0), 0)
  else if fIsNan b then (0, qBad)
  else match fToInt b with
    | some v => satType t v
    | none => (if b / 2 ^ 63 % 2 = 1 then (typeRange t).1 else (typeRange t).2, qOverflow)

/-- An integer as a value of a member type. -/
def intTo (t : Nat) (v : Int) : Int × Nat :=
  if t = 1 then (if v = 0 then 0 else 1, 0)
  else if t = 9 then
    let r := f32Abs v.natAbs 1
    ((r.1 + (if v < 0 then 2 ^ 31 else 0) : Nat), 0)
  else satType t v

/-- A value that a program releases, of a CYE type (4 LREAL) (R283). -/
def progTo (t ty : Nat) (v : Int) : Int × Nat := if ty = 4 then lrealTo t v.toNat else intTo t v

/-- A host item's 64-bit VALUE (log entry 10): an LREAL for FLOAT32, else a signed integer. -/
def hostTo (t : Nat) (v : DWord) : Int × Nat := if t = 9 then f32OfF64 v.toNat else intTo t (sx 64 v.toNat)

/-- R283: a gate's ACT_VALUE. -/
def gateTo (t v : Nat) : Int × Nat :=
  if t = 9 then (v, 0) else if t = 10 then (v % 4, 0)
  else if t = 2 ∨ t = 3 ∨ t = 4 ∨ t = 5 then intTo t (sx 32 v) else intTo t v

/-! ## Messages (R279, R284 to R288) -/

/-- R284: the TimeQuality octet: LeapSecondsKnown, ClockFailure, ClockNotSynchronized, TimeAccuracy. -/
def timeQuality (m : Pnm) : Nat :=
  let c := m.tim.cls
  let acc := if c = 6 then 20 else if c = 5 then 18 else if c = 4 then 16 else if c = 3 then 14 else if c = 2 then 10
    else if c = 1 then 7 else 31
  128 + 64 * b2n (rb m Reg.TIM_FLAGS 5) + 32 * b2n (decide (c = 0)) + acc

/-- TIM_UTC_OFS in seconds, signed. -/
def utcOfs (m : Pnm) : Int := sx 16 (rf m Reg.TIM_UTC_OFS 15 0)

/-- R279: the bytes of a PCB's template slot up to the end of goID. -/
def tmplBytes (m : Pnm) (i : Nat) (e : List Word) : List Byte :=
  ((List.range 10).flatMap fun k => bytesOf (tmplChunk m (10 * i + k))).take ((pLens e).foldl (· + ·) 0)

/-- PCP and VID of a template's tag, where it has one. -/
def tmplTag (b : List Byte) : Option (BitVec 3 × BitVec 12) :=
  if ofBe (bytesAt b 12 2) = 0x8100 then
    let w := ofBe (bytesAt b 14 2)
    some (BitVec.ofNat 3 (w / 8192), BitVec.ofNat 12 w)
  else none

/-- The ports of PORT_MASK; a PRP or HSR pair counts once. -/
def pubPorts (m : Pnm) (mask : Nat) : List Nat :=
  (List.range 11).filter fun p => mask.testBit p &&
    (p == 10 || pairMode m p == 0 || p % 2 == 0 || !mask.testBit (p - 1))

/-- R285: timeAllowedtoLive in whole milliseconds, rounded up. -/
def pubTal (c : List Word) (interval : Nat) : Nat := cdiv (interval * fld c 0 31 24) 16000

/-- R279: the source address: the pair's network address, or that of the lowest port. -/
def pubSrc (m : Pnm) (mask : Nat) : BitVec 48 :=
  if paired m then BitVec.ofNat 48 ((rd m Reg.PAR_NET_ADDR_LO).toNat + 2 ^ 32 * rf m Reg.PAR_NET_ADDR_HI 15 0)
  else portAddr m (((List.range 11).find? fun p => mask.testBit p).getD 0)

/-- The message of PCB i in its present state (R279, R284 to R286). -/
def pubMsg (m : Pnm) (i : Nat) (auth : List Byte) : GooseTx :=
  let e := pcbEntry m i
  let s := getPub m i
  { pcb := i, rgoose := fbit e 0 1, src := pubSrc m (fld e 1 10 0), head := tmplBytes m i e, lens := pLens e,
    ttlMs := pubTal (curveOf m (pCurve e)) s.interval,
    t := ((s.change : Int) - utcOfs m * (unitS : Int)) * 2 ^ 32 / (unitS : Int), tq := s.tq, stNum := s.stNum,
    sqNum := s.sqNum, sim := fbit e 0 2 || inMaint m, test := fbit e 0 3, confRev := wrd e 3,
    members := (List.range (pMembers e)).map fun j => (dType (pDesc m e j), (s.vals.getD j (0, 0)).1),
    spdu := s.spdu, auth := auth }

/-- The bytes of a message, without its authentication value. -/
def pubBytes (g : GooseTx) : List Byte :=
  Config.gooseBytes g.head [g.src.toNat, g.ttlMs, g.t, g.tq, g.stNum, g.sqNum, b2n g.sim, b2n g.test, g.confRev.toNat, g.spdu]
    g.members

/-- R287: the authentication value: none wanted, or the tag, or nothing where no position of the slot is usable. -/
def pubAuth (m : Pnm) (i : Nat) : Option (List Byte) :=
  let e := pcbEntry m i
  if fbit e 0 4 then
    (signKey m (fld e 5 8 0)).map fun k =>
      let d := pubBytes (pubMsg m i [])
      if fbit e 0 5 then Config.hmac256 k.key d else Config.gmac k.key (d.take 12) d
  else some []

/-- PAR table 3: the body of a PUB_NOTICE; MEMBERS is 0 for a retransmission. -/
def pubNotice (s : PubSt) (i : Nat) (all : Bool) : List Byte :=
  let n := if all then s.vals.length else 0
  beBytes 2 i ++ beBytes 2 n ++ beBytes 4 s.stNum ++ beBytes 4 s.sqNum ++ beBytes 4 s.spdu ++
  beBytes 8 (s.change / unitNs) ++ beBytes 8 0 ++
  (s.vals.take n).zipIdx.flatMap fun p =>
    beBytes 1 p.2 ++ beBytes 1 0 ++ beBytes 2 p.1.2 ++ beBytes 4 0 ++ beBytes 8 (ux 64 p.1.1)

/-- The module publishes now (R286, R288). -/
def mayPublish (m : Pnm) : Bool := wrOk m && (releases m || (inMaint m && rb m Reg.OUT_CTRL 1))

/-- Put a message into the queues of its ports. -/
def pubEnqueue (g : GooseTx) (mask : Nat) (m : Pnm) : Pnm :=
  let tag := tmplTag g.head
  let f := txFrame ((tag.map (·.1.toNat)).getD 0) (max 64 ((pubBytes g).length + g.auth.length + 4)) tag (.goose g)
  (pubPorts m mask).foldl (fun x p => originate p f x) m

/-- R286 to R288: PCB i sends its present state. -/
def pubSend (i : Nat) (m : Pnm) : Pnm :=
  let e := pcbEntry m i
  match pubAuth m i with
  | none =>
    let s := getPub m i
    raiseIf (!s.signBad) { src := 7, code := 0x62, cls := 2, items := [i, 1] }
      (putPub i { s with signBad := true } (sb m Reg.OUT_FLAGS 2))
  | some tag =>
    if mayPublish m then
      let s := getPub m i
      let s1 := { s with spdu := if fbit e 0 1 then (s.spdu + 1) % 2 ^ 32 else s.spdu, signBad := false }
      let m1 := putPub i s1 m
      let m2 := inc (pubEnqueue { pubMsg m1 i [] with auth := tag } (fld e 1 10 0) m1) Reg.OUT_PUB_SENT
      if pairState m = 2 then pairSendBoth 6 (pubNotice s1 i (decide (s.sqNum = 0))) m2 else m2
    else putPub i { getPub m i with signBad := false } m

/-- Raise stNum or sqNum: 4,294,967,295 is followed by 1 (R284). -/
def numUp (n : Nat) : Nat := if n = 2 ^ 32 - 1 then 1 else n + 1

/-- The module counts its state changes: it publishes, or it is in maintenance; a standby adopts the notices (R288). -/
def pubCounts (m : Pnm) : Bool := releases m || inMaint m

/-- R282, R284, R285: a state change of PCB i at an instant. -/
def stateChange (i at' : Nat) (m : Pnm) : Pnm :=
  if pubCounts m then
    let s := getPub m i
    let c := curveOf m (pCurve (pcbEntry m i))
    let iv := fld c 0 15 0
    pubSend i (putPub i
      { s with stNum := numUp s.stNum, sqNum := 0, change := at', tq := timeQuality m, interval := iv,
               nextTx := if curveRuns c then some (at' + iv * 1000 * unitNs) else none, merge := none, fresh := false } m)
  else m

/-- R283: messages of PCB i that wait for the state change in force take the merged values. -/
def refreshQueued (i : Nat) (m : Pnm) : Pnm :=
  let s := getPub m i
  let tag := (pubAuth m i).getD []
  let g := { pubMsg m i [] with auth := tag }
  let new := fun (f : TxFrame) => match f.body with
    | .goose h => if h.pcb = i ∧ h.stNum = s.stNum ∧ h.sqNum = 0 then { f with body := .goose g } else f
    | _ => f
  { m with mac := { m.mac with ports := m.mac.ports.map fun x => { x with queues := x.queues.map (·.map new) } } }

/-- R283: a program or host state change at an instant; at the instant of one before, the two are one. -/
def mergeChange (i at' : Nat) (m : Pnm) : Pnm :=
  if (getPub m i).merge = some at' then refreshQueued i m
  else
    let m1 := stateChange i at' m
    putPub i { getPub m1 i with merge := some at' } m1

/-- R283: one write of a member by a writer (0 program, 1 host, 2 gate, 3 alarm rule): the module, and whether a value or
quality changed. -/
def putMember (i j writer : Nat) (x : Nat → Int × Nat) (q : Nat) (m : Pnm) : Pnm × Bool :=
  let e := pcbEntry m i
  let s := getPub m i
  let d := pDesc m e j
  if s.on = false ∨ pMembers e ≤ j then (m, false)
  else if dWriter d ≠ writer then
    (raise { src := 7, code := 0x66, cls := 2, items := [i, j], fns := if pOwner e = 0 then [] else [pOwner e] }
      (sb m Reg.OUT_FLAGS 1), false)
  else
    let r := x (dType d)
    let q1 := qMix (q % 65536) r.2
    let old := s.vals.getD j (0, 0)
    let v1 := setAt s.vals j (r.1, q1)
    let k := dQm d
    let carries := decide (k ≠ j ∧ k < pMembers e) && decide (dType (pDesc m e k) = 11)
    let oq := s.vals.getD k (0, 0)
    let nq : Int := ((q1 % 8192 : Nat) : Int)
    let v2 := if carries then setAt v1 k (nq, oq.2) else v1
    (putPub i { s with vals := v2 } m, decide (old ≠ (r.1, q1)) || (carries && decide (oq.1 ≠ nq)))

/-- R282, R283: a program's releases to PCB i at an output instant. Each item is a member, a CYE type and a value. -/
def progPublish (i at' : Nat) (items : List (Nat × Nat × TV)) (m : Pnm) : Pnm :=
  let r := items.foldl (fun (a : Pnm × Bool) p =>
    let y := putMember i p.1 0 (fun t => progTo t p.2.1 p.2.2.v) p.2.2.q a.1
    (y.1, a.2 || y.2)) (m, false)
  if r.2 then mergeChange i at' r.1 else r.1

/-- R194, R282, R283: a gate action on PCB i at F. -/
def gatePublish (i at' value : Nat) (m : Pnm) : Pnm :=
  let e := pcbEntry m i
  let j := fld e 2 23 16
  let s := getPub m i
  if s.on && fbit e 2 24 then
    stateChange i at' (putMember i j 2 (fun t => gateTo t value) (s.vals.getD j (0, 0)).2 m).1
  else m

/-- R284: PCB i starts to publish. Member values start at zero (log entry 10). -/
def pubStart (i : Nat) (m : Pnm) : Pnm :=
  let e := pcbEntry m i
  stateChange i (nowU m) (putPub i
    { PubSt.init i with on := true, vals := List.replicate (pMembers e) (0, 0), held := (getPub m i).held } m)

/-- PCB i stops. -/
def pubStop (i : Nat) (m : Pnm) : Pnm := putPub i { getPub m i with on := false, nextTx := none, merge := none, fresh := false } m

/-- R285: the next retransmission of PCB i. -/
def retransmit (i : Nat) (m : Pnm) : Pnm :=
  let s := getPub m i
  if s.on && due s.nextTx (nowU m) then
    let c := curveOf m (pCurve (pcbEntry m i))
    let iv := min (s.interval * fld c 0 23 16 / 16) (fld c 1 15 0 * 1000)
    pubSend i (putPub i
      { s with sqNum := numUp s.sqNum, interval := iv, merge := none,
               nextTx := if curveRuns c then s.nextTx.map (· + iv * 1000 * unitNs) else none } m)
  else m

/-- R289: the first output instant after takeover changes the state of every enabled PCB. -/
def pubTakeover (at' : Nat) (m : Pnm) : Pnm :=
  (m.out.pub.filter fun p => p.2.on && p.2.fresh).foldl (fun x p => stateChange p.1 at' x) m

/-- R288: the standby adopts a publication notice. -/
def pubAdopt (b : List Byte) (m : Pnm) : Pnm :=
  let i := ofBe (bytesAt b 0 2)
  let n := ofBe (bytesAt b 2 2)
  let s := getPub m i
  let vals := (List.range n).foldl (fun (v : List (Int × Nat)) k =>
    let o := 32 + 16 * k
    setAt v (ofBe (bytesAt b o 1)) (sx 64 (ofBe (bytesAt b (o + 8) 8)), ofBe (bytesAt b (o + 2) 2))) s.vals
  putPub i { s with stNum := ofBe (bytesAt b 4 4), sqNum := ofBe (bytesAt b 8 4), spdu := ofBe (bytesAt b 12 4),
                    change := ofBe (bytesAt b 16 8) * unitNs, vals := vals } m

/-- R507: the alarm publication takes its values and changes state. -/
def pubAlarm (m : Pnm) : Pnm :=
  let i := rf m Reg.JNL_ALM 25 16
  let j := m.tel.jnl
  let node := fun n => (NMap.get nodeDflt m.tel.dia.nodes n).state
  let vals := [node 1, node 0] ++ j.almCount ++ j.almCode
  let m0 := { m with tel := { m.tel with jnl := { j with almDue := false } } }
  if j.almDue then
    if (getPub m i).on then
      stateChange i (nowU m) (vals.zipIdx.foldl (fun x p => (putMember i p.2 3 (fun t => intTo t (p.1 : Int)) 0 x).1) m0)
    else m0
  else m

/-! ## Entry checks (R281, R293) -/

/-- Bits of a PCB entry that hold fields. -/
def pcbMask : List Word :=
  [0x00FF0F3F, 0x01FF07FF, 0x01FFFFFF, 0xFFFFFFFF, 0xFFFFFFFF, 0x000001FF, 0, 0, 0, 0, 0, 0, 0, 0, 0, 0]

/-- Bits of a subscription entry that hold fields. -/
def gsubMask : List Word :=
  [0x00FFFF7F, 0x0FFF07FF, 0x00FFFFFF, 0xFFFFFFFF, 0xFFFFFFFF, 0xFFFFFFFF, 0xFFFFFFFF, 0xFFFFFFFF, 0xFFFFFFFF,
   0xFFFFFFFF, 0x0000FFFF, 0x0001FFFF, 0x000001FF, 0, 0, 0]

/-- R281: OUT_CFG_ERR.FIELD of the first failing check of an enabled PCB entry; 0 when none fails. -/
def pcbCheck (m : Pnm) (i : Nat) (e : List Word) : Nat :=
  let n := pMembers e
  let l := pLens e
  let ds := (List.range n).map (pDesc m e)
  let g := fld e 2 23 16
  if fld e 1 10 0 = 0 ∨ l.any (· = 0) then 1
  else if l.tail.any (129 < ·) then 2
  else if fbit e 1 11 then 3
  else if 32767 < pBase e + n - 1 then 4
  else if ds.any (fun d => dType d = 0) then 1
  else if ds.any (fun d => decide (14 ≤ dType d)) then 2
  else if 640 < l.foldl (· + ·) 0 then 5
  else if curveRuns (curveOf m (pCurve e)) = false then 6
  else if fbit e 2 24 ∧ (n ≤ g ∨ dWriter (ds.getD g 0) ≠ 2 ∨ dType (ds.getD g 0) = 12) then 7
  else if ds.any (fun d => dWriter d = 3) ∧ rf m Reg.JNL_ALM 25 16 ≠ i then 2
  else if fbit e 0 4 ∧ boundTo m (fld e 5 8 0) 2 = false then 8
  else 0

/-- The enabled subscription entries. -/
def enabledGsubs (m : Pnm) : List (Nat × List Word) := m.out.sub.filter fun p => fbit p.2 0 0

/-- The match key of a subscription entry (R294): ROUTE, APPID, gocbRef length, CRC and head. -/
def gsubKey (e : List Word) : Nat × Nat × Nat × Word × List Word :=
  (fld e 0 6 6, fld e 2 15 0, fld e 2 23 16, wrd e 3, (e.drop 4).take 4)

/-- R293: FIELD of the first failing check of an enabled subscription entry; 0 when none fails. -/
def gsubCheck (m : Pnm) (i : Nat) (e : List Word) : Nat :=
  let ds := (List.range (sMembers e)).map (sDesc m e)
  if fld e 1 10 0 = 0 ∨ fld e 2 23 16 = 0 then 1
  else if 129 < fld e 2 23 16 then 2
  else if (enabledGsubs m).any (fun p => decide (p.1 ≠ i ∧ gsubKey p.2 = gsubKey e)) then 9
  else if 131071 < fld e 11 16 0 + sMembers e - 1 then 4
  else if ds.any (fun d => dType d = 0) then 1
  else if ds.any (fun d => decide (14 ≤ dType d)) then 2
  else if fbit e 0 3 ∧ boundTo m (fld e 12 8 0) 2 = false then 8
  else 0

/-- The entry without EN. -/
def entryOff (e : List Word) : List Word := e.set 0 (setBit (wrd e 0) 0 false)

/-- The words of two entries agree outside a mask of word 0 and the listed words. -/
def sameBut (mask : Word) (free : List Nat) (a b : List Word) : Bool :=
  decide ((wrd a 0 &&& ~~~ mask) = (wrd b 0 &&& ~~~ mask)) &&
  (List.range 16).all fun k => decide (k = 0 ∨ wrd a k = wrd b k) || free.contains k

/-- R281: a PCB entry commits. Answers FIELD of a refusal, or 0. -/
def pcbCommit (i : Nat) (w : List Word) (m : Pnm) : Pnm × Nat :=
  let e := (w.zip pcbMask).map fun p => p.1 &&& p.2
  let old := pcbEntry m i
  let store := fun (x : List Word) (y : Pnm) => { y with out := { y.out with pcb := NMap.set zero16 y.out.pcb i x } }
  if pEn e = false then (let m1 := store e m; if pEn old then (pubStop i m1, 0) else (m1, 0))
  else if pEn old ∧ sameBut 0xF0C [] old e = false then (m, 10)
  else
    let c := pcbCheck m i (e.set 1 (wrd e 1 ||| (wrd w 1 &&& 0x800)))
    if c ≠ 0 then
      let m1 := store (entryOff e) m
      (if pEn old then pubStop i m1 else m1, c)
    else
      let m1 := store e m
      if pEn old then (m1, 0) else if rb m Reg.OUT_CTRL 0 then (pubStart i m1, 0) else (m1, 0)

/-- R293: a subscription entry commits. Counters stay until module reset. -/
def gsubCommit (i : Nat) (w : List Word) (m : Pnm) : Pnm × Nat :=
  let e := (w.zip gsubMask).map fun p => p.1 &&& p.2
  let old := gsubEntry m i
  let store := fun (x : List Word) (y : Pnm) => { y with out := { y.out with sub := NMap.set zero16 y.out.sub i x } }
  let s := getSub m i
  let off := { s with status := 0, deadline := none, simLatched := s.simLatched && fbit e 0 1 }
  if fbit e 0 0 = false then (putSub i off (store e m), 0)
  else if fbit old 0 0 ∧ sameBut 0x00FF0006 [12] old e = false then (m, 10)
  else
    let c := gsubCheck m i e
    if c ≠ 0 then (putSub i off (store (entryOff e) m), c)
    else if fbit old 0 0 then (putSub i { s with simLatched := s.simLatched && fbit e 0 1 } (store e m), 0)
    else (putSub i { SubSt.init i with status := 1, cnt := s.cnt, vals := List.replicate (sMembers e) 0 } (store e m), 0)

/-- A descriptor or template chunk belongs to an enabled entry (R281, R293). -/
def descUsed (m : Pnm) (sub : Bool) (k : Nat) : Bool :=
  if sub then (enabledGsubs m).any fun p => decide (fld p.2 11 16 0 ≤ k ∧ k < fld p.2 11 16 0 + sMembers p.2)
  else m.out.pcb.any fun p => pEn p.2 && decide (pBase p.2 ≤ k ∧ k < pBase p.2 + pMembers p.2)

/-- The entries of an OUT table (OUT table 7). -/
def outSize (t : Nat) : Nat :=
  if t = 0 ∨ t = 1 then 1024 else if t = 2 ∨ t = 3 then 4096 else if t = 4 then 32768 else if t = 5 then 131072
  else if t = 6 then 16 else if t = 7 then 256 else if t = 8 then 10240 else 0

/-- R303: one staged write commits. Answers FIELD of a refusal, or 0. -/
def outCommit (t i : Nat) (w : List Word) (m : Pnm) : Pnm × Nat :=
  if t = 0 then pcbCommit i w m
  else if t = 2 then gsubCommit i w m
  else if t = 4 then
    if descUsed m false i then (m, 10)
    else ({ m with out := { m.out with pubDesc := NMap.set (fun _ => 0) m.out.pubDesc i (wrd w 0 &&& 0xFF3F) } }, 0)
  else if t = 5 then
    if descUsed m true i then (m, 10)
    else ({ m with out := { m.out with subDesc := NMap.set (fun _ => 0) m.out.subDesc i (wrd w 0 &&& 0xFF3F) } }, 0)
  else if t = 6 then
    ({ m with out := { m.out with curve := NMap.set curveDflt m.out.curve i [wrd w 0, wrd w 1 &&& 0xFFFF] } }, 0)
  else if pEn (pcbEntry m (i / 10)) then (m, 10)
  else ({ m with out := { m.out with tmpl := NMap.set zero16 m.out.tmpl i w } }, 0)

/-- R303: the staged writes commit. -/
def outCommitAll (m : Pnm) : Pnm :=
  let m1 := m.out.pend.foldl (fun x p =>
    let r := outCommit p.1 p.2.1 p.2.2 x
    if r.2 = 0 then r.1 else outErr r.2 p.2.1 (sb r.1 Reg.OUT_TBL_STAT 1)) m
  cb { m1 with out := { m1.out with pend := [] } } Reg.OUT_TBL_STAT 0

/-- A write of OUT_CTRL: publication and subscription start or stop. -/
def outCtrlWrite (data : Word) (m : Pnm) : Pnm :=
  let m1 := wr m Reg.OUT_CTRL (data &&& 3)
  let ens := m.out.pcb.filter fun p => pEn p.2
  if bit data 0 && !rb m Reg.OUT_CTRL 0 then ens.foldl (fun x p => pubStart p.1 x) m1
  else if !bit data 0 && rb m Reg.OUT_CTRL 0 then ens.foldl (fun x p => pubStop p.1 x) m1
  else m1

/-! ## The subscribed image (R294 to R297) -/

/-- The entry that a frame matches. -/
def gsubMatch (m : Pnm) (route : Bool) (f : GooseFrame) : Option (Nat × List Word) :=
  (enabledGsubs m).find? fun p =>
    decide (fbit p.2 0 6 = route ∧ fld p.2 2 15 0 = f.appid.toNat ∧ fld p.2 2 23 16 = f.gocbRef.length ∧
      (wrd p.2 3).toNat = crc32c f.gocbRef ∧ (p.2.drop 4).take 4 = wordsOf 4 (bytesAt f.gocbRef 0 16))

/-- Count on subscription i: OK, RESTART, DUP, OOO, RETX_DIFF, WRONG_PATH, AUTH_FAIL, CONFREV, FORMAT, SIM_DROP,
TEST_DROP (OUT table 8). -/
def gcount (i c : Nat) (m : Pnm) : Pnm :=
  let s := getSub m i
  putSub i { s with cnt := modAt s.cnt c (· + 1) } m

/-- The value of a received member as the image holds it (OUT table 2). -/
def heldValue (t : Nat) (v : DWord) : Int :=
  if t = 1 then (if v = 0 then 0 else 1)
  else if t = 2 then sx 8 v.toNat else if t = 3 then sx 16 v.toNat else if t = 4 then sx 32 v.toNat
  else if t = 5 ∨ t = 12 then sx 64 v.toNat else (v.toNat % 2 ^ 32 : Nat)

/-- R295: what a message does: replaces the values, refreshes supervision, and its counter. -/
def seqRule (s : SubSt) (f : GooseFrame) : Bool × Bool × Nat :=
  let d := (f.stNum - s.stNum).toNat
  let dq := (f.sqNum - s.sqNum).toNat
  if s.first then (true, true, 0)
  else if f.stNum = 1 ∧ f.sqNum = 0 ∧ d ≠ 0 then (true, true, 1)
  else if 1 ≤ d ∧ d ≤ 2 ^ 31 then (true, true, 0)
  else if d = 0 ∧ 1 ≤ dq ∧ dq ≤ 2 ^ 31 then (true, true, 0)
  else if d = 0 ∧ dq = 0 then (false, true, 2)
  else (false, false, 3)

/-- R295, R296: an accepted message; `arr` is its arrival instant in exact units. -/
def gooseAccept (i : Nat) (e : List Word) (f : GooseFrame) (arr : Nat) (m : Pnm) : Pnm :=
  let s := getSub m i
  let r := seqRule s f
  let vals := f.members.map fun p => heldValue p.1 p.2
  let m1 := gcount i r.2.2 m
  let sameEvent := !s.first && decide (f.stNum = s.stNum) && decide (f.sqNum ≠ s.sqNum) && r.1
  let m2 := if sameEvent && decide (vals ≠ s.vals) then gcount i 4 m1 else m1
  let s2 := getSub m2 i
  let s3 := if r.1 then { s2 with vals := vals, test := f.test, stNum := f.stNum, sqNum := f.sqNum, first := false } else s2
  if r.2.1 then
    raiseIf (decide (s.status = 3)) { src := 7, code := 0x60, cls := 2, items := [i, 0] }
      (putSub i { s3 with status := 2, deadline := some (arr + (f.ttlMs.toNat + fld e 0 23 16) * 1000000 * unitNs) } m2)
  else putSub i s3 m2

/-- R294: a GOOSE or R-GOOSE frame at port p. Answers the entry that accepted it. -/
def gooseRx (p : Nat) (route : Bool) (fr : Frame) (f : GooseFrame) (arr : Nat) (m : Pnm) : Pnm × Option Nat :=
  if rb m Reg.OUT_CTRL 0 = false then (m, none)
  else match gsubMatch m route f with
  | none => (inc m Reg.OUT_SUB_UNMATCHED, none)
  | some (i, e) =>
    let s := getSub m i
    let vidBad := fbit e 0 4 && decide (fr.tag.map (·.2.toNat) ≠ some (fld e 1 27 16))
    let dstBad := fbit e 0 5 && decide (fr.dst.toNat ≠ (wrd e 9).toNat + 2 ^ 32 * fld e 10 15 0)
    let ds := (List.range (sMembers e)).map fun j => dType (sDesc m e j)
    if (fld e 1 10 0).testBit p = false ∨ vidBad ∨ dstBad then (gcount i 5 m, none)
    else if fbit e 0 3 ∧ authOk m (fld e 12 8 0) f.auth = false then
      (raiseIf (!s.auBad) { src := 7, code := 0x62, cls := 2, items := [i, 0] }
        (gcount i 6 (putSub i { s with auBad := true } m)), none)
    else if f.confRev ≠ wrd e 8 then
      (raiseIf (!s.crBad) { src := 7, code := 0x61, cls := 2, items := [i] }
        (gcount i 7 (putSub i { s with crBad := true } m)), none)
    else if f.ndsCom ∨ f.ttlMs = 0 ∨ f.members.map (·.1) ≠ ds then (gcount i 8 m, none)
    else if (if fbit e 0 1 then s.simLatched && !f.sim else f.sim) then (gcount i 9 m, none)
    else
      let latch := fbit e 0 1 && f.sim && !s.simLatched
      let m1 := raiseIf latch { src := 7, code := 0x63, cls := 2, items := [i] }
        (putSub i { s with simLatched := s.simLatched || latch } m)
      if f.test ∧ fbit e 0 2 = false then (gcount i 10 m1, none)
      else (gooseAccept i e f arr (putSub i { getSub m1 i with auBad := false, crBad := false } m1), some i)

/-- R296: the supervision time of subscription i ends. -/
def subExpiry (i : Nat) (m : Pnm) : Pnm :=
  let s := getSub m i
  if s.status = 2 ∧ due s.deadline (nowU m) then
    raise { src := 7, code := 0x60, cls := 2, items := [i, 1] }
      (sb (putSub i { s with status := 3, deadline := none } m) Reg.OUT_FLAGS 3)
  else m

/-- R231: the subscription counts as valid. -/
def subValid (m : Pnm) (i : Nat) : Bool := decide ((getSub m i).status = 2)

/-- R297: the image of member j of subscription i with its quality. -/
def subImage (m : Pnm) (i j : Nat) : TV :=
  let e := gsubEntry m i
  let s := getSub m i
  let k := dQm (sDesc m e j)
  let q := if k ≠ j ∧ k < sMembers e ∧ dType (sDesc m e k) = 11 then ((s.vals.getD k 0) % 8192).toNat else 0
  { v := s.vals.getD j 0, q := if s.test then Nat.lor q 2048 else q }

/-! ## Host publication (R290 to R292) -/

/-- A publication takes effect at an instant: merge, event, completion, and the lock that carried it. -/
def pubEffect (i at' : Nat) (h : HeldPub) (m : Pnm) : Pnm × Nat :=
  let r := h.items.foldl (fun (a : Pnm × Bool) (p : PubItem) =>
    let y := putMember i p.member.toNat 1 (fun t => hostTo t p.value) p.quality.toNat a.1
    (y.1, a.2 || y.2)) (m, false)
  let m1 := if r.2 then mergeChange i at' r.1 else r.1
  let own := pOwner (pcbEntry m i)
  (raiseIf h.late { src := 7, code := 0x65, cls := 2, items := [i], fns := if own = 0 then [] else [own] } m1,
   if r.2 then (getPub m1 i).stNum else 0)

/-- R353, R290, R291: a publication command of function f with its target instant in ns (0 none); the lock that embeds it,
if one does. An answer completes the command; without one it is held. -/
def publish (ref : CmdRef) (lock : Option Nat) (f count pcb target : Nat) (lateOk : Bool) (items : List PubItem) (m : Pnm) :
    Pnm × Option Ans :=
  let e := pcbEntry m pcb
  let now := nowU m
  if count = 0 then (m, some (ans 0x01))
  else if 256 < count ∨ items.any (fun p => decide (pMembers e ≤ p.member.toNat ∨ dWriter (pDesc m e p.member.toNat) ≠ 1)) then
    (m, some (ans 0x14))
  else if now + 10 * unitS < target * unitNs then (m, some (ans 0x14))
  else if pEn e = false ∨ pOwner e ≠ f then (m, some (ans 0x16))
  else if target ≠ 0 ∧ target * unitNs ≤ now ∧ lateOk = false then (m, some (ans 0x18))
  else if now < target * unitNs then
    let s := getPub m pcb
    if 8 ≤ s.held.length then (m, some (ans 0x19))
    else
      let h : HeldPub := { ref := ref, lock := lock, items := items, target := target * unitNs, late := false }
      (putPub pcb { s with held := s.held ++ [h] } m, none)
  else
    let late := decide (target ≠ 0)
    let r := pubEffect pcb now { ref := ref, lock := lock, items := items, target := now, late := late } m
    (r.1, some { status := 0, r0 := loW r.2, late := late })

/-! ## Control locks (R298 to R302) -/

/-- Lock k. -/
def getLock (m : Pnm) (k : Nat) : Lock := NMap.get Lock.init m.out.locks k
def putLock (k : Nat) (l : Lock) (m : Pnm) : Pnm :=
  { m with out := { m.out with locks := NMap.set Lock.init m.out.locks k l } }

/-- The lock of an object. -/
def lockOf (m : Pnm) (obj : Nat) : Option Nat :=
  (m.out.locks.find? fun p => decide (p.2.state ≠ 0 ∧ p.2.obj = obj)).map (·.1)

/-- VFS table 2: the lock share of function f and its use. -/
def lockShare (m : Pnm) (f : Nat) : Nat := rf m (Reg.shr f 1) 24 16
def lockUse (m : Pnm) (f : Nat) : Nat := (m.out.locks.filter fun p => decide (p.2.state ≠ 0 ∧ p.2.owner = f)).length

/-- The lowest FREE lock. -/
def freeLock (m : Pnm) : Option Nat := (List.range 256).find? fun k => decide ((getLock m k).state = 0)

/-- R298: the lease is outside 10 ms to 600,000 ms. -/
def badLease (ms : Nat) : Bool := decide (ms < 10 ∨ 600000 < ms)

/-- Restart the lease of a lock. -/
def Lock.lease (l : Lock) (now : Nat) : Lock := { l with leaseEnd := now + l.leaseMs * 1000000 }

/-- OUT table 4: SELECT. -/
def lockSelect (accept f obj ms : Nat) (keep : Bool) (m : Pnm) : Pnm × Option Ans :=
  if badLease ms then (m, some (ans 0x14))
  else match lockOf m obj with
  | some k =>
    let l := getLock m k
    if l.owner = f ∧ l.state = 1 then
      (putLock k ({ l with keep := keep, leaseMs := ms }.lease accept) m, some (ansR 0 k 0))
    else (m, some (ans 0x1B))
  | none =>
    match freeLock m with
    | none => (m, some (ans 0x17))
    | some k =>
      if lockShare m f ≤ lockUse m f then (m, some (ans 0x17))
      else
        let l : Lock := { state := 1, keep := keep, owner := f, obj := obj, pairId := rf m Reg.PAR_ID 15 0, leaseMs := ms,
                          leaseEnd := accept + ms * 1000000 }
        (putLock k l m, some (ansR 0 k 0))

/-- OUT table 4: RENEW. -/
def lockRenew (accept f obj ms : Nat) (m : Pnm) : Pnm × Option Ans :=
  if badLease ms then (m, some (ans 0x14))
  else match lockOf m obj with
  | some k =>
    let l := getLock m k
    if l.owner = f ∧ l.state = 1 then (putLock k ({ l with leaseMs := ms }.lease accept) m, some (ansR 0 k 0))
    else (m, some (ans 0x1C))
  | none => (m, some (ans 0x1C))

/-- Discard the held publication that a lock carries (R298, R301). -/
def dropLockPub (k : Nat) (m : Pnm) : Pnm :=
  m.out.pub.foldl (fun x p =>
    let mine := p.2.held.filter fun h => decide (h.lock = some k)
    if mine.isEmpty then x
    else mine.foldl (fun y h => complete h.ref (ans 0x1A) y)
      (putPub p.1 { getPub x p.1 with held := p.2.held.filter fun h => decide (h.lock ≠ some k) } x)) m

/-- R299: the embedded command of lock k has taken effect. -/
def lockDone (k : Nat) (m : Pnm) : Pnm :=
  let l := getLock m k
  if l.state = 2 then putLock k (if l.keep then { l with state := 1 }.lease (nowNs m) else Lock.init k) m else m

/-- R299: the embedded command of lock k was refused. -/
def lockBack (k : Nat) (m : Pnm) : Pnm :=
  let l := getLock m k
  if l.state = 2 then putLock k { l with state := 1 } m else m

/-- PAR table 5: a COMMIT entry of 32 bytes. -/
def commitEntry (kind status fn seq index r0 r1 instant reason : Nat) : List Byte :=
  beBytes 1 kind ++ beBytes 1 status ++ beBytes 2 fn ++ beBytes 4 seq ++ beBytes 2 index ++ beBytes 2 0 ++
  beBytes 4 r0 ++ beBytes 4 r1 ++ beBytes 8 instant ++ beBytes 1 reason ++ beBytes 3 0

/-- Publish a held command whose target has come, in order of target and then acceptance (R291, R292). -/
def pubTarget (i : Nat) (m : Pnm) : Pnm :=
  let s := getPub m i
  let ready := sortBy (fun a b => decide (a.target ≤ b.target)) (s.held.filter fun h => decide (h.target ≤ nowU m))
  let m0 := putPub i { s with held := s.held.filter fun h => decide (nowU m < h.target) } m
  ready.foldl (fun x h =>
    let r := pubEffect i h.target h x
    let x1 := complete h.ref { status := 0, r0 := loW r.2 } r.1
    match h.lock with
    | some k => lockDone k x1
    | none => x1) m0

/-- R292: the held publications of a function whose owner is gone. -/
def pubOwnerGone (f : Nat) (m : Pnm) : Pnm :=
  m.out.pub.foldl (fun x p =>
    let mine := p.2.held.filter fun h => decide (h.ref.fn = f)
    if mine.isEmpty then x
    else mine.foldl (fun y h => complete h.ref (ans 0x1A) y)
      (putPub p.1 { getPub x p.1 with held := p.2.held.filter fun h => decide (h.ref.fn ≠ f) } x)) m

/-! ## The window (R303) -/

/-- OUT table 8: the words of a read-only entry, or of an entry. -/
def outWords (m : Pnm) (t i : Nat) : List Word :=
  if t = 0 then pcbEntry m i
  else if t = 1 then
    let s := getPub m i
    [loW s.stNum, loW s.sqNum, loW (s.change / unitNs), hiW (s.change / unitNs), loW (s.nextTx.getD 0 / unitNs),
     hiW (s.nextTx.getD 0 / unitNs), loW s.held.length]
  else if t = 2 then gsubEntry m i
  else if t = 3 then
    let s := getSub m i
    loW (s.status + 4 * b2n s.simLatched) :: s.stNum :: s.sqNum :: s.cnt
  else if t = 4 then [NMap.get (fun _ => 0) m.out.pubDesc i]
  else if t = 5 then [NMap.get (fun _ => 0) m.out.subDesc i]
  else if t = 6 then curveOf m i
  else if t = 7 then
    let l := getLock m i
    [loW (l.state + 4 * b2n l.keep + 65536 * l.owner), loW l.obj, loW l.pairId, loW l.leaseEnd, hiW l.leaseEnd]
  else tmplChunk m i

/-- The data words of the window, 16. -/
def outData (m : Pnm) : List Word := (List.range 16).map fun k => rd m (Reg.OUT_TBL_DATA + 4 * k)

/-- A GO with WRITE 0; a reserved table or an entry beyond its table is refused. -/
def outTblRead (cmd : Word) (m : Pnm) : Pnm :=
  let m1 := storeCmd Reg.OUT_TBL_CMD 0x003FFFFF cmd m
  let t := bits cmd 20 17
  if outSize t ≤ bits cmd 16 0 then sb m1 Reg.OUT_TBL_STAT 1
  else wrs m1 Reg.OUT_TBL_DATA ((outWords m t (bits cmd 16 0) ++ List.replicate 16 0).take 16)

/-- A GO with WRITE 1: staged for the next plane tick, or committed at once without a grid (R577). -/
def outTblWrite (cmd : Word) (m : Pnm) : Pnm :=
  let m1 := storeCmd Reg.OUT_TBL_CMD 0x003FFFFF cmd m
  let t := bits cmd 20 17
  let i := bits cmd 16 0
  if t = 1 ∨ t = 3 ∨ t = 7 then outErr 11 i (sb m1 Reg.OUT_TBL_STAT 1)
  else if outSize t ≤ i then sb m1 Reg.OUT_TBL_STAT 1
  else
    let m2 := sb { m1 with out := { m1.out with pend := m1.out.pend ++ [(t, i, outData m)] } } Reg.OUT_TBL_STAT 0
    if m.tim.grid then m2 else outCommitAll m2

/-- OUT_STAT (OUT table 7). -/
def outStatWord (m : Pnm) : Word :=
  loW ((m.out.pcb.filter fun p => pEn p.2).length +
    2048 * (m.out.subst.filter fun p => decide (p.2.status = 2)).length +
    2 ^ 24 * min 255 (m.out.locks.filter fun p => decide (p.2.state ≠ 0)).length)

end Sys2Proof.Machine
end

