-- ==== Sys2Proof/Machine/Sio.lean ====
section
/-! DEFINITION. SIO: inputs, timed outputs, two-channel safe outputs, built-in evaluations and test pulses (chapter 10). -/

namespace Sys2Proof.Machine

/-! ## Tables (SIO table 9) -/

/-- An all-zero entry of the SIO window. -/
def sioDflt (_ : Nat) : List Word := [0, 0, 0, 0]

/-- Entry i of table t. -/
def sioEntry (m : Pnm) (t i : Nat) : List Word := NMap.get sioDflt m.sio.tbl (32 * t + i)

/-- Entries of each configuration table. -/
def sioSize (t : Nat) : Nat := if t = 0 ∨ t = 4 ∨ t = 5 then 32 else if t = 1 ∨ t = 6 then 16 else 8

/-- Bits that hold fields in the words of each table. -/
def sioMask (t : Nat) : List Word :=
  if t = 0 then [0x3FFF003F, 0x3FF, 0, 0] else if t = 1 then [0x1F, 0, 0, 0] else if t = 2 then [0x1F7F, 0xFFFF, 0, 0]
  else if t = 3 then [0x00FFFF0F, 0x1F1F1F1F, 0xFFFFFFFF, 0x1FFFF] else [0x0FFFFF07, 0xFF, 0, 0]

/-- An SIO write was refused: CFG_REJECT, FIELD, INDEX and TABLE. -/
def sioErr (field index table : Nat) (m : Pnm) : Pnm :=
  wf (wf (cfgErr (sb m Reg.SIO_FLAGS 0) Reg.SIO_CFG_ERR field) Reg.SIO_CFG_ERR 15 8 index) Reg.SIO_CFG_ERR 18 16 table

/-- The module's safety I/O runs (SIO_STAT.RUNNING). -/
def sioRuns (m : Pnm) : Bool := wrOk m && rb m Reg.SIO_STAT 0

/-- Inputs that are FAULT. -/
def inFault (m : Pnm) : Nat := (rd m Reg.SIO_IN_FAULT).toNat

/-- The filtered states of a channel, with FAULT inputs 0 (R310). -/
def effIn (m : Pnm) (c : Chan) : Nat := Nat.land c.filt (Nat.xor (2 ^ 32 - 1) (inFault m))

/-- Clear and set bit i of a mask. -/
def bset (n i : Nat) (b : Bool) : Nat := if b then Nat.lor n (2 ^ i) else if n.testBit i then n - 2 ^ i else n

/-! ## Outputs (R305, R313, R316, R327, R332) -/

/-- The state of a pair's switches without a test: closed or open, in one channel. -/
def pairTarget (m : Pnm) (c : Chan) (p : Nat) : Bool :=
  let e := sioEntry m 2 p
  let x := m.sio.pairs.getD p PairSt.init
  let ett := fbit e 0 1
  let d := c.dems.getD p DemSt.init
  let dem := if m.sio.takeover = 1 then d.src % 2 == 1 || d.latched else d.on
  if sioRuns m = false ∨ fbit e 0 0 = false ∨ x.lockout ∨ inMaint m then false
  else if standby m ∨ m.sio.takeover = 2 then (if fbit e 0 3 then !ett else false)
  else if ett then dem else !dem

/-- The state of a switch with a test in progress (R327): the tested switch moves alone. -/
def switchOf (m : Pnm) (b : Bool) (p : Nat) : Bool :=
  let c := if b then m.sio.b else m.sio.a
  match (m.sio.pairs.getD p PairSt.init).test with
  | some t => if t.ch = b2n b then !pairTarget m c p else pairTarget m c p
  | none => pairTarget m c p

/-- The pair is energised apart from test pulses. -/
def energised (m : Pnm) (p : Nat) : Bool := pairTarget m m.sio.a p && pairTarget m m.sio.b p

/-- The mask of a channel's closed switches. -/
def switches (m : Pnm) (b : Bool) : Nat := (List.range 8).foldl (fun a p => bset a p (switchOf m b p)) 0

/-- Edges of pins whose level changes. -/
def pinEdges (mk : Nat → Pin) (n old new ns frac : Nat) : List Emit :=
  (List.range n).filterMap fun i =>
    if old.testBit i = new.testBit i then none else some (.pin (mk i) (new.testBit i) ns frac)

/-- Store timed output t and pair p. -/
def putTout (t : Nat) (x : ToutSt) (m : Pnm) : Pnm := { m with sio := { m.sio with touts := setAt m.sio.touts t x } }
def putPair (p : Nat) (x : PairSt) (m : Pnm) : Pnm := { m with sio := { m.sio with pairs := setAt m.sio.pairs p x } }

/-- An eighth consecutive deferral raises event 0x6C (R329): output or pair, channel. -/
def deferEvent (n i ch : Nat) (m : Pnm) : Pnm :=
  if n % 8 = 0 then
    raise { src := 8, code := 0x6C, cls := 2, items := [i, ch] } (sb m Reg.SIO_FLAGS 4)
  else m

/-- R329: the test in progress on pair p ends and counts as a deferral. -/
def pairDefer (p : Nat) (m : Pnm) : Pnm :=
  let x := m.sio.pairs.getD p PairSt.init
  match x.test with
  | none => m
  | some t =>
    let n := x.defers.getD t.ch 0 + 1
    let y : PairSt := { x with test := none, defers := setAt x.defers t.ch n,
                               retry := setAt x.retry t.ch (some (m.tim.edge + 100 * edgesMs)) }
    deferEvent n p t.ch (putPair p y m)

/-- R329: the test in progress on timed output t ends, or one is not started, and counts as a deferral. -/
def toutDefer (t : Nat) (m : Pnm) : Pnm :=
  let x := m.sio.touts.getD t ToutSt.init
  let n := x.defers + 1
  deferEvent n t 2 (putTout t { x with test := none, defers := n, retry := some (m.tim.edge + 100 * edgesMs) } m)

/-- The level that the sources and the role require of timed output t (R313, R332). -/
def toutLevel (m : Pnm) (t : Nat) : Bool :=
  let e := sioEntry m 1 t
  let x := m.sio.touts.getD t ToutSt.init
  if sioRuns m = false ∨ fbit e 0 0 = false ∨ x.fault ∨ x.wait ∨ m.sio.cut ∨ inMaint m then false
  else if standby m ∨ m.sio.takeover = 2 then fbit e 0 1
  else if rb m Reg.GTE_TOUT_CLAIM t then m.gte.level.testBit t else x.cye

/-- Drive the timed outputs as their sources require; a commanded edge ends a test (R329). -/
def applyTouts (ns frac : Nat) (m : Pnm) : Pnm :=
  (List.range 16).foldl (fun y t =>
    let x := y.sio.touts.getD t ToutSt.init
    let l := toutLevel y t
    if l = x.level then y
    else
      let y1 := if x.test.isSome then toutDefer t y else y
      let x1 := y1.sio.touts.getD t ToutSt.init
      emit (putTout t { x1 with level := l, readback := l } y1)
        [.pin (.tout t) l ns frac]) m

/-- A feedback input differs from its expected state (R321). -/
def fbDiffers (m : Pnm) (i : Nat) : Bool :=
  let e := sioEntry m 0 i
  let p := fld e 0 4 2
  fbit e 0 0 && fbit e 0 1 && fbit (sioEntry m 2 p) 0 0 &&
    ((effIn m m.sio.a).testBit i != (if fbit e 0 5 then energised m p else !energised m p))

/-- R321: since when each feedback input differs; a check that agrees again is good. -/
def fbUpdate (m : Pnm) : Pnm :=
  let since := (List.range 32).map fun i =>
    if fbDiffers m i then some ((m.sio.fbSince.getD i none).getD m.tim.edge) else none
  let bad := (List.range 32).foldl (fun a i => bset a i (m.sio.fbBad.testBit i && fbDiffers m i)) 0
  { m with sio := { m.sio with fbSince := since, fbBad := bad } }

/-- Drive the switches of both channels; each change of a pair's energised state is dated. -/
def applyPairs (m : Pnm) : Pnm :=
  let a := switches m false
  let b := switches m true
  let was := Nat.land m.sio.a.sw m.sio.b.sw
  let now := Nat.land a b
  let ps := m.sio.pairs.zipIdx.map fun p =>
    if was.testBit p.2 = now.testBit p.2 ∨ p.1.test.isSome then p.1 else { p.1 with last := nowNs m }
  let es := pinEdges .safeA 8 m.sio.a.sw a (nowNs m) (nowFrac m) ++ pinEdges .safeB 8 m.sio.b.sw b (nowNs m) (nowFrac m)
  fbUpdate (emit { m with sio := { m.sio with a := { m.sio.a with sw := a }, b := { m.sio.b with sw := b }, pairs := ps } } es)

/-- Drive every output. -/
def sioApply (m : Pnm) : Pnm := applyPairs (applyTouts (nowNs m) (nowFrac m) m)

/-! ## Demands (R316 to R319) -/

/-- The pairs that a channel's GOOSE results demand (R326). -/
def gooseMask (m : Pnm) (c : Chan) : Nat :=
  (List.range 32).foldl (fun a k =>
    if fbit (sioEntry m 4 k) 0 0 && c.goose.testBit k then Nat.lor a (fld (sioEntry m 4 k) 1 7 0) else a) 0

/-- The pairs that a channel's evaluations demand (R323). -/
def evalMask (m : Pnm) (c : Chan) : Nat :=
  (List.range 8).foldl (fun a k =>
    let v := c.evals.getD k EvSt.init
    let e := sioEntry m 3 k
    let a1 := if v.dem then Nat.lor a (fld e 0 15 8) else a
    if v.alarm then Nat.lor a1 (fld e 0 23 16) else a1) 0

/-- R316, R317: one pair's demand in one channel, from its sources. -/
def demStep (e : List Word) (now src : Nat) (d : DemSt) : DemSt :=
  let latched := d.latched || (decide (src ≠ 0) && fbit e 0 2)
  let full := src + 8 * b2n latched
  if full ≠ 0 then { src := full, on := true, since := if d.on then d.since else now, latched := latched }
  else if d.on ∧ now < d.since + fld e 1 15 0 * edgesMs then { d with src := 0, latched := latched }
  else { d with src := 0, on := false, latched := latched }

/-- A channel's demands of every enabled pair; a pair that is not enabled has none. -/
def chanDems (m : Pnm) (c : Chan) : Chan :=
  let g := gooseMask m c
  let v := evalMask m c
  { c with dems := c.dems.zipIdx.map fun p =>
      let e := sioEntry m 2 p.2
      if fbit e 0 0 then
        demStep e m.tim.edge (b2n (c.cye.testBit p.2) + 2 * b2n (g.testBit p.2) + 4 * b2n (v.testBit p.2)) p.1
      else DemSt.init }

/-- Event 0x68 for each pair whose demand changed in channel A; a test in progress on it ends (R318, R329). -/
def demEvents (old : List DemSt) (m : Pnm) : Pnm :=
  (List.range 8).foldl (fun x p =>
    let o := old.getD p DemSt.init
    let n := x.sio.a.dems.getD p DemSt.init
    if o.on = n.on then x
    else raise { src := 8, code := 0x68, cls := 0, items := [p, b2n n.on, n.src] } (pairDefer p x)) m

/-- Re-evaluate the demands of channel A (false) or both channels, and drive the switches. -/
def demands (both : Bool) (m : Pnm) : Pnm :=
  if sioRuns m then
    let old := m.sio.a.dems
    let m1 := { m with sio := { m.sio with a := chanDems m m.sio.a, b := if both then chanDems m m.sio.b else m.sio.b } }
    applyPairs (demEvents old m1)
  else m

/-- Re-evaluate the demands of channel B. -/
def demandsB (m : Pnm) : Pnm :=
  if sioRuns m then applyPairs { m with sio := { m.sio with b := chanDems m m.sio.b } } else m

/-- A message from channel A to channel B (R308). -/
def toChB (x : XMsg) (m : Pnm) : Pnm := { m with sio := { m.sio with toB := m.sio.toB ++ [x] } }

/-- R316, R319: a cycle-engine release to pair p: channel A acts at once and tells channel B. -/
def pairRelease (p : Nat) (v : TV) (m : Pnm) : Pnm :=
  let dem := decide (v.v ≠ 0) || (decide (v.q % 4 = 1) && !fbit (sioEntry m 2 p) 0 4)
  let c := bset m.sio.a.cye p dem
  demands false (toChB (.demand c) { m with sio := { m.sio with a := { m.sio.a with cye := c } } })

/-- R235, R313: a cycle-engine release to timed output t; a level that changes ends the wait after a reset (R314). -/
def toutRelease (t : Nat) (on : Bool) (ns frac : Nat) (m : Pnm) : Pnm :=
  let x := m.sio.touts.getD t ToutSt.init
  applyTouts ns frac (putTout t { x with cye := on, wait := x.wait && (decide (x.cye = on) || rb m Reg.GTE_TOUT_CLAIM t) } m)

/-- R193: a gate drives timed output t, where the output is claimed. -/
def toutByGate (t : Nat) (on : Bool) (ns frac : Nat) (m : Pnm) : Pnm :=
  if rb m Reg.GTE_TOUT_CLAIM t then
    let x := m.sio.touts.getD t ToutSt.init
    let edge := decide (m.gte.level.testBit t ≠ on)
    applyTouts ns frac (toutGate t on (putTout t { x with wait := x.wait && !edge } m))
  else m

/-- R326: a GOOSE demand entry demands, from values of its subscription's members, those whose quality is invalid, and
whether the subscription is VALID. -/
def gooseDem (e : List Word) (valid : Bool) (values : List Int) (bad : List Nat) : Bool :=
  let j := fld e 0 15 8
  (decide (values.getD j 0 ≠ 0) != fbit e 0 1) || (fbit e 0 2 && (!valid || bad.contains j))

/-- The results of the entries of subscription `sub` in a mask of results. -/
def gooseResults (m : Pnm) (sub : Nat) (valid : Bool) (values : List Int) (bad : List Nat) (g : Nat) : Nat :=
  (List.range 32).foldl (fun a k =>
    let e := sioEntry m 4 k
    if fbit e 0 0 ∧ fld e 0 27 16 = sub then bset a k (gooseDem e valid values bad) else a) g

/-- R326: a subscription has taken a message or changed its status: channel A evaluates, then channel B decodes. -/
def gooseDemand (sub : Nat) (m : Pnm) : Pnm :=
  let s := getSub m sub
  let bad := (List.range s.vals.length).filter fun j => decide ((subImage m sub j).q % 4 = 1)
  let valid := subValid m sub
  let g := gooseResults m sub valid s.vals bad m.sio.a.goose
  demands false (toChB (.goose sub s.vals (if valid then bad else 256 :: bad))
    { m with sio := { m.sio with a := { m.sio.a with goose := g } } })

/-! ## LOCKOUT and faults (R318, R320, R331) -/

/-- Pair p enters LOCKOUT with a reason. -/
def lockout (p reason : Nat) (m : Pnm) : Pnm :=
  let x := m.sio.pairs.getD p PairSt.init
  if x.lockout then m
  else
    let m1 := (putPair p { x with lockout := true, reason := reason, test := none } m)
    applyPairs (raise { src := 8, code := 0x69, cls := 0, items := [p, reason] } (sb m1 Reg.SIO_FLAGS 1))

/-- R331: a channel mismatch (kind 1), silence (2) or time-rate mismatch (3). -/
def channelFault (kind : Nat) (m : Pnm) : Pnm :=
  let m1 := raise { src := 8, code := 0x6E, cls := 0, items := [kind] } (sb m Reg.SIO_STAT 1)
  let m2 := (List.range 8).foldl (fun x p => lockout p 4 x) m1
  if kind = 2 then applyTouts (nowNs m) (nowFrac m) { m2 with sio := { m2.sio with cut := true } } else m2

/-- Timed output t becomes FAULT with a reason. -/
def toutFault (t reason : Nat) (m : Pnm) : Pnm :=
  let x := m.sio.touts.getD t ToutSt.init
  if x.fault then m
  else
    let m1 := (putTout t { x with fault := true, reason := reason, test := none } m)
    applyTouts (nowNs m) (nowFrac m)
      (raise { src := 8, code := 0x6B, cls := 0, items := [t, reason] } (sb m1 Reg.SIO_FLAGS 3))

/-! ## Inputs (R309, R310) -/

/-- R309: one channel takes a sample of every receiver. -/
def chanSample (m : Pnm) (raw : Nat) (c : Chan) : Chan :=
  let now := m.tim.edge
  let r := (List.range 32).foldl (fun (a : Nat × List (Option Nat)) i =>
    let e := sioEntry m 0 i
    if fbit e 0 0 = false then (bset a.1 i false, a.2 ++ [none])
    else if raw.testBit i = c.filt.testBit i then (a.1, a.2 ++ [none])
    else
      let t := (c.since.getD i none).getD now
      if t + fld e 0 29 16 * edgesUs ≤ now then (bset a.1 i (raw.testBit i), a.2 ++ [none])
      else (a.1, a.2 ++ [some t])) (c.filt, [])
  { c with raw := raw, filt := r.1, since := r.2 }

/-- R309, R310: the samples of both channels, every 250 µs, and what follows for disagreement and feedback. -/
def inputSample (rawA rawB : Nat) (m : Pnm) : Pnm :=
  if m.tim.edge < m.sio.nextSample then m
  else
    let a := chanSample m rawA m.sio.a
    let b := chanSample m rawB m.sio.b
    let x := Nat.xor a.filt b.filt
    let upd := fun (want : Bool) (l : List (Option Nat)) => (List.range 32).map fun i =>
      if x.testBit i = want then some ((l.getD i none).getD m.tim.edge) else none
    fbUpdate { m with sio := { m.sio with
                               a := a, b := b, differ := upd true m.sio.differ, agree := upd false m.sio.agree,
                               nextSample := m.tim.edge + 250 * edgesUs } }

/-- R310: the receivers of input i have differed for longer than 2 ms. -/
def inputDisagree (i : Nat) (m : Pnm) : Pnm :=
  match m.sio.differ.getD i none with
  | some t =>
    if t + 2 * edgesMs < m.tim.edge ∧ (inFault m).testBit i = false then
      fbUpdate (raise { src := 8, code := 0x6A, cls := 0, items := [i] } (sb (sb m Reg.SIO_IN_FAULT i) Reg.SIO_FLAGS 2))
    else m
  | none => m

/-- R310: both receivers of a FAULT input agree for 100 ms. -/
def inputAgree (i : Nat) (m : Pnm) : Pnm :=
  match m.sio.agree.getD i none with
  | some t =>
    if t + 100 * edgesMs ≤ m.tim.edge ∧ (inFault m).testBit i then fbUpdate (cb m Reg.SIO_IN_FAULT i) else m
  | none => m

/-- R311: what a cycle-engine input of kind 9 latches. -/
def sioInput (m : Pnm) (i sub : Nat) : TV :=
  if sub = 0 then
    { v := b2n ((effIn m m.sio.a).testBit i), q := if (inFault m).testBit i then 0x41 else 0 }
  else if fbit (sioEntry m 0 i) 0 1 ∧ m.sio.fbBad.testBit i = false then { v := 1, q := 0 }
  else { v := 0, q := 0x41 }

/-! ## Evaluations (R323 to R325) -/

/-- R324: the permissive of evaluation e. -/
def permissive (m : Pnm) (e : List Word) : Bool :=
  if fbit e 3 16 then
    match NMap.get (fun _ => none) m.cye.sigs (fld e 3 15 0) with
    | some v => decide (v.v ≠ 0) && decide (v.q % 4 = 0)
    | none => false
  else true

/-- What an evaluation does in a safety cycle: its new state, and the codes of event 0x6D it raises. -/
def evalStep (m : Pnm) (c : Chan) (e : List Word) (v : EvSt) : EvSt × List Nat :=
  let now := m.tim.edge
  let ia := fld e 1 4 0
  let ib := fld e 1 12 8
  let ic := fld e 1 20 16
  let id := fld e 1 28 24
  let typ := fld e 0 2 1
  let anti := fbit e 0 3
  let lv := fun i => c.latch.testBit i
  let up := fun i => c.latch.testBit i && !c.prev.testBit i
  let ok := fun i => !(inFault m).testBit i
  let ca := lv ia && ok ia
  let cbb := (lv ib != anti) && ok ib
  let differ := if anti then lv ia == lv ib else lv ia != lv ib
  let disc := if differ && decide (typ ≠ 3) then some (v.disc.getD now) else none
  let react := v.react && !(!ca && !cbb)
  let done := fun (n : EvSt) => (n, if n.dem = v.dem then [] else [b2n n.dem])
  if typ = 1 then
    let open' := !ca || !cbb
    let manual := decide (fld e 2 31 16 ≠ 0)
    let hold := v.dem && manual && !(up ic && ok ic)
    done { v with disc := disc, react := react, dem := react || open' || hold }
  else if typ = 2 then
    let permit := lv ic && ok ic && lv id && ok id
    let alarm := react || ((!ca || !cbb) && !permit)
    let n := { v with disc := disc, react := react, dem := permit && !react, alarm := alarm }
    (n, (done n).2 ++ (if alarm && !v.alarm && !react then [2] else []))
  else
    let local' := lv ic && ok ic
    let per := permissive m e
    let rises := up ia && ok ia
    let closedB := (lv ib && ok ib)
    if v.step = 0 then
      if rises && v.pulse.isNone then
        if closedB || !local' || !per then (v, [4]) else ({ v with step := 1, selAt := now }, [])
      else (v, [])
    else if !local' || !per then ({ v with step := 0 }, [4])
    else if up ib && ok ib then
      done { v with step := 0, dem := true, pulse := some (now + fld e 2 31 16 * edgesMs) }
    else (v, [])

/-- The evaluations of a channel in a safety cycle, with their events. -/
def chanEvals (m : Pnm) (c : Chan) : Chan × List (Nat × Nat) :=
  (List.range 8).foldl (fun (a : Chan × List (Nat × Nat)) k =>
    let e := sioEntry m 3 k
    if fbit e 0 0 then
      let r := evalStep m c e (c.evals.getD k EvSt.init)
      ({ a.1 with evals := setAt a.1.evals k r.1 }, a.2 ++ r.2.map fun x => (k, x))
    else a) (c, [])

/-- Event 0x6D: evaluation and state (R325). -/
def evalEvents (l : List (Nat × Nat)) (m : Pnm) : Pnm :=
  l.foldl (fun x p => raise { src := 8, code := 0x6D, cls := 0, items := [p.1, p.2] } x) m

/-- R317, R318: a rising reset input clears a pair's latch unless another source demands. -/
def resetLatches (c : Chan) (m : Pnm) : Chan :=
  { c with dems := c.dems.zipIdx.map fun p =>
      let e := sioEntry m 2 p.2
      let i := fld e 0 12 8
      if fbit e 0 6 && c.latch.testBit i && !c.prev.testBit i && decide (p.1.src % 8 = 0) then { p.1 with latched := false }
      else p.1 }

/-- The channels disagree on a demand, a pair's state or a GOOSE result (R331). The input state compared is the one
after R310, which both channels share: a receiver disagreement has its own outcome (log entry 41). -/
def channelsDiffer (m : Pnm) : Bool :=
  m.sio.a.dems.map (·.on) != m.sio.b.dems.map (·.on) || m.sio.a.goose != m.sio.b.goose ||
    (List.range 8).any fun p => pairTarget m m.sio.a p != pairTarget m m.sio.b p

/-- R312: a safety cycle of both channels, at each module-time millisecond. -/
def safetyCycle (m : Pnm) : Pnm :=
  if m.tim.running = false ∨ nowNs m / 1000000 < m.sio.nextCycle then m
  else
    let latch := fun (c : Chan) => { c with prev := c.latch, latch := effIn m c }
    let m0 := { m with sio := { m.sio with a := latch m.sio.a, b := latch m.sio.b, nextCycle := nowNs m / 1000000 + 1,
                                           takeover := if m.sio.takeover = 1 then 0 else m.sio.takeover } }
    if sioRuns m0 = false then m0
    else
      let ra := chanEvals m0 m0.sio.a
      let rb' := chanEvals m0 m0.sio.b
      let m1 := evalEvents ra.2 { m0 with sio := { m0.sio with a := ra.1, b := rb'.1 } }
      let m2 := demands true m1
      let m3 := demands true { m2 with sio := { m2.sio with a := resetLatches m2.sio.a m2, b := resetLatches m2.sio.b m2 } }
      let n := if channelsDiffer m3 then m3.sio.mismatch + 1 else 0
      let m4 := { m3 with sio := { m3.sio with mismatch := n } }
      if 2 ≤ n ∧ rb m4 Reg.SIO_STAT 1 = false then channelFault 1 m4 else m4

/-- Change evaluation k in both channels. -/
def modEval (k : Nat) (f : EvSt → EvSt) (m : Pnm) : Pnm :=
  let g := fun (c : Chan) => { c with evals := modAt c.evals k f }
  { m with sio := { m.sio with a := g m.sio.a, b := g m.sio.b } }

/-- The state of evaluation k in channel A. -/
def evalSt (m : Pnm) (k : Nat) : EvSt := m.sio.a.evals.getD k EvSt.init

/-- R323, R325: a discrepancy has lasted longer than DISC_MS; an entry into or exit from demand raises its own event. -/
def evalDisc (k : Nat) (m : Pnm) : Pnm :=
  let e := sioEntry m 3 k
  let late : EvSt → Bool := fun v => match v.disc with
    | some t => decide (t + fld e 2 15 0 * edgesMs < m.tim.edge) && !v.react
    | none => false
  if sioRuns m ∧ late (evalSt m k) then
    let t1 := decide (fld e 0 2 1 = 1)
    demands true (evalEvents ((k, 3) :: if (evalSt m k).dem = t1 then [] else [(k, b2n t1)])
      (modEval k (fun v => if late v then { v with react := true, dem := t1, alarm := v.alarm || !t1 } else v) m))
  else m

/-- R324: WIN_MS has passed without IN_B rising. -/
def evalWindow (k : Nat) (m : Pnm) : Pnm :=
  let v := evalSt m k
  if sioRuns m ∧ v.step = 1 ∧ v.selAt + fld (sioEntry m 3 k) 2 15 0 * edgesMs ≤ m.tim.edge then
    evalEvents [(k, 4)] (modEval k (fun v => { v with step := 0 }) m)
  else m

/-- R323: the pulse of a two-step operation ends. -/
def evalPulse (k : Nat) (m : Pnm) : Pnm :=
  if sioRuns m ∧ due (evalSt m k).pulse m.tim.edge then
    demands true (evalEvents [(k, 0)] (modEval k (fun v => { v with dem := false, pulse := none }) m))
  else m

/-- R317: MIN_DEM_MS of pair p has elapsed with no source demanding. -/
def demandMin (p : Nat) (m : Pnm) : Pnm := if (m.sio.a.dems.getD p DemSt.init).on then demands true m else m

/-! ## Cross-link (R307, R308) -/

/-- R308: channel A's heartbeat, every 100 µs. -/
def crossBeat (m : Pnm) : Pnm :=
  if m.tim.edge < m.sio.nextBeat then m
  else
    let m1 := toChB (.heartbeat (nowNs m)) { m with sio := { m.sio with nextBeat := m.tim.edge + 100 * edgesUs } }
    emit m1 [.xlink false [0, nowNs m]]

/-- R308, R319: the next message towards channel B (or A) arrives; `ok` when its sequence number and CRC are right. -/
def crossRx (toB ok : Bool) (m : Pnm) : Pnm :=
  let silent := some (m.tim.edge + 500 * edgesUs)
  if toB then
    match m.sio.toB with
    | [] => m
    | x :: t =>
      let m1 := { m with sio := { m.sio with toB := t } }
      if ok = false then m1
      else match x with
        | .heartbeat n =>
          emit { m1 with sio := { m1.sio with b := { m1.sio.b with silentAt := silent }, toA := m1.sio.toA ++ [.heartbeat n] } }
            [.xlink true [0, n]]
        | .demand c => demandsB { m1 with sio := { m1.sio with b := { m1.sio.b with cye := c } } }
        | .goose sub vals bad =>
          let g := gooseResults m1 sub (!bad.contains 256) vals bad m1.sio.b.goose
          demandsB { m1 with sio := { m1.sio with b := { m1.sio.b with goose := g } } }
        | _ => m1
  else
    match m.sio.toA with
    | [] => m
    | x :: t =>
      let m1 := { m with sio := { m.sio with toA := t } }
      if ok = false then m1
      else match x with
        | .heartbeat _ =>
          sb { m1 with sio := { m1.sio with a := { m1.sio.a with silentAt := silent } } } Reg.SIO_STAT 2
        | _ => m1

/-- R308: a channel has received no valid heartbeat for 500 µs. -/
def crossSilence (chB : Bool) (m : Pnm) : Pnm :=
  let c := if chB then m.sio.b else m.sio.a
  if due c.silentAt m.tim.edge then
    let quiet := fun (x : Chan) => { x with silentAt := none }
    let m1 := cb { m with sio := { m.sio with
                                   a := if chB then m.sio.a else quiet m.sio.a, b := if chB then quiet m.sio.b else m.sio.b } } Reg.SIO_STAT 2
    if rb m Reg.SIO_CTRL 0 && !rb m Reg.SIO_STAT 1 then channelFault 2 m1
    else applyTouts (nowNs m) (nowFrac m) { m1 with sio := { m1.sio with cut := m1.sio.cut || rb m Reg.SIO_CTRL 0 } }
  else m

/-- R307: channel B measures the module-time rate over 100 ms; `ppm` is what it finds beyond its own clock. -/
def chbRate (ppm : Nat) (m : Pnm) : Pnm :=
  if m.tim.edge < m.sio.nextRate then m
  else
    let m1 := { m with sio := { m.sio with nextRate := m.tim.edge + 100 * edgesMs } }
    if 100 < ppm ∧ rb m Reg.SIO_CTRL 0 ∧ rb m Reg.SIO_STAT 1 = false then channelFault 3 m1 else m1

/-! ## Timed-output faults (R314, R315) -/

/-- R314: readback of timed output t has differed from the commanded level for longer than 10 µs. -/
def toutReadback (t : Nat) (m : Pnm) : Pnm :=
  let x := m.sio.touts.getD t ToutSt.init
  let e := sioEntry m 1 t
  if fbit e 0 0 && fbit e 0 3 && x.test.isNone && sioRuns m then
    toutFault t 1 (putTout t { x with readback := !x.level } m)
  else m

/-- R315: an off output draws less than 1 mA for 100 ms. -/
def toutOpenLoad (t : Nat) (m : Pnm) : Pnm :=
  let x := m.sio.touts.getD t ToutSt.init
  let e := sioEntry m 1 t
  if fbit e 0 0 && fbit e 0 4 && !x.level && !x.openLoad then
    raise { src := 8, code := 0x6B, cls := 0, items := [t, 3] }
      (putTout t { x with openLoad := true } m)
  else m

/-- R314: a write of SIO_TOUT_RESET; `back` are the readback levels. -/
def toutReset (data : Word) (back : Nat) (m : Pnm) : Pnm :=
  let f : ToutSt × Nat → ToutSt := fun p =>
    if (bits data 15 0).testBit p.2 && p.1.fault && !back.testBit p.2 then
      { p.1 with fault := false, reason := 0, readback := false, wait := true }
    else p.1
  applyTouts (nowNs m) (nowFrac m) { m with sio := { m.sio with touts := m.sio.touts.zipIdx.map f } }

/-! ## Pair faults (R317, R320 to R322) -/

/-- R317: a write of SIO_PAIR_RESET.LATCH. -/
def latchReset (data : Word) (m : Pnm) : Pnm :=
  let g : DemSt × Nat → DemSt := fun p =>
    if (bits data 7 0).testBit p.2 && decide (p.1.src % 8 = 0) then { p.1 with latched := false } else p.1
  let f := fun (c : Chan) => { c with dems := c.dems.zipIdx.map g }
  demands true { m with sio := { m.sio with a := f m.sio.a, b := f m.sio.b } }

/-- R320: readback of pair p disagrees with the commanded switch states for longer than 50 µs; `stuck` when a switch does
not open. -/
def pairReadback (p : Nat) (stuck : Bool) (m : Pnm) : Pnm :=
  if sioRuns m && fbit (sioEntry m 2 p) 0 0 && (m.sio.pairs.getD p PairSt.init).test.isNone then
    lockout p (if stuck then 5 else 1) m
  else m

/-- R321: feedback input i has missed its expected state for FB_MS. -/
def fbTimeout (i : Nat) (m : Pnm) : Pnm :=
  let e := sioEntry m 0 i
  match m.sio.fbSince.getD i none with
  | some t =>
    if sioRuns m ∧ t + fld e 1 9 0 * edgesMs ≤ m.tim.edge ∧ m.sio.fbBad.testBit i = false then
      lockout (fld e 0 4 2) 3 { m with sio := { m.sio with fbBad := bset m.sio.fbBad i true } }
    else m
  | none => m

/-! ## Test pulses (R327 to R329) -/

/-- Start a test of channel `ch` of pair p. -/
def pairTestStart (p ch : Nat) (reset : Bool) (m : Pnm) : Pnm :=
  let x := m.sio.pairs.getD p PairSt.init
  applyPairs (putPair p { x with test := some { ch := ch, start := m.tim.edge, reset := reset } } m)

/-- A pair can be tested: running, enabled, TP_EN, not in LOCKOUT, no test in progress. -/
def pairTestable (m : Pnm) (p : Nat) : Bool :=
  let e := sioEntry m 2 p
  let x := m.sio.pairs.getD p PairSt.init
  sioRuns m && fbit e 0 0 && fbit e 0 5 && !x.lockout && x.test.isNone

/-- R327: the scheduled test of channel ch of pair p. -/
def pairTestPulse (p ch : Nat) (m : Pnm) : Pnm :=
  let x := m.sio.pairs.getD p PairSt.init
  let sec := nowNs m / 1000000000 + 1
  let at' := p * 62500000 + ch * 500000000
  if pairTestable m p ∧ m.tim.running ∧ at' ≤ nowNs m % 1000000000 ∧ x.done.getD ch 0 ≠ sec then
    pairTestStart p ch false (putPair p { x with done := setAt x.done ch sec } m)
  else m

/-- R328: a committed gate edge on output t lies within the next 1 ms. -/
def edgeNear (m : Pnm) (t : Nat) : Bool :=
  let now := m.tim.mt
  let near := fun (x : Nat) => decide (now ≤ x ∧ x < now + 1000000 * nsU)
  (m.gte.gates.any fun p => decide (p.2.state = 3 ∧ 1 ≤ p.2.action ∧ p.2.action ≤ 3 ∧ p.2.arg = t) &&
    (gateEdges p.2 p.2.f).any near) || m.gte.pulses.any fun p => decide (p.1 = t) && near p.2

/-- R328: a test of timed output t starts, or is deferred. -/
def toutTestStart (t : Nat) (m : Pnm) : Pnm :=
  if edgeNear m t then toutDefer t m
  else
    let x := m.sio.touts.getD t ToutSt.init
    emit (putTout t { x with test := some m.tim.edge, readback := false } m) [.pin (.tout t) false (nowNs m) (nowFrac m)]

/-- A timed output can be tested: running, enabled, TP_EN, on, no FAULT, no test in progress. -/
def toutTestable (m : Pnm) (t : Nat) : Bool :=
  let e := sioEntry m 1 t
  let x := m.sio.touts.getD t ToutSt.init
  sioRuns m && fbit e 0 0 && fbit e 0 2 && x.level && !x.fault && x.test.isNone

/-- R328: the scheduled test of timed output t. -/
def toutTestPulse (t : Nat) (m : Pnm) : Pnm :=
  let x := m.sio.touts.getD t ToutSt.init
  let sec := nowNs m / 1000000000 + 1
  if toutTestable m t ∧ m.tim.running ∧ 31250000 + t * 62500000 ≤ nowNs m % 1000000000 ∧ x.done ≠ sec then
    toutTestStart t (putTout t { x with done := sec } m)
  else m

/-- R327, R328, R322: readback confirms a test; targets are pairs 0 to 7 (`tout` false) and timed outputs. -/
def testConfirm (tout : Bool) (i : Nat) (m : Pnm) : Pnm :=
  if tout then
    let x := m.sio.touts.getD i ToutSt.init
    match x.test with
    | some s =>
      if s + 20 * edgesUs ≤ m.tim.edge then
        emit (putTout i { x with test := none, defers := 0, readback := x.level } m)
          [.pin (.tout i) x.level (nowNs m) (nowFrac m)]
      else m
    | none => m
  else
    let x := m.sio.pairs.getD i PairSt.init
    match x.test with
    | some t =>
      if t.start + 20 * edgesUs ≤ m.tim.edge then
        let y : PairSt := { x with test := none, defers := setAt x.defers t.ch 0 }
        let m1 := (putPair i y m)
        if t.reset ∧ t.ch = 0 then pairTestStart i 1 true (applyPairs m1)
        else if t.reset then
          applyPairs (putPair i { y with lockout := false, reason := 0 } m1)
        else applyPairs m1
      else m
    | none => m

/-- R327, R328: a test without confirmation at 300 µs fails. -/
def testTimeout (tout : Bool) (i : Nat) (m : Pnm) : Pnm :=
  if tout then
    match (m.sio.touts.getD i ToutSt.init).test with
    | some s => if s + 300 * edgesUs ≤ m.tim.edge then toutFault i 2 (inc m Reg.SIO_TEST_FAILS) else m
    | none => m
  else
    let x := m.sio.pairs.getD i PairSt.init
    match x.test with
    | some t =>
      if t.start + 300 * edgesUs ≤ m.tim.edge then
        let m1 := inc (putPair i { x with test := none } m) Reg.SIO_TEST_FAILS
        applyPairs (lockout i 2 m1)
      else m
    | none => m

/-- R329: a deferred test is retried 100 ms after the deferral, or when a test then in progress has ended. -/
def testRetry (tout : Bool) (i ch : Nat) (m : Pnm) : Pnm :=
  if tout then
    let x := m.sio.touts.getD i ToutSt.init
    if due x.retry m.tim.edge && x.test.isNone then
      let m1 := (putTout i { x with retry := none } m)
      if toutTestable m i then toutTestStart i m1 else m1
    else m
  else
    let x := m.sio.pairs.getD i PairSt.init
    if due (x.retry.getD ch none) m.tim.edge && x.test.isNone then
      let m1 := (putPair i { x with retry := setAt x.retry ch none } m)
      if pairTestable m i then pairTestStart i ch false m1 else m1
    else m

/-- R322: a write of SIO_PAIR_RESET.LOCKOUT; `cleared` are the pairs whose readback or switch fault has gone. -/
def lockoutReset (data : Word) (cleared : Nat) (m : Pnm) : Pnm :=
  (List.range 8).foldl (fun y p =>
    let x := y.sio.pairs.getD p PairSt.init
    let fb := (List.range 32).any fun i => fbDiffers y i && decide (fld (sioEntry y 0 i) 0 4 2 = p)
    let gone := if x.reason = 1 ∨ x.reason = 5 then cleared.testBit p else if x.reason = 3 then !fb
      else decide (x.reason = 2)
    if (bits data 15 8).testBit p && x.lockout && gone && x.test.isNone then pairTestStart p 0 true y else y) m

/-! ## Start and stop (R333, R334) -/

/-- R333: the CRC of the configuration: four words of every entry of tables 0 to 4. -/
def sioCrc (m : Pnm) : Nat :=
  crc32c ((List.range 5).flatMap fun t => (List.range (sioSize t)).flatMap fun i => bytesOf (sioEntry m t i))

/-- R333: a write of RUN = 1. -/
def sioRun (m : Pnm) : Pnm :=
  if rb m Reg.SIO_CTRL 0 then m
  else if rb m Reg.SIO_CTRL 1 = false then sioErr 1 0 0 m
  else if rb m Reg.SIO_STAT 2 = false then sioErr 2 0 0 m
  else if sioCrc m ≠ (rd m Reg.SIO_CFG_CRC).toNat then sioErr 3 0 0 m
  else
    let ps := m.sio.pairs.map fun p => if p.reason = 4 then { p with lockout := false, reason := 0 } else p
    sb { m with sio := { m.sio with starting := true, pairs := ps, cut := false, mismatch := 0 } } Reg.SIO_CTRL 0

/-- R333: the start-up tests end; the masks name the pairs and timed outputs whose test failed. -/
def sioStartDone (badPairs badTouts : Nat) (m : Pnm) : Pnm :=
  if m.sio.starting then
    let m1 := sb { m with sio := { m.sio with starting := false } } Reg.SIO_STAT 0
    let m2 := (List.range 8).foldl (fun x p =>
      let e := sioEntry x 2 p
      if badPairs.testBit p && fbit e 0 0 && fbit e 0 5 then lockout p 2 (inc x Reg.SIO_TEST_FAILS) else x) m1
    let m3 := (List.range 16).foldl (fun x t =>
      let e := sioEntry x 1 t
      if badTouts.testBit t && fbit e 0 0 && fbit e 0 2 then toutFault t 2 (inc x Reg.SIO_TEST_FAILS) else x) m2
    let subs := (List.range 32).map fun k => fld (sioEntry m 4 k) 0 27 16
    let m4 := raise { src := 8, code := 0x6F, cls := 2, items := [1] } m3
    let m5 := subs.eraseDups.foldl (fun x s => gooseDemand s x) m4
    applyTouts (nowNs m) (nowFrac m) (demands true m5)
  else m

/-- R333: a write of RUN = 0. -/
def sioStop (m : Pnm) : Pnm :=
  if rb m Reg.SIO_CTRL 0 then
    let quiet := fun (c : Chan) => { c with evals := List.replicate 8 EvSt.init }
    let m1 := cb (cb (cb { m with sio := { m.sio with
                                           a := quiet m.sio.a, b := quiet m.sio.b, starting := false, mismatch := 0,
                                           pairs := m.sio.pairs.map fun p => { p with test := none },
                                           touts := m.sio.touts.map fun t => { t with test := none } } }
      Reg.SIO_CTRL 0) Reg.SIO_STAT 0) Reg.SIO_STAT 1
    raise { src := 8, code := 0x6F, cls := 2, items := [0] } (sioApply m1)
  else m

/-- R334: FIELD of the first failing check of an enabled entry; 0 when none fails. -/
def sioCheck (m : Pnm) (t i : Nat) (e : List Word) : Nat :=
  let inOn := fun k => fbit (sioEntry m 0 k) 0 0
  let pairOn := fun k => fbit (sioEntry m 2 k) 0 0
  let role1 := fun k => fbit (sioEntry m 0 k) 0 0 && fbit (sioEntry m 0 k) 0 1
  let evalIns := fun (x : List Word) =>
    let base := [fld x 1 4 0, fld x 1 12 8, fld x 1 20 16]
    if fld x 0 2 1 = 2 then base ++ [fld x 1 28 24] else if fld x 0 2 1 = 1 ∧ fld x 2 31 16 = 0 then base.take 2 else base
  let pairsOn := fun (mask : Nat) => (List.range 8).all fun p => !mask.testBit p || pairOn p
  if t = 0 then
    let us := fld e 0 29 16
    if us = 0 ∨ (fbit e 0 1 ∧ fld e 1 9 0 = 0) then 5
    else if us < 100 ∨ 10000 < us ∨ (fbit e 0 1 ∧ 1000 < fld e 1 9 0) then 6
    else if fbit e 0 1 ∧ pairOn (fld e 0 4 2) = false then 7
    else if fbit e 0 1 ∧ (List.range 8).any (fun k => fbit (sioEntry m 3 k) 0 0 && (evalIns (sioEntry m 3 k)).contains i) then 8
    else 0
  else if t = 2 then (if fbit e 0 6 ∧ inOn (fld e 0 12 8) = false then 7 else 0)
  else if t = 3 then
    let typ := fld e 0 2 1
    let a := fld e 2 15 0
    let b := fld e 2 31 16
    if typ = 0 ∨ a = 0 ∨ (typ = 3 ∧ b = 0) then 5
    else if (if typ = 3 then decide (a < 100 ∨ 10000 < a ∨ b < 10 ∨ 10000 < b) else decide (1000 < a)) then 6
    else if typ = 1 ∧ 1 < b then 6
    else if (evalIns e).any (fun k => !inOn k) ∨ pairsOn (fld e 0 15 8) = false ∨ (typ = 2 ∧ pairsOn (fld e 0 23 16) = false) then 7
    else if (evalIns e).any role1 then 8
    else 0
  else if t = 4 then
    let g := gsubEntry m (fld e 0 27 16)
    if pairsOn (fld e 1 7 0) = false then 7
    else if sMembers g ≤ fld e 0 15 8 ∨ dType (sDesc m g (fld e 0 15 8)) ≠ 1 then 9
    else 0
  else 0

/-! ## The window and views (R335) -/

/-- SIO table 9: the words of an entry. -/
def sioWords (m : Pnm) (t i : Nat) : List Word :=
  if t ≤ 4 then sioEntry m t i
  else if t = 5 then
    let fb := fbit (sioEntry m 0 i) 0 1 && !m.sio.fbBad.testBit i
    [loW (b2n ((effIn m m.sio.a).testBit i) + 2 * b2n (m.sio.a.raw.testBit i) + 4 * b2n (m.sio.b.raw.testBit i) +
      8 * b2n ((inFault m).testBit i) + 16 * b2n fb), 0, 0, 0]
  else if t = 6 then
    let x := m.sio.touts.getD i ToutSt.init
    [loW (b2n x.level + 2 * b2n x.readback + 4 * b2n x.fault + 8 * b2n x.openLoad + 16 * x.reason + 256 * min 255 x.defers),
     0, 0, 0]
  else
    let x := m.sio.pairs.getD i PairSt.init
    let d := m.sio.a.dems.getD i DemSt.init
    let en := m.sio.a.sw.testBit i && m.sio.b.sw.testBit i
    [loW (b2n d.on + 2 * b2n en + 4 * b2n x.lockout + 8 * b2n d.latched + 16 * x.reason +
       256 * min 255 (x.defers.getD 0 0) + 65536 * min 255 (x.defers.getD 1 0) + 2 ^ 24 * d.src), loW x.last, hiW x.last, 0]

/-- A GO with WRITE 0. -/
def sioTblRead (cmd : Word) (m : Pnm) : Pnm :=
  let m1 := storeCmd Reg.SIO_TBL_CMD 0x0017001F cmd m
  let t := bits cmd 18 16
  if sioSize t ≤ bits cmd 4 0 then sb m1 Reg.SIO_TBL_STAT 1
  else wrs m1 Reg.SIO_TBL_DATA (sioWords m t (bits cmd 4 0))

/-- A GO with WRITE 1: tables 0 to 4 while RUN is 0 (R333 to R335). -/
def sioTblWrite (cmd : Word) (m : Pnm) : Pnm :=
  let m1 := storeCmd Reg.SIO_TBL_CMD 0x0017001F cmd m
  let t := bits cmd 18 16
  let i := bits cmd 4 0
  let w := (List.range 4).map fun k => rd m (Reg.SIO_TBL_DATA + 4 * k)
  let e := (w.zip (sioMask t)).map fun p => p.1 &&& p.2
  let bad := fun (f : Nat) (y : Pnm) => sioErr f i t (sb y Reg.SIO_TBL_STAT 1)
  let store := fun (x : List Word) (y : Pnm) => { y with sio := { y.sio with tbl := NMap.set sioDflt y.sio.tbl (32 * t + i) x } }
  if 5 ≤ t then bad 10 m1
  else if sioSize t ≤ i then sb m1 Reg.SIO_TBL_STAT 1
  else if rb m Reg.SIO_CTRL 0 then bad 4 m1
  else if fbit e 0 0 = false then store e m1
  else
    let c := sioCheck m t i e
    if c = 0 then store e m1 else bad c (store (entryOff e) m1)

/-- SIO_STAT with ROLE_HOLD (R332). -/
def sioStatWord (m : Pnm) : Word :=
  setBit (rd m Reg.SIO_STAT) 3 (sioRuns m && (standby m || inMaint m || decide (m.sio.takeover = 2)))

/-- SIO_IN_STATE, SIO_TOUT_STATE and SIO_PAIR_STATE (SIO table 8). -/
def sioInWord (m : Pnm) : Word := loW (effIn m m.sio.a)
def sioToutWord (m : Pnm) : Word :=
  loW ((m.sio.touts.zipIdx.foldl (fun a p => a + b2n p.1.level * 2 ^ p.2 + b2n p.1.fault * 2 ^ (16 + p.2)) 0))
def sioPairWord (m : Pnm) : Word :=
  loW ((List.range 8).foldl (fun a p =>
    let d := m.sio.a.dems.getD p DemSt.init
    let x := m.sio.pairs.getD p PairSt.init
    a + b2n (m.sio.a.sw.testBit p && m.sio.b.sw.testBit p) * 2 ^ p + b2n d.on * 2 ^ (8 + p) + b2n x.lockout * 2 ^ (16 + p) +
      b2n d.latched * 2 ^ (24 + p)) 0)

end Sys2Proof.Machine
end

