-- ==== Sys2Proof/Machine/Cap.lean ====
section
/-! DEFINITION. CAP: segments and grants, arming, triggers, rows and records (chapter 13). What writes the capture region
takes the module together with the region's bytes. -/

namespace Sys2Proof.Machine

/-- The module with the capture region. -/
abbrev PM := Pnm × Memory

/-- Change the module alone. -/
def onM (f : Pnm → Pnm) (s : PM) : PM := (f s.1, s.2)

/-! ## Segments (R400 to R402) -/

/-- Segment i, capture c. -/
def getSeg (m : Pnm) (i : Nat) : Seg := NMap.get Seg.init m.cap.segs i
def putSeg (i : Nat) (x : Seg) (m : Pnm) : Pnm := { m with cap := { m.cap with segs := NMap.set Seg.init m.cap.segs i x } }
def getCap (m : Pnm) (c : Nat) : Cap := NMap.get Cap.init m.cap.caps c
def putCap (c : Nat) (x : Cap) (m : Pnm) : Pnm := { m with cap := { m.cap with caps := NMap.set Cap.init m.cap.caps c x } }

/-- Bytes of a segment, and its first byte in the region. -/
def Seg.bytes (x : Seg) : Nat := (x.size + 1) * 16384
def Seg.addr (x : Seg) : Nat := x.base * 16384

/-- The captures that are not FREE. -/
def armed (m : Pnm) : List (Nat × Cap) := m.cap.caps.filter fun p => decide (p.2.state ≠ 0)

/-- Segment i lies in an armed capture's region. -/
def inCapture (m : Pnm) (i : Nat) : Bool := (armed m).any fun p => decide (p.2.seg0 ≤ i ∧ i < p.2.seg0 + p.2.segN)

/-- VFS table 2: segments in the use of function f, those being cleared for it among them, and its share. -/
def segUse (m : Pnm) (f : Nat) : Nat :=
  (m.cap.segs.filter fun p => decide (p.2.grant = f) || decide (p.2.clearing = some f)).length
def segShare (m : Pnm) (f : Nat) : Nat := rf m (Reg.shr f 3) 16 0

/-- A CAP write was refused: CFG_REJECT, FIELD and INDEX. -/
def capErr (field index : Nat) (m : Pnm) : Pnm :=
  wf (cfgErr (sb m Reg.CAP_FLAGS 0) Reg.CAP_CFG_ERR field) Reg.CAP_CFG_ERR 23 8 index

/-- R400, R401: FIELD of the first failing check of a segment write; 0 when none fails. -/
def segCheck (m : Pnm) (i base size grant : Nat) (en : Bool) : Nat :=
  let x := getSeg m i
  let now := x.clearing.getD x.grant
  if 257 ≤ grant ∧ grant ≠ 511 then 10
  else if now ≠ 511 ∧ (base ≠ x.base ∨ size ≠ x.size ∨ en ≠ x.en) then 3
  else if en ∧ 2 ^ 21 < base + size + 1 then 2
  else if en ∧ m.cap.segs.any (fun p => decide (p.1 ≠ i) && p.2.en &&
      decide (p.2.base < base + size + 1 ∧ base < p.2.base + p.2.size + 1)) then 1
  else if grant ≠ 511 ∧ en = false then 7
  else if grant ≠ now ∧ grant ≠ 511 ∧ now ≠ 511 then 4
  else if now ≠ 511 ∧ grant = 511 ∧ inCapture m i then 6
  else if now = 511 ∧ grant ≠ 511 ∧ segShare m grant ≤ segUse m grant then 5
  else 0

/-- R401, R402: a write of segment entry i. -/
def segWrite (i : Nat) (w0 w1 : Word) (m : Pnm) : Pnm :=
  let base := bits w0 20 0
  let en := bit w0 31
  let size := bits w1 15 0
  let grant := bits w1 24 16
  let c := segCheck m i base size grant en
  if c ≠ 0 then capErr c i (sb m Reg.CAP_TBL_STAT 1)
  else
    let x := getSeg m i
    let y : Seg := { x with base := base, en := en, size := size }
    if grant = 511 then putSeg i { y with grant := 511, clearing := none } m
    else if grant = x.grant ∨ x.clearing = some grant then putSeg i y m
    else if x.last = grant then putSeg i { y with grant := grant } m
    else putSeg i { y with clearing := some grant } m

/-- R402: clearing of segment i ends and its grant applies. -/
def segCleared (i : Nat) (s : PM) : PM :=
  let x := getSeg s.1 i
  match x.clearing with
  | none => s
  | some f =>
    let m1 := putSeg i { x with clearing := none, grant := f, last := f }
      { s.1 with cap := { s.1.cap with recs := s.1.cap.recs.filter fun r => decide (r.1 ≠ i) } }
    (raise { src := 10, code := 0x74, cls := 3, items := [i, f] } m1, Memory.clear s.2 x.addr x.bytes)

/-! ## Sizes (CAP table 3, R405, R409) -/

/-- The fields of a captured stream as armed: entry, RATE, CH_COUNT, SLOT_BASE, APPID, CONF_REV, svID CRC. -/
def streamInfo (i : Nat) (e : List Word) : List Nat :=
  [i, eRate e, eCh e, eBase e, fld e 3 15 0, (wrd e 6).toNat, (wrd e 8).toNat]

/-- Blocks of a stream in a row. -/
def sBlocks (s : List Nat) : Nat := cdiv (s.getD 2 0) 8

/-- W and ROW_LEN. -/
def rowW (l : List (List Nat)) : Nat := 48 * l.foldl (fun a s => a + sBlocks s) 0
def rowLen (l : List (List Nat)) : Nat := rowW l + 8

/-- DATA_OFS. -/
def dataOfs (l : List (List Nat)) : Nat := cdiv (128 + 16 * l.length) 64 * 64

/-- The sample spacing of a capture in grid ticks. -/
def capN (l : List (List Nat)) : Nat := svN ((l.headD []).getD 1 0)

/-- S. -/
def recSize (l : List (List Nat)) (n : Nat) : Nat := dataOfs l + n * rowLen l

/-- The load of a capture in bytes per second. -/
def capLoad (l : List (List Nat)) : Nat := rowLen l * svRate ((l.headD []).getD 1 0)

/-- The segments of a range as first byte and length. -/
def segList (m : Pnm) (first n : Nat) : List (Nat × Nat) :=
  (List.range' first n).map fun i => ((getSeg m i).addr, (getSeg m i).bytes)

/-- Segments from `first` that hold S bytes, of at most `n`; none when they do not. -/
def spanFor (m : Pnm) (first : Nat) : Nat → Nat → Nat → Option Nat
  | 0, _, _ => none
  | n + 1, k, S =>
    if S ≤ (getSeg m (first + k)).bytes then some (k + 1)
    else spanFor m first n (k + 1) (S - (getSeg m (first + k)).bytes)

/-- Write bytes of a record at an offset: the record is the concatenation of its segments (R409). -/
def writeSegs : List (Nat × Nat) → Nat → List Byte → Memory → Memory
  | [], _, _, mem => mem
  | (a, n) :: t, off, bs, mem =>
    if n ≤ off then writeSegs t (off - n) bs mem
    else writeSegs t 0 (bs.drop (n - off)) (mem.writeBytes (a + off) (bs.take (n - off)))

/-! ## Records (R410, R417 to R421) -/

/-- The stream table (CAP table 4). -/
def streamTable (l : List (List Nat)) : List Byte :=
  l.flatMap fun s =>
    leBytes 2 (s.getD 0 0) ++ leBytes 2 (s.getD 4 0) ++ leBytes 2 (s.getD 2 0 + 256 * sBlocks s) ++
    leBytes 2 (s.getD 3 0) ++ leBytes 4 (s.getD 5 0) ++ leBytes 4 (s.getD 6 0)

/-- PRE_ACT of a record (R415). -/
def preAct (c : Cap) : Nat :=
  match c.cur.first with
  | some t => min c.pos ((c.cur.tTrig - t) / ((max 1 (capN c.streams) : Nat) : Int)).toNat
  | none => 0

/-- PRE_START: the slot of the oldest pre-trigger row (R421). -/
def preStart (c : Cap) : Nat :=
  match c.cur.first with
  | some t =>
    if c.pos = 0 ∨ preAct c = 0 then 0
    else ((c.cur.tTrig - t) / ((max 1 (capN c.streams) : Nat) : Int) - preAct c).toNat % c.pos
  | none => 0

/-- FLAGS of the record header at closing. -/
def recFlags (c : Cap) (truncated : Bool) : Nat :=
  Nat.lor c.cur.flags (b2n (decide (preAct c < c.pos)) + 4 * b2n truncated + 8 * b2n (decide (1 < c.cur.span)) +
    128 * b2n (!c.lost.isEmpty))

/-- The header of CAP table 2 with the stream table, padded to DATA_OFS. -/
def recHeader (k : Nat) (c : Cap) (closed truncated : Bool) : List Byte :=
  let r := c.cur
  let l := c.streams
  let n := capN l
  let pre := preAct c
  let ts := r.trig.getD 0
  let firstU := ((r.tTrig - pre * n) * (unitTick : Int)).toNat
  let rows := if 0 < r.post then c.pos + r.post else pre
  let head :=
    leBytes 4 0x43525A4D ++ leBytes 2 1 ++ leBytes 2 128 ++
    leBytes 8 (if closed then dataOfs l + rows * rowLen l else 0) ++
    leBytes 4 (k + 256 * b2n closed + 65536 * c.owner) ++ leBytes 4 r.seq ++
    leBytes 8 (ts / nsU) ++ leBytes 4 (ts % nsU) ++ leBytes 4 r.mask ++
    (if closed then leBytes 8 (uNs firstU) ++ leBytes 4 (uFrac firstU) else leBytes 12 0) ++
    leBytes 4 ((l.headD []).getD 1 0 + 65536 * l.length) ++ leBytes 4 (rowLen l) ++
    leBytes 4 c.samples ++ leBytes 4 c.pos ++ leBytes 4 (if closed then pre else 0) ++ leBytes 4 (if closed then r.post else 0) ++
    leBytes 4 (if closed then preStart c else 0) ++ leBytes 4 r.gap ++ leBytes 2 r.ignored ++ leBytes 2 r.extra ++
    leBytes 4 (if closed then recFlags c truncated else 0) ++ leBytes 4 (r.clk + 256 * r.degr) ++
    leBytes 4 r.segFirst ++ leBytes 4 r.span ++ leBytes 4 (dataOfs l) ++ leBytes 12 0
  let tab := streamTable l
  let crc := if closed then crc32c (head ++ tab) else 0
  head ++ leBytes 4 crc ++ leBytes 1 (if closed then crc8of crc else 0) ++ leBytes 3 0 ++ tab ++
    List.replicate (dataOfs l - 128 - tab.length) 0

/-- The MAGIC of the records that start in a list of segments is set to zero, and they leave the list (R406, R410). -/
def dropRecs (hit : Nat × Nat → Bool) (s : PM) : PM :=
  let gone := s.1.cap.recs.filter hit
  ({ s.1 with cap := { s.1.cap with recs := s.1.cap.recs.filter fun r => !hit r } },
   gone.foldl (fun mem r => mem.writeBytes (getSeg s.1 r.1).addr (leBytes 4 0)) s.2)

/-- The owner of a capture as a receiver of its events (R424). -/
def capFns (c : Cap) : List Nat := if c.owner = 0 then [] else [c.owner]

/-- A capture ends: FREE with LAST_END, and event 0x71. -/
def capEnd (k why : Nat) (m : Pnm) : Pnm :=
  let c := getCap m k
  raise { src := 10, code := 0x71, cls := 2, items := [k, why], fns := capFns c }
    (putCap k { c with state := 0, lastEnd := why, auto := none, held := none } m)

/-- R410, R420: where the next record of a capture goes, from segment `start` on: first segment and number of segments. -/
def capPick (m : Pnm) (c : Cap) (start : Nat) : Option (Nat × Nat) :=
  let S := recSize c.streams c.samples
  let fits := fun (from' : Nat) =>
    let left := c.seg0 + c.segN - from'
    if c.chain then spanFor m from' left 0 S else if 1 ≤ left then some 1 else none
  match fits start with
  | some n => some (start, n)
  | none => if c.full then (fits c.seg0).map fun n => (c.seg0, n) else none

/-- R410, R417, R420: the next record of capture k is placed and the capture is READY; or the capture ends. -/
def capPlace (k start seq gap extra : Nat) (s : PM) : PM :=
  let m := s.1
  let c := getCap m k
  match capPick m c start with
  | none => onM (capEnd k 2) s
  | some (first, n) =>
    let r : Rec := { Rec.init with seq := seq, segFirst := first, span := n, gap := gap, extra := min 65535 extra,
                                   degr := degradeNow m }
    let c1 : Cap := { c with state := 1, cur := r, ready := nowNs m, extra := 0, gap := 0, held := none, lastTrig := none,
                             auto := if c.mode = 2 then some (m.tim.mt + c.tmo * 1000000 * nsU) else none }
    let s1 := dropRecs (fun q => decide (q.1 < first + n ∧ first < q.1 + q.2)) s
    let m2 := putCap k c1 { s1.1 with cap := { s1.1.cap with recs := s1.1.cap.recs ++ [(first, n)] } }
    (m2, writeSegs (segList m2 first n) 0 (recHeader k c1 false false) s1.2)

/-- R417, R406: the current record of capture k closes. -/
def capClose (k : Nat) (truncated : Bool) (s : PM) : PM :=
  let m := s.1
  let c := getCap m k
  let fl := recFlags c truncated
  let mem := writeSegs (segList m c.cur.segFirst c.cur.span) 0 (recHeader k c true truncated) s.2
  let m1 := putCap k { c with records := c.records + 1 } (sb (inc m Reg.CAP_RECORDS) Reg.CAP_FLAGS 1)
  (raise { src := 10, code := 0x70, cls := 1, items := [k, c.cur.segFirst, c.cur.seq % 65536, fl], fns := capFns c } m1, mem)

/-- R406, R408: capture k is disarmed: a record in its post-trigger part closes truncated, another is discarded. Answers
whether one was truncated. -/
def capDisarm (k why : Nat) (s : PM) : PM × Bool :=
  let c := getCap s.1 k
  if c.state = 2 then (onM (capEnd k why) (capClose k true s), true)
  else if c.state = 1 then
    (onM (capEnd k why) (dropRecs (fun q => decide (q.1 = c.cur.segFirst)) s), false)
  else (onM (capEnd k why) s, false)

/-! ## Triggers (R407, R412 to R416) -/

/-- CLASS, CLK_SEL, HOLDOVER and SLEWING for the header. -/
def clkWord (m : Pnm) : Nat :=
  m.tim.cls + 16 * b2n m.tim.selB + 32 * b2n m.tim.hold.isSome + 64 * b2n (decide (slewD m.tim ≠ 0))

/-- The first sample instant at or after an instant in 2^-32 ns (R414). -/
def trigInstant (n ts : Nat) : Nat := cdiv (9 * ts) (max 1 n * unitTick) * n

/-- R414: capture k, which is READY, takes a trigger. -/
def takeTrigger (k ts mask : Nat) (held : Bool) (m : Pnm) : Pnm :=
  let c := getCap m k
  let r := { c.cur with trig := some ts, mask := mask, tTrig := (trigInstant (capN c.streams) ts : Nat), clk := clkWord m,
                        flags := if held then Nat.lor c.cur.flags 2 else c.cur.flags, degr := Nat.lor c.cur.degr (degradeNow m) }
  raise { src := 10, code := 0x72, cls := 3, items := [k, mask % 65536, mask / 65536], fns := capFns c }
    (putCap k { c with state := 2, cur := r, auto := none, lastTrig := some ts } m)

/-- R413, R414: a trigger reaches capture k; answers 1 taken, 2 held, 3 counted only. -/
def capTrigger (k ts mask : Nat) (m : Pnm) : Pnm × Nat :=
  let c := getCap m k
  let both := fun (old : Nat) => if old = 2 ^ 17 then mask else Nat.lor old mask
  if c.state = 1 then (takeTrigger k ts mask false m, 1)
  else if c.state = 2 then
    if c.cur.trig = some ts then (putCap k { c with cur := { c.cur with mask := both c.cur.mask } } m, 1)
    else if c.lastTrig = some ts then (m, 3)
    else (putCap k { c with lastTrig := some ts, cur := { c.cur with ignored := satAdd 65535 c.cur.ignored 1 } } m, 3)
  else if c.state = 3 then
    match c.held with
    | none => (putCap k { c with held := some (ts, mask), lastTrig := some ts } m, 2)
    | some (t, old) =>
      if t = ts then (putCap k { c with held := some (t, both old) } m, 2)
      else if c.lastTrig = some ts then (m, 3)
      else (putCap k { c with lastTrig := some ts, extra := satAdd 65535 c.extra 1 } m, 3)
  else (m, 3)

/-- R413: a trigger on trigger input i. -/
def inputTrigger (i ts : Nat) (m0 : Pnm) : Pnm :=
  let m := snapIf (rb m0 Reg.DIA_SNAP_CFG 3 && decide (rf m0 Reg.DIA_SNAP_CFG 19 16 = i)) 8 m0
  let hit := (armed m).filter fun p => p.2.mask.testBit i
  let t := NMap.get (fun _ => ((0 : Word), (0 : Word))) m.cap.tin i
  let unused := hit.isEmpty
  let m1 := { m with cap := { m.cap with tin := NMap.set (fun _ => ((0 : Word), (0 : Word))) m.cap.tin i
                                            (t.1 + 1, if unused then t.2 + 1 else t.2) } }
  if unused then sb (inc m1 Reg.CAP_TIN_UNUSED) Reg.CAP_FLAGS 2
  else hit.foldl (fun x p => (capTrigger p.1 ts (2 ^ i) x).1) m1

/-- R416: AUTO_TMO_MS has passed without a trigger. -/
def autoTrigger (k : Nat) (m : Pnm) : Pnm :=
  let c := getCap m k
  match c.auto with
  | some t => if c.state = 1 ∧ t ≤ m.tim.mt then (capTrigger k t (2 ^ 17) m).1 else m
  | none => m

/-- R417: re-arm of capture k ends; a held trigger is taken. -/
def rearmDone (k : Nat) (s : PM) : PM :=
  let c := getCap s.1 k
  if c.state = 3 then
    let s1 := capPlace k (c.cur.segFirst + c.cur.span) (c.cur.seq + 1) c.gap c.extra s
    match c.held with
    | some (ts, mask) => if (getCap s1.1 k).state = 1 then onM (takeTrigger k ts mask true) s1 else s1
    | none => s1
  else s

/-! ## Rows (R411, R412, R421) -/

/-- The value and stored quality of a channel (R412). -/
def storedVal (g : Int) (n : Nat) (v : Val) : Int × Nat :=
  let copy := (v.f / 256) % 2 = 1 ∧ (g / ((max 1 n : Nat) : Int)) % 2 = 1
  let sub := v.f % 2 = 1 ∨ copy
  let flagged := Nat.land v.f 0x1C ≠ 0
  (v.v, v.q % 16384 + (if sub then 16384 else 0) + (if flagged then 32768 else 0))

/-- One block of eight channels. -/
def blockBytes (l : List (Int × Nat)) : List Byte :=
  let g := fun i => l.getD i ((0 : Int), 0)
  (List.range 8).flatMap (fun i => leBytes 4 (ux 32 (g i).1)) ++ (List.range 8).flatMap (fun i => leBytes 2 (g i).2)

/-- The values of a stream in the row of instant t. -/
def streamVals (m : Pnm) (lost : List Nat) (t : Int) (s : List Nat) : List (Int × Nat) × Nat :=
  let i := s.getD 0 0
  let bad := (List.replicate (s.getD 2 0) ((0 : Int), 0x4001), 16)
  if lost.contains i then bad
  else match (getStream m i).hist.find? (fun h => decide (h.1 = t)) with
  | none => bad
  | some h =>
    let l := h.2.map (storedVal t (svN (s.getD 1 0)))
    (l, 16 * b2n (l.any fun v => v.2.testBit 14) + 32 * b2n (h.2.any fun v => v.f.testBit 8) +
      64 * b2n (l.any fun v => v.2.testBit 15))

/-- A row with its check fields (CAP table 3), and the header flags that it sets. -/
def rowBytes (m : Pnm) (c : Cap) (t : Int) : List Byte × Nat :=
  let n := capN c.streams
  let r := c.streams.foldl (fun (a : List Byte × Nat) s =>
    let v := streamVals m c.lost t s
    (a.1 ++ (List.range (sBlocks s)).flatMap (fun b => blockBytes (v.1.drop (8 * b) |>.take 8)), Nat.lor a.2 v.2)) ([], 0)
  let tag := ((t % (ticksPerSec : Int)).toNat / max 1 n) % 65536
  let body := r.1 ++ leBytes 2 tag
  let crc := crc32c body
  (body ++ leBytes 1 (crc8of crc) ++ leBytes 1 0 ++ leBytes 4 crc, r.2)

/-- R411: the row of instant t enters capture k. -/
def capRow (k : Nat) (s : PM) (t : Int) : PM :=
  let m := s.1
  let c := getCap m k
  let n := max 1 (capN c.streams)
  if c.state = 3 then onM (putCap k { c with gap := c.gap + 1 }) s
  else if c.state = 0 then s
  else
    let row := rowBytes m c t
    let first := c.cur.first.getD t
    let r := { c.cur with first := some first, flags := Nat.lor c.cur.flags row.2, degr := Nat.lor c.cur.degr (degradeNow m) }
    let put := fun (slot : Nat) (x : Memory) =>
      writeSegs (segList m r.segFirst r.span) (dataOfs c.streams + slot * rowLen c.streams) row.1 x
    if c.state = 1 ∨ t < r.tTrig then
      if c.pos = 0 then onM (putCap k { c with cur := r }) s
      else (putCap k { c with cur := r } m, put (((t - first) / (n : Int)).toNat % c.pos) s.2)
    else
      let i := ((t - r.tTrig) / (n : Int)).toNat
      let s1 : PM := (putCap k { c with cur := { r with post := i + 1 } } m, put (c.pos + i) s.2)
      if i + 1 < c.samples - c.pos then s1
      else
        let s2 := capClose k false s1
        let c2 := getCap s2.1 k
        if c2.mode = 0 then onM (capEnd k 1) s2
        else onM (putCap k { c2 with state := 3, gap := 0, extra := 0, held := none }) s2

/-- R412: streams whose entry was disabled or changed are lost for the rest of the capture. -/
def noteLost (m : Pnm) (c : Cap) : Cap :=
  let gone := c.streams.filter fun s =>
    let e := subEntry m (s.getD 0 0)
    !fbit e 0 0 || decide (eRate e ≠ s.getD 1 0) || decide (eCh e ≠ s.getD 2 0)
  { c with lost := (c.lost ++ gone.map fun s => s.getD 0 0).eraseDups }

/-- The instants whose rows the close of plane tick T delivers to a capture: from the module before and after the close. -/
def rowInstants (m0 m1 : Pnm) (c : Cap) (T : Nat) : List Int :=
  let n := max 1 (capN c.streams)
  let live := (c.streams.map fun s => s.getD 0 0).filter fun i => !c.lost.contains i
  let first := fun (i : Nat) =>
    match (getStream m0 i).next with
    | some g => g
    | none => (getStream m1 i).hist.foldl (fun a h => min a h.1) (((getStream m1 i).next).getD 0)
  let stop := fun (i : Nat) => ((getStream m1 i).next).getD 0
  let lo := match live with
    | [] => ((T - planeTicks m1 : Nat) : Int) / n * n + n
    | i :: l => l.foldl (fun a j => min a (first j)) (first i)
  let hi := match live with
    | [] => (T : Int) / n * n + n
    | i :: l => l.foldl (fun a j => min a (stop j)) (stop i)
  (List.range (((hi - lo) / (n : Int)).toNat)).map fun (x : Nat) => lo + x * n

/-- R411: the rows of every armed capture at the close of plane tick T; `m0` is the module before the close. -/
def captureRows (m0 : Pnm) (T : Nat) (s : PM) : PM :=
  let r := (armed s.1).foldl (fun (x : PM) p =>
    let c := noteLost x.1 (getCap x.1 p.1)
    (rowInstants m0 x.1 c T).foldl (capRow p.1) (putCap p.1 c x.1, x.2)) s
  ({ r.1 with svi := { r.1.svi with streams := r.1.svi.streams.map fun q =>
      (q.1, { q.2 with hist := q.2.hist.filter fun h => decide ((T : Int) < h.1) }) } }, r.2)

/-! ## Commands (R403 to R408) -/

/-- The view word of function f in force now (R124). -/
def viewNow (m : Pnm) (f : Nat) : Word := viewAt m f (m.svi.nextTick - 1)

/-- A strictly ascending list. -/
def ascending : List Nat → Bool
  | [] => true
  | [_] => true
  | a :: b :: t => decide (a < b) && ascending (b :: t)

/-- R404: the checks of an arming: status, RESULT1, and the streams. -/
def armCheck (f : Nat) (p : CapArm) (m : Pnm) : Nat × Nat :=
  let ids := (p.streams.take p.streamCount.toNat).map (·.toNat)
  let infos := ids.map fun i => streamInfo i (subEntry m i)
  let segs := List.range' p.firstSeg.toNat p.segCount.toNat
  let v := viewNow m f
  let S := recSize infos p.recSamples.toNat
  let sizes := segList m p.firstSeg.toNat p.segCount.toNat
  if p.streamCount = 0 ∨ p.segCount = 0 ∨ p.recSamples = 0 ∨ p.trigMask = 0 then (0x01, 0)
  else if p.mode = 3 ∨ p.trigMask.getLsbD 17 ∨
      (p.mode = 2 ∧ (p.autoTmoMs = 0 ∨ 3600000 < p.autoTmoMs.toNat)) ∨ 1024 < p.streamCount.toNat ∨
      65536 < p.firstSeg.toNat + p.segCount.toNat ∨ p.recSamples.toNat ≤ p.pos.toNat ∨ ascending ids = false ∨
      ids.any (fun i => decide (1023 < i)) ∨ ids.any (fun i => !fbit (subEntry m i) 0 0) ∨
      infos.any (fun s => decide (s.getD 1 0 ≠ (infos.headD []).getD 1 0)) ∨ rb m Reg.CAP_CTRL 0 = false then (0x14, 0)
  else if segs.any (fun i => decide ((getSeg m i).grant ≠ f) || (getSeg m i).clearing.isSome || inCapture m i) ∨
      (f ≠ 0 ∧ infos.any (fun s => decide (s.getD 3 0 < bits v 12 0 ∨ bits v 12 0 + bits v 29 16 < s.getD 3 0 + s.getD 2 0))) then
    (0x16, 0)
  else if 32 ≤ (armed m).length then (0x17, 1)
  else if 960000000 < (armed m).foldl (fun a q => a + q.2.load) 0 + capLoad infos then (0x17, 2)
  else if (if p.chain then decide (sizes.foldl (fun a x => a + x.2) 0 < S) else sizes.any (fun x => decide (x.2 < S))) then (0x1D, 0)
  else (0, 0)

/-- The lowest FREE context. -/
def freeCap (m : Pnm) : Nat := ((List.range 32).find? fun k => decide ((getCap m k).state = 0)).getD 0

/-- R404: capture k is armed by function f. -/
def armAt (k f : Nat) (p : CapArm) (s : PM) : PM :=
  let ids := (p.streams.take p.streamCount.toNat).map (·.toNat)
  let infos := ids.map fun i => streamInfo i (subEntry s.1 i)
  let c : Cap :=
    { Cap.init k with
      mode := p.mode.toNat, chain := p.chain, full := p.fullPol, owner := f, streams := infos, mask := p.trigMask.toNat,
      samples := p.recSamples.toNat, pos := p.pos.toNat, seg0 := p.firstSeg.toNat, segN := p.segCount.toNat,
      tmo := p.autoTmoMs.toNat, load := capLoad infos, lastEnd := (getCap s.1 k).lastEnd }
  capPlace k c.seg0 0 0xFFFFFFFF 0 (onM (putCap k c) s)

/-- R404: CAPTURE_ARM. -/
def captureArm (f : Nat) (p : CapArm) (s : PM) : PM × Ans :=
  let r := armCheck f p s.1
  if r.1 = 0 then
    let k := freeCap s.1
    let s1 := armAt k f p s
    (s1, ansR 0 k (cdiv (recSize (getCap s1.1 k).streams p.recSamples.toNat) 16384))
  else (s, ansR r.1 0 r.2)

/-- R423: a mirrored arming of capture k at the standby, which arms it or says why it cannot. -/
def armMirrored (k f : Nat) (p : CapArm) (s : PM) : PM :=
  let r := (armCheck f p s.1).1
  let st := if r = 0 ∧ (getCap s.1 k).state ≠ 0 then 0x17 else r
  if st = 0 then armAt k f p s
  else (raise { src := 10, code := 0x73, cls := 2, items := [k, st] } s.1, s.2)

/-- R406: CAPTURE_DISARM. -/
def captureDisarm (f k : Nat) (s : PM) : PM × Ans :=
  let c := getCap s.1 k
  if c.state = 0 ∨ c.owner ≠ f then (s, ans 0x16)
  else
    let r := capDisarm k 3 s
    (r.1, ansR 0 (getCap r.1.1 k).records (b2n r.2))

/-- R407: CAPTURE_FORCE with the acceptance instant. -/
def captureForce (ts f k : Nat) (m : Pnm) : Pnm × Ans :=
  let c := getCap m k
  if c.state = 0 ∨ c.owner ≠ f then (m, ans 0x16)
  else if c.mask.testBit 16 = false then (m, ans 0x14)
  else
    let r := capTrigger k ts (2 ^ 16) m
    (r.1, ansR 0 r.2 0)

/-- R408: the captures of a function, or every capture, are disarmed. -/
def disarmAll (which : Cap → Bool) (why : Nat) (s : PM) : PM :=
  ((armed s.1).filter fun p => which p.2).foldl (fun x p => (capDisarm p.1 why x).1) s

/-! ## The window and views (R425) -/

/-- CAP table 6: the words of an entry. -/
def capWords (m : Pnm) (t i : Nat) : List Word :=
  if t = 0 then
    let x := getSeg m i
    [loW (x.base + 2 ^ 31 * b2n x.en), loW (x.size + 65536 * x.grant), 0, 0, 0, 0, 0, 0]
  else if t = 1 then
    let x := getSeg m i
    [loW (b2n x.clearing.isSome + 2 * b2n (inCapture m i) + 65536 * x.last), 0, 0, 0, 0, 0, 0, 0]
  else if t = 2 then
    let c := getCap m i
    [loW (c.state + 16 * c.lastEnd + 256 * c.mode + 1024 * b2n c.chain + 2048 * b2n c.full + 65536 * c.owner),
     loW c.cur.seq, loW c.cur.segFirst, loW c.records, loW c.ready, hiW c.ready, loW c.load, 0]
  else
    let x := NMap.get (fun _ => ((0 : Word), (0 : Word))) m.cap.tin i
    [x.1, x.2, 0, 0, 0, 0, 0, 0]

/-- Entries of each CAP table. -/
def capSize (t : Nat) : Nat := if t ≤ 1 then 65536 else if t = 2 then 32 else if t = 3 then 16 else 0

/-- A GO with WRITE 0. -/
def capTblRead (cmd : Word) (m : Pnm) : Pnm :=
  let m1 := storeCmd Reg.CAP_TBL_CMD 0x0017FFFF cmd m
  let t := bits cmd 18 16
  if capSize t ≤ bits cmd 15 0 then sb m1 Reg.CAP_TBL_STAT 1
  else wrs m1 Reg.CAP_TBL_DATA (capWords m t (bits cmd 15 0))

/-- A GO with WRITE 1: only table 0 can be written. -/
def capTblWrite (cmd : Word) (m : Pnm) : Pnm :=
  let m1 := storeCmd Reg.CAP_TBL_CMD 0x0017FFFF cmd m
  let t := bits cmd 18 16
  if t = 0 then segWrite (bits cmd 15 0) (rd m Reg.CAP_TBL_DATA) (rd m (Reg.CAP_TBL_DATA + 4)) m1
  else if t ≤ 3 then capErr 8 (bits cmd 15 0) (sb m1 Reg.CAP_TBL_STAT 1)
  else sb m1 Reg.CAP_TBL_STAT 1

/-- A write of CAP_CTRL: EN clears only while no capture is armed. -/
def capCtrlWrite (data : Word) (m : Pnm) : Pnm :=
  if bit data 0 = false ∧ armed m ≠ [] then capErr 9 0 m else wr m Reg.CAP_CTRL (data &&& 1)

/-- CAP_STAT (CAP table 7). -/
def capStatWord (m : Pnm) : Word :=
  loW ((armed m).length + 65536 * min 1023 ((armed m).foldl (fun a q => a + q.2.load) 0 / 1000000))

end Sys2Proof.Machine
end

