-- ==== Sys2Proof/Machine/Hif.lean ====
section
/-! DEFINITION. Rings of a function: completions, write-back, vectors, the output mirror, doorbell reads, fetching, ring
errors, enabling and disabling (R341 to R347, R354, R360, R361, R367). -/

namespace Sys2Proof.Machine

/-- The state of function f. -/
def getFn (m : Pnm) (f : Nat) : FnState := NMap.get FnState.init m.hif.fns f
def putFn (f : Nat) (s : FnState) (m : Pnm) : Pnm :=
  { m with hif := { m.hif with fns := NMap.set FnState.init m.hif.fns f s } }
def modFn (f : Nat) (g : FnState → FnState) (m : Pnm) : Pnm := putFn f (g (getFn m f)) m

/-- The event path of function f. -/
def getEvt (m : Pnm) (f : Nat) : EvtFn := NMap.get EvtFn.init m.tel.evts f
def putEvt (f : Nat) (e : EvtFn) (m : Pnm) : Pnm :=
  { m with tel := { m.tel with evts := NMap.set EvtFn.init m.tel.evts f e } }

/-- The functions that exist: the PF and the VFs that are not ABSENT. -/
def fnList (m : Pnm) : List Nat := 0 :: vfList m

/-- The state of VF f; the PF is always IN_SERVICE (R373). -/
def vfState (m : Pnm) (f : Nat) : VfState :=
  if f = 0 then .inService else NMap.get (fun _ => VfState.absent) m.hif.vfs f

/-- Functions that receive an event that concerns f, beside the PF (R359). -/
def evtOf (f : Nat) : List Nat := if f = 0 then [] else [f]

/-! ## Ring entries -/

/-- Module index of ring r. -/
def modIdx (m : Pnm) (f r : Nat) : Nat := if r = 4 then (getEvt m f).prod else (getFn m f).modIdx.getD r 0

/-- Host index of ring r. -/
def hostIdx (m : Pnm) (f r : Nat) : Nat := if r = 4 then (getEvt m f).cons else (getFn m f).hostIdx.getD r 0

/-- Ring r of f is enabled and present. -/
def ringOn (m : Pnm) (f r : Nat) : Bool := fnOn m f && decide (0 < ringSize m f r)

/-- Free entries of a ring that the module writes (R342). -/
def ringFree (m : Pnm) (f r : Nat) : Nat :=
  if ringOn m f r then ringSize m f r - (modIdx m f r - hostIdx m f r) else 0

/-- Entry sizes in bytes (HIF table 3). -/
def entrySize (r : Nat) : Nat := if r = 0 then 64 else 32

/-- A 32-byte entry is written to a module-written ring other than the event ring, with its PHASE (R343). -/
def ringPut (f r : Nat) (w : List Word) (m : Pnm) : Pnm :=
  let i := modIdx m f r
  let w' := modAt w 1 fun x => setBit x 31 (decide (phaseBit (ringSize m f r) i ≠ 0))
  modFn f (fun s => { s with modIdx := setAt s.modIdx r (i + 1), changed := true })
    (emit m [.write f (ringAddr m f r i 32) w'])

/-- A vector waits for the write-back that covers its entries (R361). -/
def vecDue (f v : Nat) (m : Pnm) : Pnm :=
  modFn f (fun s => if s.vecs.contains v then s else { s with vecs := s.vecs ++ [v] }) m

/-- A vector is sent now, or held in the PBA while it is masked (R361). -/
def vecSend (f v : Nat) (m : Pnm) : Pnm :=
  putEvt f ((getEvt m f).hold m f v) (emit m (msixOut m f v))

/-- The words of a completion entry without PHASE (HIF tables 11 and 12). -/
def cplWords (c : Cpl) (backlog : Bool) : List Word :=
  match c.rx with
  | some x =>
    [c.ref.seq, loW (x.status + 2 ^ 17 + 2 ^ 18 * x.clk + 2 ^ 20 * x.port), loW x.tsNs, hiW x.tsNs, loW x.tsFrac,
     loW (c.r0.toNat + 2 ^ 16 * x.vid + 2 ^ 28 * x.pcp), loW x.origLen, 0]
  | none =>
    [c.ref.seq,
     loW (c.ref.opcode + 2 ^ 8 * c.status + 2 ^ 16 * b2n c.bulk + 2 ^ 18 * b2n c.late + 2 ^ 19 * b2n c.replaced +
       2 ^ 20 * b2n c.ref.kick + 2 ^ 21 * b2n backlog + 2 ^ 22 * b2n c.ref.unmirrored + 2 ^ 23 * b2n c.ref.reaccepted),
     loW c.ref.acceptNs, hiW c.ref.acceptNs, loW c.doneNs, hiW c.doneNs, c.r0, c.r1]

/-- The vector of a completion (HIF table 13a). -/
def cplVec (c : Cpl) : Nat := if c.rx.isSome then 6 else 0

/-- A completion is written to its ring, or held in the backlog while the ring is not enabled (R344, R367). A bulk completion
is not held. -/
def cplWrite (m : Pnm) (c : Cpl) : Pnm :=
  let f := c.ref.fn
  let less := fun (s : FnState) => if c.bulk then s else { s with outstanding := s.outstanding - 1 }
  if ringOn m f 3 then vecDue f (cplVec c) (modFn f less (ringPut f 3 (cplWords c false) m))
  else if c.bulk then m
  else modFn f (fun s => less { s with backlog := (s.backlog ++ [c]).take 64 }) m

/-- R364: the completions that are due for the functions of `p` are written. -/
def cplFlush (p : Nat → Bool) (m : Pnm) : Pnm :=
  let due := m.hif.cplDue.filter fun c => p c.ref.fn
  let m1 := { m with hif := { m.hif with cplDue := m.hif.cplDue.filter fun c => !p c.ref.fn } }
  due.foldl cplWrite m1

/-- R367: the backlog of a function whose rings are enabled is written in order, with BACKLOG set. -/
def backlogWrite (f : Nat) (m : Pnm) : Pnm :=
  if ringOn m f 3 then
    let s := getFn m f
    let n := ringFree m f 3
    if s.backlog = [] then m
    else
      let m1 := (s.backlog.take n).foldl (fun a c => ringPut f 3 (cplWords c true) a)
        (putFn f { s with backlog := s.backlog.drop n } m)
      vecDue f 5 (vecDue f 0 m1)
  else m

/-- The write-back block (HIF table 5). -/
def wbWords (m : Pnm) (f : Nat) : List Word :=
  let s := getFn m f
  [loW (modIdx m f 0), loW (modIdx m f 1), loW (modIdx m f 2), loW (modIdx m f 3), loW (modIdx m f 4),
   loW (modIdx m f 5), s.accSeq, loW (s.pendSet.length % 128 + 2 ^ 16 * (m.hif.epoch % 65536)),
   loW m.hif.pollNs, hiW m.hif.pollNs, loW s.planeSeq,
   loW (b2n s.errRing.isSome + 2 * b2n (stepOn m 6) + 4 * b2n (decide (s.backlog ≠ []))), 0, 0, 0, 0]

/-- A 64-bit address held in two function registers. -/
def fnAddr (m : Pnm) (f o : Nat) : Nat := (rd m (Reg.fn f o)).toNat + 2 ^ 32 * (rd m (Reg.fn f (o + 4))).toNat

/-- R347, R361: the write-back block is written as one posted write, and then the vectors that wait, each at most once per
plane tick (`atOnce` names vectors exempt from that). -/
def writeBack (f : Nat) (atOnce : List Nat) (m : Pnm) : Pnm :=
  if fnOn m f then
    let m1 := emit (modFn f (fun s => { s with changed := false }) m) [.write f (fnAddr m f 0x18) (wbWords m f)]
    let s := getFn m1 f
    let go := s.vecs.filter fun v => atOnce.contains v || !s.sent.contains v
    let m2 := putFn f { s with vecs := s.vecs.filter fun v => !go.contains v, sent := s.sent ++ go } m1
    (sortBy (fun a b => decide (a ≤ b)) go).foldl (fun a v => vecSend f v a) m2
  else m

/-- R491, R492: pending events of f are written to its event ring at a write-back. -/
def eventsWrite (f : Nat) (m : Pnm) : Pnm :=
  if evtRingOn m f then
    let e := getEvt m f
    let r := e.drain m f false
    let m1 := putEvt f r.1 { m with tel := { m.tel with out := m.tel.out ++ r.2 } }
    if r.2 = [] then m1
    else
      let vs := e.pend.map fun p => evtVector m f p.code p.cls
      let more := if e.tally.any (· ≠ 0) then [1] else []
      (vs ++ more).foldl (fun a v => vecDue f v a) (modFn f (fun s => { s with changed := true }) m1)
  else m

/-! ## Output mirror (R360) -/

def getOw (m : Pnm) (w : Nat) : OutWord := NMap.get OutWord.init m.cye.ow w
def putOw (w : Nat) (o : OutWord) (m : Pnm) : Pnm :=
  { m with cye := { m.cye with ow := NMap.set OutWord.init m.cye.ow w o } }

/-- An output mirror entry (R360). -/
def mirrorWords (w : Nat) (o : OutWord) (coal : Bool) : List Word :=
  [loW (w + 2 ^ 16 * b2n coal), loW (o.q % 65536), loW o.value, hiW o.value, loW o.ns, hiW o.ns, loW (o.task % 512), 0]

/-- A release to host output word w: stored, and mirrored to its owner where it differs from what was mirrored last. -/
def hostOut (w value q at' task : Nat) (m : Pnm) : Pnm :=
  let o := getOw m w
  let o1 : OutWord := { value := value, q := q, ns := at' / unitNs, task := task, mirrored := o.mirrored }
  let cfg := rd m (Reg.HIF_OW + 4 * w)
  let f := bits cfg 8 0
  if bit cfg 9 ∧ o.mirrored ≠ some (value, q) then
    let m1 := putOw w { o1 with mirrored := some (value, q) } m
    if f ≤ 256 ∧ ringOn m f 5 then
      if (getFn m1 f).marked ≠ [] ∨ ringFree m1 f 5 = 0 then
        modFn f (fun s => if s.marked.contains w then s else { s with marked := s.marked ++ [w] }) m1
      else vecDue f 4 (ringPut f 5 (mirrorWords w o1 false) m1)
    else m1
  else putOw w o1 m

/-- R360: the first release of every word after program start or takeover is mirrored. -/
def mirrorFresh (m : Pnm) : Pnm :=
  let l := (m.cye.ow.map fun p => (p.1, { p.2 with mirrored := none })).filter fun p => decide (p.2 ≠ OutWord.init p.1)
  { m with cye := { m.cye with ow := l } }

/-- R360: space has returned in the output mirror ring: marked words in ascending order, with COALESCED. -/
def mirrorSpace (f : Nat) (m : Pnm) : Pnm :=
  let s := getFn m f
  if s.marked = [] ∨ !ringOn m f 5 then m
  else
    let ws := sortBy (fun a b => decide (a ≤ b)) s.marked
    let n := ringFree m f 5
    let m1 := putFn f { s with marked := ws.drop n } m
    let m2 := (ws.take n).foldl (fun a w => ringPut f 5 (mirrorWords w (getOw a w) true) a) m1
    if n = 0 then m2 else writeBack f [] (vecDue f 4 m2)

/-! ## Enabling, disabling and ring errors (R344, R345) -/

/-- Fetching for f stops and fetched commands that have not been accepted are discarded, as by a write of EN = 0. -/
def stopRings (f : Nat) (m : Pnm) : Pnm :=
  let m1 := wf m (Reg.fn f 0) 0 0 0
  let posts := if f = 0 then [] else m1.hif.rxPosts
  let hif := { m1.hif with dbWait := m1.hif.dbWait.filter (· ≠ f), kickWait := m1.hif.kickWait.filter (· ≠ f), rxPosts := posts,
                           inFlight := m1.hif.inFlight.filter fun x => decide (x.1 ≠ f) }
  modFn f (fun s =>
    { s with outstanding := s.outstanding - s.cmds.length - s.inFetch, cmds := [], inFetch := 0, bulks := [],
             planes := [], kick := false, vecs := [] }) { m1 with hif := hif }

/-- A ring error of f (R345): ring r, 6 the doorbell block. -/
def ringError (f r : Nat) (m : Pnm) : Pnm :=
  let m1 := raise { src := 9, code := 0x18, cls := 2, items := [f, r], fns := evtOf f } m
  let m2 := sb (sb m1 (Reg.fn f 8) 1) Reg.HIF_FLAGS 1
  let m3 := vecDue f 5 (modFn f (fun s => { s with errRing := some r }) m2)
  stopRings f (writeBack f [5] m3)

/-- The cause of HIF_FN_CFG_ERR that refuses EN = 1; 0 none (R344). -/
def enableCheck (m : Pnm) (f : Nat) : Nat :=
  let size := fun (r : Nat) => rf m (ringReg f r 8) 3 0
  let rings := List.range 6
  if size 0 = 0 then 2
  else if size 3 = 0 then 3
  else if rings.any (fun r => decide (size r ≠ 0 ∧ (size r < 4 ∨ 12 < size r))) then 4
  else if rings.any (fun r => decide (size r ≠ 0 ∧ rf m (ringReg f r 0) 11 0 ≠ 0)) then 5
  else if rf m (Reg.fn f 0x10) 5 0 ≠ 0 then 6
  else if rf m (Reg.fn f 0x18) 5 0 ≠ 0 then 7
  else 0

/-- A cause in HIF_FN_CFG_ERR, with CFG_REJECT (R344). -/
def fnErr (f code : Nat) (m : Pnm) : Pnm := sb (cfgErr m (Reg.fn f 0xC) code) (Reg.fn f 8) 0

/-- A write of HIF_FN_CTRL.EN = 1 with its KICK_EN (R344): every index becomes 0, the backlog is written, and the reset report
is raised at the first enabling after a module reset (R368). -/
def fnEnable (f : Nat) (kickEn : Bool) (m : Pnm) : Pnm :=
  if vfState m f ≠ .inService then m
  else if fnOn m f then (if kickEn = rb m (Reg.fn f 0) 1 then m else fnErr f 1 m)
  else
    let c := enableCheck m f
    if c ≠ 0 then fnErr f c (wf m (Reg.fn f 0) 1 1 (b2n kickEn))
    else
      let m1 := wr m (Reg.fn f 0) (loW (1 + 2 * b2n kickEn))
      let s := getFn m1 f
      let m2 := putFn f { s with hostIdx := List.replicate 6 0, modIdx := List.replicate 6 0, fetchedIdx := 0, bulkIdx := 0,
                                 errRing := none, marked := [], missing := false, reportDue := false } m1
      let m3 := putEvt f { getEvt m2 f with prod := 0, cons := 0 } m2
      let m4 := raiseIf s.reportDue { src := 9, code := 0x1A, cls := 1, items := [m.hif.epoch % 65536, s.reaccept.length],
                                      fns := evtOf f } m3
      backlogWrite f (if s.reportDue then vecDue f 5 m4 else m4)

/-- A write of HIF_FN_CTRL.EN = 0 with its KICK_EN (R344). -/
def fnDisable (f : Nat) (kickEn : Bool) (m : Pnm) : Pnm :=
  if vfState m f ≠ .inService then m
  else if fnOn m f then wf (stopRings f m) (Reg.fn f 0) 1 1 (b2n kickEn)
  else wf m (Reg.fn f 0) 1 1 (b2n kickEn)

/-- A write of a function register other than CTRL (R344, R376): refused while EN is 1. `bits` are the fields it stores. -/
def fnRegWrite (f o : Nat) (mask data : Word) (m : Pnm) : Pnm :=
  if vfState m f ≠ .inService then m
  else if fnOn m f then fnErr f 1 m
  else wr m (Reg.fn f o) (data &&& mask)

/-! ## Doorbell reads and fetching (R346, R348, R349, R354) -/

/-- The command share of f, which limits its outstanding commands (R354, R382). -/
def cmdShare (m : Pnm) (f : Nat) : Nat := rf m (Reg.shr f 2) 6 0

/-- Outstanding commands of the module (R354). -/
def outstandingAll (m : Pnm) : Nat := m.hif.fns.foldl (fun a p => a + p.2.outstanding) 0

/-- Completion-ring entries of f that fetched bulk descriptors will need. -/
def bulkOpen (m : Pnm) (f : Nat) : Nat :=
  let s := getFn m f
  (s.bulkIdx - s.modIdx.getD 1 0) + s.bulks.length + (m.hif.cplDue.filter fun c => decide (c.bulk = true ∧ c.ref.fn = f)).length +
    (if f = 0 then m.hif.rxPosts.length else 0)

/-- R354: one more descriptor of f may be fetched. -/
def roomFor (m : Pnm) (f : Nat) : Bool := decide ((getFn m f).outstanding + bulkOpen m f < ringFree m f 3)

/-- R349, R354, R382: a command descriptor of f can be fetched. -/
def canFetch (m : Pnm) (f : Nat) : Bool :=
  let s := getFn m f
  fnOn m f && rb m Reg.HIF_CTRL 0 && decide (s.fetchedIdx < hostIdx m f 0) &&
  decide (s.outstanding < min 64 (cmdShare m f)) && decide (outstandingAll m < 4096) && roomFor m f &&
  hifFetches m

/-- The read of one command descriptor is issued. -/
def fetchOne (f : Nat) (m : Pnm) : Pnm :=
  let s := getFn m f
  let s' := { s with fetchedIdx := s.fetchedIdx + 1, inFetch := s.inFetch + 1, outstanding := s.outstanding + 1,
                     modIdx := setAt s.modIdx 0 (s.fetchedIdx + 1), changed := true }
  let m1 := emit (putFn f s' m) [.read f (ringAddr m f 0 s.fetchedIdx 64) 64]
  { m1 with hif := { m1.hif with lastServed := f, quota := m1.hif.quota - 1 } }

/-- The first function after `last` in ascending order, wrapping. -/
def afterFn (last : Nat) (l : List Nat) : Option Nat :=
  match l.find? (fun f => decide (last < f)) with
  | some f => some f
  | none => l.head?

/-- R349, R396: one command per function per turn, from the function after the last one served. -/
def fetchRound (fns : List Nat) : Nat → Pnm → Pnm
  | 0, m => m
  | n + 1, m =>
    if m.hif.quota = 0 then m
    else match afterFn m.hif.lastServed (fns.filter (canFetch m)) with
      | some f => fetchRound fns n (fetchOne f m)
      | none => m

/-- R354: the reads of posted bulk descriptors of f are issued. -/
def fetchBulk (f : Nat) : Nat → Pnm → Pnm
  | 0, m => m
  | n + 1, m =>
    let s := getFn m f
    if ringOn m f 1 && decide (s.bulkIdx < hostIdx m f 1) && roomFor m f && rb m Reg.HIF_CTRL 0 && hifFetches m then
      fetchBulk f n (emit (putFn f { s with bulkIdx := s.bulkIdx + 1 } m) [.read f (ringAddr m f 1 s.bulkIdx 32) 32])
    else m

/-- The host index of ring r that a 32-bit doorbell field stands for (R342): not behind the module index of a host-written
ring, not ahead of that of a module-written one. -/
def hostOf (m : Pnm) (f r v : Nat) : Nat :=
  let i := modIdx m f r
  if r < 3 then i + (v + 2 ^ 32 - i % 2 ^ 32) % 2 ^ 32 else i - (i + 2 ^ 32 - v) % 2 ^ 32

/-- R342, R345: the index lies beyond its limits. -/
def beyond (m : Pnm) (f r v : Nat) : Bool :=
  let i := modIdx m f r
  let gap := if r < 3 then (v + 2 ^ 32 - i % 2 ^ 32) % 2 ^ 32 else (i % 2 ^ 32 + 2 ^ 32 - v) % 2 ^ 32
  decide (ringSize m f r < gap)

/-- The fields of a doorbell block in ring order (HIF table 4). -/
def dbFields (d : Doorbell) : List Nat :=
  [d.cmdProd.toNat, d.bulkProd.toNat, d.planeProd.toNat, d.cplCons.toNat, d.evtCons.toNat, d.mirCons.toNat]

/-- R346, R348 to R350: the doorbell block of f arrives, with the plane-buffer descriptors whose reads it brings about. `ok`
is false where the read failed. -/
def doorbellDone (f : Nat) (ok : Bool) (d : Doorbell) (planes : List PlaneDesc) (m : Pnm) : Pnm :=
  let poll := m.hif.dbWait.contains f
  let kicked := m.hif.kickWait.contains f
  if !fnOn m f || !(poll || kicked) then m
  else
    let m0 := { m with hif := { m.hif with dbWait := m.hif.dbWait.filter (· ≠ f),
                                           kickWait := if poll then m.hif.kickWait else m.hif.kickWait.filter (· ≠ f) } }
    let v := dbFields d
    let m1 :=
      if !ok then ringError f 6 m0
      else match (List.range 6).find? (fun r => ringOn m0 f r && beyond m0 f r (v.getD r 0)) with
        | some r => ringError f r m0
        | none =>
          let idx := (List.range 6).map fun r => if ringOn m0 f r then hostOf m0 f r (v.getD r 0) else hostIdx m0 f r
          let s := getFn m0 f
          let n := idx.getD 2 0 - s.modIdx.getD 2 0 - s.planes.length
          let ps := if poll then (planes.take n).map fun p => (m0.hif.pollNs * unitNs, p) else []
          let m2 := putFn f { s with hostIdx := idx, planes := s.planes ++ ps } m0
          let m3 := putEvt f { getEvt m2 f with cons := idx.getD 4 0 } m2
          fetchBulk f 4096 (mirrorSpace f (backlogWrite f m3))
    if poll then (if m1.hif.dbWait = [] then fetchRound (fnList m1) 512 m1 else m1)
    else if fnOn m1 f then fetchRound [f] 64 { m1 with hif := { m1.hif with quota := max m1.hif.quota 64 } } else m1

/-- R348: at a plane tick the doorbell reads of all enabled functions are issued, and A(k) is fixed (R349). -/
def doorbellPoll (T : Nat) (m : Pnm) : Pnm :=
  let acc := gridInstant T + rf m Reg.HIF_POLL 6 0 * 1000 * unitNs
  let fns := (m.hif.fns.map fun p => (p.1, { p.2 with sent := [] })).filter fun p => decide (p.2 ≠ FnState.init p.1)
  let m1 := { m with hif := { m.hif with accAt := some acc, pollNs := gridInstant T / unitNs, fns := fns } }
  if rb m Reg.HIF_CTRL 0 ∧ hifFetches m then
    let on := (fnList m1).filter (fnOn m1)
    emit { m1 with hif := { m1.hif with dbWait := on, quota := 512 } } (on.map fun f => .read f (fnAddr m1 f 0x10) 64)
  else { m1 with hif := { m1.hif with dbWait := [] } }

/-- A write to the kick page of f (R350). -/
def kick (f : Nat) (m : Pnm) : Pnm :=
  let s := getFn m f
  if !fnOn m f || !rb m (Reg.fn f 0) 1 || !rb m Reg.HIF_CTRL 0 || !hifFetches m then m
  else if s.kickEdge ≠ 0 ∧ m.tim.edge ≤ s.kickEdge + 10 * edgesUs then m
  else
    let m1 := putFn f { s with kick := true, kickEdge := m.tim.edge } m
    let wait := m.hif.kickWait.filter (· ≠ f) ++ [f]
    emit { m1 with hif := { m1.hif with kickWait := wait } } [.read f (fnAddr m f 0x10) 64]

end Sys2Proof.Machine
end

