-- ==== Sys2Proof/Machine/Image.lean ====
section
/-! DEFINITION. Program images of the cycle engine: their form (R256), the image rules (R204, R207, R224, R237, R239) and
the verification of a loaded image (R257 to R261). -/

namespace Sys2Proof.Machine

/-! ## Fields of table entries -/

/-- Fields of a task-table entry (CYE table 1). -/
def tEn (e : List Word) : Bool := fbit e 0 0
def tHalve (e : List Word) : Bool := fbit e 0 1
def tSafe (e : List Word) : Bool := fbit e 0 2
def tCore (e : List Word) : Nat := fld e 0 7 4
def tPrio (e : List Word) : Nat := fld e 0 15 8
def tPeriod (e : List Word) : Nat := fld e 1 15 0
def tOffset (e : List Word) : Nat := fld e 1 31 16
def tDeadline (e : List Word) : Nat := (wrd e 2).toNat
def tBudget (e : List Word) : Nat := (wrd e 3).toNat
def tInBase (e : List Word) : Nat := fld e 7 15 0
def tInCount (e : List Word) : Nat := fld e 7 25 16
def tOutBase (e : List Word) : Nat := fld e 8 15 0
def tOutCount (e : List Word) : Nat := fld e 8 25 16

/-- Fields of an input-map or output-map entry (CYE table 3, R235). -/
def eKind (e : List Word) : Nat := fld e 0 3 0
def eType (e : List Word) : Nat := fld e 0 6 4
def eFb (e : List Word) : Nat := fld e 0 9 8
def eHold (e : List Word) : Nat := fld e 0 23 16
def eIndex (e : List Word) : Nat := fld e 1 15 0
def eSub (e : List Word) : Nat := fld e 1 23 16

/-- A 64-bit pattern as a value of a type (CYE table 3, R224 kind 5): LREAL as its pattern, BOOL true when non-zero, DINT
as the integer limited to its range. -/
def patVal (ty n : Nat) : Int :=
  if ty = 4 then (n % 2 ^ 64 : Nat) else if ty = 0 then (if n % 2 ^ 64 = 0 then 0 else 1)
  else if ty = 1 then satS 32 (sx 64 n) else sx 64 n

/-- FALLBACK or SAFE of a map entry as a value of its TYPE. -/
def eValue (e : List Word) : Int := patVal (eType e) (dw e 2)

/-- Task `t` of a program. -/
def Prog.task (p : Prog) (t : Nat) : List Word := p.tasks.getD t (List.replicate 10 0)

/-- The enabled tasks in ascending order. -/
def Prog.enabled (p : Prog) : List Nat := (List.range p.tasks.length).filter fun t => tEn (p.task t)

/-- The input-map and output-map entries of a task, with their indices. -/
def Prog.inputs (p : Prog) (t : Nat) : List (Nat × List Word) :=
  (List.range' (tInBase (p.task t)) (tInCount (p.task t))).map fun i => (i, p.inmap.getD i (List.replicate 4 0))
def Prog.outputs (p : Prog) (t : Nat) : List (Nat × List Word) :=
  (List.range' (tOutBase (p.task t)) (tOutCount (p.task t))).map fun i => (i, p.outmap.getD i (List.replicate 4 0))

/-- The compiled body of a task. -/
def Prog.body (p : Prog) (t : Nat) : Option TaskBody :=
  let e := p.task t
  Config.taskBody p.code (((p.locals.find? (·.1 = tCore e)).map (·.2)).getD []) (wrd e 4).toNat (fld e 5 18 0)

/-- The sink of an output entry (R237). -/
def sinkOf (e : List Word) : Nat × Nat × Nat :=
  (eKind e, eIndex e, if eKind e = 1 ∨ eKind e = 4 then eSub e else 0)

/-! ## Image rules -/

/-- A source type: BOOL, LREAL or FLOAT32, an integer with its sign and bits. -/
inductive SrcT where
  | bool
  | float
  | int (signed : Bool) (bits : Nat)
  deriving DecidableEq, Repr

/-- R224: the source type converts to TYPE. -/
def convOk (s : SrcT) (ty : Nat) : Bool :=
  match s with
  | .bool => decide (ty = 0)
  | .float => decide (ty = 4)
  | .int sg n =>
    decide (ty = 4) || (decide (1 ≤ ty ∧ ty ≤ 3) &&
      (let w := if ty = 1 then 32 else 64
       if sg then decide (n ≤ w) else decide (n < w)))

/-- The source type of a member TYPE (OUT table 2). -/
def memberT (t : Nat) : Option SrcT :=
  if t = 1 then some .bool
  else if t = 2 then some (.int true 8) else if t = 3 then some (.int true 16)
  else if t = 4 then some (.int true 32) else if t = 5 ∨ t = 12 then some (.int true 64)
  else if t = 6 then some (.int false 8) else if t = 7 then some (.int false 16)
  else if t = 8 ∨ t = 13 then some (.int false 32) else if t = 9 then some .float
  else if t = 10 then some (.int false 2) else if t = 11 then some (.int false 13) else none

/-- The source type of a value of a TYPE code. -/
def typeT (ty : Nat) : SrcT :=
  if ty = 0 then .bool else if ty = 1 then .int true 32 else if ty = 4 then .float else .int true 64

/-- Source types of the kinds that are not lost, by SUB (CYE table 4); F_NS is an instant below 2^63 ns. -/
def kindT (kind sub : Nat) : Option SrcT :=
  if kind = 1 ∧ sub = 0 then some (.int true 32)
  else if kind = 2 ∧ sub < 4 then some (.int (decide (sub < 2)) 32)
  else if kind = 3 ∧ sub < 5 then some (if sub = 1 then .int true 32 else if sub = 4 then .int false 3 else .int false 32)
  else if kind = 7 ∧ sub < 2 then some (if sub = 0 then .bool else .int false 63)
  else if kind = 8 ∧ sub < 2 then some (if sub = 0 then .int false 5 else .int false 63)
  else if kind = 9 ∧ sub < 2 then some .bool
  else if kind = 10 ∧ sub < 3 then some (.int false (if sub = 1 then 6 else 4))
  else none

/-- The largest INDEX of an input kind plus one (CYE table 4). -/
def inLimit (m : Pnm) (kind : Nat) : Nat :=
  if kind = 1 ∨ kind = 2 then 8192 else if kind = 3 then 64 else if kind = 4 ∨ kind = 5 then 4096
  else if kind = 6 then 65536 else if kind = 7 then 256 else if kind = 8 then progCount m else if kind = 9 then 32
  else if kind = 10 then 1 else 0

/-- The largest INDEX of an output kind plus one (CYE table 6). -/
def outLimit (m : Pnm) (kind : Nat) : Nat :=
  if kind = 1 then 1024 else if kind = 2 ∨ kind = 5 then 16 else if kind = 3 then 8 else if kind = 4 then progCount m
  else if kind = 6 then 4096 else if kind = 7 then 65536 else 0

/-- R224: the type of member `j` of subscription `i` where its entry is enabled. -/
def subMemberT (m : Pnm) (i j : Nat) : Option SrcT :=
  let e := gsubEntry m i
  if pEn e ∧ j < sMembers e then memberT (dType (sDesc m e j)) else none

/-- R224: an input-map entry is permitted. -/
def inputOk (m : Pnm) (outmap : List (List Word)) (e : List Word) : Bool :=
  let k := eKind e; let ty := eType e; let sub := eSub e
  decide (ty ≤ 4) && decide (eFb e ≠ 3) && decide (eIndex e < inLimit m k) &&
  (if k = 4 then
     (match subMemberT m (eIndex e) sub with
      | some s => convOk s ty
      | none => !(pEn (gsubEntry m (eIndex e))))
   else if k = 5 then decide (sub = 0)
   else if k = 6 then
     decide (sub = 0) &&
     (match outmap.find? fun o => decide (eKind o = 7 ∧ eIndex o = eIndex e) with
      | some o => decide (eType o ≤ 4) && convOk (typeT (eType o)) ty
      | none => false)
   else (match kindT k sub with | some s => convOk s ty | none => false))

/-- R237: what is wrong with an output-map entry beside a sink named twice. -/
def outputOk (m : Pnm) (e : List Word) : Bool :=
  let k := eKind e; let sub := eSub e
  decide (1 ≤ k ∧ k ≤ 7) && decide (eType e ≤ 4) && decide (eIndex e < outLimit m k) &&
  (if k = 1 then true else if k = 4 then decide (1 ≤ sub ∧ sub ≤ 3) else decide (sub = 0))

/-- R207: the first failing rule of an enabled task, as a code of CYE_CFG_ERR.FIELD; 0 none. -/
def taskRule (rate : Nat) (e : List Word) : Nat :=
  let per := planeRate rate
  if tPeriod e = 0 ∨ per % tPeriod e ≠ 0 then 4
  else if tPeriod e ≤ tOffset e then 5
  else if tDeadline e = 0 ∨ tPeriod e * 1000000000 < tDeadline e * per then 6
  else if tBudget e = 0 ∨ tDeadline e < tBudget e + 2000 then 7
  else if tHalve e ∧ per % (2 * tPeriod e) ≠ 0 then 8
  else 0

/-- The first index whose code is not 0. -/
def firstCode (f : Nat → Nat) (l : List Nat) : Option (Nat × Nat) :=
  (l.find? fun i => decide (f i ≠ 0)).map fun i => (f i, i)

/-- The first of several results. -/
def firstOf {α : Type} (l : List (Option α)) : Option α := l.findSome? id

/-- R207: the checks of an image in order; the code and INDEX of the first failure. -/
def imageRules (m : Pnm) (p : Prog) : Option (Nat × Nat) :=
  firstOf
    [firstCode (fun c => if 512 < p.coreKib.getD c 0 then 9 else 0) (List.range 16),
     if p.rate ≠ rf m Reg.SVI_PLANE 2 0 then some (2, 0) else none,
     firstCode (fun t => taskRule p.rate (p.task t)) p.enabled,
     firstCode (fun i => if inputOk m p.outmap (p.inmap.getD i []) then 0 else 10) (List.range p.inmap.length),
     firstCode (fun i =>
       let e := p.outmap.getD i []
       if !outputOk m e then 11
       else if (p.outmap.take i).any (fun o => decide (sinkOf o = sinkOf e)) then 12 else 0)
       (List.range p.outmap.length),
     firstCode (fun t =>
       if p.inmap.length < tInBase (p.task t) + tInCount (p.task t) then 10
       else if p.outmap.length < tOutBase (p.task t) + tOutCount (p.task t) then 11 else 0) p.enabled,
     firstCode (fun t => match p.body t with
       | some b => if orderOk b && decide (b.outs.length = tOutCount (p.task t)) then 0 else 16
       | none => 16) p.enabled]

/-! ## Verification (R258) -/

/-- Why an image is rejected: RESULT, CYE_LF_ERR.INDEX, and field and index of CYE_CFG_ERR for step 6. -/
structure ImgBad where
  result : Nat
  index : Nat
  cye : Option (Nat × Nat)

/-- A failed check that CYE_CFG_ERR does not name. -/
def bad (result index : Nat) : ImgBad := { result := result, index := index, cye := none }

/-- A section-table entry (LFG table 2). -/
structure Sec where
  typ : Nat
  core : Nat
  off : Nat
  len : Nat
  crc : Nat

/-- Section-table entry i of an image. -/
def secAt (l : List Byte) (i : Nat) : Sec :=
  let o := 0x80 + 16 * i
  { typ := leAt l o 1, core := leAt l (o + 1) 1 % 16, off := leAt l (o + 4) 4, len := leAt l (o + 8) 4,
    crc := leAt l (o + 12) 4 }

/-- The section table. -/
def sections (l : List Byte) : List Sec := (List.range (leAt l 0x0D 1)).map (secAt l)

/-- The body of a section. -/
def secBody (l : List Byte) (s : Sec) : List Byte := (l.drop s.off).take s.len

/-- The body of the section of a type; empty where there is none. -/
def bodyOf (l : List Byte) (t : Nat) : List Byte :=
  (((sections l).find? (·.typ = t)).map (secBody l)).getD []

/-- Bytes of a section's entries; 1 where it has none (LFG table 3). -/
def secUnit (t : Nat) : Nat := if t = 1 then 40 else if t = 4 ∨ t = 5 then 1 else 16

/-- LFG table 6 step 5: a section fails alone or against the sections before it. -/
def secBad (l : List Byte) (ss : List Sec) (i : Nat) : Bool :=
  match ss[i]? with
  | none => false
  | some s =>
    let before := ss.take i
    let first := 0x80 + 16 * ss.length
    decide (s.typ < 1 ∨ 7 < s.typ) || (decide (s.typ ≠ 5) && decide (s.core ≠ 0)) ||
    before.any (fun x => decide (x.typ = s.typ ∧ x.core = s.core)) ||
    (decide (s.len = 0) && (decide (s.typ = 1 ∨ s.typ = 4) || decide (s.crc ≠ 0))) ||
    decide (s.len % secUnit s.typ ≠ 0) || (decide (s.typ = 1) && decide (512 * 40 < s.len)) ||
    (decide (s.typ = 2 ∨ s.typ = 3) && decide (65536 * 16 < s.len)) ||
    (decide (s.typ = 6 ∨ s.typ = 7) && decide (65535 * 16 < s.len)) ||
    (decide (s.len ≠ 0) &&
      (decide (s.off % 64 ≠ 0 ∨ s.off < first ∨ l.length - 116 < s.off + s.len) ||
       before.any (fun x => decide (x.len ≠ 0 ∧ x.off < s.off + s.len ∧ s.off < x.off + x.len)) ||
       decide (crc32c (secBody l s) ≠ s.crc)))

/-- Entries of `n` words in a body. -/
def entries (n : Nat) (l : List Byte) : List (List Word) :=
  (List.range (l.length / (4 * n))).map fun i => wordsOf n (l.drop (4 * n * i))

/-- A directory entry (LFG table 4). -/
def dirAt (e : List Word) : DirEnt :=
  { inst := (wrd e 0).toNat, stype := fld e 1 7 0, core := fld e 1 11 8, task := fld e 1 24 16, off := fld e 2 18 0,
    len := fld e 3 18 0 }

/-- A map entry (LFG table 5). -/
def mapAt (e : List Word) : MapEnt :=
  { old := (wrd e 0).toNat, new := (wrd e 1).toNat, op := fld e 2 1 0, gate := fld e 2 25 16 }

/-- The parts of an image whose section table is sound. -/
def parseImage (l : List Byte) : Prog :=
  let rd4 := fun (o : Nat) => leAt l o 4
  { raw := l, rate := rd4 0x0C % 8, progId := leAt l 0x10 8, baseId := leAt l 0x18 8, hyper := leAt l 0x20 2,
    nTasks := leAt l 0x22 2 % 1024, gates := leAt l 0x24 2 % 2048,
    coreKib := (List.range 16).map fun c => leAt l (0x2C + 2 * c) 2,
    tasks := entries 10 (bodyOf l 1), inmap := entries 4 (bodyOf l 2), outmap := entries 4 (bodyOf l 3),
    code := bodyOf l 4, locals := ((sections l).filter (·.typ = 5)).map fun s => (s.core, secBody l s),
    dir := (entries 4 (bodyOf l 6)).map dirAt, map := (entries 4 (bodyOf l 7)).map mapAt }

/-- R257: the signature block and the slot that verifies it: bound to the image path, usable, with the image's KEY_ID. -/
def imageSigned (m : Pnm) (l : List Byte) : Bool :=
  let o := l.length - 116
  (List.range 512).any fun s => boundTo m s 5 &&
    (match verifyKey m true s (leAt l o 8) with
     | some p => Config.ecdsaVerify p.key (l.take o) (bytesAt l (o + 8) 96)
     | none => false)

/-- LFG table 6 step 4. -/
def headerOk (l : List Byte) : Bool :=
  decide (leAt l 0 4 = 0x4C465A4D ∧ leAt l 4 2 = 1 ∧ leAt l 6 2 = 128) && (bytesAt l 0x4C 0x34).all (· = 0) &&
  decide (leAt l 8 4 ≠ 0 ∧ leAt l 0x0D 1 ≠ 0 ∧ leAt l 0x22 2 % 1024 ≠ 0)

/-- R209: the least common multiple of the enabled tasks' periods. -/
def hyperOf (p : Prog) : Nat := p.enabled.foldl (fun a t => Nat.lcm a (tPeriod (p.task t))) 1

/-- LFG table 6 step 6: TASKS, HYPER_TK and CORE_KIB agree with the sections (log entry 12). -/
def agreeBad (p : Prog) : Option (Nat × Nat) :=
  if p.enabled.length ≠ p.nTasks ∨ hyperOf p ≠ p.hyper then some (4, 0)
  else firstCode (fun c =>
    if p.coreKib.getD c 0 * 1024 < ((p.locals.find? (·.1 = c)).map (·.2.length)).getD 0 then 9 else 0) (List.range 16)

/-- The stateful block instances of an image: identifier, state type, task. -/
def stateInsts (p : Prog) : List (Nat × Nat × Nat) :=
  p.enabled.flatMap fun t => match p.body t with
    | some b => (b.blocks.filter fun k => isStateful k.op).map fun k => (k.inst, stypeOf k.op, t)
    | none => []

/-- R259: what is wrong with a directory. -/
def dirBad (p : Prog) : Option ImgBad :=
  let ins := stateInsts p
  let one := fun (i : Nat) (d : DirEnt) =>
    if (p.dir.take i).any (fun x => decide (x.inst = d.inst)) then some (bad 13 i)
    else if d.stype = 0 ∨ d.stype = 14 ∨ 15 < d.stype ∨ d.len = 0 then some (bad 11 i)
    else match ins.find? (·.1 = d.inst) with
      | none => some (bad 12 d.inst)
      | some x => if x.2.1 = d.stype ∧ x.2.2 = d.task ∧ d.core = tCore (p.task d.task) then none else some (bad 11 i)
  firstOf
    [firstOf (p.dir.zipIdx.map fun q => one q.2 q.1),
     (ins.find? fun x => !(p.dir.any fun d => decide (d.inst = x.1))).map fun x => bad 12 x.1,
     (ins.zipIdx.find? fun q => (ins.take q.2).any fun y => decide (y.1 = q.1.1)).map fun q => bad 13 q.1.1]

/-- The directory entry of an instance. -/
def dirOf (d : List DirEnt) (i : Nat) : Option DirEnt := d.find? (·.inst = i)

/-- R260: what is wrong with a map; `old` is the directory of the program named by BASE_PROG_ID where it runs. -/
def mapBad (m : Pnm) (p : Prog) (map : List MapEnt) (old : Option (List DirEnt)) : Option ImgBad :=
  firstOf (map.zipIdx.map fun q =>
    let e := q.1; let i := q.2; let before := map.take i
    if e.op = 1 then
      let n := dirOf p.dir e.new
      let o := old.bind fun d => dirOf d e.old
      if old.isSome && o.isNone then some (bad 12 i)
      else if n.isNone then some (bad 12 i)
      else if (match o, n with
        | some a, some b => decide (a.stype ≠ b.stype) || (decide (a.stype = 15) && decide (a.len ≠ b.len))
        | _, _ => false) then some (bad 11 i)
      else if before.any (fun x => decide (x.op = 1 ∧ (x.old = e.old ∨ x.new = e.new))) then some (bad 13 i)
      else none
    else if e.op = 2 then
      if e.old ≠ 0 ∨ e.new ≠ 0 then some (bad 11 i)
      else if before.any (fun x => decide (x.op = 2 ∧ x.gate = e.gate)) then some (bad 13 i)
      else if progCount m ≤ e.gate then some (bad 19 i)
      else none
    else some (bad 11 i))

/-- The program that runs. -/
def runProg (m : Pnm) : Option Prog := if m.cye.running then m.cye.prog else none

/-- The directory of the running program where it is the one that the image names. -/
def baseDir (m : Pnm) (base : Nat) : Option (List DirEnt) :=
  match runProg m with
  | some r => if r.progId = base then some r.dir else none
  | none => none

/-- R261: the exchange checks of an image against the program that runs, with the map to be used. -/
def exchBad (m : Pnm) (p : Prog) (base : Nat) (map : List MapEnt) : Option ImgBad :=
  match runProg m with
  | none => some (bad 18 0)
  | some r =>
    let carried := fun (c : Nat) =>
      (map.filter (·.op = 1)).foldl (fun a e => match dirOf p.dir e.new with
        | some d => if d.core = c then a + d.len else a
        | none => a) 0
    if base ≠ r.progId then some (bad 8 0)
    else firstOf
      [mapBad m p map (some r.dir),
       ((List.range 16).find? fun c => decide (512 < r.coreKib.getD c 0 + p.coreKib.getD c 0)).map (bad 9),
       ((List.range 16).find? fun c => decide (65536 < carried c)).map (bad 10),
       (p.enabled.find? fun t => decide (tOffset (p.task t) = 0 ∧
         tDeadline (p.task t) < tBudget (p.task t) + 22000)).map (bad 14)]

/-- R258: the checks of LFG table 6 in order; the program where all pass. Step 8 applies where a program runs. -/
def verifyImage (m : Pnm) (l : List Byte) : Except ImgBad Prog :=
  let n := l.length
  let ss := sections l
  let p := parseImage l
  let rule := fun (x : Option (Nat × Nat)) =>
    x.map fun (c : Nat × Nat) => ({ result := 7, index := c.2, cye := some c } : ImgBad)
  let fail :=
    if leAt l 8 4 ≠ n ∨ 128 * 2 ^ 20 < n ∨ n < 0x80 + 116 then some (bad 2 0)
    else if crc32c (l.take (n - 4)) ≠ leAt l (n - 4) 4 then some (bad 3 0)
    else if !imageSigned m l || !(bytesAt l (n - 12) 8).all (· = 0) then some (bad 4 0)
    else if !headerOk l then some (bad 5 0)
    else match (List.range ss.length).find? (secBad l ss) with
      | some i => some (bad 6 i)
      | none =>
        if [1, 2, 3, 4, 6].any (fun t => (ss.filter (·.typ = t)).length ≠ 1) then some (bad 6 ss.length)
        else firstOf
          [rule (imageRules m p), rule (agreeBad p), dirBad p, mapBad m p p.map (baseDir m p.baseId),
           if (runProg m).isSome then exchBad m p p.baseId p.map else none]
  match fail with
  | some b => .error b
  | none => .ok p

end Sys2Proof.Machine
end

