-- ==== Sys2Proof/Machine/Cye.lean ====
section
/-! DEFINITION. The cycle engine: inputs, runs, releases, overruns, host input words, start and stop (chapter 07). -/

namespace Sys2Proof.Machine

/-- 0x4001: invalid, SUBST. -/
def qSafe : Nat := 0x4001

/-- Nothing. -/
def Prog.empty : Prog :=
  { raw := [], rate := 0, progId := 0, baseId := 0, hyper := 0, nTasks := 0, gates := 0, coreKib := [], tasks := [],
    inmap := [], outmap := [], code := [], locals := [], dir := [], map := [] }

/-- The program in the first bank. -/
def cyeProg (m : Pnm) : Prog := m.cye.prog.getD Prog.empty

/-- Task t. -/
def getTask (m : Pnm) (t : Nat) : TaskSt := NMap.get TaskSt.init m.cye.tasks t
def putTask (t : Nat) (s : TaskSt) (m : Pnm) : Pnm :=
  { m with cye := { m.cye with tasks := NMap.set TaskSt.init m.cye.tasks t s } }

/-- A refused CYE write: CFG_REJECT, FIELD and INDEX. -/
def cyeErr (field index : Nat) (m : Pnm) : Pnm :=
  wf (cfgErr (sb m Reg.CYE_FLAGS 0) Reg.CYE_CFG_ERR field) Reg.CYE_CFG_ERR 23 8 index

/-- The tasks of the running program. -/
def liveTasks (m : Pnm) : List Nat := if m.cye.running then (cyeProg m).enabled else []

/-- Grid ticks per plane tick of the running program. -/
def progP (m : Pnm) : Nat := planeP (cyeProg m).rate

/-- Grid ticks of a task's original period. -/
def periodTicks (m : Pnm) (t : Nat) : Nat := tPeriod ((cyeProg m).task t) * progP m

/-- R221: the index of a period start of task t within its second. -/
def startIndex (m : Pnm) (t g : Nat) : Nat :=
  (g % ticksPerSec / progP m - tOffset ((cyeProg m).task t)) / max 1 (tPeriod ((cyeProg m).task t))

/-- DEADLINE and BUDGET of a run in exact units, doubled where the run is (R221). -/
def runD (m : Pnm) (t : Nat) (dbl : Bool) : Nat := tDeadline ((cyeProg m).task t) * (1 + b2n dbl) * unitNs
def runB (m : Pnm) (t : Nat) (dbl : Bool) : Nat := tBudget ((cyeProg m).task t) * (1 + b2n dbl) * unitNs

/-! ## Host input words (R227 to R230) -/

def getWord (m : Pnm) (w : Nat) : HostWord := NMap.get HostWord.init m.cye.words w
def putWord (w : Nat) (x : HostWord) (m : Pnm) : Pnm :=
  { m with cye := { m.cye with words := NMap.set HostWord.init m.cye.words w x } }

/-- R229: the word is lost at an instant in exact units. -/
def wordLost (w : HostWord) (u : Nat) : Bool :=
  !w.fresh || (decide (w.lease ≠ 0) && decide (w.at' + w.lease * 1000000 * unitNs < u))

/-- A held host input configuration takes effect (R252); the word is lost until it is written again (R229). -/
def applyCfg (w : Nat) (e : List Word) (m : Pnm) : Pnm :=
  putWord w { getWord m w with owner := fld e 0 8 0, en := fbit e 0 9, lease := fld e 0 31 16, fresh := false } m

/-- Every held configuration takes effect. -/
def applyCfgs (m : Pnm) : Pnm :=
  if m.cye.cfgPend = [] then m
  else cb (m.cye.cfgPend.foldl (fun x p => applyCfg p.1 p.2 x) { m with cye := { m.cye with cfgPend := [] } })
    Reg.CYE_TBL_STAT 0

/-- A write applies at an instant: value entry, completion, and the lock that embeds it (R228, R299). -/
def applyHost (h : HostPend) (at' : Nat) (m : Pnm) : Pnm :=
  let w := getWord m h.word
  let m1 := putWord h.word
    { w with value := h.value, q := h.q, late := h.late, fresh := true, at' := at', writes := w.writes + 1 } m
  let m2 := complete h.ref { status := 0, late := h.late } m1
  match h.lock with
  | some k => lockDone k m2
  | none => m2

/-- The pending writes that `sel` names apply at an instant, in order of acceptance. -/
def applyHosts (sel : HostPend → Bool) (at' : Nat) (m : Pnm) : Pnm :=
  (m.cye.pend.filter sel).foldl (fun x h => applyHost h at' x)
    { m with cye := { m.cye with pend := m.cye.pend.filter fun h => !sel h } }

/-- R228: the writes that apply at a period start. -/
def dueAtStart (u : Nat) (h : HostPend) : Bool :=
  match h.target with
  | some t => decide (t ≤ u)
  | none => decide (h.accept < u)

/-- R227, R228, R230: a HOST_WRITE of function f with its target instant in ns (0 none) and the lock that embeds it. Without an
answer it is pending. -/
def hostWrite (ref : CmdRef) (lock : Option Nat) (f word q value target : Nat) (lateOk : Bool) (m : Pnm) :
    Pnm × Option Ans :=
  let w := getWord m word
  let now := nowU m
  let late := decide (target ≠ 0 ∧ target * unitNs ≤ now)
  if w.en = false ∨ w.owner ≠ f then (m, some (ans 0x16))
  else if late ∧ lateOk = false then (m, some (ans 0x18))
  else
    let held := decide (now < target * unitNs)
    let h : HostPend :=
      { ref := ref, lock := lock, word := word, value := value, q := q, target := if held then some (target * unitNs) else none,
        accept := now, late := late }
    let old := m.cye.pend.filter fun x => decide (x.word = word) && x.target.isSome
    let keep := m.cye.pend.filter fun x => !(decide (x.word = word) && x.target.isSome)
    let m1 := old.foldl (fun x o =>
      let y := complete o.ref { status := 0, replaced := true } x
      match o.lock with
      | some k => lockDone k y
      | none => y) { m with cye := { m.cye with pend := keep } }
    if held ∨ m.cye.running then ({ m1 with cye := { m1.cye with pend := m1.cye.pend ++ [h] } }, none)
    else
      (putWord word { w with value := value, q := q, late := late, fresh := true, at' := now, writes := w.writes + 1 } m1,
       some { status := 0, late := late })

/-- R230: with no program running, held writes to a word apply at their target instants. -/
def hostWriteApply (word : Nat) (m : Pnm) : Pnm :=
  if m.cye.running then m
  else
    let now := nowU m
    let due := m.cye.pend.filter fun h => decide (h.word = word) && dueAtStart (now + 1) h
    due.foldl (fun x h => applyHosts (fun y => decide (y = h)) (h.target.getD now) x) m

/-- R229, R230: the owner of words is gone: its words are lost and its pending writes are discarded. -/
def wordsOwnerGone (f : Nat) (m : Pnm) : Pnm :=
  let mine := m.cye.pend.filter fun h => decide (h.ref.fn = f)
  let words := (m.cye.words.map fun p => (p.1, if p.2.owner = f then { p.2 with fresh := false } else p.2)).filter fun p =>
    decide (p.2 ≠ HostWord.init p.1)
  mine.foldl (fun x h => complete h.ref (ans 0x1A) x)
    { m with cye := { m.cye with words := words, pend := m.cye.pend.filter fun h => decide (h.ref.fn ≠ f) } }

/-- Discard the host write that a lock carries (R298, R301). -/
def dropLockWrite (k : Nat) (m : Pnm) : Pnm :=
  let mine := m.cye.pend.filter fun h => decide (h.lock = some k)
  mine.foldl (fun x h => complete h.ref (ans 0x1A) x)
    { m with cye := { m.cye with pend := m.cye.pend.filter fun h => decide (h.lock ≠ some k) } }

/-! ## Inputs (R223 to R226, R231 to R234) -/

/-- Role codes of GLB_STAT.ROLE. -/
def roleCode (m : Pnm) : Nat :=
  if inMaint m then 3 else if standby m then 2 else if pairState m = 2 then 1 else 0

/-- R116: what inputs of kinds 1 to 3 latch while no plane is there. -/
def noPlane (ty : Nat) : TV := convTo 1 ty { v := 0, q := 0x41 }

/-- Kind 1: the latest plane that closed before Ts. -/
def planeInput (m : Pnm) (u slot ty : Nat) : TV :=
  match m.svi.planes.find? fun p => decide (p.closeU < u) with
  | some p =>
    let x := NMap.get (fun _ => Val.unmapped) p.vals slot
    convTo 1 ty { v := x.v, q := x.q }
  | none => noPlane ty

/-- Kinds 2 and 3: the latest phasor results with C(k) + 8 µs at or before Ts. -/
def phasorInput (m : Pnm) (u kind i sub ty : Nat) : TV :=
  match m.fpe.planes.find? fun p => decide (p.closeU + 8000 * unitNs ≤ u) with
  | none => noPlane ty
  | some p =>
    if kind = 2 then
      let x := NMap.get (fun _ => Phasor.none) p.ph i
      let v : Int := if sub = 0 then x.re else if sub = 1 then x.im else if sub = 2 then (x.h2 : Nat) else (x.h5 : Nat)
      convTo 2 ty { v := v, q := x.q }
    else
      let r := p.refs.getD i RefRep.idle
      let v : Int := if sub = 0 then (r.freq : Nat) else if sub = 1 then r.rocof else if sub = 2 then (r.angle : Nat)
        else if sub = 3 then (r.mag : Nat) else (r.state : Nat)
      if ty = 4 ∧ sub = 0 then { v := (fRound false r.freq (2 ^ 24) : Nat), q := r.q }
      else if ty = 4 ∧ sub = 2 then { v := (fRound false r.angle (2 ^ 32) : Nat), q := r.q }
      else convTo 2 ty { v := v, q := r.q }

/-- Kind 4: a member of the GOOSE image; none where it is lost (R231). -/
def gooseInput (m : Pnm) (i j ty : Nat) : Option TV :=
  match subMemberT m i j with
  | some s =>
    if subValid m i && convOk s ty then
      let x := subImage m i j
      match s with
      | .bool => some x
      | .float => some { v := (fOfF32 (x.v % 2 ^ 32).toNat : Nat), q := x.q }
      | .int _ _ => some (convTo 2 ty x)
    else none
  | none => none

/-- Kind 5: a host input word; none where it is lost (R224, R229). -/
def hostInput (m : Pnm) (u w ty : Nat) : Option TV :=
  let x := getWord m w
  if wordLost x u then none
  else
    let v := patVal ty x.value
    some { v := v, q := if ty = 1 ∧ v ≠ sx 64 x.value then qMix x.q qOverflow else x.q }

/-- The task that writes signal s (R231). -/
def sigWriter (m : Pnm) (s : Nat) : Option (Nat × Nat) :=
  let p := cyeProg m
  (p.enabled.findSome? fun t => (p.outputs t).findSome? fun e =>
    if eKind e.2 = 7 ∧ eIndex e.2 = s then some (t, eType e.2) else none)

/-- Kind 6: a task signal; none where its writer is FAULTED. Nothing released yet is an open value (log entry 3). -/
def signalInput (m : Pnm) (s ty : Nat) : Option TV × Bool :=
  match sigWriter m s with
  | some (t, wty) =>
    if (getTask m t).state = 3 then (none, false)
    else match NMap.get (fun _ => none) m.cye.sigs s with
      | some x => (some (convTo wty ty x), false)
      | none => (some { v := patVal ty (Config.freeValue m.free).toNat, q := 1 }, true)
  | none => (some { v := patVal ty (Config.freeValue m.free).toNat, q := 1 }, true)

/-- Kind 7: the events of a gate bit that task t latches at Ts, and what stays (R213, R226). -/
def gateEvents (m : Pnm) (t bit u : Nat) : List Nat :=
  (m.cye.gev.filter fun x => decide (x.1 = t ∧ x.2.1 = bit ∧ 9 * x.2.2.1 < u ∧ x.2.2.2 < m.tim.mt)).map (·.2.2.1)

/-- A gate event that fired (or not) as an input value; the firing instant of an event that did not fire is open. -/
def gateInput (m : Pnm) (fs : List Nat) (sub ty : Nat) : TV × Bool :=
  if sub = 0 then ({ v := if fs = [] then 0 else 1, q := 0 }, false)
  else match fs with
    | [] => ({ v := patVal ty (Config.freeValue m.free).toNat, q := 0 }, true)
    | _ =>
      let f := fs.foldl max 0
      ({ v := if ty = 4 then (fRound false f nsU : Nat) else ((f / nsU : Nat) : Int), q := 0 }, false)

/-- Kind 8: the status of a program gate. -/
def gateStatInput (m : Pnm) (n sub ty : Nat) : TV :=
  let g := getGate m (progBase m + n)
  convTo 2 ty { v := if sub = 0 then (g.state : Nat) else ((g.f / nsU : Nat) : Int), q := 0 }

/-- Kind 10: the time class, DEGRADE bits or role. -/
def modInput (m : Pnm) (sub ty : Nat) : TV :=
  convTo 2 ty { v := if sub = 0 then (m.tim.cls : Nat) else if sub = 1 then (degradeNow m : Nat) else (roleCode m : Nat), q := 0 }

/-- The value of an input at Ts in exact units; none where its source is lost. The flag says that a free value was used. -/
def source (m : Pnm) (t u : Nat) (e : List Word) : Option TV × Bool :=
  let k := eKind e; let i := eIndex e; let ty := eType e; let sub := eSub e
  if k = 1 then (some (planeInput m u i ty), false)
  else if k = 2 ∨ k = 3 then (some (phasorInput m u k i sub ty), false)
  else if k = 4 then (gooseInput m i sub ty, false)
  else if k = 5 then (hostInput m u i ty, false)
  else if k = 6 then signalInput m i ty
  else if k = 7 then
    let r := gateInput m (gateEvents m t i u) sub ty
    (some r.1, r.2)
  else if k = 8 then (some (gateStatInput m i sub ty), false)
  else if k = 9 then (some (sioInput m i sub), false)
  else (some (modInput m sub ty), false)

/-- CYE table 5: what a lost input reads, with its hold state; whether it is held. -/
def substitute (e : List Word) (h : HoldSt) : TV × Bool :=
  match h.last with
  | some x =>
    if h.m ≤ eHold e then ({ v := x.v, q := Nat.lor (x.q - x.q % 4 + 3) 0x4080 }, true)
    else if eFb e = 2 then ({ v := x.v, q := 0x4081 }, false)
    else ({ v := eValue e, q := if eFb e = 0 then 0x4001 else 0x4003 }, false)
  | none => ({ v := eValue e, q := if eFb e = 0 then 0x4001 else if eFb e = 1 then 0x4003 else 0x4081 }, false)

/-- One input of task t latched at Ts: the image so far, and the counts of held and fallback inputs. -/
def latchOne (t u : Nat) (acc : Pnm × List TV × Nat × Nat) (je : Nat × List Word) : Pnm × List TV × Nat × Nat :=
  let m := acc.1
  let j := je.1; let e := je.2
  let s := getTask m t
  let h := NMap.get HoldSt.init s.holds j
  let keep := fun (x : HoldSt) (y : Pnm) => putTask t { getTask y t with holds := NMap.set HoldSt.init s.holds j x } y
  let r := source m t u e
  let m1 := if r.2 then drawFree m else m
  match r.1 with
  | some x =>
    let lossy := decide (4 ≤ eKind e ∧ eKind e ≤ 6)
    (if lossy then keep { m := 0, last := some x } m1 else m1, acc.2.1 ++ [x], acc.2.2.1, acc.2.2.2)
  | none =>
    let h1 : HoldSt := { h with m := h.m + 1 }
    let y := substitute e h1
    let enter := decide (h1.m = eHold e + 1)
    let m2 := keep h1 m1
    let m3 := if enter then
        raise { src := 6, code := 0x5C, cls := 2, items := [t, j] } (sb (inc m2 Reg.CYE_FALLBACKS) Reg.CYE_FLAGS 5)
      else m2
    (m3, acc.2.1 ++ [y.1], acc.2.2.1 + b2n y.2, acc.2.2.2 + b2n (!y.2))

/-- R212, R223: the input image of task t at Ts; gate events are taken, and one that fired twice is marked (R226). -/
def latch (t u : Nat) (m : Pnm) : Pnm × List TV :=
  let ins := (cyeProg m).inputs t
  let r := ins.foldl (latchOne t u) (m, [], 0, 0)
  let m1 := putTask t { getTask r.1 t with held := r.2.2.1, fallback := r.2.2.2 } r.1
  let bits := (ins.filter fun e => decide (eKind e.2 = 7)).map fun e => eIndex e.2
  let merged := bits.any fun b => decide (1 < (gateEvents m t b u).length)
  let gev := m1.cye.gev.filter fun x => !(decide (x.1 = t ∧ 9 * x.2.2.1 < u ∧ x.2.2.2 < m.tim.mt))
  let m2 := { m1 with cye := { m1.cye with gev := gev } }
  (if merged then sb m2 Reg.CYE_FLAGS 6 else m2, r.2.1)

/-- R226: a gate fires event `bit` at F: every task that names the bit will latch it. -/
def gateEvent7 (bit f : Nat) (m : Pnm) : Pnm :=
  let p := cyeProg m
  let ts := (liveTasks m).filter fun t => decide ((getTask m t).state ≠ 3) &&
    (p.inputs t).any fun e => decide (eKind e.2 = 7 ∧ eIndex e.2 = bit)
  { m with cye := { m.cye with gev := m.cye.gev ++ ts.map fun t => (t, bit, f, m.tim.mt) } }

/-! ## Cores (R205, R217) -/

def getCore (m : Pnm) (c : Nat) : Core := m.cye.cores.getD c Core.init
def putCore (c : Nat) (x : Core) (m : Pnm) : Pnm := { m with cye := { m.cye with cores := setAt m.cye.cores c x } }

/-- A run is in progress on core c. -/
def coreBusy (m : Pnm) (c : Nat) : Bool :=
  m.cye.tasks.any fun p => p.2.run.isSome && decide (tCore ((cyeProg m).task p.1) = c)

/-- The busy time of core c is brought up to date (R217, log entry 17). -/
def noteCore (c : Nat) (m : Pnm) : Pnm :=
  let x := getCore m c
  let busy := x.busy + (match x.busyFrom with | some f => m.tim.mt - f | none => 0)
  putCore c { x with busy := busy, busyFrom := if coreBusy m c then some m.tim.mt else none } m

/-- R217: at a whole second, LOAD_PCT of every core. -/
def coreSecond (m : Pnm) : Pnm :=
  (List.range 16).foldl (fun y c =>
    let z := noteCore c y
    let x := getCore z c
    putCore c { x with loadPct := min 100 (x.busy * 100 / (1000000000 * nsU)), busy := 0 } z) m

/-- CYE_COREc. -/
def coreWord (m : Pnm) (c : Nat) : Word :=
  let x := getCore m c
  let kib := if m.cye.running then (cyeProg m).coreKib.getD c 0 else 0
  let staged := match m.cye.staged with
    | some p => p.coreKib.getD c 0
    | none => (match m.cye.old with | some p => p.coreKib.getD c 0 | none => 0)
  loW (x.loadPct + 2 ^ 8 * min 512 (kib + staged) + 2 ^ 18 * x.ecc + 2 ^ 24 * b2n x.failed)

/-! ## Faults and overruns (R205, R218 to R222) -/

/-- A task becomes FAULTED, with its SAFE values to be released at an instant (R220). -/
def taskFault (t at' : Nat) (m : Pnm) : Pnm :=
  let s := getTask m t
  let p := cyeProg m
  if s.state = 3 then m
  else
    let rel : Rel := { at' := at', safe := true, vals := [] }
    let m1 := putTask t { s with state := 3, halve := false, run := none, returnRuns := 0, rel := s.rel ++ [rel] } m
    let m2 := noteCore (tCore (p.task t)) m1
    let sigs := (p.outputs t).foldl (fun (a : NMap (Option TV)) e =>
      if eKind e.2 = 7 then
        match NMap.get (fun _ => none) a (eIndex e.2) with
        | some x => NMap.set (fun _ => none) a (eIndex e.2) (some { x with q := qSafe })
        | none => a
      else a) m2.cye.sigs
    let m3 := { m2 with cye := { m2.cye with sigs := sigs } }
    let m4 := raise { src := 6, code := 0x5A, cls := 1, items := [t] } (sb m3 Reg.CYE_FLAGS 3)
    ladderClear 5 t (nodeCause (256 + t) (128 + 0x5A) 2 m4)

/-- R218, R221: the run of task t has not completed at Ts + B. -/
def taskOverrun (t : Nat) (m : Pnm) : Pnm :=
  let s := getTask m t
  match s.run with
  | none => m
  | some r =>
    let u := gridInstant r.ts
    if r.ovr ∨ nowU m < u + runB m t r.dbl then m
    else
      let e := (cyeProg m).task t
      let rel : List Rel := if tSafe e then [{ at' := u + runD m t r.dbl, safe := true, vals := [] }] else []
      let halve := tHalve e && decide (s.state = 1) && !s.halve
      let m1 := putTask t
        { s with run := some { r with ovr := true }, overruns := s.overruns + 1, ovrLast := true, rel := s.rel ++ rel,
                 halve := s.halve || halve, returnRuns := if r.dbl then 0 else s.returnRuns } m
      let m2 := raise { src := 6, code := 0x58, cls := 2, items := [t] } (sb (inc m1 Reg.CYE_OVERRUNS) Reg.CYE_FLAGS 1)
      if halve then ladderEnter 5 t m2 else m2

/-- R211, R214: the run of task t completes. Its outputs wait for the output instant unless it overran. -/
def taskComplete (t : Nat) (m0 : Pnm) : Pnm :=
  match (getTask m0 t).run with
  | none => m0
  | some r0 =>
    let u := gridInstant r0.ts
    let late := decide (u + runB m0 t r0.dbl < nowU m0)
    let m := if late then taskOverrun t m0 else m0
    let s := getTask m t
    let r := s.run.getD r0
    let p := cyeProg m
    let body := (p.body t).getD { blocks := [], outs := [] }
    let res := runBody body r.img r.dt r.tsNs m.cye.insts
    let el := (nowU m - u) / unitNs
    let rel : List Rel := if r.ovr then [] else [{ at' := u + runD m t r.dbl, safe := false, vals := res.1 }]
    let inB := decide (nowU m ≤ u + runB m t false)
    let s' : TaskSt :=
      { s with run := none, last := some r.tsNs, rel := s.rel ++ rel, ovrLast := r.ovr,
               returnRuns := if r.dbl then (if inB then min 64 (s.returnRuns + 1) else 0) else s.returnRuns,
               lastCompl := min (2 ^ 32 - 1) el, maxCompl := min (2 ^ 32 - 1) (max s.maxCompl el) }
    noteCore (tCore (p.task t)) (putTask t s' { m with cye := { m.cye with insts := res.2 } })

/-- R222, R39: a doubled task returns to normal state at its next period start. -/
def doubledReturn (t : Nat) (m : Pnm) : Pnm :=
  let s := getTask m t
  if s.state = 2 ∧ 64 ≤ s.returnRuns ∧ gridInstant s.next ≤ nowU m ∧ startIndex m t s.next % 2 = 0 ∧
      (getStep m 5).since + edgesS ≤ m.tim.edge then
    ladderClear 5 t (putTask t { s with state := 1, returnRuns := 0 } m)
  else m

/-- R219, R220: a period start is skipped because a run is in progress. -/
def taskSkip (t u : Nat) (r : Run) (m : Pnm) : Pnm :=
  let s := getTask m t
  let m1 := putTask t { s with skipCnt := s.skipCnt + 1, run := some { r with skips := r.skips + 1 } } m
  let m2 := raise { src := 6, code := 0x59, cls := 2, items := [t] } (sb (inc m1 Reg.CYE_SKIPS) Reg.CYE_FLAGS 2)
  if 3 ≤ r.skips + 1 then taskFault t (u + runD m t r.dbl) m2 else m2

/-- The next period start of task t has come, and the task runs at it: not FAULTED, and an even one where it is doubled. -/
def startsNow (m : Pnm) (t : Nat) : Bool :=
  let s := getTask m t
  m.cye.running && (liveTasks m).contains t && decide (s.state ≠ 0 ∧ s.state ≠ 3) &&
  decide (gridInstant s.next ≤ nowU m) &&
  (decide (startIndex m t s.next % 2 = 0) || !decide (s.state = 2))

/-- R208 to R213, R219, R221: a period start of task t, after the releases and host writes that precede it. -/
def taskStart (t : Nat) (m : Pnm) : Pnm :=
  let s0 := getTask m t
  let g := s0.next
  let u := gridInstant g
  let even := decide (startIndex m t g % 2 = 0)
  let enter := s0.halve && even
  let s : TaskSt :=
    { s0 with next := g + periodTicks m t, state := if enter then 2 else s0.state, halve := s0.halve && !even,
              returnRuns := if enter then 0 else s0.returnRuns }
  let m1 := putTask t s m
  match s.run with
  | some r => taskSkip t u r m1
  | none =>
    let l := latch t u m1
    let ts := uNs u
    let run : Run :=
      { ts := g, tsNs := ts, dt := (match s.prev with | some p => ts - p | none => 0), dbl := decide (s.state = 2), ovr := false,
        img := l.2, skips := 0 }
    noteCore (tCore ((cyeProg m).task t))
      (putTask t { getTask l.1 t with run := some run, prev := some ts, lastStart := ts } l.1)

/-- An original period start at which a doubled or FAULTED task does not run passes. -/
def passStart (t : Nat) (m : Pnm) : Pnm :=
  let s := getTask m t
  if m.cye.running && (liveTasks m).contains t && decide (gridInstant s.next ≤ nowU m) then
    putTask t { s with next := s.next + periodTicks m t } m
  else m

/-- R205: the output instant at which a task of a failed core releases its SAFE values: that of the run in progress where it is
still ahead, else that of the next period start. -/
def faultRelease (m : Pnm) (t : Nat) : Nat :=
  let s := getTask m t
  let d := runD m t (decide (s.state = 2))
  match s.run with
  | some r => if nowU m ≤ gridInstant r.ts + runD m t r.dbl then gridInstant r.ts + runD m t r.dbl else gridInstant s.next + d
  | none => gridInstant s.next + d

/-- R205: an uncorrectable error in the core-local memory of core c. -/
def coreFail (c : Nat) (m : Pnm) : Pnm :=
  let m1 := putCore c { getCore m c with failed := true } m
  let m2 := raise { src := 6, code := 0x5B, cls := 1, items := [c] } (sb m1 Reg.CYE_FLAGS 4)
  let m3 := nodeCause (64 + c) (128 + 0x5B) 2 m2
  ((liveTasks m3).filter fun t => decide (tCore ((cyeProg m3).task t) = c)).foldl (fun x t => taskFault t (faultRelease x t) x) m3

/-- R205: a corrected error. -/
def coreCorrected (c : Nat) (m : Pnm) : Pnm :=
  let x := getCore m c
  putCore c { x with ecc := min 63 (x.ecc + 1) } m

/-! ## Releases (R214, R218, R235 to R238) -/

/-- A value that a BOOL sink takes as TRUE. -/
def truth (ty : Nat) (v : Int) : Bool := if ty = 4 then !(fEq v.toNat 0) else decide (v ≠ 0)

/-- R236: a program gate request of output entry j; nothing where it repeats the previous one, or where GTE refuses it. -/
def gateRequest (t j n op : Nat) (v : Int) (m : Pnm) : Pnm :=
  let s := getTask m t
  if NMap.get (fun _ => none) s.reqs j = some v then m
  else
    let m1 := putTask t { s with reqs := NMap.set (fun _ => none) s.reqs j (some v) } m
    let w := (List.range 10).map fun k => loW (v.toNat / 2 ^ (32 * k))
    let i := progBase m + n
    let g := getGate m1 i
    if op = 1 then (gateProgArm n w m1).1
    else if progCount m ≤ n ∨ 1024 ≤ i then m1
    else if op = 2 then
      let d := gateFrom w
      let w' := updWords 15 d.comp d.target d.earliest d.latest g.w
      if g.open' = false ∨ updCheck w' ≠ 0 then m1 else putGate i { g with w := w' } m1
    else gateCancelAt i false m1

/-- R235: a release of one output entry at an instant in exact units, GOOSE members aside. A SAFE value is no gate-request
record. -/
def releaseOne (t at' : Nat) (safe : Bool) (m : Pnm) (x : Nat × List Word × TV) : Pnm :=
  let e := x.2.1; let v := x.2.2
  let k := eKind e; let i := eIndex e
  if k = 2 then (if releases m then toutRelease i (truth (eType e) v.v) (at' / unitNs) (uFrac at') m else m)
  else if k = 3 then
    (if releases m then pairRelease i { v := b2n (truth (eType e) v.v), q := v.q } m else m)
  else if k = 4 then (if safe then m else gateRequest t x.1 i (eSub e) v.v m)
  else if k = 5 then (if truth (eType e) v.v then inputTrigger i (at' / 9) m else m)
  else if k = 6 then hostOut i (ux 64 v.v) v.q at' t m
  else if k = 7 then { m with cye := { m.cye with sigs := NMap.set (fun _ => none) m.cye.sigs i (some v) } }
  else m

/-- The control blocks that outputs name, each once, in order. -/
def pcbsOf (xs : List (Nat × List Word × TV)) : List Nat :=
  xs.foldl (fun a x => if eKind x.2.1 = 1 ∧ !(a.contains (eIndex x.2.1)) then a ++ [eIndex x.2.1] else a) []

/-- R214, R238: outputs are released at an instant; the GOOSE members of one control block together (R283). -/
def releaseList (t at' : Nat) (safe : Bool) (xs : List (Nat × List Word × TV)) (m : Pnm) : Pnm :=
  let m1 := xs.foldl (releaseOne t at' safe) m
  if releases m then
    (pcbsOf xs).foldl (fun y i =>
      progPublish i at' ((xs.filter fun x => decide (eKind x.2.1 = 1 ∧ eIndex x.2.1 = i)).map fun x =>
        (eSub x.2.1, eType x.2.1, x.2.2)) y) m1
  else m1

/-- The SAFE values of output entries (R218). -/
def safeOf (es : List (Nat × List Word)) : List (Nat × List Word × TV) :=
  es.map fun e => (e.1, e.2, { v := eValue e.2, q := qSafe })

/-- What a release hands to the sinks of task t. -/
def relItems (m : Pnm) (t : Nat) (r : Rel) : List (Nat × List Word × TV) :=
  let es := (cyeProg m).outputs t
  if r.safe then safeOf es
  else (es.zip r.vals).map fun p => (p.1.1, p.1.2, p.2)

/-- R289, R332: what the first output instant after a takeover brings about beside its releases. -/
def afterTakeover (at' : Nat) (m : Pnm) : Pnm :=
  let m1 := if m.sio.takeover = 2 then sioApply { m with sio := { m.sio with takeover := 1 } } else m
  if releases m then pubTakeover at' m1 else m1

/-- The releases of all tasks up to an instant, in order of instant and task (R214). -/
def dueRels (m : Pnm) (u : Nat) : List (Nat × Rel) :=
  let l := (liveTasks m).flatMap fun t => ((getTask m t).rel.filter fun r => decide (r.at' ≤ u)).map fun r => (t, r)
  sortBy (fun a b => decide (a.2.at' < b.2.at' ∨ (a.2.at' = b.2.at' ∧ a.1 ≤ b.1))) l

/-- R213, R214: every release due at or before an instant is performed. -/
def releaseDue (u : Nat) (m : Pnm) : Pnm :=
  let due := dueRels m u
  let m1 := (liveTasks m).foldl (fun x t =>
    putTask t { getTask x t with rel := (getTask x t).rel.filter fun r => decide (u < r.at') } x) m
  due.foldl (fun x p => afterTakeover p.2.at' (releaseList p.1 p.2.at' p.2.safe (relItems x p.1 p.2) x)) m1

/-- TASK_OUTPUT_RELEASE: the earliest output instant of task t that is due, with every release at or before it. -/
def taskRelease (t : Nat) (m : Pnm) : Pnm :=
  let l := ((getTask m t).rel.map (·.at')).filter fun a => decide (a ≤ nowU m)
  match l with
  | [] => m
  | a :: r => if m.cye.running then releaseDue (r.foldl min a) m else m

/-- R208, R213: what precedes the latch at a period start in exact units: the releases of that instant, held configurations
and pending host writes. -/
def beforeLatch (u : Nat) (m : Pnm) : Pnm := applyHosts (dueAtStart u) u (applyCfgs (releaseDue u m))

/-! ## Start and stop (R250, R251) -/

/-- The image that a START would start. -/
def startImage (m : Pnm) : Option Prog := if m.cye.running then none else (match m.cye.staged with | some p => some p | none => m.cye.prog)

/-- R250: a write of CYE_CTRL.START. -/
def cyeStart (m : Pnm) : Pnm :=
  if m.cye.running || m.cye.startAt.isSome then cyeErr 13 0 m
  else match startImage m with
    | none => cyeErr 1 0 m
    | some p =>
      match imageRules m p with
      | some (c, i) => cyeErr c i m
      | none =>
        if m.tim.grid = false then cyeErr 3 0 m
        else { m with cye := { m.cye with startAt := some (nextTickAfter m ticksPerSec) } }

/-- R241: the initial instance states of a program's tasks. -/
def progInit (p : Prog) (ts : List Nat) (s : NMap InstSt) : NMap InstSt :=
  ts.foldl (fun a t => match p.body t with | some b => bodyInit b a | none => a) s

/-- A task at the start of its program at grid tick `g` (R208). -/
def taskAt (p : Prog) (g t : Nat) : TaskSt :=
  { TaskSt.init t with state := 1, next := g + tOffset (p.task t) * planeP p.rate }

/-- The tasks of a program at its start. -/
def tasksAt (p : Prog) (g : Nat) : NMap TaskSt :=
  p.enabled.foldl (fun a t => NMap.set TaskSt.init a t (taskAt p g t)) []

/-- Health nodes of tasks in use (R518). -/
def taskNodes (old new : List Nat) (m : Pnm) : Pnm :=
  let m1 := (old.filter fun t => !new.contains t).foldl (fun x t => nodeUse (256 + t) false x) m
  let m2 := new.foldl (fun x t => nodeUse (256 + t) true x) m1
  (old ++ new).foldl (fun x t => nodeCause (256 + t) (128 + 0x5A) 0 x) m2

/-- The tasks of failed cores are FAULTED from the start (R250). -/
def faultFailed (m : Pnm) : Pnm :=
  (liveTasks m).foldl (fun x t =>
    if (getCore x (tCore ((cyeProg x).task t))).failed then taskFault t (faultRelease x t) x else x) m

/-- R250: at the module-time second the program starts. -/
def programStart (m : Pnm) : Pnm :=
  match m.cye.startAt, startImage m with
  | some g, some p =>
    if nowU m < gridInstant g then m
    else
      let staged := m.cye.staged.isSome
      let words := (m.cye.words.map fun q => (q.1, { q.2 with fresh := false })).filter fun q => decide (q.2 ≠ HostWord.init q.1)
      let cye := { m.cye with
                   prog := some p, running := true, tasks := tasksAt p g, insts := progInit p p.enabled [], startAt := none,
                   stopAt := none, sigs := [], gev := [], words := words, staged := none }
      let m1 := mirrorFresh { m with cye := cye }
      let m2 := taskNodes [] p.enabled (mrExtend 3 (Config.sha384 p.raw) m1)
      let m3 := if staged then wf m2 Reg.CYE_LF_STAT 2 0 0 else m2
      faultFailed (raise { src := 6, code := 0x5D, cls := 2, items := [1] } m3)
  | _, _ => m

/-- R251: a write of CYE_CTRL.STOP. -/
def cyeStop (m : Pnm) : Pnm :=
  if m.cye.startAt.isSome then { m with cye := { m.cye with startAt := none } }
  else if m.cye.running && m.cye.stopAt.isNone then
    { m with cye := { m.cye with stopAt := some (nextTickAfter m (max 1 (cyeProg m).hyper * progP m)) } }
  else m

/-- An exchange that is armed ends because no program runs any more. -/
def exchGone (m : Pnm) : Pnm :=
  if m.cye.exch.isSome then
    raise { src := 6, code := 0x5F, cls := 2, items := [18, 0] }
      (wf (wf { m with cye := { m.cye with exch := none } } Reg.CYE_LF_STAT 2 0 3) Reg.CYE_LF_STAT 15 8 18)
  else m

/-- R251, R230: at the hyperperiod boundary the program stops. -/
def programStop (m : Pnm) : Pnm :=
  match m.cye.stopAt with
  | none => m
  | some g =>
    let u := gridInstant g
    if nowU m < u then m
    else
      let m1 := releaseDue u m
      let ts := liveTasks m1
      let m2 := ts.foldl (fun x t => releaseList t u true (safeOf ((cyeProg x).outputs t)) x) m1
      let m3 := ts.foldl (fun x t => ladderClear 5 t x) m2
      let m4 := { m3 with cye := { m3.cye with running := false, stopAt := none, tasks := [], gev := [] } }
      let m5 := (List.range 16).foldl (fun x c => noteCore c x) m4
      let m6 := taskNodes ts [] (exchGone (gatesProgGone m5))
      let m7 := applyHosts (fun h => match h.target with | some t => decide (t ≤ u) | none => true) u (applyCfgs m6)
      raise { src := 6, code := 0x5D, cls := 2, items := [0] } m7

/-! ## The window and computed registers (R252) -/

/-- CYE table 10, table 1. -/
def taskWords (m : Pnm) (t : Nat) : List Word :=
  let s := getTask m t
  [loW (s.state + 4 * b2n s.run.isSome + 8 * b2n s.ovrLast + 256 * s.returnRuns), loW s.lastStart, hiW s.lastStart,
   loW s.lastCompl, loW s.maxCompl, s.overruns, s.skipCnt, loW (s.held + 65536 * s.fallback), 0, 0]

/-- The ten words of entry i of table t. -/
def cyeWords (m : Pnm) (t i : Nat) : List Word :=
  let l :=
    if t = 0 then (cyeProg m).task i
    else if t = 1 then taskWords m i
    else if t = 2 then
      let w := getWord m i
      [loW (w.owner + 512 * b2n w.en + 65536 * w.lease)]
    else if t = 3 then
      let w := getWord m i
      let pend := m.cye.pend.any fun h => decide (h.word = i)
      [loW w.value, hiW w.value, loW (w.q + 2 ^ 16 * b2n (wordLost w (nowU m)) + 2 ^ 17 * b2n pend + 2 ^ 18 * b2n w.late), w.writes]
    else match NMap.get (fun _ => none) m.cye.sigs i with
      | some x => [loW (ux 64 x.v), hiW (ux 64 x.v), loW x.q]
      | none => []
  (l ++ List.replicate 10 0).take 10

/-- Entries of a table. -/
def cyeSize (t : Nat) : Nat := if t = 0 ∨ t = 1 then 512 else if t = 2 ∨ t = 3 then 4096 else if t = 4 then 65536 else 0

/-- A GO with WRITE 0. -/
def cyeTblRead (cmd : Word) (m : Pnm) : Pnm :=
  let m1 := storeCmd Reg.CYE_TBL_CMD 0x0007FFFF#32 cmd m
  let i := bits cmd 15 0
  let t := bits cmd 18 16
  if cyeSize t ≤ i then sb (sb m1 Reg.CYE_TBL_STAT 1) Reg.CYE_FLAGS 0
  else wrs m1 Reg.CYE_TBL_DATA (cyeWords m t i)

/-- A GO with WRITE 1: a host input configuration, which waits for the next period start while a program runs. -/
def cyeTblWrite (cmd : Word) (m : Pnm) : Pnm :=
  let m1 := storeCmd Reg.CYE_TBL_CMD 0x0017FFFF#32 cmd m
  let i := bits cmd 15 0
  let e := [rd m Reg.CYE_TBL_DATA]
  if bits cmd 18 16 ≠ 2 then cyeErr 14 i (sb m1 Reg.CYE_TBL_STAT 1)
  else if 4096 ≤ i ∨ 256 < fld e 0 8 0 then cyeErr 15 i (sb m1 Reg.CYE_TBL_STAT 1)
  else if m.cye.running then sb { m1 with cye := { m1.cye with cfgPend := m1.cye.cfgPend ++ [(i, e)] } } Reg.CYE_TBL_STAT 0
  else applyCfg i e m1

/-- CYE_STAT. -/
def cyeStatWord (m : Pnm) : Word :=
  let faulted := (liveTasks m).filter fun t => decide ((getTask m t).state = 3)
  loW (b2n (m.cye.staged.isSome || m.cye.prog.isSome) + 2 * b2n m.cye.running + 4 * b2n (stepOn m 5) +
    8 * b2n m.cye.stopAt.isSome + 16 * faulted.length + 65536 * (liveTasks m).length)

/-- CYE_PROG and CYE_PROG_ID. -/
def cyeProgWord (m : Pnm) : Word := if m.cye.running then loW ((cyeProg m).rate + 65536 * (cyeProg m).hyper) else 0
def cyeProgId (m : Pnm) : Nat := if m.cye.running then (cyeProg m).progId else 0

end Sys2Proof.Machine
end

