-- ==== Sys2Proof/Machine/Lfg.lean ====
section
/-! DEFINITION. Leapfrog: loading and verifying images, arming, the switch and carry-over (chapter 08). -/

namespace Sys2Proof.Machine

/-- CYE_LF_STAT.PHASE. -/
def lfPhase (m : Pnm) : Nat := rf m Reg.CYE_LF_STAT 2 0
def setPhase (p : Nat) (m : Pnm) : Pnm := wf m Reg.CYE_LF_STAT 2 0 p

/-- R277: event 0x5F with RESULT and the postponed flag. -/
def lfEvent (result flag : Nat) (m : Pnm) : Pnm := raise { src := 6, code := 0x5F, cls := 2, items := [result, flag] } m

/-- A refusal: RESULT, CYE_LF_ERR.INDEX and event 0x5F. -/
def lfRefuse (result index : Nat) (m : Pnm) : Pnm :=
  lfEvent result 0 (wr (wf m Reg.CYE_LF_STAT 15 8 result) Reg.CYE_LF_ERR (loW index))

/-! ## Loading (R254, R258) -/

/-- IMAGE_LOAD: an image of `len` bytes; the second bank is discarded, and the transfer passes the bulk arbiter. -/
def imageLoad (ref : CmdRef) (len : Nat) (image : List Byte) (m : Pnm) : Pnm × Option Ans :=
  if len = 0 then (m, some (ans 1))
  else if lfPhase m = 1 ∨ lfPhase m = 2 ∨ lfPhase m = 4 ∨ lfPhase m = 5 then (m, some (ans 0x1F))
  else
    let cye := { m.cye with staged := none, retained := none, exch := none, loading := some (image.take len, ref) }
    let req := NMap.get ArbReq.init m.hif.arb 257
    let arb := NMap.set ArbReq.init m.hif.arb 257 { req with pending := min len (128 * 2 ^ 20), since := some m.tim.edge }
    (setPhase 1 { m with cye := cye, hif := { m.hif with arb := arb } }, none)

/-- IMAGE_VERIFY_DONE (R258): the verification of the image in hand ends. -/
def imageVerifyDone (m : Pnm) : Pnm :=
  match m.cye.loading with
  | none => m
  | some (bytes, ref) =>
    if lfPhase m ≠ 2 then m
    else
      let m0 := { m with cye := { m.cye with loading := none } }
      match verifyImage m bytes with
      | .ok p => complete ref (ansR 0 1 0)
          (wf (setPhase 3 { m0 with cye := { m0.cye with staged := some p } }) Reg.CYE_LF_STAT 15 8 1)
      | .error b =>
        let m1 := match b.cye with
          | some c => cyeErr c.1 c.2 m0
          | none => m0
        complete ref (ansR 0x1E b.result 0) (lfRefuse b.result b.index (setPhase 0 m1))

/-! ## Arming (R269, R272, R273, R275) -/

/-- Grid ticks between the instants that R269 permits for a program to replace the running one. -/
def switchStep (m : Pnm) (p : Prog) : Nat := Nat.lcm (max 1 (cyeProg m).hyper) (max 1 p.hyper) * progP m

/-- R269: Tb for a request in ns. -/
def switchTick (m : Pnm) (p : Prog) (req : Nat) : Nat :=
  let s := switchStep m p
  cdiv (max (req * unitNs) (nowU m + 1000000 * unitNs)) (s * unitTick) * s

/-- The request in CYE_LF_REQ. -/
def lfReq (m : Pnm) : Nat := rd64 m Reg.CYE_LF_REQ_LO

/-- CYE_LF_TB shows Tb. -/
def showTb (tb : Nat) (m : Pnm) : Pnm :=
  let ns := gridInstant tb / unitNs
  wr (wr m Reg.CYE_LF_TB_LO (loW ns)) Reg.CYE_LF_TB_HI (hiW ns)

/-- PAR table 3: the body of LF_PROPOSE. -/
def proposeBody (p : Prog) (tb : Nat) : List Byte :=
  beBytes 8 p.progId ++ beBytes 8 (gridInstant tb / unitNs) ++ Config.sha384 p.raw

/-- Arm an exchange to a program that passes the exchange checks, or propose it to the peer. -/
def armTo (p : Prog) (base : Nat) (map : List MapEnt) (revert : Bool) (m : Pnm) : Pnm :=
  match exchBad m p base map with
  | some b => lfRefuse b.result b.index m
  | none =>
    let tb := switchTick m p (lfReq m)
    let ask := mirroring m
    let x : Exch := { tb := tb, map := map, askedAt := if ask then some m.tim.edge else none }
    let cye := { m.cye with exch := some x, staged := some p, retained := if revert then none else m.cye.retained }
    let m1 := wf (showTb tb { m with cye := cye }) Reg.CYE_LF_STAT 5 4 0
    if ask then pairSend false 7 (proposeBody p tb) (setPhase 3 m1) else setPhase 4 m1

/-- A write of CYE_LF_CTRL.ARM (R269). -/
def lfArm (m : Pnm) : Pnm :=
  if lfPhase m = 4 ∨ lfPhase m = 5 ∨ m.cye.exch.isSome then lfRefuse 15 0 m
  else match m.cye.staged with
    | none => lfRefuse 18 0 m
    | some p => armTo p p.baseId p.map false m

/-- The inverse of a map (R273). -/
def inverseMap (l : List MapEnt) : List MapEnt :=
  (l.filter (·.op = 1)).map fun e => { e with old := e.new, new := e.old }

/-- A write of CYE_LF_CTRL.REVERT (R273). -/
def lfRevert (m : Pnm) : Pnm :=
  if lfPhase m = 4 ∨ lfPhase m = 5 ∨ m.cye.exch.isSome then lfRefuse 15 0 m
  else match m.cye.retained with
    | none => lfRefuse 18 0 m
    | some p => armTo p (cyeProg m).progId (inverseMap m.cye.lastMap) true m

/-- A write of CYE_LF_CTRL.ABORT (R272). -/
def lfAbort (m : Pnm) : Pnm :=
  match m.cye.exch with
  | none => m
  | some x =>
    if nowU m + 2000 * unitNs < gridInstant x.tb ∧ (lfPhase m = 3 ∨ lfPhase m = 4) then
      lfRefuse 15 0 (setPhase 3 { m with cye := { m.cye with exch := none } })
    else m

/-- A write of CYE_LF_CTRL.DISCARD (R272). -/
def lfDiscard (m : Pnm) : Pnm :=
  if lfPhase m = 3 then
    setPhase 0 { m with cye := { m.cye with staged := none, retained := none, exch := none } }
  else m

/-- R275: the peer has not answered a proposal within 100 ms. -/
def lfPeerTimeout (m : Pnm) : Pnm :=
  match m.cye.exch with
  | none => m
  | some x =>
    match x.askedAt with
    | none => m
    | some e =>
      if e + 100 * edgesMs ≤ m.tim.edge then lfRefuse 17 0 { m with cye := { m.cye with exch := none } } else m

/-- R275, R445: the peer's answer to a proposal. An answer that comes too late for Tb counts as a refusal. -/
def lfReply (progId tbNs result : Nat) (m : Pnm) : Pnm :=
  match m.cye.exch, m.cye.staged with
  | some x, some p =>
    if x.askedAt.isSome ∧ p.progId = progId ∧ gridInstant x.tb / unitNs = tbNs then
      if result = 1 ∧ nowU m + 2000 * unitNs < gridInstant x.tb then
        setPhase 4 { m with cye := { m.cye with exch := some { x with askedAt := none } } }
      else lfRefuse 17 0 { m with cye := { m.cye with exch := none } }
    else m
  | _, _ => m

/-- R445: a proposal of the active module; RESULT of the answer. It accepts an instant that R269 permits. -/
def lfPropose (progId tbNs : Nat) (digest : List Byte) (m : Pnm) : Pnm × Nat :=
  match m.cye.staged with
  | none => (m, 18)
  | some p =>
    if p.progId ≠ progId ∨ Config.sha384 p.raw ≠ digest ∨ lfPhase m = 5 ∨ m.cye.exch.isSome then (m, if m.cye.exch.isSome then 15 else 18)
    else match exchBad m p p.baseId p.map with
      | some b => (m, b.result)
      | none =>
        let s := switchStep m p
        let tb := cdiv (tbNs * unitNs) (s * unitTick) * s
        if gridInstant tb / unitNs ≠ tbNs ∨ gridInstant tb ≤ nowU m + 2000 * unitNs then (m, 17)
        else
          let x : Exch := { tb := tb, map := p.map, askedAt := none }
          (setPhase 4 (showTb tb (wf { m with cye := { m.cye with exch := some x } } Reg.CYE_LF_STAT 5 4 0)), 1)

/-! ## The switch (R266 to R271) -/

/-- An exchange is armed at Tb and Tb lies within `ns` from now. -/
def switchNear (m : Pnm) (ns : Nat) : Option Exch :=
  match m.cye.exch with
  | some x => if lfPhase m = 4 ∧ gridInstant x.tb ≤ nowU m + ns * unitNs then some x else none
  | none => none

/-- An old run is in progress. -/
def oldRun (m : Pnm) : Bool := m.cye.tasks.any fun p => p.2.run.isSome

/-- R271: the exchange is postponed, or abandoned at the third postponement in a row. -/
def postpone (x : Exch) (m : Pnm) : Pnm :=
  let n := rf m Reg.CYE_LF_STAT 5 4 + 1
  let m1 := wf m Reg.CYE_LF_STAT 5 4 n
  if 3 ≤ n then lfRefuse 16 0 (setPhase 3 { m1 with cye := { m1.cye with exch := none } })
  else
    let tb := x.tb + switchStep m (m.cye.staged.getD Prog.empty)
    lfEvent 1 1 (showTb tb { m1 with cye := { m1.cye with exch := some { x with tb := tb } } })

/-- LF_PRE_SWITCH_CHECK at Tb - 2 µs (R271). -/
def preSwitchCheck (m : Pnm) : Pnm :=
  match switchNear m 2000 with
  | some x => if oldRun m then postpone x m else m
  | none => m

/-- R268: output entries of the old program whose sinks the new one does not name. -/
def orphans (old new : Prog) (t : Nat) : List (Nat × List Word) :=
  (old.outputs t).filter fun e => !(new.enabled.any fun k => (new.outputs k).any fun o => decide (sinkOf o.2 = sinkOf e.2))

/-- R267: gate events that no old task has latched, for the new tasks that name their bits. -/
def carryEvents (m : Pnm) (new : Prog) : List (Nat × Nat × Nat × Nat) :=
  let names := fun (p : Prog) (t b : Nat) => (p.inputs t).any fun e => decide (eKind e.2 = 7 ∧ eIndex e.2 = b)
  let whole := fun (x : Nat × Nat × Nat × Nat) =>
    ((liveTasks m).filter fun t => decide ((getTask m t).state ≠ 3) && names (cyeProg m) t x.2.1).all fun t =>
      m.cye.gev.any fun y => decide (y = (t, x.2))
  let evs := (m.cye.gev.filter whole).foldl (fun a x => if a.contains x.2 then a else a ++ [x.2]) []
  new.enabled.flatMap fun t => (evs.filter fun e => names new t e.1).map fun e => (t, e)

/-- LF_SWITCH at Tb (R266 to R268, R270). An old run that is still in progress postpones it. -/
def lfSwitch (m : Pnm) : Pnm :=
  match switchNear m 0, m.cye.staged with
  | some x, some new =>
    if oldRun m then postpone x m
    else
      let u := gridInstant x.tb
      let m1 := beforeLatch u m
      let old := cyeProg m1
      let ts := liveTasks m1
      let m2 := ts.foldl (fun y t => releaseList t u true (safeOf (orphans old new t)) y) m1
      let m3 := (x.map.filter (·.op = 2)).foldl (fun y e => gateCancelAt (progBase y + e.gate) true y) m2
      let m4 := ts.foldl (fun y t => ladderClear 5 t y) m3
      let cye := { m4.cye with
                   prog := some new, tasks := tasksAt new x.tb, insts := progInit new new.enabled [], stopAt := none,
                   gev := carryEvents m4 new, staged := none, exch := none, carry := some x.map, old := some old,
                   oldTasks := m4.cye.tasks, oldInsts := m4.cye.insts }
      let m5 := taskNodes ts new.enabled { m4 with cye := cye }
      setPhase 5 (faultFailed ((List.range 16).foldl (fun y c => noteCore c y) m5))
  | _, _ => m

/-- What becomes of the instances named by a map: carried, reset, and the states after (R262, R263, R265, R274). -/
def carryInsts (m : Pnm) (map : List MapEnt) : Nat × List Nat × NMap InstSt :=
  let old := m.cye.old.getD Prog.empty
  (map.filter (·.op = 1)).foldl (fun (a : Nat × List Nat × NMap InstSt) e =>
    match dirOf old.dir e.old, dirOf (cyeProg m).dir e.new with
    | some o, some n =>
      let t := NMap.get TaskSt.init m.cye.oldTasks o.task
      if t.state = 3 ∨ (getCore m n.core).failed then (a.1, a.2.1 ++ [e.new], a.2.2)
      else
        let i := NMap.get InstSt.init m.cye.oldInsts e.old
        (a.1 + 1, a.2.1, NMap.set InstSt.init a.2.2 e.new { i with from' := t.last })
    | _, _ => a) (0, [], m.cye.insts)

/-- R264: journal records of a list of instances, at most 46 each. -/
def instRecords (kind progId : Nat) (l : List Nat) (m : Pnm) : Pnm :=
  (List.range (cdiv l.length 46)).foldl (fun x i =>
    let part := (l.drop (46 * i)).take 46
    journal 2 0x104 6 (leBytes 1 kind ++ leBytes 1 part.length ++ leBytes 6 0 ++ leBytes 8 progId ++
      part.flatMap fun k => leBytes 4 k) x) m

/-- LF_CARRY_OVER_DONE (R262 to R265, R270): the old image becomes the retained one. -/
def carryOverDone (m : Pnm) : Pnm :=
  match m.cye.carry, m.cye.old with
  | some map, some old =>
    let r := carryInsts m map
    let new := cyeProg m
    let one := map.filter (·.op = 1)
    let dropped := (old.dir.map (·.inst)).filter fun i => !(one.any fun e => decide (e.old = i))
    let fresh := (new.dir.map (·.inst)).filter fun i => !(one.any fun e => decide (e.new = i))
    let cye := { m.cye with
                 insts := r.2.2, carry := none, old := none, oldTasks := [], oldInsts := [], retained := some old,
                 lastMap := map }
    let m1 := wf (wf (setPhase 0 { m with cye := cye }) Reg.CYE_LF_STAT 15 8 1) Reg.CYE_LF_STAT 5 4 0
    let m2 := wr (wr m1 Reg.CYE_LF_COUNT_A (loW (r.1 % 65536 + 65536 * dropped.length))) Reg.CYE_LF_COUNT_B
      (loW (fresh.length % 65536 + 65536 * r.2.1.length))
    let m3 := mrExtend 3 (Config.sha384 new.raw) m2
    let m4 := raise { src := 6, code := 0x5E, cls := 2, items := [r.1, dropped.length] } m3
    instRecords 2 new.progId r.2.1 (instRecords 1 old.progId dropped m4)
  | _, _ => m

/-- A period start at or after an armed Tb belongs to the new program. -/
def beforeSwitch (m : Pnm) (t : Nat) : Bool :=
  match m.cye.exch with
  | some x => decide (lfPhase m ≠ 4) || decide ((getTask m t).next < x.tb)
  | none => true

/-- CYE_LF_STAT with RETAINED, and CYE_LF_NEW_ID. -/
def lfStatWord (m : Pnm) : Word := setBit (rd m Reg.CYE_LF_STAT) 3 m.cye.retained.isSome
def lfNewId (m : Pnm) : Nat := match m.cye.staged with | some p => p.progId | none => 0

/-- CYE_PROG_ID while a switch is in progress is that of the old program (R270). -/
def shownProgId (m : Pnm) : Nat := match m.cye.old with | some p => p.progId | none => cyeProgId m

end Sys2Proof.Machine
end

