-- ==== Sys2Proof/Machine/Scan.lean ====
section
/-! DEFINITION. What the bulk requesters of the module have pending, and CRC's scan channels (R390, R511 to R515). -/

namespace Sys2Proof.Machine

/-! ## Requesters of the bulk arbiter (R390) -/

def getArb (m : Pnm) (q : Nat) : ArbReq := NMap.get ArbReq.init m.hif.arb q
def putArb (q : Nat) (a : ArbReq) (m : Pnm) : Pnm :=
  { m with hif := { m.hif with arb := NMap.set ArbReq.init m.hif.arb q a } }

/-- Requester q has `n` more bytes to transfer; the wait of its oldest one begins now (R393). -/
def arbAdd (q n : Nat) (m : Pnm) : Pnm :=
  let a := getArb m q
  putArb q { a with pending := a.pending + n,
                    since := if n = 0 then a.since else some (a.since.getD m.tim.edge) } m

/-- Requester q has nothing to transfer any more. -/
def arbDrop (q : Nat) (m : Pnm) : Pnm :=
  let m1 := { m with hif := { m.hif with inFlight := m.hif.inFlight.filter fun x => decide (x.1 ≠ q) } }
  putArb q { getArb m q with pending := 0, since := none, starved := false } m1

/-- The bytes from `addr` on lie in enabled segments granted to f; `fuel` bounds the segments they cross. -/
def grantedTo (segs : NMap Seg) (f : Nat) : Nat → Nat → Nat → Bool
  | 0, _, n => decide (n = 0)
  | fuel + 1, addr, n =>
    if n = 0 then true
    else match segs.find? (fun p => p.2.en && decide (p.2.grant = f ∧ p.2.addr ≤ addr ∧ addr < p.2.addr + p.2.bytes)) with
      | some p => let k := min n (p.2.addr + p.2.bytes - addr); grantedTo segs f fuel (addr + k) (n - k)
      | none => false

/-- A range of the capture region that f may read. -/
def mayRead (m : Pnm) (f addr n : Nat) : Bool := grantedTo m.cap.segs f (m.cap.segs.length + 1) addr n

/-! ## Scan channels (R511 to R515) -/

/-- The scan that runs on channel c. -/
def scanOf (m : Pnm) (c : Nat) : Option Scan := m.scans.find? fun s => decide (s.ch = c)

/-- A CRC write was refused (CRC table 3). -/
def crcErr (field c : Nat) (m : Pnm) : Pnm :=
  wf (cfgErr (sb m Reg.CRC_FLAGS 0) Reg.CRC_CFG_ERR field) Reg.CRC_CFG_ERR 10 8 c

/-- Event 0x07 of channel c with its STATUS and VERDICT. -/
def scanEvent (c : Nat) (m : Pnm) : Pnm :=
  let st := rd m (Reg.ch c 0x1C)
  raise { src := 15, code := 0x07, cls := 3, items := [c, bits st 3 0, bits st 6 4],
          fns := evtOf (rf m (Reg.ch c 4) 24 16) } m

/-- The scan of channel c ends with a status. -/
def scanEnd (c status : Nat) (m : Pnm) : Pnm :=
  let m1 := arbDrop (258 + c) { m with scans := m.scans.filter fun s => decide (s.ch ≠ c) }
  scanEvent c (wf m1 (Reg.ch c 0x1C) 3 0 status)

/-- RUNNING of channel c takes a value over the width of its polynomial. -/
def setRunning (c v : Nat) (m : Pnm) : Pnm := wr m (Reg.ch c 0x14) (loW v)

/-- CRC_SCAN_GO (R512, R513): a write of GO of channel c. `vf` is true where a VF writes. -/
def scanGo (c : Nat) (vf : Bool) (m : Pnm) : Pnm :=
  if 8 ≤ c then m
  else if (scanOf m c).isSome then crcErr 2 c m
  else
    let cfg := rd m (Reg.ch c 4)
    let space := bit cfg 4
    let fn := bits cfg 24 16
    let addr := (rd m (Reg.ch c 8)).toNat + 2 ^ 32 * (rd m (Reg.ch c 0xC)).toNat
    let len := (rd m (Reg.ch c 0x10)).toNat
    if space ∧ vf then crcErr 4 c m
    else
      let m1 := wr (if bit cfg 5 then setRunning c (crcInit (bits cfg 1 0)) m else m) (Reg.ch c 0x28) 0
      let m2 := wf m1 (Reg.ch c 0x1C) 3 0 1
      if len = 0 then scanEnd c 3 m2
      else
        let ok := if space then decide (fn = 0 ∧ addr + len ≤ 2 ^ 27) else mayRead m fn addr len
        if ok then
          let s : Scan := { ch := c, fn := fn, space := space, addr := addr, len := len, poly := bits cfg 1 0, left := len }
          arbAdd (258 + c) len { m2 with scans := m2.scans ++ [s] }
        else scanEnd c 4 m2

/-- The bytes of a scan: the capture region, or the second bank of program memory, whose bytes beyond its image read as an
unwritten byte does (log entry 7). -/
def scanBytes (m : Pnm) (r : Memory) (s : Scan) : List Byte :=
  if s.space then
    let img := (match m.cye.staged with | some p => p.raw | none => match m.cye.retained with | some p => p.raw | none => [])
    bytesAt img s.addr s.len
  else Memory.readBytes r s.addr s.len

/-- CRC_SCAN_DONE (R512, R513): every transfer of the scan of channel c has ended. -/
def scanDone (c : Nat) (s : Pnm × Memory) : Pnm × Memory :=
  match scanOf s.1 c with
  | none => s
  | some x =>
    if x.left ≠ 0 then s
    else
      let run := crcRun x.poly (rd s.1 (Reg.ch c 0x14)).toNat (scanBytes s.1 s.2 x)
      (scanEnd c 2 (wr (setRunning c run s.1) (Reg.ch c 0x28) (loW x.len)), s.2)

/-- RESULT of channel c (R513). -/
def scanResult (m : Pnm) (c : Nat) : Nat := crcResult (rf m (Reg.ch c 4) 1 0) (rd m (Reg.ch c 0x14)).toNat

/-- CRC_VERIFY (R514). -/
def scanVerify (c : Nat) (m : Pnm) : Pnm :=
  if 8 ≤ c then m
  else if (scanOf m c).isSome then crcErr 2 c m
  else if rf m (Reg.ch c 4) 1 0 ≠ 0 then crcErr 3 c m
  else
    let v := judge (scanResult m c) (rd m (Reg.ch c 0x20)).toNat (rf m (Reg.ch c 0x24) 7 0)
    scanEvent c (wf m (Reg.ch c 0x1C) 6 4 v)

/-- The scan of channel c is aborted (R515): RUNNING is cleared, DONE keeps what was scanned. -/
def scanAbort (c : Nat) (m : Pnm) : Pnm :=
  match scanOf m c with
  | none => m
  | some x => scanEnd c 5 (wr (setRunning c 0 m) (Reg.ch c 0x28) (loW (x.len - x.left)))

/-- R515: the scans of function f are aborted. -/
def scansGone (f : Nat) (m : Pnm) : Pnm :=
  ((m.scans.filter fun s => decide (s.fn = f)).map (·.ch)).foldl (fun x c => scanAbort c x) m

/-- R515: the scans whose segments are no longer granted to their function are aborted. -/
def scansLost (m : Pnm) : Pnm :=
  ((m.scans.filter fun s => !s.space && !mayRead m s.fn s.addr s.len).map (·.ch)).foldl (fun x c => scanAbort c x) m

/-- A write of CRC_CHc_CFG (R511); `keep` are the bits that the writer may not change. -/
def scanCfgWrite (c : Nat) (vf : Bool) (data : Word) (m : Pnm) : Pnm :=
  let old := rd m (Reg.ch c 4)
  let owner := if vf then bits old 24 16 else bits data 24 16
  let v := setBits (data &&& 0x33#32) 24 16 owner
  if owner ≠ bits old 24 16 ∧ (scanOf m c).isSome then crcErr 1 c m
  else
    let m1 := wr m (Reg.ch c 4) v
    if owner ≠ bits old 24 16 then setRunning c 0 m1 else m1

/-- A write of RUNNING (R512, R513). -/
def scanRunWrite (c : Nat) (data : Word) (m : Pnm) : Pnm :=
  if (scanOf m c).isSome then crcErr 2 c m else setRunning c data.toNat m

/-- Bytes scanned so far (CRC_CHc_DONE). -/
def scanDoneWord (m : Pnm) (c : Nat) : Word :=
  match scanOf m c with
  | some x => loW (x.len - x.left)
  | none => rd m (Reg.ch c 0x28)

/-- CRC_STAT. -/
def crcStatWord (m : Pnm) : Word := loW (m.scans.foldl (fun a s => a + 2 ^ s.ch) 0)

/-- Bytes of a scan's transfer of `n` bytes have moved. -/
def scanMoved (c n : Nat) (m : Pnm) : Pnm :=
  { m with scans := m.scans.map fun s => if s.ch = c then { s with left := s.left - n } else s }

end Sys2Proof.Machine
end

