-- ==== Sys2Proof/Machine/Locks.lean ====
section
/-! DEFINITION. Control locks that carry an embedded command, their release, and what the loss of an owner ends (R180, R229,
R292, R298 to R301, R376). -/

namespace Sys2Proof.Machine

/-- The embedded command of LOCK_OPERATE, under its own rules (HIF table 9, R299). -/
def embedded (ref : CmdRef) (k f : Nat) (e : Emb) (m : Pnm) : Pnm × Option Ans :=
  match e.op with
  | .hostWrite w q v => hostWrite ref (some k) f w.toNat q.toNat v.toNat e.target.toNat e.lateOk m
  | .publish n p items => publish ref (some k) f n.toNat p.toNat e.target.toNat e.lateOk items m
  | .gateArm g loc => if e.target ≠ 0 then (m, some (ans 0x14)) else gateArm f loc.toNat g m
  | .other _ => (m, some (ans 0x14))

/-- The embedded opcode is one that may be embedded. -/
def embOk (e : Emb) : Bool := match e.op with | .other _ => false | _ => true

/-- OUT table 4: OPERATE of function f. The lock is OPERATE_PENDING until the embedded command takes effect. -/
def lockOperate (ref : CmdRef) (f obj : Nat) (e : Emb) (m : Pnm) : Pnm × Option Ans :=
  if !embOk e then (m, some (ans 0x14))
  else match lockOf m obj with
  | none => (m, some (ans 0x1C))
  | some k =>
    let l := getLock m k
    if l.owner = f ∧ l.state = 1 then
      let r := embedded ref k f e (putLock k { l with state := 2 } m)
      match r.2 with
      | none => r
      | some a => (if a.status < 0x10 then lockDone k r.1 else lockBack k r.1, some a)
    else (m, some (ans 0x1C))

/-- A held embedded command of lock k is discarded, and the lock is FREE. -/
def lockFree (k : Nat) (m : Pnm) : Pnm := putLock k (Lock.init k) (dropLockWrite k (dropLockPub k m))

/-- OUT table 4: CANCEL. -/
def lockCancel (f obj : Nat) (m : Pnm) : Pnm × Option Ans :=
  match lockOf m obj with
  | none => (m, some (ans 0x1C))
  | some k => if (getLock m k).owner = f then (lockFree k m, some (ansR 0 k 0)) else (m, some (ans 0x1C))

/-- R301: lock k is released for a reason: 1 FLR, 2 disable, 3 lease, 4 revocation. Its journal record names lock, reason,
OBJ_ID and owner. -/
def lockRelease (reason k : Nat) (m : Pnm) : Pnm :=
  let l := getLock m k
  if l.state = 0 then m
  else
    let m1 := lockFree k m
    let m2 := if reason = 2 then m1 else commitLater (commitEntry 3 0 l.owner 0 k 0 0 (nowNs m) reason) m1
    raise { src := 7, code := 0x64, cls := 1, items := [k, reason], extra := leBytes 4 l.obj ++ leBytes 2 l.owner }
      (inc m2 Reg.OUT_LOCK_RELEASES)

/-- A standby that hears its active module releases no lock by lease on its own (R443). -/
def leaseRuns (m : Pnm) : Bool := !(standby m && rb m Reg.PAR_STAT 8 && decide (rf m Reg.PAR_PEER 2 0 = 2))

/-- R301: the lease of lock k ends. -/
def leaseEnd (k : Nat) (m : Pnm) : Pnm :=
  let l := getLock m k
  if l.state = 1 ∧ l.leaseEnd ≤ nowNs m ∧ leaseRuns m then lockRelease 3 k m else m

/-- R300: every lease that has ended, before a command accepted at this instant. -/
def leasesEnd (m : Pnm) : Pnm := (m.out.locks.map (·.1)).foldl (fun x k => leaseEnd k x) m

/-- The locks of function f. -/
def locksOf (m : Pnm) (f : Nat) : List Nat := (m.out.locks.filter fun p => decide (p.2.state ≠ 0 ∧ p.2.owner = f)).map (·.1)

/-- R301: the locks of f are released. -/
def locksGone (f reason : Nat) (m : Pnm) : Pnm := (locksOf m f).foldl (fun x k => lockRelease reason k x) m

/-- R229, R230, R292, R301, R515: the work that an FLR of f ends. -/
def flrWork (f : Nat) (m : Pnm) : Pnm := scansGone f <| locksGone f 1 (pubOwnerGone f (wordsOwnerGone f m))

/-- R376: the work that disabling f ends, and its captures (R408). -/
def disableWork (f : Nat) (s : PM) : PM :=
  disarmAll (fun c => decide (c.owner = f)) 4
    (onM (fun m => scansGone f <| locksGone f 2 (pubOwnerGone f (wordsOwnerGone f (gatesOwnerGone f m)))) s)

end Sys2Proof.Machine
end

