-- ==== Sys2Proof/Machine/Shares.lean ====
section
/-! DEFINITION. Virtual functions, their shares, revocation and the delivery budget (chapter 12, R337, R338). -/

namespace Sys2Proof.Machine

/-- A refused share or service write: CFG_REJECT, FIELD and FN (R380). -/
def vfErr (field f : Nat) (m : Pnm) : Pnm :=
  wf (cfgErr (sb m Reg.HIF_VF_FLAGS 0) Reg.HIF_VF_CFG_ERR field) Reg.HIF_VF_CFG_ERR 16 8 f

def putVf (n : Nat) (s : VfState) (m : Pnm) : Pnm :=
  { m with hif := { m.hif with vfs := NMap.set (fun _ => VfState.absent) m.hif.vfs n s } }

/-! ## Shares and pools (R379 to R384) -/

/-- Where a resource's share lies: register word, bits. 0 gates, 1 locks, 2 commands, 3 segments. -/
def shareField (r : Nat) : Nat × Nat × Nat :=
  if r = 0 then (1, 10, 0) else if r = 1 then (1, 24, 16) else if r = 2 then (2, 6, 0) else (3, 16, 0)

/-- The share of f in force. -/
def shareOf (m : Pnm) (f r : Nat) : Nat := let p := shareField r; rf m (Reg.shr f p.1) p.2.1 p.2.2

/-- The use of f (VFS table 2). -/
def useOf (m : Pnm) (f r : Nat) : Nat :=
  if r = 0 then gateUse m f else if r = 1 then lockUse m f else if r = 2 then (getFn m f).outstanding else segUse m f

/-- The largest share, and the pool. -/
def shareTop (r : Nat) : Nat := if r = 0 then 1024 else if r = 1 then 256 else if r = 2 then 64 else 65536
def poolOf (m : Pnm) (r : Nat) : Nat :=
  if r = 0 then 1024 - progCount m else if r = 1 then 256 else if r = 2 then 4096 else 65536

/-- c_f (R379). -/
def commitment (m : Pnm) (f r : Nat) : Nat := max (shareOf m f r) (useOf m f r)

/-- c_f with the share writes that have not applied. -/
def stagedCommit (m : Pnm) (f r : Nat) : Nat :=
  let p := shareField r
  (m.hif.staged.filter fun s => decide (s.1 = f ∧ s.2.1 = p.1)).foldl (fun a s => max a (bitsN s.2.2.1 p.2.1 p.2.2))
    (commitment m f r)

/-- The pool minus the commitments (R380). -/
def poolFree (m : Pnm) (r : Nat) : Nat := poolOf m r - (List.range 257).foldl (fun a f => a + commitment m f r) 0

/-- HIF_POOL_A to _C, HIF_USEf_A and _B. -/
def poolWord (m : Pnm) (i : Nat) : Word :=
  if i = 0 then loW (poolFree m 0 + 65536 * poolFree m 1) else if i = 1 then loW (poolFree m 2) else loW (poolFree m 3)
def useWord (m : Pnm) (f i : Nat) : Word :=
  if i = 0 then loW (useOf m f 0 + 65536 * useOf m f 1) else loW (useOf m f 2 + 256 * useOf m f 3)

/-- The resources of share word w. -/
def wordRes (w : Nat) : List Nat := if w = 1 then [0, 1] else if w = 2 then [2] else [3]

/-- R380: the FIELD that refuses a write of share word w, or 0. -/
def shareCheck (m : Pnm) (f w : Nat) (data : Word) : Nat :=
  let val := fun (r : Nat) => let p := shareField r; bits data p.2.1 p.2.2
  let others := fun (r : Nat) => ((List.range 257).filter (· ≠ f)).foldl (fun a g => a + stagedCommit m g r) 0
  if (wordRes w).any (fun r => decide (shareTop r < val r)) then 1
  else match (wordRes w).find? (fun r =>
      decide (shareOf m f r < val r ∧ poolOf m r < others r + max (val r) (stagedCommit m f r))) with
    | some r => r + 2
    | none => 0

/-- The stored fields of share word w. -/
def shareMask (w : Nat) : Word := if w = 1 then 0x01FF07FF#32 else if w = 2 then 0x7F#32 else 0x1FFFF#32

/-- SHARE_WRITE (R380, R383): word w, 1 to 3, of the share registers of function f. -/
def shareWrite (f w : Nat) (data : Word) (m : Pnm) : Pnm :=
  if 256 < f ∨ w = 0 ∨ 3 < w then m
  else
    let c := shareCheck m f w data
    if c ≠ 0 then vfErr c f m
    else
      { m with hif := { m.hif with staged := m.hif.staged ++ [(f, w, (data &&& shareMask w).toNat, 0, m.tim.edge)] } }

/-- Two microseconds have passed since a write at an edge. -/
def ripe (m : Pnm) (edge : Nat) : Bool := decide (edge + 2 * edgesUs ≤ m.tim.edge)

/-- One share write applies; the mask of the resources that change (R383). -/
def applyShare (m : Pnm) (s : Nat × Nat × Nat × Nat × Nat) : Pnm × Nat :=
  let m1 := wr m (Reg.shr s.1 s.2.1) (loW s.2.2.1)
  (m1, (wordRes s.2.1).foldl (fun a r => if shareOf m s.1 r = shareOf m1 s.1 r then a else a + 2 ^ r) 0)

/-- R383: at an acceptance instant the share writes of at least 2 µs ago apply, each function with one event. -/
def sharesApply (m : Pnm) : Pnm :=
  let due := m.hif.staged.filter fun s => ripe m s.2.2.2.2
  let m0 := { m with hif := { m.hif with staged := m.hif.staged.filter fun s => !ripe m s.2.2.2.2 } }
  let r := due.foldl (fun (a : Pnm × NMap Nat) s =>
    let y := applyShare a.1 s
    (y.1, NMap.upd (fun _ => 0) a.2 s.1 (Nat.lor y.2))) (m0, [])
  r.2.foldl (fun x p => raise { src := 9, code := 0x15, cls := 3, items := [p.1, p.2], fns := evtOf p.1 } x) r.1

/-! ## The life of a VF (R373 to R378, R363, R367) -/

/-- SERVICE_WRITE (R375, R376). -/
def serviceWrite (n : Nat) (on : Bool) (m : Pnm) : Pnm :=
  if n = 0 ∨ 256 < n ∨ vfState m n = .absent then vfErr 7 n m
  else
    let m1 := wf m (Reg.shr n 0) 0 0 (b2n on)
    { m1 with hif := { m1.hif with svcReq := m1.hif.svcReq.filter (fun q => decide (q.1 ≠ n)) ++ [(n, on, m.tim.edge)] } }

/-- R375: VF n enters service. -/
def enterService (n : Nat) (m : Pnm) : Pnm :=
  raise { src := 9, code := 0x14, cls := 2, items := [n, 1] } (nodeUse (768 + n) true (putVf n .inService m))

/-- R376: VF n is disabled. -/
def leaveService (n : Nat) (s : PM) : PM :=
  let t := disableWork n (onM (stopRings n) s)
  onM (fun m => raise { src := 9, code := 0x14, cls := 2, items := [n, 0] }
    (nodeUse (768 + n) false (putVf n .disabled m))) t

/-- One service request takes effect. -/
def applyService (s : PM) (q : Nat × Bool × Nat) : PM :=
  let n := q.1
  if q.2.1 then (if vfState s.1 n = .disabled then onM (enterService n) s else s)
  else if vfState s.1 n = .inService then leaveService n s else s

/-- R375, R376, R378: at an acceptance instant the service requests of at least 2 µs ago take effect; a disable waits for an
FLR in progress. -/
def servicesApply (s : PM) : PM :=
  let go := fun (q : Nat × Bool × Nat) => ripe s.1 q.2.2 && (q.2.1 || !(getFn s.1 q.1).flrBusy)
  let due := s.1.hif.svcReq.filter go
  let m0 := { s.1 with hif := { s.1.hif with svcReq := s.1.hif.svcReq.filter fun q => !go q } }
  due.foldl applyService (m0, s.2)

/-- Clear the function registers of VF n, and its MSI-X state (R367, R371). -/
def clearFnRegs (n : Nat) (m : Pnm) : Pnm :=
  let base := Reg.fn n 0
  let regs := m.regs.filter fun p => !(decide (base ≤ p.1 ∧ p.1 < base + 0xA0))
  let tbl := m.hif.msixTbl.filter fun p => !(decide (n * 65536 ≤ p.1 ∧ p.1 < (n + 1) * 65536))
  let m1 := { m with regs := regs, hif := { m.hif with msixTbl := tbl, unmasked := m.hif.unmasked.filter (·.1 ≠ n) } }
  putEvt n { getEvt m1 n with drop := 0, held := [] } m1

/-- An FLR of VF n (R367, R378). -/
def flr (n : Nat) (m : Pnm) : Pnm :=
  if n = 0 then m
  else match vfState m n with
  | .absent => m
  | .disabled => clearFnRegs n m
  | .inService =>
    let m1 := flrWork n (stopRings n m)
    let m2 := modFn n (fun s =>
      { FnState.init n with accSeq := s.accSeq, pendSet := s.pendSet, reaccept := s.reaccept, reportDue := s.reportDue,
                            outstanding := s.outstanding, backlog := s.backlog, flrBusy := true }) m1
    putEvt n { getEvt m2 n with pend := [], prod := 0, cons := 0 } (clearFnRegs n m2)

/-- SHR_FLR: a write of HIF_SHRn_CTRL.FLR (R378). -/
def shrFlr (n : Nat) (m : Pnm) : Pnm := if n = 0 ∨ 256 < n ∨ vfState m n = .absent then vfErr 8 n m else flr n m

/-- FLR_COMPLETE (R367). -/
def flrComplete (n : Nat) (m : Pnm) : Pnm :=
  if (getFn m n).flrBusy then
    raise { src := 9, code := 0x19, cls := 2, items := [n] } (modFn n (fun s => { s with flrBusy := false }) m)
  else m

/-- VF_ENABLE_SET with NumVFs (R374). -/
def vfEnableSet (num : Nat) (m : Pnm) : Pnm :=
  if m.hif.vfEnable then m
  else
    let n := min num 256
    let vfs := (List.range n).foldl (fun a i => NMap.set (fun _ => VfState.absent) a (i + 1) VfState.disabled) []
    { m with hif := { m.hif with vfEnable := true, numVf := n, vfs := vfs } }

/-- VF_ENABLE_CLEAR (R374). -/
def vfEnableClear (s : PM) : PM :=
  let inS := (s.1.hif.vfs.filter fun p => decide (p.2 = .inService)).map (·.1)
  let t := inS.foldl (fun x n => leaveService n x) s
  onM (fun m =>
    let m1 := (List.range m.hif.numVf).foldl (fun x i => wf x (Reg.shr (i + 1) 0) 0 0 0) m
    { m1 with hif := { m1.hif with vfEnable := false, numVf := 0, vfs := [], svcReq := [] } }) t

/-- VF_SEQ_RESET (R363, R377). -/
def vfSeqReset (n : Nat) (m : Pnm) : Pnm × Option Ans :=
  if n = 0 ∨ 256 < n ∨ vfState m n ≠ .disabled then (m, some (ans 0x14))
  else (modFn n (fun s => { s with accSeq := 0, pendSet := [], reaccept := [], backlog := [] }) m, some (ans 0))

/-! ## Revocation (R385 to R388) -/

/-- The segments granted to f that no armed capture uses, in descending order. -/
def idleSegs (m : Pnm) (f : Nat) : List Nat :=
  ((m.cap.segs.map (·.1)).filter fun i => decide ((getSeg m i).grant = f) && !inCapture m i).reverse

/-- R385, R515: segments of f are withdrawn. -/
def segsRevoke (f n : Nat) (m : Pnm) : Pnm × Nat :=
  let l := (idleSegs m f).take n
  (scansLost (l.foldl (fun x i => putSeg i { getSeg x i with grant := 511 } x) m), l.length)

/-- R385: SELECTED locks of f are released, in descending order. -/
def locksRevoke (f n : Nat) (m : Pnm) : Pnm × Nat :=
  let l := (((locksOf m f).filter fun k => decide ((getLock m k).state = 1)).reverse).take n
  (l.foldl (fun x k => lockRelease 4 k x) m, l.length)

/-- R388: gates that a revocation ended are reported to the peer. -/
def gatesRevokeSay (f n : Nat) (m : Pnm) : Pnm × Nat :=
  let r := gatesRevoke f n m
  let ended := (m.gte.gates.filter fun p => p.2.open' && !(getGate r.1 p.1).open').map (·.1)
  (ended.foldl (fun x i => commitLater (commitEntry 4 0 f 0 i 0 0 (nowNs m) 0) x) r.1, r.2)

/-- SHARE_REVOKE (R385, R387, R388). On a standby it acts on segments only. -/
def shareRevoke (f mask : Nat) (resv : Bool) (m : Pnm) : Pnm × Option Ans :=
  if mask % 8 = 0 then (m, some (ans 1))
  else if f = 0 ∨ 256 < f ∨ resv then (m, some (ans 0x14))
  else
    let eff := if standby m then mask / 4 * 4 else mask
    let above := fun (x : Pnm) (r : Nat) => useOf x f r - shareOf x f r
    let one := fun (a : Pnm × Nat × Nat) (b r : Nat) (go : Nat → Pnm → Pnm × Nat) =>
      if eff.testBit b then
        let y := go (above a.1 r) a.1
        (y.1, a.2.1 + y.2, a.2.2 + above y.1 r)
      else a
    let a0 : Pnm × Nat × Nat := (m, 0, 0)
    let a1 := one a0 0 0 (gatesRevokeSay f)
    let a2 := one a1 1 1 (locksRevoke f)
    let a3 := one a2 2 3 (segsRevoke f)
    let m1 := if a3.2.1 = 0 then a3.1 else sb a3.1 Reg.HIF_VF_FLAGS 2
    (raise { src := 9, code := 0x17, cls := 1, items := [f, mask, a3.2.1, a3.2.2], fns := [f] } m1,
     some (ansR 0 a3.2.1 a3.2.2))

/-! ## The delivery budget (R337, R338) -/

/-- Megatransfers per second of a speed code. -/
def linkMt (gen : Nat) : Nat :=
  if gen = 1 then 2500 else if gen = 2 then 5000 else if gen = 3 then 8000 else if gen = 4 then 16000
  else if gen = 5 then 32000 else 0

/-- B_link in bytes per second times 10,400. -/
def budgetU (m : Pnm) : Nat :=
  let mt := linkMt m.hif.gen * m.hif.width * 1000000
  if !m.hif.linkUp then 0 else if 3 ≤ m.hif.gen then mt * 768 else mt * 624

/-- Planes per second of the phasor plane at a divider code. -/
def phasorNeed (pp rate d : Nat) : Nat := pp * rate / 2 ^ d

/-- SP_f and PP_f (R338). -/
def spOf (m : Pnm) (f : Nat) : Nat :=
  let n := rf m (Reg.SVI_VIEW + 4 * f) 29 16
  if n = 0 then 0 else 72 + 8 * n
def ppOf (m : Pnm) (f : Nat) : Nat :=
  let n := rf m (Reg.SVI_VIEW + 4 * f) 29 16
  if n ≠ 0 ∧ rb m (Reg.FPE_PVIEW + 4 * f) 0 then 2120 + 24 * n else 0

/-- Sums over the functions with views. -/
def spAll (m : Pnm) : Nat := m.svi.views.foldl (fun a p => a + spOf m p.1) 0
def ppAll (m : Pnm) : Nat := m.svi.views.foldl (fun a p => a + ppOf m p.1) 0

/-- The plane rate that is configured. -/
def rateNow (m : Pnm) : Nat := planeRate (rf m Reg.SVI_PLANE 2 0)

/-- The delivery need in bytes per second. -/
def needU (m : Pnm) : Nat := spAll m * rateNow m + phasorNeed (ppAll m) (rateNow m) (rf m Reg.FPE_STAT 1 0)

/-- HIF_BUDGET and HIF_NEED, to the nearest 10^6 bytes per second. -/
def budgetWord (m : Pnm) : Word := loW ((budgetU m + 5200000000) / 10400000000)
def needWord (m : Pnm) : Word := loW ((needU m + 500000) / 1000000)

/-- R338, R37: step 6 follows the comparison. -/
def step6 (m : Pnm) : Pnm :=
  let above := decide (budgetU m < needU m * 10400)
  if above = stepOn m 6 then m else if above then ladderEnter 6 0 m else ladderClear 6 0 m

/-- R41: the divider code of phasor deliveries in step 6, and whether that rate fits. -/
def divOf (m : Pnm) : Nat × Bool :=
  let d0 := rf m Reg.FPE_STAT 1 0
  if stepOn m 6 then
    match ([0, 1, 2, 3].filter (d0 ≤ ·)).find? fun d => decide (phasorNeed (ppAll m) (rateNow m) d * 10400 ≤ budgetU m) with
    | some d => (d, true)
    | none => (3, false)
  else (d0, true)

/-- PCIE_LINK_TRAIN: the link trains at a speed code and width, or is down (gen 0) (R337). Every retraining raises event
0x1C; the strap caps the speed. -/
def linkTrain (gen width : Nat) (tag10 : Bool) (m : Pnm) : Pnm :=
  let g := min gen (5 - m.glb.straps.genMax)
  let w := if g = 0 then 0 else min width 16
  let m1 := { m with hif := { m.hif with linkUp := decide (g ≠ 0), gen := g, width := w, tag10 := tag10 } }
  step6 (raise { src := 9, code := 0x1C, cls := 2, items := [g, w] } (sb m1 Reg.HIF_FLAGS 2))

/-- HIF_STAT (HIF table 16). -/
def hifStatWord (m : Pnm) : Word :=
  loW (m.hif.gen + 8 * m.hif.width + 256 * b2n (stepOn m 6) + 512 * b2n m.hif.tag10)

/-- HIF_VF_STAT and HIF_SHRf_CTRL. -/
def vfStatWord (m : Pnm) : Word :=
  loW (m.hif.numVf + 512 * b2n m.hif.vfEnable + 65536 * (m.hif.vfs.filter fun p => decide (p.2 = .inService)).length)
def vfCode (m : Pnm) (f : Nat) : Nat := match vfState m f with | .absent => 0 | .disabled => 1 | .inService => 2
def shrCtrlWord (m : Pnm) (f : Nat) : Word := setBits (if f = 0 then 1 else rd m (Reg.shr f 0) &&& 1) 3 2 (vfCode m f)

end Sys2Proof.Machine
end

