-- ==== Sys2Proof/Machine/Delivery.lean ====
section
/-! DEFINITION. Plane delivery: plane buffers, layouts, misses and the reduced delivery of step 6 (R41, R124 to R126, R164,
R357, R358). -/

namespace Sys2Proof.Machine

/-- The view of f in force at plane tick T: first slot and count (R124). -/
def viewOf (m : Pnm) (f T : Nat) : Nat × Nat := let v := viewAt m f T; (bits v 12 0, bits v 29 16)

/-- Streams with a flag in any viewed slot, from the flag words by slot. -/
def streamsWith (m : Pnm) (b first n : Nat) (fl : Nat → Nat) : Nat :=
  ((enabledSubs m).filter fun p => (eSlots p.2).any fun s =>
    decide (first ≤ s ∧ s < first + n) && (fl s).testBit b).length

/-- DEGRADE at plane tick T. -/
def degradeAt (m : Pnm) (T : Nat) : Nat := ((m.svi.degr.find? fun p => decide (p.1 = T)).map (·.2)).getD m.ladder.inForce

/-- SVI table 6: the header of a plane of KIND `kind` for function f. -/
def planeHeader (m : Pnm) (kind f T first n : Nat) (fl : Nat → Nat) : List Word :=
  let u := gridInstant T
  let orW := (List.range' first n).foldl (fun a s => Nat.lor a (fl s)) 0
  [loW (kind + 256 + 65536 * 64), planeSeq m T, loW (uNs u), hiW (uNs u), loW (uFrac u),
   loW (tickInSec m T % 65536 + 65536 * rf m Reg.SVI_PLANE 2 0), loW (first + 65536 * n),
   loW (min 65535 (getFn m f).skipped + 65536 * degradeAt m T + 2 ^ 24 * clkWord m), loW (rf m Reg.SVI_PLANE 27 16),
   rd m Reg.SVI_GDELAY, loW (streamsWith m 0 first n fl + 65536 * streamsWith m 1 first n fl), loW orW, 0, 0, 0, 0]

/-- A plane's trailer (R125). -/
def trailer (m : Pnm) (T : Nat) (body : List Word) : List Word := [planeSeq m T, loW (crc32c (bytesOf body))]

/-- The sample plane of plane tick T for a view (R125): header, slot area. -/
def samplePlane (m : Pnm) (f T first n : Nat) (p : Plane) : List Word × List Word :=
  let at' := fun (s : Nat) => NMap.get (fun _ => Val.unmapped) p.vals s
  (planeHeader m 1 f T first n fun s => (at' s).f,
   (List.range' first n).flatMap fun s => let x := at' s; [loW (ux 32 x.v), loW (x.q % 65536 + 65536 * x.f)])

/-- An unmapped slot of the phasor plane (R164). -/
def Phasor.unmapped : Phasor := { Phasor.none with q := 0x8001, f := 0x200 }

/-- FPE table 8. -/
def phasorWords (p : Phasor) : List Word :=
  [loW (ux 32 p.re), loW (ux 32 p.im), loW p.h2, loW p.h5, loW (p.q % 65536 + 65536 * p.f), loW p.flags]

/-- The phasor plane of plane tick T for a view (R164). -/
def phasorPlane (m : Pnm) (f T first n : Nat) (p : PhPlane) : List Word × List Word :=
  let at' := fun (s : Nat) => NMap.get (fun _ => Phasor.unmapped) p.ph s
  (planeHeader m 2 f T first n fun s => (at' s).f,
   ((List.range' first n).flatMap fun s => phasorWords (at' s)) ++ p.refs.flatMap refWords)

/-- R126: header, slot area and trailer as posted writes in order. -/
def writePlane (f addr T : Nat) (w : List Word × List Word) (m : Pnm) : Pnm :=
  emit m [.write f addr w.1, .write f (addr + 64) w.2, .write f (addr + 64 + 4 * w.2.length) (trailer m T (w.1 ++ w.2))]

/-- R357: one part of a delivery: written where the buffer is large enough; a non-zero length that is too small is counted. -/
def part (f addr len T : Nat) (w : List Word × List Word) (m : Pnm) : Pnm :=
  let size := 64 + 4 * w.2.length + 8
  if len = 0 then m
  else if size ≤ len then writePlane f addr T w m
  else sb (inc m (Reg.fn f 0x30)) (Reg.fn f 8) 2

/-- Whether f is due a sample plane and a phasor plane at plane tick T (R124, R164, R357). -/
def dueParts (m : Pnm) (f T : Nat) : Bool × Bool :=
  let n := (viewOf m f T).2
  let ph := decide (n ≠ 0) && rb m (Reg.FPE_PVIEW + 4 * f) 0 && phasorTick m T
  if stepOn m 6 then (false, ph && decide (tickInSec m T % 2 ^ (divOf m).1 = 0)) else (decide (n ≠ 0), ph)

/-- A delivery to f at plane tick T with the next descriptor, or a miss (R357, R358). -/
def deliverTo (f T : Nat) (m : Pnm) : Pnm :=
  let s := getFn m f
  let d := dueParts m f T
  let v := viewOf m f T
  let c := closeAt m T
  match s.planes with
  | (at', x) :: rest =>
    if at' ≤ c then
      let m1 := if d.1 then (match m.svi.planes.find? fun p => decide (p.tick = T) with
        | some p => part f x.sampleAddr.toNat x.sampleLen.toNat T (samplePlane m f T v.1 v.2 p) m
        | none => m) else m
      let m2 := if d.2 then (match m.fpe.planes.find? fun p => decide (p.tick = T) with
        | some p => part f x.phasorAddr.toNat x.phasorLen.toNat T (phasorPlane m f T v.1 v.2 p) m1
        | none => m1) else m1
      let m3 := modFn f (fun y =>
        { y with planes := rest, modIdx := setAt y.modIdx 2 (y.modIdx.getD 2 0 + 1), missing := false, skipped := 0,
                 planeSeq := (planeSeq m T).toNat }) m2
      writeBack f [] (vecDue f 3 m3)
    else miss m
  | [] => miss m
where
  /-- R358: nothing is posted. -/
  miss (m : Pnm) : Pnm :=
    let m1 := sb (inc m (Reg.fn f 0x2C)) (Reg.fn f 8) 3
    let m2 := modFn f (fun y => { y with missing := true, skipped := y.skipped + 1 }) m1
    raiseIf (!(getFn m f).missing) { src := 9, code := 0x1B, cls := 3, items := [f], fns := evtOf f } m2

/-- The functions with a delivery due at plane tick T, from the one after the last served (R41). -/
def dueFns (m : Pnm) (T : Nat) : List Nat :=
  let l := (fnList m).filter fun f => fnOn m f && (let d := dueParts m f T; d.1 || d.2)
  (l.filter fun f => decide (m.hif.delivLast < f)) ++ l.filter fun f => decide (f ≤ m.hif.delivLast)

/-- R41: where even the lowest rate does not fit, a delivery waits for a plane tick at which the budget carries it. -/
def deliverCredit (T : Nat) (m : Pnm) (f : Nat) : Pnm :=
  let n := ppOf m f
  if n ≤ m.hif.credit then
    deliverTo f T { m with hif := { m.hif with credit := m.hif.credit - n, delivLast := f } }
  else modFn f (fun y => { y with skipped := y.skipped + 1 }) m

/-- Deliveries of the plane of plane tick T. -/
def deliver (T : Nat) (m : Pnm) : Pnm :=
  if !rb m Reg.HIF_CTRL 0 then m
  else if (divOf m).2 then (sortBy (fun a b => decide (a ≤ b)) (dueFns m T)).foldl (fun x f => deliverTo f T x) m
  else
    let perTick := budgetU m / (10400 * max 1 (rateNow m))
    let top := max (ppAll m) perTick
    let m1 := { m with hif := { m.hif with credit := min top (m.hif.credit + perTick) } }
    (dueFns m1 T).foldl (deliverCredit T) m1

end Sys2Proof.Machine
end

