-- ==== Sys2Proof/Machine/Jnl.lean ====
section
/-! DEFINITION. JNL: zones, flushes and seals, operating time, readout (R493 to R507). -/

namespace Sys2Proof.Machine

/-- Change the journal alone. -/
def modJnl (f : Jnl → Jnl) (m : Pnm) : Pnm := { m with tel := { m.tel with jnl := f m.tel.jnl } }

/-! ## Records and zones (R493, R494) -/

/-- The bytes of a record (JNL table 2). -/
def recRaw (r : JRec) : List Byte :=
  let units := r.size / 16
  let w0 := 0x4A52 + 2 ^ 16 * (units % 32) + 2 ^ 24 * r.cls + 2 ^ 26 * b2n (decide (1 < r.count))
  let w1 := r.code % 65536 + 2 ^ 16 * (r.source % 16) + 2 ^ 24 * (r.payload.length % 256)
  let at' := fun (s us : Nat) => leBytes 8 (s % 2 ^ 40 + 2 ^ 40 * us)
  let head := leBytes 4 w0 ++ leBytes 4 w1 ++ leBytes 8 r.rseq ++ at' r.opSec r.opUs ++ leBytes 4 r.pcyc ++ leBytes 2 r.count ++
    leBytes 2 0 ++ leBytes 8 r.modNs ++ at' r.lastSec r.lastUs ++ r.payload
  let body := head ++ List.replicate (r.size - 8 - head.length) 0
  let c := crc32c body
  body ++ leBytes 4 c ++ leBytes 1 (crc8of c) ++ [0, 0, 0]

/-- Sizes: the birth zone without its last 64 KiB, those 64 KiB, and the ring zone (R493). -/
def birthRoom : Nat := 2 ^ 20 - 65536
def ringRoom : Nat := 31 * 2 ^ 20

/-- Two ranges of a zone overlap. -/
def overlaps (a n b k : Nat) : Bool := decide (a < b + k ∧ b < a + n)

/-- A record goes to the ring zone: at the write position, or at the start where it does not fit before the end, whose tail
FILL records cover. What it covers leaves. -/
def ringAppend (r : JRec) (j : Jnl) : Jnl :=
  let fits := decide (j.ringPos + r.size ≤ ringRoom)
  let keep := if fits then j.ring else j.ring.filter fun p => !overlaps p.1 p.2.size j.ringPos (ringRoom - j.ringPos)
  let pos := if fits then j.ringPos else 0
  { j with ring := (keep.filter fun p => !overlaps p.1 p.2.size pos r.size) ++ [(pos, r)], ringPos := pos + r.size }

/-- R493: the next record, which gets its RSEQ as it is written. -/
def zoneAppend (r0 : JRec) (j : Jnl) : Jnl :=
  let r := { r0 with rseq := j.nextRseq }
  let j0 := { j with nextRseq := j.nextRseq + 1 }
  let copy := r.code = 0x0C ∧ recBytes j.birthCopies + r.size ≤ 65536
  let j1 := if copy then { j0 with birthCopies := j0.birthCopies ++ [r] } else j0
  if j1.birthFull = false ∧ j1.birthPos + r.size ≤ birthRoom then
    { j1 with birth := j1.birth ++ [(j1.birthPos, r)], birthPos := j1.birthPos + r.size }
  else ringAppend r { j1 with birthFull := true }

/-! ## Flushes and seals (R497, R500 to R502) -/

/-- KCV: the first 8 bytes of the encryption of a zero block (R497). -/
def jnlKcv (m : Pnm) : List Byte := (Config.aes (jnlKey m) (List.replicate 16 0)).take 8

/-- A record that the journal itself makes. -/
def ownRec (m : Pnm) (cls code : Nat) (payload : List Byte) : JRec :=
  let j := m.tel.jnl
  { cls := cls, code := code, source := 13, payload := payload, count := 1, opSec := j.opSec, opUs := opUsOf m j,
    pcyc := j.pcyc, modNs := nowNs m, lastSec := j.opSec, lastUs := opUsOf m j, rseq := 0 }

/-- Records are appended in order, and the seal after them (R497). -/
def appendSealed (m : Pnm) (l : List JRec) (j : Jnl) : Jnl :=
  let j1 := l.foldl (fun a r => zoneAppend r a) j
  let full := l.zipIdx.map fun p => { p.1 with rseq := j.nextRseq + p.2 }
  let iv := List.replicate 4 0 ++ beBytes 8 j1.nextRseq
  let tag := Config.gmac (jnlKey m) iv (j.lastTag ++ full.flatMap recRaw)
  let pay := leBytes 8 j.prevSeal ++ leBytes 8 (j1.nextRseq - 1) ++ jnlKcv m ++ tag
  let j2 := zoneAppend (ownRec m 3 0x100 pay) j1
  { j2 with prevSeal := j1.nextRseq, lastTag := tag, flushes := j2.flushes + 1, opStored := j2.opSec }

/-- The first `n` records of the buffer are in MRAM and sealed. -/
def flushBuf (m : Pnm) (n : Nat) (j : Jnl) : Jnl :=
  let j1 := appendSealed m (j.buf.take n) j
  { j1 with buf := j1.buf.drop n, flushing := none }

/-- What a flush brings about: the records are sealed, the birth zone may become full, and a loss summary may follow. -/
def flushWith (n : Nat) (m : Pnm) : Pnm :=
  let m1 := modJnl (flushBuf m n) m
  let m2 := modJnl (fun j => let k := jnlLoss m1 j
    { k with flushDue := if k.buf = [] then none else some (k.flushDue.getD (m1.tim.edge + 2 * edgesMs)) }) m1
  raiseIf (decide (m.tel.jnl.birthFull = false) && m2.tel.jnl.birthFull) { src := 13, code := 0x02, cls := 2, items := [] } m2

/-- JNL_FLUSH_TIMER: the deadline of R500. -/
def flushTimer (m : Pnm) : Pnm :=
  if due m.tel.jnl.flushDue m.tim.edge then modJnl Jnl.startFlush m else m

/-- JNL_FLUSH_WRITE; an empty buffer leaves nothing to flush. -/
def flushWrite (m : Pnm) : Pnm := if m.tel.jnl.buf = [] then m else modJnl Jnl.startFlush m

/-- The readout at work that freezes the ring (R505). -/
def freezing (j : Jnl) : Option JRead :=
  match j.reads with
  | r :: _ => if r.birth || r.early.isSome then none else some r
  | [] => none

/-- The records that the flush in progress would take from the ring include one at or after the read position (R505). -/
def flushWaits (m : Pnm) : Bool :=
  let j := m.tel.jnl
  match freezing j with
  | none => false
  | some r =>
    let k := flushBuf m (j.flushing.getD 0) j
    j.ring.any fun p => decide (r.start ≤ p.2.rseq) && !(k.ring.any fun q => decide (q.2.rseq = p.2.rseq))

/-- JNL_FLUSH_DONE: the records are written and read back. `bad` tells that the repetition failed too, `write` that it was the
write and not the read-back (R500). -/
def flushDone (bad write : Bool) (m : Pnm) : Pnm :=
  match m.tel.jnl.flushing with
  | none => m
  | some n =>
    if bad then
      let m1 := modJnl (fun j =>
        { j with flushing := none, flags := setBit j.flags 2 true, flushDue := some (m.tim.edge + edgesS) }) m
      raise { src := 13, code := 0x01, cls := 1, items := [if write then 1 else 2] } (nodeCause 29 (128 + 1) 2 m1)
    else if flushWaits m then m
    else nodeCause 29 (128 + 1) 0 (flushWith n m)

/-! ## Operating time (R495, R499) -/

/-- OP_SECOND_TICK. -/
def opSecond (m : Pnm) : Pnm :=
  let j := m.tel.jnl
  if m.tim.edge < j.opEdge + edgesS then m
  else
    let j1 := { j with opSec := j.opSec + 1, opEdge := j.opEdge + edgesS, cls0 := 0, held := j.held.drop 2000,
                       opStored := if j.opStored + 10 ≤ j.opSec + 1 then j.opSec + 1 else j.opStored }
    modJnl (fun _ => (j.held.take 2000).foldl (fun a r => jnlPut m r a) j1) m

/-! ## Readout (R503 to R505) -/

/-- Edge at which the freeze of a readout that starts now ends. -/
def freezeEnd (m : Pnm) : Nat := m.tim.edge + rf m Reg.JNL_CFG 23 16 * edgesS

/-- The records of a zone in RSEQ order. -/
def zoneRecs (j : Jnl) (birth : Bool) : List JRec :=
  if birth then j.birth.map (·.2) ++ j.birthCopies.filter fun r => !(j.birth.any fun p => decide (p.2.rseq = r.rseq))
  else j.ring.map (·.2)

/-- As many records as fit in `len` bytes, each with its verdict byte: their number and bytes. -/
def fitRecs (len : Nat) : List JRec → Nat × Nat
  | [] => (0, 0)
  | r :: t =>
    if r.size + 1 ≤ len then let x := fitRecs (len - r.size - 1) t; (x.1 + 1, x.2 + r.size + 1) else (0, 0)

/-- The readout at the head of the queue begins. -/
def readBegin (m : Pnm) : Pnm :=
  let j := m.tel.jnl
  match j.reads with
  | [] => m
  | r :: t =>
    let all := zoneRecs j r.birth
    let from' := all.filter fun x => decide (r.start ≤ x.rseq)
    let missed := match all with | x :: _ => decide (r.start ≠ 0 ∧ r.start < x.rseq) | [] => decide (r.start ≠ 0)
    let n := fitRecs r.len from'
    let first := (from'.head?.map (·.rseq)).getD 0
    let r' : JRead := { r with start := first, missed := missed, count := n.1, left := n.2, freezeDue := some (freezeEnd m) }
    arbAdd 266 n.2 (modJnl (fun k => { k with reads := r' :: t }) m)

/-- JOURNAL_READ (R503). -/
def journalRead (ref : CmdRef) (addr len : Nat) (birth : Bool) (fromR : Nat) (m : Pnm) : Pnm × Option Ans :=
  if len = 0 then (m, some (ans 1))
  else if len < 4096 ∨ 64 * 2 ^ 20 < len ∨ addr % 64 ≠ 0 then (m, some (ans 0x14))
  else
    let r : JRead := { ref := ref, addr := addr, len := len, birth := birth, start := fromR, missed := false, count := 0, left := 0,
                       freezeDue := none, early := none }
    let idle := decide (m.tel.jnl.reads = [])
    let m1 := modJnl (fun j => { j with reads := j.reads ++ [r] }) m
    (if idle then readBegin m1 else m1, none)

/-- The records that a readout copies. -/
def readRecs (j : Jnl) (r : JRead) : List JRec :=
  ((zoneRecs j r.birth).filter fun x => decide (r.start ≤ x.rseq)).take r.count

/-- Records of a list that `n` moved bytes reach, the current one included. -/
def recsIn (n : Nat) : List JRec → Nat
  | [] => 0
  | r :: t => if n = 0 then 0 else 1 + recsIn (n - r.size) t

/-- R505: the freeze of the readout at work ends early: the copy stops after the current record. -/
def freezeStop (m : Pnm) : Pnm :=
  match freezing m.tel.jnl, m.tel.jnl.reads with
  | some r, _ :: t =>
    let l := readRecs m.tel.jnl r
    let total := recBytes l + l.length
    let n := recsIn (total - r.left) l
    let r' : JRead := { r with early := some n, left := 0 }
    raise { src := 13, code := 0x0F, cls := 2, items := [n % 65536] }
      (arbDrop 266 (modJnl (fun j => { j with reads := r' :: t, flags := setBit j.flags 3 true }) m))
  | _, _ => m

/-- FREEZE_TIMEOUT: FREEZE_S has elapsed; a buffer fill of 192 KiB ends the freeze as well (R505). -/
def freezeTimeout (m : Pnm) : Pnm :=
  match freezing m.tel.jnl with
  | some r => if due r.freezeDue m.tim.edge || decide (196608 ≤ recBytes m.tel.jnl.buf) then freezeStop m else m
  | none => m

/-- JNL table 5: the verdict of record r where its stored bytes are intact: by the seal that covers it. -/
def sealVerdict (m : Pnm) (all : List JRec) (r : JRec) : Nat :=
  match all.find? (fun s => decide (s.code = 0x100 ∧ r.rseq ≤ s.rseq)) with
  | some s => if bytesAt s.payload 16 8 = jnlKcv m then 0 else 4
  | none => 5

/-- JOURNAL_READ_DONE (R504): the copy ends. `damage` lists RSEQ and verdict 1 to 3 of records whose stored bytes the copy found
damaged. -/
def journalReadDone (damage : List (Nat × Nat)) (m : Pnm) : Pnm :=
  let j := m.tel.jnl
  match j.reads with
  | [] => m
  | r :: t =>
    if r.left ≠ 0 then m
    else
      let l := (readRecs j r).take (r.early.getD r.count)
      let all := zoneRecs j true ++ zoneRecs j false
      let verdict := fun (x : JRec) =>
        match damage.find? (fun d => decide (d.1 = x.rseq ∧ 1 ≤ d.2 ∧ d.2 ≤ 3)) with
        | some d => d.2
        | none => sealVerdict m all x
      let vs := l.map verdict
      let more := decide (((zoneRecs j r.birth).filter fun x => decide (r.start ≤ x.rseq)).length > l.length)
      let m1 := emit m [.writeBytes 0 r.addr (l.flatMap recRaw ++ vs.map (BitVec.ofNat 8 ·))]
      let m2 := (l.zip vs).foldl (fun a p =>
        raiseIf (decide (p.2 ≠ 0)) { src := 13, code := 0x05, cls := 2, items := [p.1.rseq % 65536, p.2] } a) m1
      let r1 := b2n r.early.isSome + 2 * b2n r.missed + 4 * b2n more
      readBegin (modJnl (fun k => { k with reads := t }) (complete r.ref (ansR 0 l.length r1) m2))

/-! ## Registers (R500, R507, R525) -/

/-- A JNL write was refused. -/
def jnlErr (field : Nat) (m : Pnm) : Pnm :=
  modJnl (fun j => { j with flags := setBit j.flags 0 true }) (cfgErr m Reg.JNL_CFG_ERR field)

/-- A write of JNL_CFG: each field out of its range is ignored and named. -/
def jnlCfgWrite (data : Word) (m : Pnm) : Pnm :=
  let m1 := wf m Reg.JNL_CFG 0 0 (bits data 0 0)
  let fk := bits data 15 8
  let fs := bits data 23 16
  let m2 := if 8 ≤ fk ∧ fk ≤ 192 then wf m1 Reg.JNL_CFG 15 8 fk else jnlErr 1 m1
  if 1 ≤ fs ∧ fs ≤ 60 then wf m2 Reg.JNL_CFG 23 16 fs else jnlErr 2 m2

/-- JNL_STAT. -/
def jnlStatWord (m : Pnm) : Word :=
  let j := m.tel.jnl
  loW (b2n (freezing j).isSome + 2 * b2n j.birthFull + 256 * min 256 (recBytes j.buf / 1024))

/-- RSEQ of the oldest ring record, and of the last birth-zone record; 0 where there is none. -/
def oldestRseq (m : Pnm) : Nat := (m.tel.jnl.ring.head?.map (·.2.rseq)).getD 0
def birthLast (m : Pnm) : Nat := (m.tel.jnl.birth.getLast?.map (·.2.rseq)).getD 0

/-- Bytes of a diagnostic transfer of `n` bytes have moved: those of the readout at work, then those of the test at work. -/
def diagMoved (n : Nat) (m : Pnm) : Pnm :=
  let j := m.tel.jnl
  let k := match j.reads with | r :: _ => min n r.left | [] => 0
  let reads := match j.reads with | r :: t => { r with left := r.left - k } :: t | [] => []
  let queue := match m.tel.dia.queue with | t :: q => { t with left := t.left - (n - k) } :: q | [] => []
  { m with tel := { m.tel with jnl := { j with reads := reads }, dia := { m.tel.dia with queue := queue } } }

end Sys2Proof.Machine
end

