-- ==== Sys2Proof/Machine/Dia.lean ====
section
/-! DEFINITION. DIA: snapshots, the node window, self-test (R516 to R525). -/

namespace Sys2Proof.Machine

/-- Change the diagnostics alone. -/
def modDia (f : Dia → Dia) (m : Pnm) : Pnm := { m with tel := { m.tel with dia := f m.tel.dia } }

/-- SNAP_TRIG, SNAP_RELEASE (R516, R517). -/
def snapTrig (m : Pnm) : Pnm := snapIf true 1 m
def snapRelease (m : Pnm) : Pnm := modDia (fun d => { d with locked := false }) m

/-! ## The window (R521, R525) -/

/-- A refused access: REFUSED, CFG_REJECT, FIELD and INDEX. -/
def diaErr (field index : Nat) (m : Pnm) : Pnm :=
  modDia (fun d => { d with flags := setBit d.flags 0 true })
    (sb (wf (cfgErr m Reg.DIA_CFG_ERR field) Reg.DIA_CFG_ERR 18 8 index) Reg.DIA_TBL_STAT 1)

/-- DIA table 3. -/
def nodeWords (m : Pnm) (n : Nat) : List Word :=
  let d := NMap.get nodeDflt m.tel.dia.nodes n
  [loW (d.state + 4 * d.own + 16 * d.typ + 256 * d.k + 2 ^ 16 * d.parent + 2 ^ 31 * b2n d.en),
   loW (d.reason + 2 ^ 16 * d.changes), loW d.last, hiW d.last]

/-- Window table 2: passes, fails, last signature, expected signature. -/
def testWords (m : Pnm) (i : Nat) : List Word :=
  let r := NMap.get StResult.init m.tel.dia.results i
  [loW r.passes, loW r.fails, r.last, if i / 16 = 1 ∨ i / 16 = 3 then Config.expectedSig (i / 16) (i % 16) else 0]

/-- An entry of table t. -/
def diaWords (m : Pnm) (t i : Nat) : List Word :=
  if t = 0 then nodeWords m i
  else if t = 1 then (List.range 4).map fun k => m.tel.dia.bank.getD (4 * i + k) 0
  else testWords m i

/-- DIA_TBL_READ. -/
def diaTblRead (cmd : Word) (m : Pnm) : Pnm :=
  let m1 := storeCmd Reg.DIA_TBL_CMD 0x001707FF#32 cmd m
  let t := bits cmd 18 16
  if 3 ≤ t then sb m1 Reg.DIA_TBL_STAT 1 else wrs m1 Reg.DIA_TBL_DATA (diaWords m1 t (bits cmd 10 0))

/-- Node a lies on the way from node b to the top. -/
def above (d : Dia) (a : Nat) : Nat → Nat → Bool
  | 0, _ => false
  | fuel + 1, b => decide (a = b) || (decide (b < 2048) && above d a fuel (NMap.get nodeDflt d.nodes b).parent)

/-- A node takes a new entry, and every node concerned is recomputed. -/
def nodeStore (n : Nat) (x : Node) (m : Pnm) : Pnm :=
  let old := (NMap.get nodeDflt m.tel.dia.nodes n).parent
  let t := { m.tel with dia := { m.tel.dia with nodes := NMap.set nodeDflt m.tel.dia.nodes n x } }
  { m with tel := recomputeT m 2048 x.parent (recomputeT m 2048 old (recomputeT m 2048 n t)) }

/-- FIELD that refuses an entry of a host node; 0 none. -/
def nodeCheck (m : Pnm) (n : Nat) (w : Word) : Nat :=
  if above m.tel.dia n 2048 (bits w 26 16) then 2
  else if 5 ≤ bits w 6 4 ∨ (bits w 6 4 = 3 ∧ bits w 15 8 = 0) then 3
  else 0

/-- R521: a write of a node: a host node, or the parent of node 0. -/
def nodeWrite (n : Nat) (w : Word) (m : Pnm) : Pnm :=
  let x := NMap.get nodeDflt m.tel.dia.nodes n
  if n = 0 then
    (if above m.tel.dia 0 2048 (bits w 26 16) then diaErr 2 n m else nodeStore 0 { x with parent := bits w 26 16 } m)
  else if n < 1280 then diaErr 1 n m
  else if nodeCheck m n w ≠ 0 then diaErr (nodeCheck m n w) n m
  else nodeStore n { x with own := bits w 3 2, typ := bits w 6 4, k := bits w 15 8, parent := bits w 26 16, en := bit w 31 } m

/-- DIA_TBL_WRITE. -/
def diaTblWrite (cmd : Word) (m : Pnm) : Pnm :=
  let m1 := storeCmd Reg.DIA_TBL_CMD 0x001707FF#32 cmd m
  let t := bits cmd 18 16
  let i := bits cmd 10 0
  if t = 0 then nodeWrite i (rd m1 Reg.DIA_TBL_DATA) m1
  else if t < 3 then diaErr 4 i m1
  else sb m1 Reg.DIA_TBL_STAT 1

/-! ## Self-test (R522 to R524) -/

/-- Slices of a test of each kind (DIA table 5). -/
def testSlices (kind : Nat) : Nat := if kind = 1 then 4096 else if kind = 2 then 512 else if kind = 3 then 1024 else 0

/-- A test ends with a result: completion, event and, for a fail, DIA_FLAGS.ST_FAIL. -/
def testReport (t : SelfTest) (r0 result : Nat) (m : Pnm) : Pnm :=
  raise { src := 14, code := 0x04, cls := 2, items := [t.kind, t.index, result] } (complete t.ref (ansR 0 r0 result) m)

/-- The test at the head of the queue starts; one that is not available ends at once (R523). `fuel` bounds the tests. -/
def testBegin : Nat → Pnm → Pnm
  | 0, m => m
  | fuel + 1, m =>
    match m.tel.dia.queue with
    | [] => m
    | t :: q =>
      if t.started.isSome then m
      else if t.kind = 4 ∧ (rf m Reg.CYE_LF_STAT 2 0 ≠ 0 ∨ m.cye.retained.isSome) then
        testBegin fuel (testReport t 0 4 (modDia (fun d => { d with queue := q }) m))
      else
        let n := if t.kind = 4 then 2 ^ 27
          else if t.kind = 5 then (List.range' t.firstSeg t.segCount).foldl (fun a i => a + (getSeg m i).bytes) 0
          else 0
        arbAdd 266 n (modDia (fun d => { d with queue := { t with started := some m.tim.edge, left := n } :: q }) m)

/-- The segments are granted to the PF and lie in no armed region. -/
def testSegs (m : Pnm) (s n : Nat) : Bool :=
  (List.range' s n).all fun i => decide ((getSeg m i).grant = 0) && !inCapture m i

/-- SELFTEST (R522). -/
def selftest (ref : CmdRef) (kind index first count tmo : Nat) (m : Pnm) : Pnm × Option Ans :=
  if kind = 5 ∧ count = 0 then (m, some (ans 1))
  else if kind = 0 ∨ 5 < kind ∨ ((kind = 1 ∨ kind = 2) ∧ 15 < index) ∨ (kind = 3 ∧ 3 < index) ∨ tmo = 0 ∨ 3600 < tmo ∨
      (kind = 5 ∧ 65536 < first + count) then (m, some (ans 0x14))
  else if kind = 5 ∧ testSegs m first count = false then (m, some (ans 0x16))
  else
    let t : SelfTest := { ref := ref, kind := kind, index := index, firstSeg := first, segCount := count, tmoS := tmo, slices := 0,
                          left := 0, started := none }
    let m1 := modDia (fun d => { d with queue := d.queue ++ [t] }) m
    (testBegin (m1.tel.dia.queue.length) m1, none)

/-- No period start of a task of core c lies within `us` microseconds from now. -/
def coreFree (m : Pnm) (c us : Nat) : Bool :=
  !coreBusy m c && !((liveTasks m).any fun t => decide (tCore ((cyeProg m).task t) = c) &&
    decide (gridInstant (getTask m t).next < nowU m + us * 1000 * unitNs))

/-- A slice of a test may start (DIA table 5): the core idles; the lane has finished the last plane that closed, and the next one
closes at least 30 µs from now. -/
def sliceMay (m : Pnm) (kind index : Nat) : Bool :=
  if kind = 1 then coreFree m index 50
  else if kind = 2 then coreFree m index 10
  else if kind = 3 then !m.svi.running || decide (nowU m + 30000 * unitNs ≤ closeAt m m.svi.nextClose)
  else false

/-- The continuous cycle runs (R524). -/
def cycleRuns (m : Pnm) : Bool := decide (pairState m = 3) && rb m Reg.PAR_CFG 1

/-- The test at a position of the continuous cycle: kinds 1 and 2 of each core, then kind 3 of each lane. -/
def cycleTest (pos : Nat) : Nat × Nat :=
  if pos % 36 < 32 then (1 + pos % 36 % 2, pos % 36 / 2) else (3, pos % 36 - 32)

/-- SELFTEST_SLICE: a slice of the test at work, or of the continuous cycle where no command waits. -/
def testSlice (m : Pnm) : Pnm :=
  match m.tel.dia.queue with
  | t :: q =>
    if t.started.isSome ∧ sliceMay m t.kind t.index ∧ t.slices < testSlices t.kind then
      modDia (fun d => { d with queue := { t with slices := t.slices + 1 } :: q }) m
    else m
  | [] =>
    let c := cycleTest m.tel.dia.cyclePos
    if cycleRuns m ∧ sliceMay m c.1 c.2 ∧ m.tel.dia.cycleSlices < testSlices c.1 then
      modDia (fun d => { d with cycleSlices := d.cycleSlices + 1 }) m
    else m

/-- R523: what the end of a test of a core or lane brings about, and its counters. -/
def testEffect (kind index : Nat) (sig : Word) (pass : Bool) (m : Pnm) : Pnm :=
  let key := 16 * kind + index % 16
  let m1 := modDia (fun d => { d with results := NMap.upd StResult.init d.results key fun r =>
    { passes := (r.passes + b2n pass) % 2 ^ 32, fails := (r.fails + b2n (!pass)) % 2 ^ 32, last := sig } }) m
  let m2 := if pass then inc m1 Reg.DIA_ST_PASSES
    else modDia (fun d => { d with flags := setBit d.flags 2 true }) (inc m1 Reg.DIA_ST_FAILS)
  let m3 := modDia (fun d => { d with passStandby := d.passStandby + b2n pass, failStandby := d.failStandby + b2n (!pass) }) m2
  if kind = 1 ∨ kind = 2 then
    let c := getCore m3 index
    if pass then (if c.failed then nodeCause (64 + index) (128 + 0x5B) 0 (putCore index { c with failed := false } m3) else m3)
    else if c.failed then m3 else coreFail index m3
  else if kind = 3 then (if pass then laneReturn index m3 else laneFail m3 index)
  else m3

/-- SELFTEST_DONE: every slice or transfer of the test at work has ended, with the signature of kinds 1 and 3 and the lowest
failing byte of the others. Kind 5 leaves its segments zero. -/
def testDone (sig : Word) (bad : Option Nat) (s : PM) : PM :=
  let m := s.1
  let passOf := fun (kind index : Nat) => if kind = 1 ∨ kind = 3 then decide (sig = Config.expectedSig kind index) else bad.isNone
  let r0 := fun (kind : Nat) => if kind = 1 ∨ kind = 3 then sig.toNat else bad.getD 0
  match m.tel.dia.queue with
  | t :: q =>
    if t.started.isNone ∨ t.slices < testSlices t.kind ∨ t.left ≠ 0 then s
    else
      let pass := passOf t.kind t.index
      let m1 := testEffect t.kind (if t.kind ≤ 3 then t.index else 0) (if t.kind = 1 ∨ t.kind = 3 then sig else 0) pass
        (modDia (fun d => { d with queue := q }) m)
      let m2 := testReport t (r0 t.kind) (if pass then 1 else 2) m1
      let mem := if t.kind = 5 then
          (List.range' t.firstSeg t.segCount).foldl (fun a i => Memory.clear a (getSeg m i).addr (getSeg m i).bytes) s.2
        else s.2
      (testBegin (q.length + 1) m2, mem)
  | [] =>
    let c := cycleTest m.tel.dia.cyclePos
    if cycleRuns m ∧ m.tel.dia.cycleSlices = testSlices c.1 then
      let pass := passOf c.1 c.2
      let m1 := modDia (fun d => { d with cyclePos := (d.cyclePos + 1) % 36, cycleSlices := 0 }) m
      let m2 := testEffect c.1 c.2 (if c.1 = 2 then 0 else sig) pass m1
      (raise { src := 14, code := 0x04, cls := 2, items := [c.1, c.2, if pass then 1 else 2] } m2, s.2)
    else s

/-- SELFTEST_TIMEOUT (R522): TMO_S have passed since the start of the test at work. -/
def stTimeout (m : Pnm) : Pnm :=
  match m.tel.dia.queue with
  | t :: q =>
    match t.started with
    | some e =>
      if e + t.tmoS * edgesS ≤ m.tim.edge then
        let m1 := modDia (fun d => { d with queue := q }) m
        testBegin (q.length + 1) (testReport t 0 3 (if t.left = 0 then m1 else arbDrop 266 m1))
      else m
    | none => m
  | [] => m

/-! ## Registers -/

/-- DIA_STAT. -/
def diaStatWord (m : Pnm) : Word :=
  let st := fun (n : Nat) => (NMap.get nodeDflt m.tel.dia.nodes n).state
  let run := match m.tel.dia.queue with
    | t :: _ => 32 + 256 * t.kind + 65536 * t.index
    | [] => if m.tel.dia.cycleSlices = 0 then 0
      else let c := cycleTest m.tel.dia.cyclePos; 32 + 256 * c.1 + 65536 * c.2
  loW (st 1 + 4 * st 0 + 16 * b2n m.tel.dia.locked + run)

/-- DIA_SNAP_STAT. -/
def snapStatWord (m : Pnm) : Word := loW (m.tel.dia.seq % 65536 + 65536 * (m.tel.dia.source % 16))

/-- SIGNATURE of the HEALTH_REPORT (R524). -/
def cycleSig (m : Pnm) : Nat :=
  let w := fun (k : Nat) => leBytes 4 (NMap.get StResult.init m.tel.dia.results k).last.toNat
  crc32c ((List.range 16).flatMap (fun c => w (16 + c)) ++ (List.range 4).flatMap fun l => w (48 + l))

end Sys2Proof.Machine
end

