-- ==== Sys2Proof/Machine/Bulk.lean ====
section
/-! DEFINITION. The bulk ring and the bulk arbiter (R30, R31, R356, R386, R390 to R393). -/

namespace Sys2Proof.Machine

/-! ## What requesters have pending -/

/-- Bytes, or transfers of kind 1, of requester q in flight. -/
def flying (m : Pnm) (q : Nat) : Nat :=
  (m.hif.inFlight.filter fun x => decide (x.1 = q ∧ x.2.1 = 0)).foldl (fun a x => a + x.2.2) 0
def flyingRx (m : Pnm) : Nat := (m.hif.inFlight.filter fun x => decide (x.2.1 = 1)).length

/-- Bytes that the descriptor at the head of function f's bulk ring still has to request. -/
def headBytes (m : Pnm) (f : Nat) : Nat :=
  match (getFn m f).bulks with
  | b :: _ => if b.status = 0xFF ∧ b.op ≠ 3 then b.len - b.moved - flying m f else 0
  | [] => 0

/-- Received frames that have a buffer and are not in flight. -/
def rxReady (m : Pnm) : Nat :=
  min (m.mac.ports.foldl (fun a x => a + x.bulkQ.length) 0) m.hif.rxPosts.length - flyingRx m

/-- Bytes of the next transfer of requester q with its kind; 0 where it has none. -/
def nextBytes (m : Pnm) (q : Nat) : Nat × Nat :=
  if q ≤ 256 then
    let h := headBytes m q
    if h ≠ 0 then (min 4096 h, 0) else if q = 0 ∧ rxReady m ≠ 0 then (4096, 1) else (0, 0)
  else (min 4096 (getArb m q).pending, 0)

/-- Requester q has a transfer pending. -/
def arbPending (m : Pnm) (q : Nat) : Bool := decide ((nextBytes m q).1 ≠ 0)

/-- The wait of a requester's oldest pending transfer is measured from now (R393). -/
def arbNote (q : Nat) (m : Pnm) : Pnm :=
  let a := getArb m q
  if arbPending m q ∧ a.since = none then putArb q { a with since := some m.tim.edge } m else m

/-! ## The arbiter (R391 to R393) -/

/-- Priority of requester q. -/
def arbPrio (m : Pnm) (q : Nat) : Nat := rf m (Reg.HIF_ARB_CFG + 8 * q) 2 0

/-- The winner among a list of requesters in ascending order: the highest priority, then the first after the last winner. -/
def arbWinner (m : Pnm) (e : List Nat) : Option Nat :=
  let top := e.foldl (fun a q => max a (arbPrio m q)) 0
  afterFn m.hif.arbLast (e.filter fun q => decide (arbPrio m q = top))

/-- The requesters. -/
def arbAll : List Nat := List.range 267

/-- The counts after a cycle that requester w of the members e wins (R391). -/
def arbCounts (e : List Nat) (w q : Nat) (a : ArbReq) : ArbReq :=
  if q = w then { a with backoff := 1, wait := 0 }
  else if e.contains q then
    let b := min (2 * a.backoff) 1024
    { a with backoff := b, wait := b }
  else if a.wait ≠ 0 then { a with wait := a.wait - 1 } else a

/-- The transfer of requester q is granted: it leaves what is pending, and a starvation episode ends. -/
def arbGrant (q : Nat) (m : Pnm) : Pnm :=
  let b := nextBytes m q
  let a := getArb m q
  let m1 := { m with hif := { m.hif with inFlight := m.hif.inFlight ++ [(q, b.2, b.1)], arbLast := q } }
  let m2 := putArb q { a with pending := a.pending - (if 256 < q then b.1 else 0), since := none, starved := false } m1
  arbNote q m2

/-- ARBITRATION_CYCLE (R391), at most once in 64 ns. -/
def arbitrate (m : Pnm) : Pnm :=
  let now := m.tim.edge / 40
  if now ≤ m.hif.arbAt then m
  else
    let m0 := { m with hif := { m.hif with arbAt := now } }
    let all := arbAll.filter (arbPending m)
    let e0 := all.filter fun q => decide ((getArb m q).wait = 0)
    let e := if e0 = [] then all else e0
    if 16 ≤ m.hif.inFlight.length then m0
    else match arbWinner m e with
      | none => m0
      | some w => arbGrant w (arbAll.foldl (fun x q => putArb q (arbCounts e w q (getArb x q)) x) m0)

/-- ARB_STARVATION (R393): the wait of requester q has reached STARVE_US. -/
def arbStarve (q : Nat) (m : Pnm) : Pnm :=
  let a := getArb m q
  match a.since with
  | none => m
  | some t =>
    if a.starved = false ∧ q ≤ 266 ∧ t + rf m (Reg.HIF_ARB_CFG + 8 * q) 31 16 * edgesUs ≤ m.tim.edge then
      raise { src := 9, code := 0x16, cls := 2, items := [q] }
        (sb (sb (putArb q { a with starved := true } m) (Reg.HIF_ARB_STARVED + 4 * (q / 32)) (q % 32)) Reg.HIF_VF_FLAGS 1)
    else m

/-- HIF_ARBq_STAT. -/
def arbStatWord (m : Pnm) (q : Nat) : Word :=
  let a := getArb m q
  loW (a.backoff + 2048 * a.wait + 2 ^ 24 * b2n (arbPending m q))

/-! ## Bulk descriptors (R356) -/

/-- A bulk descriptor completes (HIF table 11); `done` is its DONE_NS. -/
def bulkCpl (f : Nat) (b : Bulk) (status done : Nat) (m : Pnm) : Pnm :=
  let ref : CmdRef :=
    { fn := f, seq := b.tag, opcode := b.op, acceptNs := b.acceptNs, kick := false, unmirrored := false, reaccepted := false }
  cplWrite m { ref := ref, bulk := true, rx := none, status := status, late := false, replaced := false, doneNs := done,
               r0 := loW b.moved, r1 := 0 }

/-- The descriptor at the head of f's bulk ring completes. -/
def bulkDone (f status done : Nat) (m : Pnm) : Pnm :=
  let s := getFn m f
  match s.bulks with
  | b :: t => bulkCpl f b status done (putFn f { s with bulks := t } m)
  | [] => m

/-- Descriptors that need no transfer leave the head of the ring: refused ones complete, receive buffers are posted. -/
def bulkPump (f : Nat) : Nat → Pnm → Pnm
  | 0, m => m
  | n + 1, m =>
    let s := getFn m f
    match s.bulks with
    | b :: t =>
      if b.status < 0xFE then bulkPump f n (bulkDone f b.status (nowNs m) m)
      else if b.op = 3 then
        let m1 := putFn f { s with bulks := t } m
        bulkPump f n { m1 with hif := { m1.hif with rxPosts := m1.hif.rxPosts ++ [b] } }
      else arbNote f m
    | [] => arbNote f m

/-- A bulk descriptor has arrived: it takes its place in ring order, with the status of its checks. -/
def bulkArrive (f : Nat) (b : Bulk) (m : Pnm) : Pnm :=
  let s := getFn m f
  if ringOn m f 1 ∧ s.modIdx.getD 1 0 < s.bulkIdx then
    let m1 := putFn f { s with modIdx := setAt s.modIdx 1 (s.modIdx.getD 1 0 + 1), bulks := s.bulks ++ [b], changed := true } m
    bulkPump f ((getFn m1 f).bulks.length + 1) m1
  else m

/-- A descriptor before its checks. -/
def bulkNew (m : Pnm) (op tag port pcp : Nat) (ts : Bool) (host addr len : Nat) (data : List Byte) (status : Nat) : Bulk :=
  { tag := BitVec.ofNat 32 tag, op := op, port := port, pcp := pcp, tsReq := ts, hostAddr := host, modAddr := addr, len := len,
    moved := 0, data := data, acceptNs := nowNs m, status := status }

/-- BULK_READ: a descriptor with OP 1, or with an OP that does not exist. -/
def bulkRead (f op tag host addr len : Nat) (m : Pnm) : Pnm :=
  if op = 2 ∨ op = 3 then m
  else
    let st := if op ≠ 1 then 0x13 else if len = 0 then 1 else if 64 * 2 ^ 20 < len then 0x14
      else if mayRead m f addr len then 0xFF else 0x16
    bulkArrive f (bulkNew m op tag 0 0 false host addr len [] st) m

/-- FRAME_TX: a descriptor with OP 2 and the frame it names (PF only). -/
def frameTx (f tag port pcp : Nat) (ts : Bool) (len : Nat) (data : List Byte) (m : Pnm) : Pnm :=
  let top := rf m (pr Reg.MAC_PORT_CFG port) 27 16 - 4
  let st := if f ≠ 0 then 0x13 else if len = 0 then 1 else if 10 < port ∨ portEn m port = false then 0x14
    else if len < 60 ∨ top < len then 0x14 else 0xFF
  bulkArrive f (bulkNew m 2 tag port pcp ts 0 0 len (data.take len) st) m

/-- RX_POST: a descriptor with OP 3 (PF only). -/
def rxPost (f tag host len : Nat) (m : Pnm) : Pnm :=
  let st := if f ≠ 0 then 0x13 else if len = 0 then 1 else if len < 64 ∨ 4096 < len then 0x14 else 0xFF
  bulkArrive f (bulkNew m 3 tag 0 0 false host 0 len [] st) m

/-- A frame that asked for its timestamp is no longer in any queue. -/
def txGone (m : Pnm) (tag : BitVec 32) : Bool :=
  !(m.mac.ports.any fun p => p.queues.any fun q => q.any fun f =>
    match f.body with | .bulk t _ _ => decide (t = tag) | _ => false)

/-- A frame that waits for its start on the wire was discarded: its descriptor completes without a timestamp. -/
def txLost (m : Pnm) : Pnm :=
  match (getFn m 0).bulks with
  | b :: _ =>
    if b.status = 0xFE ∧ txGone m b.tag then bulkPump 0 ((getFn m 0).bulks.length + 1) (bulkDone 0 0 (nowNs m) m) else m
  | [] => m

/-- FRAME_START of a bulk frame: the descriptor that asked for the timestamp completes with it. -/
def txStamped (tag : BitVec 32) (stamp : Nat) (m : Pnm) : Pnm :=
  match (getFn m 0).bulks with
  | b :: _ =>
    if b.status = 0xFE ∧ b.tag = tag then
      bulkPump 0 ((getFn m 0).bulks.length + 1) (bulkDone 0 0 (stamp / nsU) m)
    else m
  | [] => m

/-- The frame of a FRAME_TX descriptor goes to its port. -/
def txQueue (b : Bulk) (m : Pnm) : Pnm :=
  originate b.port (txFrame b.pcp (b.len + 4) none (.bulk b.tag b.tsReq b.data)) m

/-- A transfer of the descriptor at the head of f's bulk ring ends, with `n` bytes (R356, R386). -/
def headMoved (f n : Nat) (s : PM) : PM :=
  let m := s.1
  let st := getFn m f
  match st.bulks with
  | [] => s
  | b :: t =>
    let b1 := { b with moved := b.moved + n }
    let m1 := putFn f { st with bulks := b1 :: t } m
    let pump := fun (x : Pnm) => bulkPump f (t.length + 1) x
    if b.op = 1 then
      let m2 := emit m1 [.writeBytes f (b.hostAddr + b.moved) (Memory.readBytes s.2 (b.modAddr + b.moved) n)]
      if b.len ≤ b1.moved then (pump (bulkDone f 0 (nowNs m) m2), s.2)
      else if flying m2 f = 0 ∧ mayRead m2 f (b.modAddr + b1.moved) (b.len - b1.moved) = false then
        (pump (bulkDone f 0x16 (nowNs m) m2), s.2)
      else (m2, s.2)
    else if b.len ≤ b1.moved then
      if b.tsReq then
        (txLost (txQueue b (putFn f { st with bulks := { b1 with status := 0xFE } :: t } m)), s.2)
      else (pump (bulkDone f 0 (nowNs m) (txQueue b m1)), s.2)
    else (m1, s.2)

/-- A received frame has been written to the first posted buffer (R356, HIF table 12). -/
def rxMoved (m : Pnm) : Pnm :=
  match (List.range 12).find? (fun p => decide ((getPort m p).bulkQ ≠ [])), m.hif.rxPosts with
  | some p, b :: t =>
    match (getPort m p).bulkQ with
    | w :: rest =>
      let data := w.data.take b.len
      let m1 := modPort { m with hif := { m.hif with rxPosts := t } } p fun x => { x with bulkQ := rest }
      let ref : CmdRef :=
        { fn := 0, seq := b.tag, opcode := 3, acceptNs := b.acceptNs, kick := false, unmirrored := false, reaccepted := false }
      let c : Cpl :=
        { ref := ref, bulk := true, rx := some w, status := 0, late := false, replaced := false, doneNs := nowNs m,
          r0 := loW data.length, r1 := 0 }
      pfcXon p (cplWrite (emit m1 [.writeBytes 0 b.hostAddr data]) c)
    | [] => m
  | _, _ => m

/-- The first transfer of requester q in flight ends. -/
def takeFlight (q : Nat) : List (Nat × Nat × Nat) → Option (Nat × Nat) × List (Nat × Nat × Nat)
  | [] => (none, [])
  | x :: t => if x.1 = q then (some x.2, t) else let r := takeFlight q t; (r.1, x :: r.2)

/-- R258: the last transfer of an image ends, and its verification begins. -/
def imageLoaded (m : Pnm) : Pnm :=
  if lfPhase m = 1 ∧ (getArb m 257).pending = 0 ∧ flying m 257 = 0 then setPhase 2 m else m

/-- BULK_TRANSFER_DONE: the oldest transfer of requester q in flight ends. -/
def transferDone (q : Nat) (s : PM) : PM :=
  let r := takeFlight q s.1.hif.inFlight
  match r.1 with
  | none => s
  | some (kind, n) =>
    let m := { s.1 with hif := { s.1.hif with inFlight := r.2 } }
    if q ≤ 256 then (if kind = 1 then onM (arbNote q) (rxMoved m, s.2) else onM (arbNote q) (headMoved q n (m, s.2)))
    else if q = 257 then (imageLoaded m, s.2)
    else if q < 266 then (scanMoved (q - 258) n m, s.2)
    else (diagMoved n m, s.2)

end Sys2Proof.Machine
end

