-- ==== Sys2Proof/Machine/Wire.lean ====
section
/-! DEFINITION. Command descriptors as mirror requests and resync data carry them: HIF tables 7 and 9 with their indirect
bytes (PAR table 4). -/

namespace Sys2Proof.Machine

/-- `n` bytes of fields, each at its offset; later fields overwrite earlier ones. -/
def layFields (n : Nat) (l : List (Nat × List Byte)) : List Byte :=
  l.foldl (fun a p => a.take p.1 ++ p.2 ++ a.drop (p.1 + p.2.length)) (List.replicate n 0)

/-- A descriptor: SEQ, OPCODE, LATE_OK, TARGET_NS and the payload fields (HIF table 7). -/
def descRaw (seq code : Nat) (late : Bool) (target : Nat) (l : List (Nat × List Byte)) : List Byte :=
  layFields 64 ([(0, leBytes 4 seq), (4, leBytes 2 (code + 256 * b2n late)), (8, leBytes 8 target)] ++ l)

/-- A PUBLISH item (HIF table 9). -/
def itemRaw (i : PubItem) : List Byte :=
  layFields 16 [(0, leBytes 1 i.member.toNat), (2, leBytes 2 i.quality.toNat), (8, leBytes 8 i.value.toNat)]

/-- Payload fields of PUBLISH. -/
def pubFields (count pcb : Nat) : List (Nat × List Byte) := [(0x18, leBytes 4 (count + 65536 * pcb))]

/-- Payload fields of HOST_WRITE and GATE_ARM. -/
def hostFields (w q v : Nat) : List (Nat × List Byte) := [(0x10, leBytes 4 w), (0x14, leBytes 4 q), (0x18, leBytes 8 v)]
def armFields (g : List Word) (loc : Nat) : List (Nat × List Byte) :=
  [(0x10, bytesAt (bytesOf g) 0 40), (0x38, leBytes 4 loc)]

/-- The embedded descriptor of LOCK_OPERATE with its items. -/
def embRaw (e : Emb) : List Byte :=
  match e.op with
  | .hostWrite w q v => descRaw 0 2 e.lateOk e.target.toNat (hostFields w.toNat q.toNat v.toNat)
  | .gateArm g l => descRaw 0 3 e.lateOk e.target.toNat (armFields g l.toNat)
  | .publish c p items => descRaw 0 8 e.lateOk e.target.toNat (pubFields c.toNat p.toNat) ++ items.flatMap itemRaw
  | .other c => descRaw 0 c.toNat e.lateOk e.target.toNat []

/-- Payload fields of CAPTURE_ARM (CAP table 1). -/
def capFields (p : CapArm) : List (Nat × List Byte) :=
  [(0x18, leBytes 4 (p.streamCount.toNat + 2 ^ 16 * p.mode.toNat + 2 ^ 18 * b2n p.chain + 2 ^ 19 * b2n p.fullPol)),
   (0x1C, leBytes 4 p.trigMask.toNat), (0x20, leBytes 4 p.recSamples.toNat), (0x24, leBytes 4 p.pos.toNat),
   (0x28, leBytes 4 p.firstSeg.toNat), (0x2C, leBytes 4 p.segCount.toNat), (0x30, leBytes 4 p.autoTmoMs.toNat)]

/-- The payload fields and the indirect bytes of a work opcode. -/
def opRaw : Op → List (Nat × List Byte) × List Byte
  | .hostWrite w q v => (hostFields w.toNat q.toNat v.toNat, [])
  | .gateArm g l => (armFields g l.toNat, [])
  | .gateUpdate l k c t e z =>
    ([(0x10, leBytes 4 (l.toNat + 65536 * k.toNat)), (0x14, leBytes 4 c.toNat), (0x18, leBytes 4 t.toNat),
      (0x20, leBytes 8 e.toNat), (0x28, leBytes 8 z.toNat)], [])
  | .gateCancel l => ([(0x10, leBytes 4 l.toNat)], [])
  | .gateRead l a => ([(0x10, leBytes 4 l.toNat), (0x18, leBytes 8 a.toNat)], [])
  | .publish c p items => (pubFields c.toNat p.toNat, items.flatMap itemRaw)
  | .lockSelect o ms k => ([(0x10, leBytes 4 o.toNat), (0x14, leBytes 4 ms.toNat), (0x18, leBytes 4 (b2n k))], [])
  | .lockOperate o e => ([(0x10, leBytes 4 o.toNat)], embRaw e)
  | .lockRenew o ms => ([(0x10, leBytes 4 o.toNat), (0x14, leBytes 4 ms.toNat)], [])
  | .lockCancel o => ([(0x10, leBytes 4 o.toNat)], [])
  | .captureArm p => (capFields p, p.streams.flatMap fun s => leBytes 2 s.toNat)
  | .captureDisarm c => ([(0x10, leBytes 4 c.toNat)], [])
  | .captureForce c => ([(0x10, leBytes 4 c.toNat)], [])
  | .nop | .tableLoad .. | .imageLoad .. | .vfSeqReset .. | .shareRevoke .. | .keyImport .. | .keyRetire .. | .selftest ..
  | .journalRead .. | .reserved .. => ([], [])

/-- A command's descriptor of 64 bytes, and its indirect bytes. -/
def cmdRaw (h : CmdHdr) (op : Op) : List Byte × List Byte :=
  let p := opRaw op
  (descRaw h.seq.toNat op.code h.lateOk h.target.toNat p.1, if h.dmaOk then p.2 else [])

/-! ## Reading back -/

/-- Bits [hi:lo] of the 32-bit word at an offset. -/
def bAt (b : List Byte) (o hi lo : Nat) : Nat := bitsN (leAt b o 4) hi lo

/-- PUBLISH items. -/
def itemsOf (n : Nat) (b : List Byte) : List PubItem :=
  (List.range n).map fun k =>
    { member := BitVec.ofNat 8 (leAt b (16 * k) 1), quality := BitVec.ofNat 16 (leAt b (16 * k + 2) 2),
      value := BitVec.ofNat 64 (leAt b (16 * k + 8) 8) }

/-- The words of a gate in a descriptor. -/
def gateAtDesc (d : List Byte) : List Word := wordsOf 10 (bytesAt d 0x10 40)

/-- The embedded descriptor in indirect bytes. -/
def embOf (b : List Byte) : Emb :=
  let c := leAt b 4 1
  let op : EmbOp :=
    if c = 2 then .hostWrite (BitVec.ofNat 12 (leAt b 0x10 4)) (BitVec.ofNat 16 (leAt b 0x14 4)) (BitVec.ofNat 64 (leAt b 0x18 8))
    else if c = 3 then .gateArm (gateAtDesc b) (BitVec.ofNat 10 (leAt b 0x38 4))
    else if c = 8 then
      .publish (BitVec.ofNat 9 (bAt b 0x18 8 0)) (BitVec.ofNat 10 (bAt b 0x18 25 16)) (itemsOf (bAt b 0x18 8 0) (b.drop 64))
    else .other (BitVec.ofNat 8 c)
  { op := op, lateOk := (leAt b 5 1).testBit 0, target := BitVec.ofNat 64 (leAt b 8 8) }

/-- A CAPTURE_ARM payload with its stream list. -/
def capOf (d ind : List Byte) : CapArm :=
  { streams := (List.range (bAt d 0x18 10 0)).map fun k => BitVec.ofNat 16 (leAt ind (2 * k) 2),
    streamCount := BitVec.ofNat 11 (bAt d 0x18 10 0), mode := BitVec.ofNat 2 (bAt d 0x18 17 16),
    chain := (bAt d 0x18 18 18) = 1, fullPol := (bAt d 0x18 19 19) = 1, trigMask := BitVec.ofNat 18 (leAt d 0x1C 4),
    recSamples := BitVec.ofNat 32 (leAt d 0x20 4), pos := BitVec.ofNat 32 (leAt d 0x24 4),
    firstSeg := BitVec.ofNat 16 (leAt d 0x28 4), segCount := BitVec.ofNat 17 (leAt d 0x2C 4),
    autoTmoMs := BitVec.ofNat 22 (leAt d 0x30 4) }

/-- The operation that a descriptor and its indirect bytes spell; only work opcodes are mirrored (R352). -/
def opOf (d ind : List Byte) : Op :=
  let w := fun (n : Nat) (o : Nat) => BitVec.ofNat n (leAt d o 4)
  match leAt d 4 1 with
  | 0x01 => .nop
  | 0x02 => .hostWrite (w 12 0x10) (w 16 0x14) (BitVec.ofNat 64 (leAt d 0x18 8))
  | 0x03 => .gateArm (gateAtDesc d) (w 10 0x38)
  | 0x04 => .gateUpdate (w 10 0x10) (BitVec.ofNat 4 (bAt d 0x10 19 16)) (w 32 0x14) (w 16 0x18) (BitVec.ofNat 64 (leAt d 0x20 8))
      (BitVec.ofNat 64 (leAt d 0x28 8))
  | 0x05 => .gateCancel (w 10 0x10)
  | 0x06 => .gateRead (w 10 0x10) (BitVec.ofNat 64 (leAt d 0x18 8))
  | 0x08 => .publish (BitVec.ofNat 9 (bAt d 0x18 8 0)) (BitVec.ofNat 10 (bAt d 0x18 25 16)) (itemsOf (bAt d 0x18 8 0) ind)
  | 0x0C => .lockSelect (w 32 0x10) (w 32 0x14) (decide (bAt d 0x18 0 0 = 1))
  | 0x0D => .lockOperate (w 32 0x10) (embOf ind)
  | 0x0E => .lockRenew (w 32 0x10) (w 32 0x14)
  | 0x0F => .lockCancel (w 32 0x10)
  | 0x10 => .captureArm (capOf d ind)
  | 0x11 => .captureDisarm (w 5 0x10)
  | 0x12 => .captureForce (w 5 0x10)
  | c => .reserved (BitVec.ofNat 8 c)

/-- Indirect bytes that a descriptor calls for. -/
def indNeed (op : Op) : Nat :=
  match op with
  | .publish c _ _ => 16 * c.toNat
  | .lockOperate _ e => 64 + (match e.op with | .publish c _ _ => 16 * c.toNat | _ => 0)
  | .captureArm p => 2 * p.streamCount.toNat
  | _ => 0

/-- A command as mirrored: its header and operation. Indirect bytes that are missing were not read (R353 check 4). -/
def cmdOf (d ind : List Byte) : CmdHdr × Op :=
  let op := opOf d ind
  ({ seq := BitVec.ofNat 32 (leAt d 0 4), lateOk := (leAt d 5 1).testBit 0, target := BitVec.ofNat 64 (leAt d 8 8),
     dmaOk := decide (indNeed op ≤ ind.length), kick := false }, op)

/-- PAR table 4: a MIRROR_REQ body; the indices are 0xFFFF where none is assigned. -/
def mirrorBody (f : Nat) (h : CmdHdr) (op : Op) (plan gate lock cap : Nat) : List Byte :=
  let r := cmdRaw h op
  beBytes 2 f ++ beBytes 2 0 ++ beBytes 4 h.seq.toNat ++ beBytes 8 plan ++ beBytes 2 gate ++ beBytes 2 lock ++ beBytes 2 cap ++
    beBytes 2 0 ++ beBytes 4 r.2.length ++ beBytes 4 0 ++ r.1 ++ r.2

/-- A MIRROR_REQ body read back. -/
def mirrorOf (b : List Byte) : Mirrored :=
  let c := cmdOf (bytesAt b 0x20 64) ((b.drop 0x60).take (ofBe (bytesAt b 0x18 4)))
  { fn := ofBe (bytesAt b 0 2), hdr := c.1, op := c.2, plan := ofBe (bytesAt b 8 8), gate := ofBe (bytesAt b 0x10 2),
    lock := ofBe (bytesAt b 0x12 2), cap := ofBe (bytesAt b 0x14 2) }

end Sys2Proof.Machine
end

