-- ==== Sys2Proof/Machine/Decide.lean ====
section
/-! DEFINITION. Deciding a command: the checks of R353, the effect of each opcode, fetching, acceptance and kicks (R349 to R355,
R363 to R366, R442, R443). -/

namespace Sys2Proof.Machine

/-! ## TABLE_LOAD (R355) -/

/-- RESULT of the container's checks, in the order of LFG table 6; 0 where all pass. -/
def containerBad (m : Pnm) (l : List Byte) : Nat :=
  let n := l.length
  if leAt l 8 4 ≠ n ∨ n < 64 + 116 ∨ n ≠ 64 + 64 * leAt l 0xC 4 + 116 then 2
  else if crc32c (l.take (n - 4)) ≠ leAt l (n - 4) 4 then 3
  else if !imageSigned m l || !(bytesAt l (n - 12) 8).all (· = 0) then 4
  else if leAt l 0 4 ≠ 0x54425A4D ∨ leAt l 4 2 ≠ 1 ∨ !(decide (leAt l 6 1 = 1) || decide (leAt l 6 1 = 2)) ∨ leAt l 7 1 ≠ 0 ∨
      !(bytesAt l 0x14 44).all (· = 0) then 5
  else 0

/-- The entries of a container with their indices. -/
def containerEntries (l : List Byte) : List (Nat × List Word) :=
  (List.range (leAt l 0xC 4)).map fun k => (leAt l 0x10 4 + k, wordsOf 16 (bytesAt l (64 + 64 * k) 64))

/-- Subscription entries checked in order against the state that the preceding ones leave: index and FIELD of the first that
fails. -/
def subsBad : List (Nat × List Word) → Pnm → Option (Nat × Nat)
  | [], _ => none
  | p :: t, m =>
    if 1024 ≤ p.1 then some (p.1, 0)
    else
      let r := subCommit p.1 p.2 m
      if r.2 ≠ 0 then some (p.1, r.2) else subsBad t r.1

/-- R577: the entries of a TABLE_LOAD commit together at a plane tick, and the command completes. -/
def loadCommit (m : Pnm) : Pnm :=
  match m.svi.load with
  | none => m
  | some (ref, l) =>
    complete ref (ans 0)
      (checkChains (l.foldl (fun x p => (subCommit p.1 p.2 x).1) { m with svi := { m.svi with load := none } }))

/-- TABLE_LOAD. A container that verifies extends MR3 (R459). -/
def tableLoad (ref : CmdRef) (len : Nat) (container : List Byte) (m : Pnm) : Pnm × Option Ans :=
  let l := bytesAt container 0 len
  if len = 0 then (m, some (ans 1))
  else if m.svi.load.isSome then (m, some (ans 0x1F))
  else if containerBad m l ≠ 0 then (m, some (ansR 0x1E (containerBad m l) 0))
  else
    let es := containerEntries l
    let x := mrExtend 3 (Config.sha384 l) m
    if es = [] then (x, some (ans 1))
    else if leAt l 6 1 = 1 then
      match subsBad es x with
      | some (i, c) => (x, some (ansR 0x14 i c))
      | none =>
        let m1 := { x with svi := { x.svi with load := some (ref, es) } }
        (if x.tim.grid then m1 else loadCommit m1, none)
    else
      let r := gateLoad (leAt l 0x10 4) (es.map (·.2)) x
      match r.2 with
      | some (i, c) => (x, some (ansR 0x14 i c))
      | none => (r.1, some (ans 0))

/-! ## Effects (R353 checks 5 to 8 and the opcodes' chapters) -/

/-- The opcodes with a target (HIF table 8). -/
def hasTarget : Op → Bool
  | .hostWrite .. => true
  | .publish .. => true
  | _ => false

/-- Check 5: a count, length or mask of zero. -/
def opZero : Op → Bool
  | .gateArm g _ => gateZero (gateFrom g)
  | .gateUpdate _ k _ _ _ _ => decide (k = 0)
  | .publish c _ _ => decide (c = 0)
  | .captureArm p => decide (p.streamCount = 0 ∨ p.trigMask = 0 ∨ p.recSamples = 0 ∨ p.segCount = 0)
  | .tableLoad n _ => decide (n = 0)
  | .imageLoad n _ => decide (n = 0)
  | .shareRevoke _ k _ => decide (k = 0)
  | .keyImport n _ => decide (n = 0)
  | .keyRetire _ k => decide (k = 0)
  | .selftest k _ _ c _ => decide (k = 5 ∧ c = 0)
  | .journalRead _ n _ _ => decide (n = 0)
  | _ => false

/-- The effect of an opcode and its answer; none where the completion follows later. -/
def opEffect (ref : CmdRef) (h : CmdHdr) (op : Op) (s : PM) : PM × Option Ans :=
  let f := ref.fn
  let m := s.1
  let on := fun (r : Pnm × Option Ans) => ((r.1, s.2), r.2)
  match op with
  | .nop => (s, some (ans 0))
  | .hostWrite w q v => on (hostWrite ref none f w.toNat q.toNat v.toNat h.target.toNat h.lateOk m)
  | .gateArm g l => on (gateArm f l.toNat g m)
  | .gateUpdate l k c t e z => on (gateUpdate f l.toNat k.toNat c.toNat t.toNat e.toNat z.toNat m)
  | .gateCancel l => on (gateCancel f l.toNat m)
  | .gateRead l a => on (gateRead f l.toNat a.toNat m)
  | .publish c p items => on (publish ref none f c.toNat p.toNat h.target.toNat h.lateOk items m)
  | .lockSelect o ms k => on (lockSelect ref.acceptNs f o.toNat ms.toNat k m)
  | .lockOperate o e => on (lockOperate ref f o.toNat e m)
  | .lockRenew o ms => on (lockRenew ref.acceptNs f o.toNat ms.toNat m)
  | .lockCancel o => on (lockCancel f o.toNat m)
  | .captureArm p => let r := captureArm f p s; (r.1, some r.2)
  | .captureDisarm c => let r := captureDisarm f c.toNat s; (r.1, some r.2)
  | .captureForce c => let r := captureForce (ref.acceptNs * nsU) f c.toNat m; ((r.1, s.2), some r.2)
  | .tableLoad n c => on (tableLoad ref n.toNat c m)
  | .imageLoad n c => on (imageLoad ref n.toNat c m)
  | .vfSeqReset n => on (vfSeqReset n.toNat m)
  | .shareRevoke n k r => on (shareRevoke n.toNat k.toNat r m)
  | .keyImport n b => on (keyImport ref n.toNat b m)
  | .keyRetire k p => on (keyRetire k.toNat p.toNat m)
  | .selftest k i a n t => on (selftest ref k.toNat i.toNat a.toNat n.toNat t.toNat m)
  | .journalRead a n b r => on (journalRead ref a.toNat n.toNat b r.toNat m)
  | .reserved _ => (s, some (ans 0x13))

/-! ## The decision (R353, R363, R364, R368) -/

/-- A work opcode (R352). -/
def isWork (op : Op) : Bool := decide (1 ≤ op.code ∧ op.code < 0x40)

/-- d of R363. -/
def seqGap (m : Pnm) (f : Nat) (seq : BitVec 32) : Nat := (seq - (getFn m f).accSeq).toNat

/-- The command is at or below the mark, and its SEQ is re-acceptable (R368). -/
def reaccepts (m : Pnm) (f : Nat) (seq : BitVec 32) : Bool :=
  (getFn m f).reaccept.contains seq && (decide (seqGap m f seq = 0) || decide (2 ^ 31 ≤ seqGap m f seq))

/-- Checks 1 to 4 and the target of check 6: the status that they give; 0 where they pass. -/
def firstChecks (m : Pnm) (f : Nat) (h : CmdHdr) (op : Op) : Nat :=
  let d := seqGap m f h.seq
  let reserved := match op with | .reserved _ => true | _ => false
  if (isWork op && standby m) || (decide (f ≠ 0) && inMaint m) then 0x12
  else if (d = 0 ∨ 2 ^ 31 ≤ d) ∧ reaccepts m f h.seq = false then 0x10
  else if 2 ≤ d ∧ d < 2 ^ 31 then 0x11
  else if reserved || (decide (0x40 ≤ op.code) && decide (f ≠ 0)) then 0x13
  else if !h.dmaOk then 0x15
  else if h.target ≠ 0 ∧ hasTarget op = false ∧ opZero op = false then 0x14
  else 0

/-- A status that consumes the sequence number (HIF table 10). -/
def consumes (st : Nat) : Bool := !(decide (st = 0x10) || decide (st = 0x11) || decide (st = 0x12))

/-- The mark of f and its pending set take a SEQ (R363, R364); a re-accepted one leaves its set (R368). -/
def takeSeq (f : Nat) (seq : BitVec 32) (re : Bool) (m : Pnm) : Pnm :=
  inc (modFn f (fun s =>
    { s with accSeq := if re then s.accSeq else seq, reaccept := if re then s.reaccept.filter (· ≠ seq) else s.reaccept,
             pendSet := s.pendSet ++ [seq], changed := true }) m) Reg.HIF_ACCEPTED

/-- R353: command `op` of function f is decided, with ACCEPT_NS and the DONE_NS of what happens at once. `unm` marks it as
accepted without mirroring. The second part is what a COMMIT entry reports (R443). -/
def decideCmd (f : Nat) (h : CmdHdr) (op : Op) (accept done : Nat) (unm : Bool) (s : PM) : PM × Ans :=
  let m := s.1
  let re := reaccepts m f h.seq
  let st := firstChecks m f h op
  let ref : CmdRef :=
    { fn := f, seq := h.seq, opcode := op.code, acceptNs := accept, kick := h.kick, unmirrored := unm,
      reaccepted := re && consumes st }
  if st ≠ 0 then
    let m1 := if consumes st then takeSeq f h.seq re m else m
    ((completeAt ref (ans st) done m1, s.2), ans st)
  else
    let r := opEffect ref h op (takeSeq f h.seq re m, s.2)
    match r.2 with
    | some a => ((completeAt ref a done r.1.1, r.1.2), a)
    | none => (r.1, ans 0)

/-- A work opcode is accepted without mirroring (R366). -/
def goesUnmirrored (m : Pnm) (op : Op) : Bool :=
  isWork op && decide (pairState m = 2) && rb m Reg.PAR_CFG 0 && !mirroring m

/-- R366: event 0x1D, once while the peer is failed. -/
def sayUnmirrored (f : Nat) (unm : Bool) (m : Pnm) : Pnm :=
  let say := unm && rb m Reg.PAR_STAT 9 && !m.hif.unmirroredSaid
  raiseIf say { src := 9, code := 0x1D, cls := 1, items := [f], fns := evtOf f }
    { m with hif := { m.hif with unmirroredSaid := m.hif.unmirroredSaid || say } }

/-- A command is decided at an instant, with its COMMIT entry where it was mirrored (R443). -/
def decideOne (f : Nat) (h : CmdHdr) (op : Op) (accept done : Nat) (s : PM) : PM :=
  let unm := goesUnmirrored s.1 op
  let mir := isWork op && mirroring s.1
  let r := decideCmd f h op accept done unm (onM (sayUnmirrored f unm) s)
  onM (fun m => if mir then
    commitLater (commitEntry 1 r.2.status f h.seq.toNat 0 r.2.r0.toNat r.2.r1.toNat 0 0) m else m) r.1

/-! ## What follows decisions: COMMIT, completions, write-back (R347, R349, R361, R443) -/

/-- R443: mirrored commands that completed after their acceptance. -/
def commitCompleted (accept : Nat) (m : Pnm) : Pnm :=
  (m.hif.cplDue.filter fun c => !c.bulk && !c.ref.unmirrored && decide (1 ≤ c.ref.opcode ∧ c.ref.opcode < 0x40) &&
      decide (c.ref.acceptNs < accept)).foldl
    (fun x c => commitLater (commitEntry 2 c.status c.ref.fn c.ref.seq.toNat 0 c.r0.toNat c.r1.toNat c.doneNs 0) x) m

/-- Events and the write-back block of function f, with the vectors that wait; `now` names vectors that are sent at once. -/
def fnWrite (now : List Nat) (f : Nat) (m : Pnm) : Pnm :=
  let m1 := eventsWrite f m
  let s := getFn m1 f
  if s.changed || !s.vecs.isEmpty then writeBack f now m1 else m1

/-- After decisions at once for function f: a kick, or a command decided by itself. -/
def afterKick (f : Nat) (m : Pnm) : Pnm :=
  writeBack f [0] (eventsWrite f (cplFlush (fun g => decide (g = f)) (commitSend (nowNs m) (commitCompleted (nowNs m) m))))

/-- After decisions at an acceptance instant: the COMMIT message, completions and write-backs. -/
def afterAccept (accept : Nat) (m : Pnm) : Pnm :=
  let m1 := cplFlush (fun _ => true) (commitSend accept (commitCompleted accept m))
  (fnList m1).foldl (fun x f => fnWrite [] f x) m1

/-! ## Fetching and mirroring (R349, R350, R442) -/

/-- The next acceptance instant in exact units. -/
def nextAccept (m : Pnm) : Nat :=
  match m.hif.accAt with
  | some a => a
  | none => gridInstant m.svi.nextTick + rf m Reg.HIF_POLL 6 0 * 1000 * unitNs

/-- R442: the mirror request of a command. -/
def sendMirror (f : Nat) (h : CmdHdr) (op : Op) (plan : Nat) (m : Pnm) : Pnm :=
  let g := match op with
    | .gateArm _ l => (if f = 0 then some l.toNat else match mappedIdx m f l.toNat with
        | some i => some i
        | none => gateAlloc m)
    | _ => none
  let l := match op with
    | .lockSelect o _ _ => (match lockOf m o.toNat with | some k => some k | none => freeLock m)
    | _ => none
  let c := match op with | .captureArm _ => some (freeCap m) | _ => none
  pairSend (mirrorPath m) 2 (mirrorBody f h op plan (g.getD 0xFFFF) (l.getD 0xFFFF) (c.getD 0xFFFF)) m

/-- The mark that the commands ahead in ring order will leave, as far as their sequence numbers tell. -/
def markAhead (acc : BitVec 32) (l : List Fetched) : BitVec 32 :=
  l.foldl (fun a x => if x.hdr.seq = a + 1 then x.hdr.seq else a) acc

/-- R366, R442: the command needs the peer's acknowledgement: mirroring is on, and it passes check 2. -/
def needsAck (m : Pnm) (f : Nat) (ahead : List Fetched) (h : CmdHdr) (op : Op) : Bool :=
  isWork op && mirroring m && (decide (h.seq = markAhead (getFn m f).accSeq ahead + 1) || reaccepts m f h.seq)

/-- The command at the head of f's ring may be decided now. -/
def headReady (m : Pnm) (f : Nat) : Option Fetched :=
  match (getFn m f).cmds with
  | x :: _ => if x.ready && (x.acked || !needsAck m f [] x.hdr x.op) then some x else none
  | [] => none

/-- R350: the commands of a kick at the head of f's ring are decided now. -/
def decideKicked (f : Nat) : Nat → PM → PM
  | 0, s => s
  | n + 1, s =>
    match headReady s.1 f with
    | some x =>
      if x.hdr.kick then
        let s1 := onM (modFn f fun t => { t with cmds := t.cmds.tail }) s
        decideKicked f n (onM (afterKick f) (decideOne f x.hdr x.op (nowNs s1.1) (nowNs s1.1) s1))
      else s
    | none => s

/-- COMMAND_FETCH_DONE: the descriptor of function f's next fetched command has arrived with what it points at; `ok` is false
where its read failed (R345). -/
def fetchDone (f : Nat) (ok : Bool) (h : CmdHdr) (op : Op) (s : PM) : PM :=
  let t := getFn s.1 f
  if t.inFetch = 0 then s
  else if !ok then onM (ringError f 0) s
  else
    let h' : CmdHdr := { h with kick := h.kick && rb s.1 (Reg.fn f 0) 1 }
    let need := needsAck s.1 f t.cmds h' op
    let x : Fetched := { hdr := h', op := op, ready := true, sent := need, acked := false }
    let m1 := putFn f { t with inFetch := t.inFetch - 1, cmds := t.cmds ++ [x] } s.1
    let m2 := if need then sendMirror f h' op (if h'.kick then nowNs m1 else uNs (nextAccept m1)) m1 else m1
    decideKicked f (t.cmds.length + 1) (m2, s.2)

/-- The ready commands of f at the head of its ring are decided at an acceptance instant. -/
def acceptFn (accept f : Nat) : Nat → PM → PM
  | 0, s => s
  | n + 1, s =>
    match headReady s.1 f with
    | some x =>
      let s1 := onM (modFn f fun t => { t with cmds := t.cmds.tail }) s
      acceptFn accept f n (decideOne f x.hdr x.op accept accept s1)
    | none => s

/-- R442: commands that still wait for their acknowledgement are requested again for the next acceptance instant. -/
def repeatMirror (next f : Nat) (m : Pnm) : Pnm :=
  if !mirroring m then m
  else
    let l := (getFn m f).cmds
    l.zipIdx.foldl (fun a p =>
      let x := p.1
      if x.ready && !x.acked && needsAck a f (l.take p.2) x.hdr x.op then
        let a1 := sendMirror f x.hdr x.op next a
        let a2 := if x.sent then inc a1 (Reg.PAR_CNT + 24) else a1
        modFn f (fun t => { t with cmds := modAt t.cmds p.2 fun y => { y with sent := true } }) a2
      else a) m

/-- R349, R365: every function's commands are decided at A(k), the PF first. -/
def acceptAll (accU : Nat) (s : PM) : PM :=
  let accept := uNs accU
  let fns := fnList s.1
  let s1 := fns.foldl (fun x f => acceptFn accept f (getFn x.1 f).cmds.length x) s
  let next := uNs (accU + planeTicks s1.1 * unitTick)
  onM (fun m => fns.foldl (fun x f => repeatMirror next f x) m) s1

/-- A command of function f is decided by itself at this instant: it is outstanding from now on, leases that have ended come
first (R300), and its completion is written. -/
def decideNow (f : Nat) (h : CmdHdr) (op : Op) (s : PM) : PM :=
  if alive s.1 && fnOn s.1 f then
    let s1 := onM (fun m => modFn f (fun t => { t with outstanding := t.outstanding + 1 }) (leasesEnd m)) s
    onM (afterKick f) (decideOne f { h with kick := h.kick && rb s.1 (Reg.fn f 0) 1 } op (nowNs s1.1) (nowNs s1.1) s1)
  else s

end Sys2Proof.Machine
end

