-- ==== Sys2Proof/Machine/Fire.lean ====
section
/-! DEFINITION. Gates at their firing instant: actions by role, notices, pulses (R193 to R199). -/

namespace Sys2Proof.Machine

/-- Actions 1 to 4 are output actions: TOUT_ON, TOUT_OFF, TOUT_PULSE, GOOSE (R199). -/
def Gate.output (g : Gate) : Bool := decide (1 ≤ g.action ∧ g.action ≤ 4)

/-- R444: the firing notice of gate i. -/
def fireNotice (i : Nat) (g : Gate) : List Byte :=
  beBytes 2 i ++ beBytes 1 8 ++ beBytes 1 0 ++ beBytes 4 (g.f % nsU) ++ beBytes 8 (g.f / nsU)

/-- A gate drives a timed output at the first counter-clock edge at or after an instant in 2^-32 ns (R193). -/
def toutAt (t : Nat) (on : Bool) (f : Nat) (m : Pnm) : Pnm :=
  toutByGate t on (edgeAt m f / nsU) (edgeAt m f % nsU) m

/-- R193 to R196: the action of a gate. -/
def gateAct (g : Gate) (m : Pnm) : Pnm :=
  if g.action = 1 then toutAt g.arg true g.f m
  else if g.action = 2 then toutAt g.arg false g.f m
  else if g.action = 3 then
    let m1 := toutAt g.arg true g.f m
    { m1 with gte := { m1.gte with pulses := m1.gte.pulses ++ [(g.arg, g.f + g.value * nsU)] } }
  else if g.action = 4 then gatePublish g.arg (9 * g.f) g.value m
  else if g.action = 5 then inputTrigger g.arg g.f m
  else gateEvent7 g.arg g.f m

/-- GATE_FIRE (R197, R199): gate i is committed and its F has come. -/
def gateFire (i : Nat) (m : Pnm) : Pnm :=
  let g := getGate m i
  if g.state = 3 ∧ g.f ≤ m.tim.mt then
    if !g.output || releases m then
      let m1 := if g.output && decide (pairState m = 2) then pairSendBoth 5 (fireNotice i g) m else m
      let m2 := gateAct g m1
      gateEnd i 8 (putGate i { getGate m2 i with check := g.checkEn && !g.mode } m2)
    else if inMaint m then gateEnd i 15 m
    else putGate i { g with state := 4 } m
  else m

/-- TOUT_PULSE_END (R193): the first pulse on timed output t that has ended drives it off. -/
def pulseEnd (t : Nat) (m : Pnm) : Pnm :=
  match m.gte.pulses.find? (fun p => decide (p.1 = t ∧ p.2 ≤ m.tim.mt)) with
  | none => m
  | some p => toutAt t false p.2 { m with gte := { m.gte with pulses := m.gte.pulses.filter fun q => decide (q ≠ p) } }

end Sys2Proof.Machine
end

