-- ==== Sys2Proof/Machine/Par.lean ====
section
/-! DEFINITION. PAR: pair states, heartbeats, reception of pair messages, mirroring on the standby's side, takeover (chapter 14,
R427 to R450, R454 to R457). Newt resync is in `Resync.lean`. -/

namespace Sys2Proof.Machine

/-- The big-endian value of `n` bytes at offset `o` of a body (R11, R434). -/
def beAt (b : List Byte) (o n : Nat) : Nat := ofBe (bytesAt b o n)

/-- 400 µs of R433 in edges. -/
def pathEdges : Nat := 400 * edgesUs

/-! ## States (PAR tables 6 and 7) -/

/-- PAR_STAT.STATE is stored, without the event. -/
def showPair (st : Nat) (m : Pnm) : Pnm := wf m Reg.PAR_STAT 2 0 st

/-- Event 0x78 with the new state. -/
def pairEvent (m : Pnm) : Pnm :=
  raise { src := 11, code := 0x78, cls := 1, items := [pairState m, (rd m Reg.PAR_EPOCH).toNat % 65536] } m

/-- The next heartbeats after an instant at which the module starts to send them (R431). -/
def beatsFrom (m : Pnm) : Pnm :=
  { m with par := { m.par with nextBl := nowNs m / 100000 + 1, nextPb := (nowNs m + 50000) / 100000 + 1 } }

/-- Enabled publications wait for the first output instant of the new role (R289). -/
def pubsFresh (m : Pnm) : Pnm :=
  m.out.pub.foldl (fun x p => if p.2.on then putPub p.1 { getPub x p.1 with fresh := true } x else x) m

/-- The listen timer in edges (PAR table 7). -/
def listenEdges (m : Pnm) : Nat := rf m Reg.PAR_CFG 15 8 * edgesMs * (1 + b2n (rb m Reg.PAR_STAT 3))

/-- R520: the own state of node 2. -/
def peerNode (m : Pnm) : Pnm :=
  let worse := fun (a : Nat) => if rb m Reg.PAR_CFG 1 then
    max a (max (min 2 (rf m Reg.PAR_PEER_HEALTH 7 0)) (b2n m.par.reportLate)) else a
  let st := if rb m Reg.PAR_STAT 9 then 2 else worse (min 2 (rf m Reg.PAR_PEER 9 8))
  let used := decide (pairState m ≠ 0 ∧ pairState m ≠ 6) && m.par.lastHb.isSome
  let code := 128 + if rb m Reg.PAR_STAT 9 then 0x79 else 0x7E
  let nd := NMap.get nodeDflt m.tel.dia.nodes 2
  let cs := if st = 0 then [] else [(code, st)]
  let nd' : Node := { nd with causes := cs, own := ownOf used cs }
  if nd' = nd then m
  else
    let nodes := NMap.set nodeDflt m.tel.dia.nodes 2 nd'
    { m with tel := recomputeT m 2048 2 { m.tel with dia := { m.tel.dia with nodes := nodes } } }

/-- R438: the module enters a pair state. Its timers start, and outputs that the role withholds or releases follow (R34). -/
def setPair (st : Nat) (m : Pnm) : Pnm :=
  if pairState m = st then m
  else
    let sent := pairSends m
    let par :=
      { m.par with
        listenDue := if st = 1 then some (m.tim.edge + listenEdges m) else none,
        demotedDue := if st = 5 then some (m.tim.edge + edgesS) else none,
        retryDue := none, tx := none, rx := none, commits := [],
        lastTx := if st = 2 then some m.tim.edge else none,
        reportNext := if st = 3 then some (m.tim.edge + edgesS) else none,
        stored := if st = 3 then m.par.stored else [] }
    let dia := if st = 3 then { m.tel.dia with passStandby := 0, failStandby := 0 } else m.tel.dia
    let m1 := showPair st { m with par := par, tel := { m.tel with dia := dia } }
    let m2 := if !sent && pairSends m1 then beatsFrom m1 else m1
    peerNode (sioApply (pairEvent m2))

/-- Entry into DEMOTED with its reason. -/
def demote (reason : Nat) (m : Pnm) : Pnm :=
  raise { src := 11, code := 0x7C, cls := 1, items := [reason] } (sb (setPair 5 m) Reg.PAR_FLAGS 3)

/-- R429: the pair epoch of a module that becomes ACTIVE. -/
def raiseEpoch (m : Pnm) : Pnm := wr m Reg.PAR_EPOCH (loW (max (rd m Reg.PAR_EPOCH).toNat m.par.highEpoch + 1))

/-- A module becomes ACTIVE without a takeover (PAR table 7). -/
def becomeActive (m : Pnm) : Pnm := pubsFresh (setPair 2 (raiseEpoch m))

/-- The pair node's view of a failed or heard peer (R433); `failed` sets PEER_FAILED. -/
def peerFail (failed : Bool) (m : Pnm) : Pnm :=
  if rb m Reg.PAR_STAT 9 = failed then m
  else
    let m1 := wf { m with hif := { m.hif with unmirroredSaid := false } } Reg.PAR_STAT 9 9 (b2n failed)
    raise { src := 11, code := 0x79, cls := 1, items := [b2n failed] } m1

/-- R433: a path goes up or down. -/
def pathSet (path up : Bool) (m : Pnm) : Pnm :=
  if pathUp m path = up then m
  else
    let m1 := wf m Reg.PAR_STAT (if path then 11 else 10) (if path then 11 else 10) (b2n up)
    let m2 := wf m1 Reg.PAR_STAT 8 8 (b2n (pathUp m1 false || pathUp m1 true))
    raise { src := 11, code := 0x7A, cls := 2, items := [b2n path, b2n (!up)] } m2

/-! ## Heartbeats sent (R428, R431) -/

/-- PAR table 2. -/
def beatBody (m : Pnm) : List Byte :=
  let flags := b2n (rb m Reg.PAR_CFG 1) + 2 * b2n (rb m Reg.PAR_CFG 0) + 4 * b2n (rb m Reg.PAR_STAT 8) +
    8 * b2n (decide (m.tim.edge < m.par.authSeen))
  beBytes 1 (pairState m) ++ beBytes 1 (NMap.get nodeDflt m.tel.dia.nodes 1).state ++ beBytes 1 flags ++
  beBytes 1 (m.glb.straps.slotId % 16) ++ beBytes 1 (degradeNow m) ++ beBytes 1 m.tim.cls ++ beBytes 2 0 ++
  beBytes 8 (nowNs m) ++ beBytes 8 m.par.lastCommit ++ beBytes 8 (shownProgId m) ++
  m.mac.seqs.flatMap (fun s => beBytes 2 s.toNat) ++ beBytes 6 0

/-- One heartbeat on a path. -/
def beat (path : Bool) (m : Pnm) : Pnm :=
  let m1 := pairSend path 1 (beatBody m) m
  { m1 with par := { m1.par with lastTx := some m.tim.edge } }

/-- HEARTBEAT_SEND: the heartbeats that are due now (R431). -/
def heartbeatSend (m : Pnm) : Pnm :=
  if m.tim.running && pairSends m && wrOk m then
    let k := nowNs m / 100000
    let q := (nowNs m + 50000) / 100000
    let m1 := if m.par.nextBl ≤ k then beat false { m with par := { m.par with nextBl := k + 1 } } else m
    if m1.par.nextPb ≤ q then beat true { m1 with par := { m1.par with nextPb := q + 1 } } else m1
  else m

/-- TX_WATCHDOG (R449). -/
def txWatchdog (m : Pnm) : Pnm :=
  match m.par.lastTx with
  | some e => if pairState m = 2 ∧ e + 300 * edgesUs ≤ m.tim.edge then demote 2 m else m
  | none => m

/-! ## Takeover (R446, R447, R200, R289, R332) -/

/-- The next output instant after now, over the tasks that run; now where there is none. -/
def firstOutput (m : Pnm) : Nat :=
  let l := (liveTasks m).flatMap fun t =>
    let s := getTask m t
    (s.rel.map (·.at')) ++ (match s.run with | some r => [gridInstant r.ts + runD m t r.dbl] | none => []) ++
      (if s.state = 3 then [] else [gridInstant s.next + runD m t (decide (s.state = 2))])
  match l.filter fun a => decide (nowU m < a) with
  | [] => nowU m
  | a :: r => r.foldl min a

/-- R446 t2: a stored command is decided by the module itself. -/
def decideStored (s : PM) (x : Mirrored) : PM :=
  let s1 := onM (modFn x.fn fun t => { t with pendSet := t.pendSet.filter (· ≠ x.hdr.seq) }) s
  (decideCmd x.fn x.hdr x.op x.plan (nowNs s1.1) false s1).1

/-- R365: the order of stored commands: planned instant, then function, then as they came. -/
def storedOrder (l : List Mirrored) : List Mirrored :=
  sortBy (fun a b => decide (a.plan < b.plan ∨ (a.plan = b.plan ∧ a.fn ≤ b.fn))) l

/-- R447: due completions and replicas go to the backlogs: of each function the most recent 64 - P. -/
def backlogAll (m : Pnm) : Pnm :=
  let fns := 0 :: vfList m
  fns.foldl (fun x f =>
    let s := getFn x f
    let mine := x.hif.cplDue.filter fun c => decide (c.ref.fn = f) && !c.bulk
    let reps := (NMap.get (fun _ => []) x.par.replicas f).filter fun c => !(mine.any fun d => decide (d.ref.seq = c.ref.seq))
    let all := reps ++ mine
    let keep := 64 - s.pendSet.length
    let b := (all.drop (all.length - keep)).map fun c => { c with ref := { c.ref with replica := false } }
    let m1 := putFn f { s with backlog := b, outstanding := s.pendSet.length } x
    { m1 with hif := { m1.hif with cplDue := m1.hif.cplDue.filter fun c => !(decide (c.ref.fn = f) && !c.bulk) },
              par := { m1.par with replicas := NMap.set (fun _ => []) m1.par.replicas f [] } }) m

/-- R428: the PRP and HSR counters at takeover. -/
def advanceSeqs (m : Pnm) : Pnm :=
  { m with mac := { m.mac with seqs := m.par.peerSeqs.map fun n => BitVec.ofNat 16 (n + 2048) } }

/-- PAR table 9. -/
def takeOver (s : PM) : PM :=
  let st := storedOrder s.1.par.stored
  let s1 := onM (fun m => showPair 2 { m with par := { m.par with stored := [], reportNext := none, rx := none } }) s
  let s2 := st.foldl decideStored s1
  let m3 := pairEvent (raiseEpoch s2.1)
  let m4 := beat true (beat false m3)
  let m5 := backlogAll (advanceSeqs m4)
  let m6 := mirrorFresh (pubsFresh (gatesTakeover (firstOutput m5) m5))
  let m7 := { m6 with sio := { m6.sio with takeover := if m6.cye.running then 2 else 0 } }
  let m8 := if m7.cye.running then m7 else pubTakeover (nowU m7) m7
  let m9 := wr (wr m8 Reg.PAR_LAST_TAKEOVER_NS_LO (loW (nowNs m8))) Reg.PAR_LAST_TAKEOVER_NS_HI (hiW (nowNs m8))
  (peerNode (sioApply (raise { src := 11, code := 0x7B, cls := 1, items := [(rd m9 Reg.PAR_EPOCH).toNat % 65536] }
    (sb m9 Reg.PAR_FLAGS 4))), s2.2)

/-- PATH_TIMEOUT (R433): 400 µs without a valid heartbeat on a path. -/
def pathTimeout (path : Bool) (m : Pnm) : Pnm :=
  if due (if path then m.par.duePb else m.par.dueBl) m.tim.edge then
    pathSet path false { m with par := if path then { m.par with duePb := none } else { m.par with dueBl := none } }
  else m

/-- PEER_FAILED (R433, PAR table 7). -/
def peerFailed (s : PM) : PM :=
  if due s.1.par.failDue s.1.tim.edge then
    let m := pathTimeout true (pathTimeout false s.1)
    let m1 := peerNode (peerFail true { m with par := { m.par with failDue := none } })
    match pairState m1 with
    | 2 => (if m1.par.evidence then demote 3 m1 else m1, s.2)
    | 3 => takeOver (m1, s.2)
    | 4 => (raise { src := 11, code := 0x7D, cls := 2, items := [7] } (wf (setPair 1 m1) Reg.PAR_RESYNC_STAT 7 0 7), s.2)
    | _ => (m1, s.2)
  else s

/-- LISTEN_TIMEOUT (PAR table 7). -/
def listenTimeout (m : Pnm) : Pnm :=
  if pairState m = 1 ∧ due m.par.listenDue m.tim.edge ∧ rb m Reg.PAR_CFG 2 then
    peerNode (becomeActive (peerFail true m))
  else m

/-- DEMOTED_TIMEOUT (PAR table 7). -/
def demotedTimeout (m : Pnm) : Pnm :=
  if pairState m = 5 ∧ due m.par.demotedDue m.tim.edge then setPair 1 m else m

/-! ## Resync requests (R451) -/

/-- R451: the module may send RESYNC_REQ. The heartbeat carries no plane rate; the active module compares it. -/
def mayRequest (m : Pnm) : Bool :=
  pathUp m false && m.cye.running && decide (shownProgId m = m.par.peerProg) && m.svi.running

/-- RESYNC_REQ, or its repetition in 1 s while R451 does not hold. -/
def requestResync (m : Pnm) : Pnm :=
  if mayRequest m then
    let rx : ResyncRx := { kind := 0, data := [], installed := false, commits := [], waiting := [], done := [], ended := none }
    pairSend false 9 (beBytes 8 (shownProgId m) ++ beBytes 1 (cyeProg m).rate ++ beBytes 7 0)
      { m with par := { m.par with rx := some rx, retryDue := none, stored := [], storedSeq := [] } }
  else { m with par := { m.par with retryDue := some (m.tim.edge + edgesS) } }

/-- Entry into SYNCING (PAR table 7). -/
def startSync (m : Pnm) : Pnm := requestResync (setPair 4 m)

/-- RESYNC_RETRY (PAR table 7). -/
def resyncRetry (m : Pnm) : Pnm :=
  if pairState m = 4 ∧ due m.par.retryDue m.tim.edge then requestResync m else m

/-- PAR_RESYNC: a write of PAR_CTRL.RESYNC. -/
def parResync (m : Pnm) : Pnm :=
  if pairState m = 5 then startSync m else sb (cfgErr m Reg.PAR_CFG_ERR 10) Reg.PAR_FLAGS 0

/-! ## Heartbeats received (R433, R438, R440, PAR table 2) -/

/-- PAR_TIME_DIFF of a Baswick heartbeat. -/
def timeDiff (stamp ns : Nat) (m : Pnm) : Pnm :=
  let d : Int := ((stamp / nsU : Nat) : Int) - (ns : Int)
  let w := ux 64 d
  let m1 := wr (wr m Reg.PAR_TIME_DIFF_LO (loW w)) Reg.PAR_TIME_DIFF_HI (hiW w)
  let far := decide (rf m Reg.PAR_CFG 31 16 * 1000 < d.natAbs)
  let m2 := raiseIf (far && !m.par.timeBad) { src := 11, code := 0x7F, cls := 2, items := [6, 0] } m1
  let m3 := { m2 with par := { m2.par with timeBad := far } }
  if far then sb m3 Reg.PAR_FLAGS 2 else m3

/-- R454: event 0x7E with its kind. -/
def healthEvent (kind : Nat) (m : Pnm) : Pnm :=
  raise { src := 11, code := 0x7E, cls := 2, items := [kind] } (sb m Reg.PAR_FLAGS 5)

/-- R440: the peer wins against this ACTIVE module. -/
def peerWins (m : Pnm) (epoch : Nat) : Bool :=
  let own := (rd m Reg.PAR_EPOCH).toNat
  decide (own < epoch) || (decide (own = epoch) && rb m Reg.PAR_STAT 3)

/-- What a valid heartbeat shows of the peer. -/
def notePeer (path : Bool) (f : PairFrame) (m : Pnm) : Pnm :=
  let b := f.body
  let fl := beAt b 2 1
  let word := beAt b 0 1 % 8 + 8 * b2n f.senderPos + 16 * (beAt b 3 1 % 16) + 256 * (beAt b 1 1 % 4) + 1024 * (fl % 2)
  let par :=
    { m.par with
      failDue := some (m.tim.edge + pathEdges), lastHb := some m.tim.edge, evidence := false,
      reportLate := m.par.reportLate && decide (beAt b 0 1 = 3),
      reportDue := if beAt b 0 1 ≠ 3 then none else if m.par.reportDue.isSome || m.par.reportLate then m.par.reportDue
        else some (m.tim.edge + 3 * edgesS),
      dueBl := if path then m.par.dueBl else some (m.tim.edge + pathEdges),
      duePb := if path then some (m.tim.edge + pathEdges) else m.par.duePb,
      highEpoch := max m.par.highEpoch f.pairEpoch.toNat, peerProg := beAt b 0x18 8,
      peerSeqs := if beAt b 0 1 = 2 then (List.range 5).map (fun i => beAt b (0x20 + 2 * i) 2) else m.par.peerSeqs,
      demotedDue := if pairState m = 5 then some (m.tim.edge + edgesS) else m.par.demotedDue,
      listenDue := if pairState m = 1 ∧ (beAt b 0 1 = 2 ∨ beAt b 0 1 = 3) then some (m.tim.edge + listenEdges m)
        else m.par.listenDue }
  wr (wr { m with par := par } Reg.PAR_PEER (loW word)) Reg.PAR_PEER_EPOCH f.pairEpoch

/-- The transitions that a heartbeat brings about (PAR table 7). -/
def beatMoves (peer epoch : Nat) (m : Pnm) : Pnm :=
  match pairState m with
  | 1 => if peer = 2 then startSync m else if peer = 1 ∧ rb m Reg.PAR_STAT 3 = false then becomeActive m else m
  | 2 => if peer = 2 ∧ peerWins m epoch then demote 1 m else m
  | 5 => if peer = 2 ∧ rb m Reg.PAR_CFG 3 then startSync m else m
  | _ => m

/-- A valid heartbeat with its receive timestamp. -/
def beatRx (path : Bool) (stamp : Nat) (f : PairFrame) (m : Pnm) : Pnm :=
  let m1 := inc m (Reg.PAR_CNT + if path then 4 else 0)
  let m2 := peerFail false (pathSet path true (notePeer path f m1))
  let m3 := if path then m2 else timeDiff stamp (beAt f.body 8 8) m2
  let m4 := if decide ((beAt f.body 2 1).testBit 0 = rb m Reg.PAR_CFG 1) then m3 else healthEvent 3 m3
  peerNode (beatMoves (beAt f.body 0 1) f.pairEpoch.toNat m4)

/-! ## Messages of the mirror path, on the standby (R442, R443, R445) -/

/-- The module stores mirrored commands (PAR table 6). -/
def storesMirrored (m : Pnm) : Bool := decide (pairState m = 3) || (decide (pairState m = 4) && m.par.rx.isSome)

/-- MIRROR_ACK. -/
def mirrorAck (path : Bool) (x : Mirrored) (result : Nat) (m : Pnm) : Pnm :=
  pairSend path 3 (beBytes 2 x.fn ++ beBytes 1 result ++ beBytes 1 0 ++ beBytes 4 x.hdr.seq.toNat ++ beBytes 8 x.plan) m

/-- R442: a MIRROR_REQ at the peer. -/
def mirrorReq (path : Bool) (b : List Byte) (m : Pnm) : Pnm :=
  if storesMirrored m then
    let x := mirrorOf b
    let same := fun (y : Mirrored) => decide (y.fn = x.fn ∧ y.hdr.seq = x.hdr.seq)
    if m.par.stored.any same then
      mirrorAck path x 0 { m with par := { m.par with stored := m.par.stored.map fun y => if same y then x else y } }
    else
      let last := NMap.get (fun _ => none) (m.par.storedSeq.map fun p => (p.1, some p.2)) x.fn
      let ok := match last with | some q => decide (x.hdr.seq = q + 1) | none => true
      if ok then
        let par := { m.par with stored := m.par.stored ++ [x], storedSeq := NMap.ins m.par.storedSeq x.fn x.hdr.seq }
        mirrorAck path x 0 (modFn x.fn (fun s => { s with pendSet := s.pendSet ++ [x.hdr.seq] }) { m with par := par })
      else demote 4 (mirrorAck path x 1 m)
  else m

/-- R442: the peer's acknowledgement at the active module. An answer later than 2 µs before its acceptance instant does not
count, and the request is repeated. -/
def mirrorAcked (b : List Byte) (s : PM) : PM :=
  if pairState s.1 = 2 ∧ beAt b 2 1 = 0 then
    let f := beAt b 0 2
    let seq := BitVec.ofNat 32 (beAt b 4 4)
    let t := getFn s.1 f
    let ack := fun (x : Fetched) => decide (x.hdr.seq = seq) && (x.hdr.kick || decide (nowNs s.1 + 2000 ≤ beAt b 8 8))
    if t.cmds.any ack then
      decideKicked f t.cmds.length
        (onM (putFn f { t with cmds := t.cmds.map fun x => if ack x then { x with acked := true } else x }) s)
    else s
  else s

/-- A COMMIT entry (PAR table 5). -/
structure CommitEnt where
  kind : Nat
  status : Nat
  fn : Nat
  seq : BitVec 32
  index : Nat
  r0 : Word
  r1 : Word
  instant : Nat

/-- The entry at an offset of a COMMIT body. -/
def commitAt (b : List Byte) (o : Nat) : CommitEnt :=
  { kind := beAt b o 1, status := beAt b (o + 1) 1, fn := beAt b (o + 2) 2, seq := BitVec.ofNat 32 (beAt b (o + 4) 4),
    index := beAt b (o + 8) 2, r0 := BitVec.ofNat 32 (beAt b (o + 12) 4), r1 := BitVec.ofNat 32 (beAt b (o + 16) 4),
    instant := beAt b (o + 20) 8 }

/-- The effect of a mirrored command, adopting the indices that the active module reports (R443). -/
def mirroredEffect (ref : CmdRef) (x : Mirrored) (e : CommitEnt) (s : PM) : PM × Option Ans :=
  let m := s.1
  match x.op with
  | .gateArm g l =>
    let m1 := if x.fn ≠ 0 ∧ (mappedIdx m x.fn l.toNat).isNone then
      { m with gte := { m.gte with map := m.gte.map ++ [(x.fn, l.toNat, e.r0.toNat)] } } else m
    ((gateArmAt e.r0.toNat x.fn l.toNat false g m1, s.2), some (ans e.status))
  | .gateRead .. => (s, some (ans e.status))
  | .captureArm p => (armMirrored e.r0.toNat x.fn p s, some (ans e.status))
  | .lockSelect o ms k =>
    let l : Lock := { state := 1, keep := k, owner := x.fn, obj := o.toNat, pairId := rf m Reg.PAR_ID 15 0, leaseMs := ms.toNat,
                      leaseEnd := ref.acceptNs + ms.toNat * 1000000 }
    ((putLock e.r0.toNat l m, s.2), some (ans e.status))
  | op => opEffect ref x.hdr op s

/-- An ACCEPTED entry at the peer. A command that the module has not stored demotes it (PAR table 7). -/
def commitAccepted (accept : Nat) (e : CommitEnt) (s : PM) : PM :=
  match s.1.par.stored.find? fun x => decide (x.fn = e.fn ∧ x.hdr.seq = e.seq) with
  | none => onM (demote 4) s
  | some x =>
    let m := s.1
    let m1 := { m with par := { m.par with stored := m.par.stored.filter fun y => decide (y.fn ≠ e.fn ∨ y.hdr.seq ≠ e.seq) } }
    let m2 := modFn e.fn (fun t => { t with pendSet := t.pendSet.filter (· ≠ e.seq) }) m1
    let re := reaccepts m2 e.fn e.seq
    let m3 := if consumes e.status then takeSeq e.fn e.seq re m2 else m2
    let ref : CmdRef :=
      { fn := e.fn, seq := e.seq, opcode := x.op.code, acceptNs := accept, kick := x.hdr.kick, unmirrored := false,
        reaccepted := re && consumes e.status, replica := true }
    let told : Ans := { status := e.status, r0 := e.r0, r1 := e.r1 }
    if e.status < 0x10 then
      let r := mirroredEffect ref x e (m3, s.2)
      match r.2 with
      | some _ => onM (completeAt ref told accept) r.1
      | none => r.1
    else (completeAt ref told accept m3, s.2)

/-- Held work of a command that the active module reports as ended without effect goes (R443). -/
def dropHeld (fn : Nat) (seq : BitVec 32) (m : Pnm) : Pnm :=
  let mine := fun (r : CmdRef) => decide (r.fn = fn ∧ r.seq = seq)
  let back := fun (l : Option Nat) (x : Pnm) => match l with | some k => lockBack k x | none => x
  let hw := m.cye.pend.filter fun h => mine h.ref
  let m1 := hw.foldl (fun x h => back h.lock x)
    { m with cye := { m.cye with pend := m.cye.pend.filter fun h => !mine h.ref } }
  m1.out.pub.foldl (fun x p =>
    let l := p.2.held.filter fun h => mine h.ref
    if l.isEmpty then x
    else l.foldl (fun y h => back h.lock y)
      (putPub p.1 { getPub x p.1 with held := p.2.held.filter fun h => !mine h.ref } x)) m1

/-- A COMPLETED entry at the peer: its completion replaces the replica (R445). -/
def commitDone (accept : Nat) (e : CommitEnt) (m : Pnm) : Pnm :=
  let l := NMap.get (fun _ => []) m.par.replicas e.fn
  let base : CmdRef :=
    match l.find? (fun c => decide (c.ref.seq = e.seq)) with
    | some c => c.ref
    | none => { fn := e.fn, seq := e.seq, opcode := 0, acceptNs := accept, kick := false, unmirrored := false,
                reaccepted := false, replica := true }
  let c : Cpl := { ref := base, bulk := false, rx := none, status := e.status, late := false, replaced := false,
                   doneNs := e.instant, r0 := e.r0, r1 := e.r1 }
  let rest := l.filter fun c => decide (c.ref.seq ≠ e.seq)
  let m1 := { m with par := { m.par with replicas := NMap.set (fun _ => []) m.par.replicas e.fn rest } }
  let m2 := addReplica e.fn c (modFn e.fn (fun t => { t with pendSet := t.pendSet.filter (· ≠ e.seq) }) m1)
  if 0x10 ≤ e.status then dropHeld e.fn e.seq m2 else m2

/-- One entry of a COMMIT at the peer. -/
def commitOne (accept : Nat) (s : PM) (e : CommitEnt) : PM :=
  if pairState s.1 = 5 then s
  else if e.kind = 1 then commitAccepted accept e s
  else if e.kind = 2 then onM (commitDone accept e) s
  else if e.kind = 3 then onM (lockFree e.index) s
  else if e.kind = 4 then onM (gateEnd e.index 9) s
  else s

/-- R443: a COMMIT at the peer; late where a task has started since its acceptance instant. -/
def commitApply (b : List Byte) (s : PM) : PM :=
  let accept := beAt b 0 8
  let late := (liveTasks s.1).any fun t => decide (accept < (getTask s.1 t).lastStart)
  let s1 := onM (fun m => { (if late then inc m (Reg.PAR_CNT + 28) else m) with par := { m.par with lastCommit := accept } }) s
  (List.range (beAt b 8 2)).foldl (fun x i => commitOne accept x (commitAt b (16 + 32 * i))) s1

/-- A COMMIT arrives: it is applied, or waits until the snapshot is installed (R452). -/
def commitRx (b : List Byte) (s : PM) : PM :=
  match pairState s.1, s.1.par.rx with
  | 3, _ => commitApply b s
  | 4, some r =>
    if r.installed then commitApply b s
    else onM (fun m => { m with par := { m.par with rx := some { r with commits := r.commits ++ [b] } } }) s
  | _, _ => s

/-- The peer adopts firing and publication notices (R444). -/
def adopts (m : Pnm) : Bool := decide (pairState m = 3 ∨ pairState m = 4)

/-! ## Health reports (R454) -/

/-- Nodes of block b: its own and its children. -/
def blockFailed (m : Pnm) (b : Nat) : Bool :=
  ((16 + b) :: builtinKids (16 + b)).any fun n => decide ((NMap.get nodeDflt m.tel.dia.nodes n).state = 2)

/-- HEALTH_REPORT_SEND: every second in STANDBY with mode PROVEN. -/
def healthSend (m : Pnm) : Pnm :=
  if pairState m = 3 ∧ rb m Reg.PAR_CFG 1 ∧ due m.par.reportNext m.tim.edge then
    let d := m.tel.dia
    let mask := (List.range 16).foldl (fun a b => a + b2n (blockFailed m b) * 2 ^ b) 0
    let body := beBytes 8 (nowNs m) ++ beBytes 1 (NMap.get nodeDflt d.nodes 1).state ++ beBytes 3 0 ++
      beBytes 4 d.passStandby ++ beBytes 4 d.failStandby ++ beBytes 4 mask ++ beBytes 4 (cycleSig m) ++ beBytes 4 0
    pairSendBoth 12 body { m with par := { m.par with reportNext := some (m.tim.edge + edgesS) } }
  else m

/-- A HEALTH_REPORT at the active module. -/
def healthRx (b : List Byte) (m : Pnm) : Pnm :=
  if pairState m = 2 then
    let root := beAt b 8 1
    let fails := beAt b 16 4
    let m1 := wr m Reg.PAR_PEER_HEALTH (loW (root + 65536 * (beAt b 20 4 % 65536)))
    let m2 := wr (wr m1 Reg.PAR_PEER_REPORT_NS_LO (loW (beAt b 0 8))) Reg.PAR_PEER_REPORT_NS_HI (hiW (beAt b 0 8))
    let bad := decide (root = 2 ∨ m.par.lastFails < fails)
    let m3 := { m2 with par := { m2.par with reportDue := some (m.tim.edge + 3 * edgesS), reportLate := false, lastFails := fails } }
    peerNode (if bad then healthEvent 2 m3 else m3)
  else m

/-- HEALTH_REPORT_TIMEOUT: 3 s without a report. -/
def healthTimeout (m : Pnm) : Pnm :=
  if pairState m = 2 ∧ rb m Reg.PAR_CFG 1 ∧ due m.par.reportDue m.tim.edge then
    peerNode (healthEvent 1 { m with par := { m.par with reportDue := none, reportLate := true } })
  else m

/-! ## Configuration (R434, R439) -/

/-- A refused write: FIELD and CFG_REJECT. -/
def parErr (field : Nat) (m : Pnm) : Pnm := sb (cfgErr m Reg.PAR_CFG_ERR field) Reg.PAR_FLAGS 0

/-- The ports that carry pair frames. -/
def pairPorts (m : Pnm) : List Nat := 11 :: (List.range 10).filter fun p => (rf m Reg.PAR_PB 9 0).testBit p

/-- FIELD of a configuration that PAIR_EN 1 refuses; 0 where it is valid. -/
def parCheck (m : Pnm) : Nat :=
  let addr := fun (lo : Nat) => (rd m lo).toNat + 2 ^ 32 * rf m (lo + 4) 15 0
  let net := addr Reg.PAR_NET_ADDR_LO
  let dst := addr Reg.PAR_HB_DMAC_LO
  if rf m Reg.PAR_ID 15 0 = 0 then 1
  else if !boundTo m (rf m Reg.PAR_ID 24 16) 3 then 2
  else if net = 0 ∨ net.testBit 0 then 3
  else if dst.testBit 0 = false then 4
  else if rf m Reg.PAR_PB 9 0 = 0 then 5
  else if rf m Reg.PAR_CFG 15 8 = 0 then 6
  else if rf m Reg.PAR_CFG 31 16 = 0 then 7
  else if (pairPorts m).any fun p => decide (rf m (Reg.port Reg.MAC_PORT_CFG p) 27 16 < 1998) then 11
  else 0

/-- PAIR_EN_WRITE (R434, R438, R439): bit 0 of a write of PAR_CTRL. -/
def pairEnWrite (data : Word) (m : Pnm) : Pnm :=
  let on := bit data 0
  if on = rb m Reg.PAR_CTRL 0 then m
  else if on then
    if parCheck m ≠ 0 then parErr (parCheck m) m
    else if pairState m = 0 then setPair 1 (sb m Reg.PAR_CTRL 0)
    else sb m Reg.PAR_CTRL 0
  else
    let heard := match m.par.lastHb with | some e => decide (m.tim.edge < e + edgesS) | none => false
    if heard then parErr 9 m
    else if pairState m = 6 then cb m Reg.PAR_CTRL 0
    else pubsFresh (setPair 0 (cb m Reg.PAR_CTRL 0))

/-- A write of a configuration register of PAR at its offset (R439): whole words, in OFF only, with each field's own rule. -/
def parCfgWrite (o : Nat) (data : Word) (m : Pnm) : Pnm :=
  if pairState m ≠ 0 then parErr 8 m
  else if o = Reg.PAR_CFG then
    if bits data 15 8 = 0 then parErr 6 m else if bits data 31 16 = 0 then parErr 7 m
    else wr m o (data &&& 0xFFFFFF0F#32)
  else if o = Reg.PAR_ID then
    if bits data 15 0 = 0 then parErr 1 m else if !boundTo m (bits data 24 16) 3 then parErr 2 m
    else wr m o (data &&& 0x01FFFFFF#32)
  else if o = Reg.PAR_PB then
    if bits data 9 0 = 0 then parErr 5 m else wr m o (data &&& 0x7FFF03FF#32)
  else if o = Reg.PAR_NET_ADDR_HI then
    let a := (stagedLo m Reg.PAR_NET_ADDR_LO).toNat + 2 ^ 32 * bits data 15 0
    if a = 0 ∨ a.testBit 0 then parErr 3 m
    else wr (wr m Reg.PAR_NET_ADDR_LO (stagedLo m Reg.PAR_NET_ADDR_LO)) o (data &&& 0x0000FFFF#32)
  else if o = Reg.PAR_HB_DMAC_HI then
    if bit (stagedLo m Reg.PAR_HB_DMAC_LO) 0 then
      wr (wr m Reg.PAR_HB_DMAC_LO (stagedLo m Reg.PAR_HB_DMAC_LO)) o (data &&& 0x0000FFFF#32)
    else parErr 4 m
  else m

/-- PAR_STAT as read: MIRROR_PATH, UNMIRRORED and RESYNC_BUSY are what the module does now. -/
def parStatWord (m : Pnm) : Word :=
  let unm := decide (pairState m = 2) && rb m Reg.PAR_CFG 0 && !mirroring m
  let busy := m.par.tx.isSome || m.par.rx.isSome
  setBits (rd m Reg.PAR_STAT) 14 12 (b2n (mirrorPath m) + 2 * b2n unm + 4 * b2n busy)

/-- PAR_RESYNC_STAT as read: tasks that are not yet installed. -/
def parResyncWord (m : Pnm) : Word :=
  let left := match m.par.rx with
    | some r => (match r.ended with | some n => n | none => (liveTasks m).length) - r.done.length
    | none => 0
  setBits (rd m Reg.PAR_RESYNC_STAT) 25 16 left

end Sys2Proof.Machine
end

