-- ==== Sys2Proof/Machine/Resync.lean ====
section
/-! DEFINITION. Newt resync (R451 to R453, PAR tables 8 and 11) and the reception of pair frames (R432 to R436). -/

namespace Sys2Proof.Machine

/-! ## Sending (PAR table 3, types 10 and 11) -/

/-- RESYNC_DATA frames of a kind from an offset on; every kind has at least one. -/
def resyncParts (kind total : Nat) : Nat → Nat → List Byte → Pnm → Pnm
  | 0, _, _, m => m
  | fuel + 1, o, b, m =>
    let m1 := pairSend false 10
      (beBytes 1 kind ++ beBytes 3 0 ++ beBytes 4 o ++ beBytes 4 total ++ beBytes 4 0 ++ b.take 1920) m
    if b.length ≤ 1920 then m1 else resyncParts kind total fuel (o + 1920) (b.drop 1920) m1

/-- A kind of resync data. -/
def resyncData (kind : Nat) (b : List Byte) (m : Pnm) : Pnm := resyncParts kind b.length (b.length / 1920 + 1) 0 b m

/-- RESYNC_END at the active module, which serves the resync no longer. -/
def resyncEnd (result tasks : Nat) (m : Pnm) : Pnm :=
  pairSend false 11 (beBytes 1 result ++ beBytes 3 0 ++ beBytes 4 tasks) { m with par := { m.par with tx := none } }

/-- RESYNC_REQ at the active module (R451, R452). -/
def resyncReq (b : List Byte) (m : Pnm) : Pnm :=
  if pairState m = 2 then
    let refuse := fun (r : Nat) => pairSend false 11 (beBytes 1 r ++ beBytes 3 0 ++ beBytes 4 0) m
    if beAt b 0 8 = 0 then refuse 4
    else if beAt b 0 8 ≠ shownProgId m then refuse 2
    else if beAt b 8 1 ≠ (cyeProg m).rate then refuse 3
    else if pathUp m false = false then refuse 5
    else if m.par.tx.isSome ∨ m.cye.exch.isSome ∨ lfPhase m = 5 then refuse 6
    else
      let tx : ResyncTx := { reqAt := nowU m, snap := false, snapAt := 0, tasks := [], total := 0, after := 0 }
      { m with par := { m.par with tx := some tx } }
  else m

/-- The pending commands of function f as mirror requests (kind 1). -/
def pendingOps (m : Pnm) (f : Nat) : List (List Byte) :=
  let req := fun (r : CmdRef) (lock : Option Nat) (op : EmbOp) (target : Nat) (late : Bool) =>
    let h : CmdHdr := { seq := r.seq, lateOk := late, target := if lock.isSome then 0 else BitVec.ofNat 64 target, dmaOk := true,
                        kick := r.kick }
    let obj := match lock with | some k => (getLock m k).obj | none => 0
    let whole : Op :=
      if lock.isSome then .lockOperate (BitVec.ofNat 32 obj) { op := op, lateOk := late, target := BitVec.ofNat 64 target }
      else match op with
        | .hostWrite w q v => .hostWrite w q v
        | .publish c p l => .publish c p l
        | .gateArm g l => .gateArm g l
        | .other c => .reserved c
    mirrorBody f h whole r.acceptNs 0xFFFF (lock.getD 0xFFFF) 0xFFFF
  let hw := (m.cye.pend.filter fun h => decide (h.ref.fn = f)).map fun h =>
    req h.ref h.lock (.hostWrite (BitVec.ofNat 12 h.word) (BitVec.ofNat 16 h.q) (BitVec.ofNat 64 h.value))
      (match h.target with | some t => t / unitNs | none => if h.late then h.ref.acceptNs else 0) h.late
  let pb := m.out.pub.flatMap fun p => (p.2.held.filter fun h => decide (h.ref.fn = f)).map fun h =>
    req h.ref h.lock (.publish (BitVec.ofNat 9 h.items.length) (BitVec.ofNat 10 p.1) h.items) (h.target / unitNs) h.late
  hw ++ pb

/-- Kinds 1 to 6 of PAR table 8. Kind 1 carries no replica completions: the table gives no count to tell where they end (log
entry 19). -/
def snapKind (m : Pnm) (kind : Nat) : List Byte :=
  if kind = 1 then
    (0 :: vfList m).flatMap fun f =>
      let l := pendingOps m f
      beBytes 2 f ++ beBytes 2 0 ++ beBytes 4 (getFn m f).accSeq.toNat ++ beBytes 4 l.length ++ l.flatMap id
  else if kind = 2 then
    (m.gte.gates.filter fun p => decide (p.2.state ≠ 0)).flatMap fun p => beBytes 4 p.1 ++ bytesOf (gateWords p.2)
  else if kind = 3 then
    (m.out.locks.filter fun p => decide (p.2.state ≠ 0)).flatMap fun p => beBytes 4 p.1 ++ bytesOf (outWords m 7 p.1)
  else if kind = 4 then
    (List.range 4096).flatMap fun w =>
      let h := m.cye.pend.find? fun h => decide (h.word = w)
      beBytes 4 w ++ bytesOf ((cyeWords m 3 w).take 4) ++
        (match h with
         | some x => leBytes 8 x.value ++ leBytes 2 x.q ++ leBytes 6 0 ++
             leBytes 8 (match x.target with | some t => t / unitNs | none => 0)
         | none => leBytes 24 0)
  else if kind = 5 then
    (m.out.pub.filter fun p => p.2.on).flatMap fun p =>
      beBytes 4 p.1 ++ bytesOf (outWords m 1 p.1) ++ beBytes 4 p.2.spdu ++
        p.2.held.flatMap fun h =>
          descRaw h.ref.seq.toNat 8 h.late (h.target / unitNs) (pubFields h.items.length p.1) ++ h.items.flatMap itemRaw
  else
    (armed m).flatMap fun p =>
      let c := p.2
      let a : CapArm :=
        { streams := c.streams.map fun s => BitVec.ofNat 16 (s.headD 0), streamCount := BitVec.ofNat 11 c.streams.length,
          mode := BitVec.ofNat 2 c.mode, chain := c.chain, fullPol := c.full, trigMask := BitVec.ofNat 18 c.mask,
          recSamples := BitVec.ofNat 32 c.samples, pos := BitVec.ofNat 32 c.pos, firstSeg := BitVec.ofNat 16 c.seg0,
          segCount := BitVec.ofNat 17 c.segN, autoTmoMs := BitVec.ofNat 22 c.tmo }
      beBytes 4 p.1 ++ bytesOf (capWords m 2 p.1) ++ descRaw 0 0x10 false 0 (capFields a) ++
        a.streams.flatMap fun s => leBytes 2 s.toNat

/-- R452: at the first acceptance instant at least 100 µs after the request, once its effects stand, the snapshot is taken. -/
def resyncSnapshot (accU : Nat) (m : Pnm) : Pnm :=
  match m.par.tx with
  | none => m
  | some x =>
    if x.snap ∨ accU < x.reqAt + 100000 * unitNs then m
    else
      let m1 := (List.range' 1 6).foldl (fun y k => resyncData k (snapKind m k) y) m
      let ts := (liveTasks m).filter fun t => decide ((getTask m t).state ≠ 3)
      if ts = [] then resyncEnd 1 0 m1
      else { m1 with par := { m1.par with tx := some { x with snap := true, snapAt := m.tim.edge, tasks := ts, after := nowU m } } }

/-- The instance bytes of a task: of each instance of the directory its number, quality, count and values. -/
def instBytes (m : Pnm) (t : Nat) : List Byte :=
  ((cyeProg m).dir.filter fun d => decide (d.task = t)).flatMap fun d =>
    let i := NMap.get InstSt.init m.cye.insts d.inst
    beBytes 4 d.inst ++ beBytes 2 i.q ++ beBytes 2 i.st.length ++ i.st.flatMap fun v => beBytes 8 (ux 64 v)

/-- R453: the run of task t that started at `ts` has completed: its state is sent where it is that task's turn. -/
def resyncTask (t ts tsNs : Nat) (m : Pnm) : Pnm :=
  match m.par.tx with
  | none => m
  | some x =>
    let ts' := x.tasks.filter fun k => decide ((getTask m k).state ≠ 3)
    if x.snap = false then m
    else if ts' = [] then resyncEnd 1 x.total m
    else if ts'.head? = some t ∧ x.after < gridInstant ts then
      let b := instBytes m t
      let m1 := resyncData 7 (beBytes 4 t ++ beBytes 4 0 ++ beBytes 8 tsNs ++ beBytes 4 b.length ++ beBytes 4 0 ++ b) m
      if ts'.tail = [] then resyncEnd 1 (x.total + 1) m1
      else { m1 with par := { m1.par with tx := some { x with tasks := ts'.tail, total := x.total + 1, after := nowU m } } }
    else { m with par := { m.par with tx := some { x with tasks := ts' } } }

/-- RESYNC_TIMEOUT (R452): 2 s after the snapshot. -/
def resyncTimeout (m : Pnm) : Pnm :=
  match m.par.tx with
  | some x => if x.snap ∧ x.snapAt + 2 * edgesS ≤ m.tim.edge then resyncEnd 8 0 m else m
  | none => m

/-! ## Installing (R452, R453) -/

/-- R438: the resync of the returning module succeeds once every task is installed. -/
def resyncFinish (m : Pnm) : Pnm :=
  match m.par.rx with
  | none => m
  | some r =>
    match r.ended with
    | some n =>
      if r.installed ∧ n ≤ r.done.length then
        raise { src := 11, code := 0x7D, cls := 2, items := [1] } (wf (setPair 3 m) Reg.PAR_RESYNC_STAT 7 0 1)
      else m
    | none => m

/-- A pending command of the snapshot. -/
def installPend (x : Mirrored) (m : Pnm) : Pnm :=
  let ref : CmdRef :=
    { fn := x.fn, seq := x.hdr.seq, opcode := x.op.code, acceptNs := x.plan, kick := x.hdr.kick, unmirrored := false,
      reaccepted := false, replica := true }
  let lock := if x.lock = 0xFFFF then none else some x.lock
  let hw := fun (w q v target : Nat) =>
    let h : HostPend :=
      { ref := ref, lock := lock, word := w, value := v, q := q, target := if x.plan < target then some (target * unitNs) else none,
        accept := x.plan * unitNs, late := decide (target ≠ 0 ∧ target ≤ x.plan) }
    { m with cye := { m.cye with pend := m.cye.pend ++ [h] } }
  let pb := fun (p : Nat) (items : List PubItem) (target : Nat) =>
    let h : HeldPub := { ref := ref, lock := lock, items := items, target := target * unitNs, late := false }
    putPub p { getPub m p with held := (getPub m p).held ++ [h] } m
  match x.op with
  | .hostWrite w q v => hw w.toNat q.toNat v.toNat x.hdr.target.toNat
  | .publish _ p items => pb p.toNat items x.hdr.target.toNat
  | .lockOperate _ e =>
    match e.op with
    | .hostWrite w q v => hw w.toNat q.toNat v.toNat e.target.toNat
    | .publish _ p items => pb p.toNat items e.target.toNat
    | _ => m
  | _ => m

/-- The pending commands of one function from an offset on: their requests and the offset after them. -/
def pendAt (b : List Byte) : Nat → Nat → List Mirrored × Nat
  | 0, o => ([], o)
  | n + 1, o =>
    let r := pendAt b n (o + 0x60 + beAt b (o + 0x18) 4)
    (mirrorOf (b.drop o) :: r.1, r.2)

/-- Kind 1: the mark and the pending set of each function. -/
def installFns (b : List Byte) : Nat → Nat → Pnm → Pnm
  | 0, _, m => m
  | fuel + 1, o, m =>
    if b.length < o + 12 then m
    else
      let f := beAt b o 2
      let acc := BitVec.ofNat 32 (beAt b (o + 4) 4)
      let r := pendAt b (min (beAt b (o + 8) 4) 64) (o + 12)
      let have' := m.par.storedSeq.any fun p => decide (p.1 = f)
      let newer := (m.par.stored.filter fun x => decide (x.fn = f)).map (·.hdr.seq)
      let m1 := modFn f (fun s => { s with accSeq := acc, pendSet := r.1.map (·.hdr.seq) ++ newer }) m
      let m2 := if have' then m1 else { m1 with par := { m1.par with storedSeq := NMap.ins m1.par.storedSeq f acc } }
      installFns b fuel r.2 (r.1.foldl (fun x p => installPend p x) m2)

/-- Kind 2: a gate from its 64-byte entry (GTE table 1). -/
def gateAtEntry (b : List Byte) : Gate :=
  let w := wordsOf 16 b
  let s := wrd w 10
  let o := wrd w 11
  let g : Gate :=
    { gateFrom (w.take 10) with
      state := bits s 7 0, refChanged := bit s 9, slipped := bit s 10, angleValid := bit s 11, afterCommit := bit s 12,
      byProgram := bit s 13, takeover := bit s 14, checkDone := bit s 15, slips := bits s 31 16, owner := bits o 8 0,
      prog := bit o 9, loc := bits o 25 16, angleErr := (wrd w 15).toNat }
  g.predicted (bits s 31 16) (dw w 12 * nsU + (wrd w 14).toNat) (bit s 8)

/-- The entries of fixed size `n` of a kind: index and bytes. -/
def entriesOf (n : Nat) (b : List Byte) : List (Nat × List Byte) :=
  (List.range (b.length / n)).map fun k => (beAt b (n * k) 4, bytesAt b (n * k + 4) (n - 4))

/-- Kind 2: the gates of the module are those of the snapshot. -/
def installGates (b : List Byte) (m : Pnm) : Pnm :=
  let l := (entriesOf 68 b).map fun p => (p.1, gateAtEntry p.2)
  let gates := l.foldl (fun a p => NMap.set Gate.init a p.1 p.2) []
  let map := (l.filter fun p => decide (p.2.owner ≠ 0) && !p.2.prog).map fun p => (p.2.owner, p.2.loc, p.1)
  { m with gte := { m.gte with gates := gates, map := map } }

/-- Kind 3: the locks of the module are those of the snapshot. A lease is as long as what remains of it. -/
def installLocks (b : List Byte) (m : Pnm) : Pnm :=
  let lockAt := fun (e : List Byte) =>
    let w := wordsOf 5 e
    let last := dw w 3
    ({ state := fld w 0 1 0, keep := fbit w 0 2, owner := fld w 0 24 16, obj := (wrd w 1).toNat, pairId := (wrd w 2).toNat,
       leaseMs := cdiv (last - nowNs m) 1000000, leaseEnd := last } : Lock)
  { m with out := { m.out with locks := (entriesOf 24 b).foldl (fun a p => NMap.set Lock.init a p.1 (lockAt p.2)) [] } }

/-- Kind 4: the host input words. Their pending writes come with kind 1. -/
def installWords (b : List Byte) (m : Pnm) : Pnm :=
  (entriesOf 44 b).foldl (fun x p =>
    let w := wordsOf 4 p.2
    let old := getWord x p.1
    putWord p.1 { old with value := dw w 0, q := fld w 2 15 0, late := fbit w 2 18, fresh := !fbit w 2 16, at' := nowU m,
                           writes := wrd w 3 } x) m

/-- Kind 5: the numbers of the publications; `fuel` bounds their number. Held commands come with kind 1. -/
def installPubs (b : List Byte) : Nat → Nat → Pnm → Pnm
  | 0, _, m => m
  | fuel + 1, o, m =>
    if b.length < o + 36 then m
    else
      let i := beAt b o 4
      let w := wordsOf 7 (b.drop (o + 4))
      let s := getPub m i
      let held := min (wrd w 6).toNat 8
      let next := (List.range held).foldl (fun p _ => p + 64 + 16 * bAt (b.drop p) 0x18 8 0) (o + 36)
      installPubs b fuel next (putPub i { s with stNum := (wrd w 0).toNat, sqNum := (wrd w 1).toNat, change := dw w 2 * unitNs,
                                                 nextTx := if dw w 4 = 0 then none else some (dw w 4 * unitNs),
                                                 spdu := beAt b (o + 32) 4 } m)

/-- Kind 6: the armed captures. -/
def installCaps (b : List Byte) : Nat → Nat → PM → PM
  | 0, _, s => s
  | fuel + 1, o, s =>
    if b.length < o + 100 then s
    else
      let k := beAt b o 4
      let w := wordsOf 8 (b.drop (o + 4))
      let a := capOf (bytesAt b (o + 36) 64) (b.drop (o + 100))
      let s1 := armAt k (fld w 0 24 16) a s
      let c := getCap s1.1 k
      let c' : Cap :=
        { c with state := fld w 0 1 0, lastEnd := fld w 0 7 4, records := (wrd w 3).toNat, ready := dw w 4,
                 cur := { c.cur with seq := (wrd w 1).toNat, segFirst := (wrd w 2).toNat } }
      installCaps b fuel (o + 100 + 2 * a.streams.length) (onM (putCap k c') s1)

/-- A kind of the snapshot is complete. After kind 6 the queued COMMIT messages are applied in order. -/
def installKind (kind : Nat) (b : List Byte) (s : PM) : PM :=
  if kind = 1 then
    let clear := fun (m : Pnm) =>
      let pub := m.out.pub.map fun p => (p.1, { p.2 with held := [] })
      { m with cye := { m.cye with pend := [] }, out := { m.out with pub := pub.filter fun p => decide (p.2 ≠ PubSt.init p.1) } }
    onM (fun m => installFns b 257 0 (clear m)) s
  else if kind = 2 then onM (installGates b) s
  else if kind = 3 then onM (installLocks b) s
  else if kind = 4 then onM (installWords b) s
  else if kind = 5 then onM (installPubs b 1024 0) s
  else
    let s1 := onM (fun m => { m with cap := { m.cap with caps := [] } }) s
    let s2 := installCaps b 32 0 s1
    match s2.1.par.rx with
    | none => s2
    | some r =>
      let s3 := onM (fun m => { m with par := { m.par with rx := some { r with installed := true, commits := [] } } }) s2
      r.commits.foldl (fun x c => commitApply c x) s3

/-- RESYNC_DATA at the returning module: the frames of a kind arrive in order. -/
def resyncRx (b : List Byte) (s : PM) : PM :=
  match s.1.par.rx with
  | none => s
  | some r =>
    let kind := beAt b 0 1
    let o := beAt b 4 4
    let total := beAt b 8 4
    let had := if o = 0 then [] else r.data
    let put := fun (x : ResyncRx) => onM (fun m => { m with par := { m.par with rx := some x } }) s
    if kind = 0 ∨ 7 < kind ∨ had.length ≠ o ∨ (o ≠ 0 ∧ r.kind ≠ kind) then put { r with kind := 0, data := [] }
    else
      let d := had ++ b.drop 16
      if d.length < total then put { r with kind := kind, data := d }
      else if kind = 7 then
        put { r with kind := 0, data := [], waiting := r.waiting ++ [(beAt d 0 4, beAt d 8 8, (d.drop 24).take (beAt d 16 4))] }
      else installKind kind d (put { r with kind := 0, data := [] })

/-- RESYNC_END at the returning module. -/
def resyncEnded (b : List Byte) (m : Pnm) : Pnm :=
  match m.par.rx with
  | none => m
  | some r =>
    let res := beAt b 0 1
    if res = 1 then resyncFinish { m with par := { m.par with rx := some { r with ended := some (beAt b 4 4) } } }
    else
      let m1 := wf m Reg.PAR_RESYNC_STAT 7 0 res
      raise { src := 11, code := 0x7D, cls := 2, items := [res] }
        { m1 with par := { m1.par with rx := none, retryDue := some (m.tim.edge + edgesS) } }

/-- The instance states in a task's bytes, with Ts_c for their next run. -/
def instsAt (tsC : Nat) : Nat → List Byte → NMap InstSt → NMap InstSt
  | 0, _, s => s
  | fuel + 1, b, s =>
    if b.length < 8 then s
    else
      let n := beAt b 6 2
      let st := (List.range n).map fun k => sx 64 (beAt b (8 + 8 * k) 8)
      instsAt tsC fuel (b.drop (8 + 8 * n)) (NMap.set InstSt.init s (beAt b 0 4) { st := st, q := beAt b 4 2, from' := some tsC })

/-- R453: a copy of task t's state is installed at its period start. -/
def parInstall (t : Nat) (m : Pnm) : Pnm :=
  match m.par.rx with
  | none => m
  | some r =>
    match r.waiting.find? fun x => decide (x.1 = t) with
    | none => m
    | some x =>
      let rx := { r with waiting := r.waiting.filter fun y => decide (y.1 ≠ t), done := r.done ++ [t] }
      let insts := instsAt x.2.1 x.2.2.length x.2.2 m.cye.insts
      resyncFinish { m with cye := { m.cye with insts := insts }, par := { m.par with rx := some rx } }

/-- TASK_PERIOD_START of task t: the period start of a program that a switch has not replaced. -/
def taskPeriodStart (t : Nat) (m : Pnm) : Pnm :=
  if beforeSwitch m t then
    if startsNow m t then taskStart t (parInstall t (beforeLatch (gridInstant (getTask m t).next) m)) else passStart t m
  else m

/-- TASK_RUN_COMPLETE of task t; old runs end at a switch. -/
def taskRunComplete (t : Nat) (m : Pnm) : Pnm :=
  if m.cye.carry.isSome then m
  else match (getTask m t).run with
    | some r => resyncTask t r.ts r.tsNs (taskComplete t m)
    | none => m

/-! ## Reception of pair frames (R432, R434 to R436) -/

/-- Counter i of PAR_HB_RX_BL to PAR_LATE_COMMIT. -/
def parCount (i : Nat) (m : Pnm) : Pnm := inc m (Reg.PAR_CNT + 4 * i)

/-- Check 1. -/
def pairFormatOk (f : PairFrame) : Bool :=
  decide (f.magic = 0x5A42 ∧ f.version = 1 ∧ f.bodyLen.toNat ≤ 1936 ∧ f.body.length = f.bodyLen.toNat ∧ 1 ≤ f.typ.toNat ∧
    f.typ.toNat ≤ 12 ∧ (f.typ = 1 → 48 ≤ f.body.length))

/-- Check 3. -/
def pairIcvOk (m : Pnm) (f : PairFrame) : Bool :=
  let s := rf m Reg.PAR_ID 24 16
  boundTo m s 3 && (usable m false (getSlot m s)).any fun p =>
    decide (Config.gmac p.key (pairIv f.senderPos f.path f.resetCnt.toNat f.frameSeq.toNat) f.covered = f.icv)

/-- Check 4, by the path on which the frame arrived. -/
def pairFresh (m : Pnm) (path : Bool) (f : PairFrame) : Bool :=
  match if path then m.par.lastPb else m.par.lastBl with
  | none => true
  | some (c, q) => decide (c < f.resetCnt.toNat ∨ (c = f.resetCnt.toNat ∧ q < f.frameSeq.toNat))

/-- A frame that fails check 2, 3 or 4. -/
def pairBad (check : Nat) (path : Bool) (m : Pnm) : Pnm :=
  let m1 := sb (parCount (check + 1) m) Reg.PAR_FLAGS 1
  let was := if path then m.par.badPb else m.par.badBl
  let m2 := raiseIf (!was) { src := 11, code := 0x7F, cls := 2, items := [check, b2n path] } m1
  { m2 with par :=
      { m2.par with
        badPb := m2.par.badPb || path, badBl := m2.par.badBl || !path,
        evidence := m2.par.evidence || decide (3 ≤ check),
        authSeen := if 3 ≤ check then m.tim.edge + pathEdges else m2.par.authSeen } }

/-- A valid frame is noted for checks 2 to 4. -/
def pairGood (path : Bool) (f : PairFrame) (m : Pnm) : Pnm :=
  let q := some (f.resetCnt.toNat, f.frameSeq.toNat)
  { m with par := if path then { m.par with lastPb := q, badPb := false } else { m.par with lastBl := q, badBl := false } }

/-- A whole message. -/
def pairMsg (path : Bool) (typ : Nat) (b : List Byte) (s : PM) : PM :=
  let m := s.1
  if typ = 2 then (mirrorReq path b m, s.2)
  else if typ = 3 then mirrorAcked b s
  else if typ = 4 then commitRx b s
  else if typ = 5 then (if adopts m then gatePeerFired (beAt b 0 2) m else m, s.2)
  else if typ = 6 then (if adopts m then pubAdopt b m else m, s.2)
  else if typ = 7 then
    if adopts m then
      let r := lfPropose (beAt b 0 8) (beAt b 8 8) (bytesAt b 16 48) m
      (pairSend false 8 (bytesAt b 0 16 ++ beBytes 1 r.2 ++ beBytes 7 0) r.1, s.2)
    else s
  else if typ = 8 then (lfReply (beAt b 0 8) (beAt b 8 8) (beAt b 16 1) m, s.2)
  else if typ = 9 then (resyncReq b m, s.2)
  else if typ = 10 then resyncRx b s
  else if typ = 11 then (resyncEnded b m, s.2)
  else if typ = 12 then (healthRx b m, s.2)
  else s

/-- R441: of a message that both paths carry, the first valid copy is taken. -/
def pairTake (path : Bool) (typ : Nat) (b : List Byte) (s : PM) : PM :=
  if typ = 4 ∨ typ = 5 ∨ typ = 6 ∨ typ = 12 then
    let c := s.1.par.copies
    let put := fun (l : List (Bool × Nat × List Byte)) => onM (fun m => { m with par := { m.par with copies := l } }) s
    if c.contains (!path, typ, b) then put (c.erase (!path, typ, b))
    else pairMsg path typ b (put ((c ++ [(path, typ, b)]).drop (c.length + 1 - 64)))
  else pairMsg path typ b s

/-- R434: a part of a message. -/
def pairPartRx (path : Bool) (f : PairFrame) (s : PM) : PM :=
  let m := s.1
  let mine := fun (x : Frags) => decide (x.path = path ∧ x.typ = f.typ.toNat)
  let rest := m.par.frags.filter fun x => !mine x
  let have' := m.par.frags.find? mine
  let put := fun (l : List Frags) (x : PM) => onM (fun y => { y with par := { y.par with frags := l } }) x
  let lose := fun (c : Bool) (x : PM) => if c then onM (parCount 2) x else x
  if f.fragIndex = 0 then
    if f.fragMore then
      let x : Frags := { path := path, typ := f.typ.toNat, next := 1, body := f.body, endsAt := m.tim.edge + 50 * edgesUs }
      lose have'.isSome (put (rest ++ [x]) s)
    else pairTake path f.typ.toNat f.body s
  else match have' with
    | some x =>
      if x.next = f.fragIndex.toNat then
        if f.fragMore then put (rest ++ [{ x with next := x.next + 1, body := x.body ++ f.body }]) s
        else pairTake path f.typ.toNat (x.body ++ f.body) (put rest s)
      else lose true (put rest s)
    | none => lose true s

/-- A received frame of class PAIR at a port, with its receive timestamp (R432). -/
def pairRx (p stamp : Nat) (f : PairFrame) (s : PM) : PM :=
  let path := decide (p ≠ 11)
  let m := s.1
  if !pairFormatOk f then (parCount 2 m, s.2)
  else if f.pairId.toNat ≠ rf m Reg.PAR_ID 15 0 then (pairBad 2 path m, s.2)
  else if !pairIcvOk m f then (pairBad 3 path m, s.2)
  else if !pairFresh m path f then (pairBad 4 path m, s.2)
  else
    let m1 := pairGood path f m
    if f.typ = 1 then (beatRx path stamp f m1, s.2) else pairPartRx path f (m1, s.2)

/-- FRAGMENT_TIMEOUT (R434). -/
def fragmentTimeout (m : Pnm) : Pnm :=
  let late := m.par.frags.filter fun x => decide (x.endsAt ≤ m.tim.edge)
  late.foldl (fun x _ => parCount 2 x)
    { m with par := { m.par with frags := m.par.frags.filter fun x => decide (m.tim.edge < x.endsAt) } }

end Sys2Proof.Machine
end

