-- ==== Sys2Proof/Machine/Glb.lean ====
section
/-! DEFINITION. GLB: start, boot selection, firmware path, resets, maintenance, power failure, backup domain, supply and
temperature (chapters 17 and 19). -/

namespace Sys2Proof.Machine

def putGlb (g : Glb) (m : Pnm) : Pnm := { m with glb := g }

/-- A refused GLB write: FIELD and CFG_REJECT. -/
def glbErr (field : Nat) (m : Pnm) : Pnm := sb (cfgErr m Reg.GLB_CFG_ERR field) Reg.GLB_FLAGS 0

/-- GLB answers: the module runs or is in the recovery state (R561). -/
def glbOn (m : Pnm) : Bool := decide (m.glb.phase = .run ∨ m.glb.phase = .recovery)

/-- A GLB event or register write. -/
def whenGlb (f : Pnm → Pnm) (m : Pnm) : Pnm := if glbOn m then f m else m

/-! ## Registers that are computed (GLB table 8) -/

/-- GLB_STRAP. -/
def strapWord (s : Straps) : Word :=
  loW (b2n s.pairPos + 2 * (s.slotId % 16) + 32 * b2n s.safetyIo + 64 * b2n s.timeSrc + 128 * b2n s.maint +
    256 * (s.genMax % 4) + 1024 * b2n s.bootSlot + 2048 * b2n s.debugLock + 4096 * b2n s.p89)

/-- GLB_STAT: ROLE follows the pair state (PAR table 6). -/
def glbStatWord (m : Pnm) : Word :=
  let role := if inMaint m then 3 else if pairState m = 2 then 1 else if standby m then 2 else 0
  setBits (setBits (rd m Reg.GLB_STAT) 5 4 role) 6 6 (b2n m.glb.pfEdge.isSome)

/-- The RTC count in 2^-15 s, 63 bits (R548): what it held, and the ticks of 32,768 Hz since then. -/
def rtcNow (m : Pnm) : Nat := (m.glb.rtc + (m.tim.edge - m.glb.rtcEdge) * 32768 / edgesS) % 2 ^ 63

/-- RTC_COMMIT: a write of GLB_RTC_HI (R548). -/
def rtcCommit (hi : Word) (m : Pnm) : Pnm :=
  let lo := stagedLo m Reg.GLB_RTC_LO
  let secs := bits lo 31 15 + 2 ^ 17 * bits hi 30 0
  putGlb { m.glb with rtc := secs * 32768, rtcEdge := m.tim.edge } m

/-- VALID0 and VALID1 of GLB_FW_STAT. -/
def fwValid (m : Pnm) : Pnm :=
  let ok := fun (i : Nat) => match m.glb.slots.getD i none with | some b => b.verifies | none => false
  wf (wf m Reg.GLB_FW_STAT 4 4 (b2n (ok 0))) Reg.GLB_FW_STAT 5 5 (b2n (ok 1))

/-! ## What a start keeps (R536, R368) -/

/-- Registers that a start keeps: backup domain, MRAM, and GLB_CFG across a module reset. -/
def kept (powerOn : Bool) (o : Nat) : Bool :=
  decide (o = Reg.GLB_TAMPER ∨ o = Reg.GLB_TAMPER_CFG ∨ (Reg.GLB_RETAIN ≤ o ∧ o < Reg.GLB_RETAIN + 32) ∨ o = Reg.GLB_BOOT ∨
    o = Reg.PAR_EPOCH) || (!powerOn && decide (o = Reg.GLB_CFG))

/-- A function's marks after a start: its pending set becomes re-acceptable (R368). -/
def fnKept (s : FnState) : FnState :=
  { FnState.init 0 with
    accSeq := s.accSeq, reaccept := s.reaccept ++ (s.pendSet.filter fun q => !s.reaccept.contains q), backlog := s.backlog }

/-- The journal after a start: MRAM and the operating time. -/
def jnlKept (powerOn : Bool) (edge : Nat) (j : Jnl) : Jnl :=
  { Jnl.init with
    birth := j.birth, birthPos := j.birthPos, birthFull := j.birthFull, birthCopies := j.birthCopies, ring := j.ring,
    ringPos := j.ringPos, nextRseq := j.nextRseq, prevSeal := j.prevSeal, lastTag := j.lastTag,
    opSec := if powerOn then j.opStored + 10 else j.opSec, opEdge := if powerOn then edge else j.opEdge,
    opStored := j.opStored, pcyc := if powerOn then j.pcyc + 1 else j.pcyc, unclean := j.unclean,
    flags := j.flags &&& 0x10#32 }

/-- CAP after a reset that is no power-on: captures that it ended show LAST_END 6 (R408, CAP table 6). -/
def capsEnded (c : CapSt) : CapSt :=
  { CapSt.init with
    caps := ((List.range 32).filter fun k =>
        let x := NMap.get Cap.init c.caps k
        decide (x.state ≠ 0 ∨ x.lastEnd = 6)).map fun k => (k, { Cap.init k with lastEnd := 6 }) }

/-- TIM after a reset: the edges count on, and the 1.1 s of R66 run from the reset (log entry 24). -/
def timRestart (edge : Nat) : Tim :=
  { Tim.init with edge := edge, irig := { Irig.init with ppsMissDue := some (edge + 1100 * edgesMs) } }

/-- Everything volatile takes its reset value (R536). -/
def volatileReset (powerOn : Bool) (m : Pnm) : Pnm :=
  let fns := m.hif.fns.map fun p => (p.1, fnKept p.2)
  let glb : Glb :=
    { Glb.init with
      phase := m.glb.phase, straps := m.glb.straps, slots := m.glb.slots, bootValid := m.glb.bootValid,
      coverOpen := m.glb.coverOpen, loopOpen := m.glb.loopOpen, loopReads := m.glb.loopReads, rtc := m.glb.rtc,
      rtcEdge := m.glb.rtcEdge, backupLost := m.glb.backupLost, vbatFitted := m.glb.vbatFitted }
  let key : Key :=
    { Key.init with
      helper := m.key.helper, lc := m.key.lc, ownerSeed := m.key.ownerSeed, store := m.key.store, genMax := m.key.genMax,
      erase := m.key.erase }
  { Pnm.init with
    regs := m.regs.filter (fun p => kept powerOn p.1), free := m.free, tim := timRestart m.tim.edge,
    glb := glb, key := key,
    tel := { Tel.init with jnl := jnlKept powerOn m.tim.edge m.tel.jnl, out := m.tel.out },
    hif := { Hif.init with fns := fns.filter (fun p => decide (p.2 ≠ FnState.init p.1)), epoch := m.hif.epoch + 1 },
    cap := if powerOn then CapSt.init else capsEnded m.cap }

/-! ## The start (R527 to R534, GLB table 2) -/

/-- The slot straps in force: their absent values without a chassis or with wrong parity (R528). -/
def strapsOf (i : StartIn) (s : Straps) : Straps :=
  if i.rear && i.parOk then
    { s with pairPos := i.pairPos, slotId := i.slotId.toNat, safetyIo := i.safetyIo, timeSrc := i.timeSrc, maint := i.maint }
  else { s with pairPos := false, slotId := 0, safetyIo := false, timeSrc := false, maint := true }

/-- MAC table 8: the factory address of a port. -/
def factoryPort (m : Pnm) (p : Nat) : Pnm :=
  let a := (Config.factoryAddr p).toNat
  wr (wr m (Reg.port Reg.MAC_PORT_ADDR_LO p) (loW a)) (Reg.port Reg.MAC_PORT_ADDR_HI p) (loW (a / 2 ^ 32))

/-- Registers whose reset value a strap sets (R527). -/
def strapRegs (m0 : Pnm) : Pnm :=
  let m := (List.range 12).foldl factoryPort m0
  let s := m.glb.straps
  let m1 := wf (wf (wf m Reg.PAR_STAT 3 3 (b2n s.pairPos)) Reg.PAR_STAT 7 4 s.slotId) Reg.SIO_CTRL 1 1 (b2n s.safetyIo)
  let m2 := if s.timeSrc then timSrcWrite 1#32 m1 else m1
  if s.p89 then wf (wf m2 (Reg.port Reg.MAC_PORT_CFG 8) 2 0 3) (Reg.port Reg.MAC_PORT_CFG 9) 2 0 3 else m2

/-- The boot stage of a slot verifies. -/
def slotOk (m : Pnm) (b : Bool) : Bool :=
  match m.glb.slots.getD (b2n b) none with | some x => x.verifies | none => false

/-- R532: slot, trial and fallback, or none where neither slot verifies; the boot word with TRY clear. -/
def bootSelect (m : Pnm) : Pnm × Option (Bool × Bool × Bool) :=
  let m0 := if m.glb.bootValid then m
    else wr (putGlb { m.glb with bootValid := true } m) Reg.GLB_BOOT (loW (b2n m.glb.straps.bootSlot + 600 * 65536))
  let slot := rb m0 Reg.GLB_BOOT 0
  let try' := rb m0 Reg.GLB_BOOT 1
  let m1 := cb m0 Reg.GLB_BOOT 1
  let target := if try' then !slot else slot
  if slotOk m1 target then (m1, some (target, try', false))
  else
    let m2 := sb m1 Reg.GLB_FLAGS 3
    if slotOk m2 (!target) then (m2, some (!target, false, true)) else (m2, none)

/-- R549: what set latches bring about at a start. -/
def tamperStart (m : Pnm) : Pnm :=
  let m0 := if m.glb.backupLost then sb (putGlb { m.glb with backupLost := false } m) Reg.GLB_TAMPER 2 else m
  let say := fun (i : Nat) (x : Pnm) => raiseIf (rb x Reg.GLB_TAMPER i) { src := 0, code := 0x24, cls := 1, items := [i] } x
  let m1 := say 1 (say 0 m0)
  if (rf m1 Reg.GLB_TAMPER 1 0) &&& (rf m1 Reg.GLB_TAMPER_CFG 1 0) ≠ 0 then keyErase m1 else m1

/-- The START record (JNL table 3). -/
def startRecord (cause : Nat) (slot : Bool) (m : Pnm) : Pnm :=
  let j := m.tel.jnl
  let un := j.unclean
  let m1 := journal 1 0x102 13
    (leBytes 1 (b2n un) ++ leBytes 1 (b2n slot) ++ leBytes 1 cause ++ leBytes 1 0 ++ leBytes 2 m.hif.epoch ++ leBytes 2 0) m
  modJnl (fun k => { k with unclean := false, flags := if un then setBit k.flags 4 true else k.flags }) m1

/-- t5 to t7 of GLB table 2: the module runs. -/
def bootDone (slot trial fallback : Bool) (m : Pnm) : Pnm :=
  let m1 := keyStart (tamperStart (lcDestructionDone m))
  let m2 := sb m1 Reg.SIO_STAT 2
  let due' := if trial then some (m.tim.edge + rf m Reg.GLB_BOOT 27 16 * edgesS) else none
  let m3 := putGlb { m2.glb with phase := .run, confirmDue := due' } m2
  let m4 := wr m3 Reg.GLB_STAT (loW (1 + 4 * b2n trial + 8 * b2n slot + 128 * (rf m3 Reg.GLB_STAT 7 7)))
  let m5 := if m4.glb.straps.maint then showPair 6 m4 else m4
  raise { src := 0, code := 0x23, cls := 1, items := [b2n slot, b2n trial, b2n fallback] } m5

/-- A start with its cause (GLB tables 2 and 6); capture memory has lost its content. -/
def start (cause : Nat) (powerOn : Bool) (i : StartIn) (s : PM) : PM :=
  let m0 := volatileReset powerOn s.1
  let bad := !(i.rear && i.parOk)
  let m1 := strapRegs (putGlb { m0.glb with straps := strapsOf i m0.glb.straps } m0)
  let m2 := wr (wf m1 Reg.GLB_STAT 7 7 (b2n i.rear)) Reg.GLB_RESET_INFO (loW cause)
  let m3 := if bad then sb m2 Reg.GLB_FLAGS 1 else m2
  let b := bootSelect m3
  match b.2 with
  | none => (fwValid (wf (putGlb { b.1.glb with phase := .recovery } b.1) Reg.GLB_STAT 1 1 1), [])
  | some (slot, trial, fallback) =>
    let images := match b.1.glb.slots.getD (b2n slot) none with | some x => x.images | none => []
    let m4 := fwValid (keyMeasure i.pufOk images b.1)
    let m5 := startRecord cause slot m4
    let m6 := raiseIf bad { src := 0, code := 0x22, cls := 2, items := [1] } m5
    let m7 := if i.ocxoOk then m6 else ocxoFault m6
    (bootDone slot trial fallback m7, [])

/-- POWER_ON: 12 V has risen at an unpowered module (R531). -/
def powerOn (i : StartIn) (s : PM) : PM :=
  if s.1.glb.phase = .off then
    let g := s.1.glb
    let rtc := if g.backupLost then 0 else g.rtc + i.rtcTicks
    start 1 true i (putGlb { g with rtc := rtc } s.1, s.2)
  else s

/-! ## Straps and boot words (R529, R532) -/

/-- STRAP_POLL: the slot straps as re-read (R529). -/
def strapPoll (pairPos safetyIo timeSrc maint : Bool) (slotId : Nat) (m : Pnm) : Pnm :=
  let s := m.glb.straps
  let now : Straps := { s with pairPos := pairPos, slotId := slotId, safetyIo := safetyIo, timeSrc := timeSrc, maint := maint }
  if now = s ∨ m.glb.strapSeen then m
  else raise { src := 0, code := 0x22, cls := 2, items := [2] }
    (sb (putGlb { m.glb with strapSeen := true } m) Reg.GLB_FLAGS 2)

/-- A write of GLB_BOOT: a CONFIRM_S out of range is ignored and named (GLB table 8). -/
def bootWrite (data : Word) (m : Pnm) : Pnm :=
  let m1 := putGlb { m.glb with bootValid := true } (wf m Reg.GLB_BOOT 1 0 (bits data 1 0))
  let c := bits data 27 16
  if 10 ≤ c ∧ c ≤ 3600 then wf m1 Reg.GLB_BOOT 27 16 c else glbErr 9 m1

/-- BOOT_CONFIRM: a write of GLB_BOOT_CTRL (R532). -/
def bootConfirm (data : Word) (m : Pnm) : Pnm :=
  if bit data 0 && m.glb.confirmDue.isSome then
    let m1 := wf m Reg.GLB_BOOT 0 0 (rf m Reg.GLB_STAT 3 3)
    cb (putGlb { m1.glb with confirmDue := none } m1) Reg.GLB_STAT 2
  else m

/-! ## Resets (R537 to R539) -/

/-- A request for a module reset with its cause, 0 for a shutdown (R538, R539, R545). -/
def requestReset (cause : Nat) (m : Pnm) : Pnm :=
  if !glbOn m then m
  else if m.glb.pfEdge.isSome then putGlb { m.glb with resetWait := m.glb.resetWait ++ [cause] } m
  else if m.glb.resetReq.isSome then m
  else sioApply (putGlb { m.glb with resetReq := some cause, resetShut := decide (cause = 0) } m)

/-- R369: every completion that is due is written to its ring, or kept in MRAM. -/
def secure (m : Pnm) : Pnm :=
  let keep := fun (x : Pnm) (c : Cpl) =>
    if c.bulk then x else modFn c.ref.fn (fun s => { s with backlog := (s.backlog ++ [c]).take 64 }) x
  m.hif.cplDue.foldl (if m.hif.linkUp then cplWrite else keep) { m with hif := { m.hif with cplDue := [] } }

/-- R500, R538: the whole buffer is flushed. -/
def flushAll (m : Pnm) : Pnm :=
  let m1 := modJnl (fun j => { j with buf := j.buf ++ j.held, held := [], flushing := none }) m
  if m1.tel.jnl.buf = [] then m1 else flushWith m1.tel.jnl.buf.length m1

/-- MODULE_RESET_EFFECT (R538, R545). -/
def resetEffect (i : StartIn) (s : PM) : PM :=
  match s.1.glb.resetReq with
  | none => s
  | some c =>
    let m := flushAll (secure s.1)
    if m.glb.resetShut then
      let m1 := volatileReset false m
      (putGlb { m1.glb with phase := .shut } { m1 with hif := { m1.hif with epoch := m.hif.epoch } }, [])
    else start c false i (m, s.2)

/-- RESET_MODULE_WRITE: a write of GLB_RESET (R538, R539). -/
def resetWrite (data : Word) (m : Pnm) : Pnm :=
  if bit data 0 then (if bits data 31 16 = 0x5253 then requestReset 3 m else glbErr 1 m) else m

/-- SHUTDOWN: a write of GLB_PWR (R545). -/
def shutdownWrite (data : Word) (m : Pnm) : Pnm :=
  if bit data 0 then (if bits data 31 16 = 0x5344 then requestReset 0 m else glbErr 2 m) else m

/-- TRIAL_CONFIRM_TIMEOUT (R532). -/
def trialTimeout (m : Pnm) : Pnm := if due m.glb.confirmDue m.tim.edge then requestReset 5 m else m

/-- FW_WATCHDOG and MEMORY_UE (GLB table 6). -/
def fwWatchdog (m : Pnm) : Pnm := requestReset 4 m
def memoryUe (m : Pnm) : Pnm := requestReset 6 m

/-- The PF's function registers are cleared as R367 clears a VF's, and its backlog is kept (R537). -/
def pfLinkReset (m : Pnm) : Pnm :=
  let m1 := pubOwnerGone 0 (wordsOwnerGone 0 (stopRings 0 m))
  let m2 := modFn 0 (fun s =>
    { FnState.init 0 with accSeq := s.accSeq, pendSet := s.pendSet, reaccept := s.reaccept, reportDue := s.reportDue,
                          outstanding := s.outstanding, backlog := s.backlog }) m1
  putEvt 0 { getEvt m2 0 with pend := [], prod := 0, cons := 0 } (clearFnRegs 0 m2)

/-- A link reset (R537): the PCIe core and HIF only. -/
def linkReset (s : PM) : PM :=
  onM (fun m =>
    let m1 := pfLinkReset m
    { m1 with hif := { m1.hif with linkUp := false, gen := 0, width := 0, tag10 := false, dbWait := [], kickWait := [] } })
    (vfEnableClear s)

/-- HOST_RESET: PERST#, a hot reset or a link-down (R537); it starts a module that a shutdown holds in reset (R545), and does
nothing to one that is unpowered or held for the supply. -/
def hostReset (i : StartIn) (s : PM) : PM :=
  let m := s.1
  if m.glb.phase = .shut then start 8 false i s
  else if m.glb.phase = .run ∧ rb m Reg.GLB_CFG 0 ∧ m.glb.resetReq = none then linkReset s
  else (requestReset 2 m, s.2)

/-! ## Maintenance (R540, R541) -/

/-- MAINT_REQ: a write of GLB_MAINT with REQ. -/
def maintReq (data : Word) (m : Pnm) : Pnm :=
  if bit data 0 = false then m
  else if bits data 31 16 ≠ 0x4D54 then glbErr 2 m
  else putGlb { m.glb with maintReq := some (true, m.tim.edge) } m

/-- MAINT_LEAVE: a write of GLB_MAINT with LEAVE. -/
def maintLeave (data : Word) (m : Pnm) : Pnm :=
  if bit data 1 = false then m
  else if bits data 31 16 ≠ 0x4D54 then glbErr 2 m
  else if m.glb.straps.maint then glbErr 3 m
  else putGlb { m.glb with maintReq := some (false, m.tim.edge) } m

/-- R540, R541: a request of at least 2 µs ago takes effect at an acceptance instant. -/
def maintApply (m : Pnm) : Pnm :=
  match m.glb.maintReq with
  | none => m
  | some (enter, e) =>
    if m.tim.edge < e + 2 * edgesUs then m
    else
      let m1 := putGlb { m.glb with maintReq := none } m
      if enter = inMaint m then m1
      else
        let ev : Ev := { src := 0, code := 0x26, cls := 1, items := [b2n enter] }
        if enter then cyeStop (setPair 6 (raise ev m1))
        else cyeStop (pubsFresh (setPair (b2n (rb m Reg.PAR_CTRL 0)) (raise ev m1)))

/-! ## Firmware path (R535) -/

/-- FW_GO: a write of GLB_FW_CTRL; SLOT is stored, GO starts the write or is refused. -/
def fwGo (data : Word) (m0 : Pnm) : Pnm :=
  let m := wf m0 Reg.GLB_FW_CTRL 4 4 (bits data 4 4)
  let slot := bit data 4
  let len := (rd m Reg.GLB_FW_LEN).toNat
  if bit data 0 = false then m
  else if m.glb.phase ≠ .recovery ∧ slot = rb m Reg.GLB_STAT 3 then glbErr 4 m
  else if rb m Reg.GLB_STAT 2 then glbErr 5 m
  else if rf m Reg.KEY_MIG_STAT 1 0 ≠ 0 then glbErr 6 m
  else if m.glb.fwWrite.isSome then glbErr 7 m
  else if len = 0 then glbErr 8 m
  else
    let slots := setAt m.glb.slots (b2n slot) none
    arbAdd 257 len (fwValid (sb (putGlb { m.glb with fwWrite := some (slot, rd64 m Reg.GLB_FW_ADDR_LO, len), slots := slots } m)
      Reg.GLB_FW_STAT 0))

/-- GLB table 4: RESULT of a bundle that was read. -/
def bundleResult (l : List Byte) (len : Nat) (flashOk : Bool) : Nat :=
  let n := l.length
  let off := fun (i : Nat) => leAt l (0x10 + 8 * i) 4
  let ln := fun (i : Nat) => leAt l (0x14 + 8 * i) 4
  let stop' := n - 116
  if leAt l 8 4 ≠ len ∨ n ≠ len then 2
  else if n < 4 ∨ crc32c (l.take (n - 4)) ≠ leAt l (n - 4) 4 then 3
  else if !Config.ecdsaVerify Config.bootKey (l.take stop') (bytesAt l (stop' + 8) 96) ∨ !(bytesAt l (n - 12) 8).all (· = 0) then 4
  else if leAt l 0 4 ≠ 0x46575A4D ∨ leAt l 4 2 ≠ 1 ∨ leAt l 6 2 ≠ 64 ∨ 64 * 2 ^ 20 < len ∨ !(bytesAt l 0x28 24).all (· = 0) ∨
      (List.range 3).any (fun i => decide (ln i = 0 ∨ off i < 64 ∨ off i % 64 ≠ 0 ∨ stop' < off i + ln i)) then 5
  else if !flashOk then 6
  else 1

/-- FW_WRITE_DONE: the bundle has been read, checked and, where every check passes, written; `flashOk` is the outcome of write
and read-back. -/
def fwWriteDone (bundle : List Byte) (flashOk : Bool) (m : Pnm) : Pnm :=
  match m.glb.fwWrite with
  | none => m
  | some (slot, _, len) =>
    if (getArb m 257).pending ≠ 0 ∨ flying m 257 ≠ 0 then m
    else
      let r := bundleResult bundle len flashOk
      let img := fun (i : Nat) => (bundle.drop (leAt bundle (0x10 + 8 * i) 4)).take (leAt bundle (0x14 + 8 * i) 4)
      let b : Option Bundle :=
        if r = 1 then some { version := leAt bundle 0xC 4, images := (List.range 3).map img, verifies := true } else none
      let m1 := putGlb { m.glb with fwWrite := none, slots := setAt m.glb.slots (b2n slot) b } m
      raise { src := 0, code := 0x27, cls := 2, items := [b2n slot, r] }
        (fwValid (wf (cb m1 Reg.GLB_FW_STAT 0) Reg.GLB_FW_STAT 3 1 r))

/-! ## Power failure (R542 to R545) -/

/-- A firmware write in progress leaves its slot invalid (R535). -/
def fwAbandon (m : Pnm) : Pnm := cb (putGlb { m.glb with fwWrite := none } m) Reg.GLB_FW_STAT 0

/-- Fetched commands that have not been accepted are discarded (R542). -/
def dropFetched (m : Pnm) : Pnm :=
  let drop := fun (x : FnState) =>
    { x with outstanding := x.outstanding - x.cmds.length - x.inFetch, cmds := [], inFetch := 0, kick := false }
  let m1 := (m.hif.fns.map (·.1)).foldl (fun y f => modFn f drop y) m
  { m1 with hif := { m1.hif with dbWait := [], kickWait := [] } }

/-- POWER_FAIL_WARNING (R501, R542, R543). -/
def pfWarning (m : Pnm) : Pnm :=
  if m.glb.pfEdge.isSome then m
  else
    let m1 := raise { src := 0, code := 0x20, cls := 1, items := [] }
      (fwAbandon (dropFetched (putGlb { m.glb with pfEdge := some m.tim.edge } m)))
    let n := recBytes m1.tel.jnl.buf + recBytes m1.tel.jnl.held
    let m2 := modJnl (fun j =>
      { j with buf := j.buf ++ j.held ++ [ownRec m1 1 0x103 (leBytes 4 n ++ leBytes 4 0)], held := [], flushing := none }) m1
    modJnl (fun j => { j with pfSealed := true }) (flushWith m2.tel.jnl.buf.length m2)

/-- The first reset request that waited for the power-fail sequence (R539). -/
def resetsResume (m : Pnm) : Pnm :=
  match m.glb.resetWait with
  | c :: _ => requestReset c (putGlb { m.glb with resetWait := [] } m)
  | [] => m

/-- RIDE_THROUGH (R544): before the warning plus 19 ms. -/
def rideThrough (m : Pnm) : Pnm :=
  match m.glb.pfEdge with
  | none => m
  | some e =>
    if m.tim.edge < e + 19 * edgesMs then
      let n := m.tel.jnl.unjournaled
      let m1 := modJnl (fun j => { j with pfSealed := false, unjournaled := 0 }) (putGlb { m.glb with pfEdge := none } m)
      resetsResume (raise { src := 0, code := 0x21, cls := 1, items := [n] } (sb m1 Reg.GLB_FLAGS 4))
    else m

/-- HOLDUP_END: the warning plus 19 ms (R544). -/
def holdupEnd (s : PM) : PM :=
  match s.1.glb.pfEdge with
  | none => s
  | some e =>
    if glbOn s.1 && decide (e + 19 * edgesMs ≤ s.1.tim.edge) then
      let m := secure s.1
      let m1 := sioApply (putGlb { m.glb with phase := .held } m)
      let m2 := volatileReset false m1
      ({ m2 with hif := { m2.hif with epoch := m.hif.epoch } }, [])
    else s

/-- SUPPLY_RETURN (R544). -/
def supplyReturn (i : StartIn) (s : PM) : PM := if s.1.glb.phase = .held then start 7 false i s else s

/-- POWER_REMOVED: the supply goes without hold-up having ended, after a shutdown, or from a held module; a loss without the
warning is noted (R501, R536). -/
def powerRemoved (s : PM) : PM :=
  let m := s.1
  if m.glb.phase = .off then s
  else
    let j := m.tel.jnl
    let dirty := glbOn m && !j.pfSealed
    let m0 := sioApply (putGlb { m.glb with phase := .off } m)
    let m1 := volatileReset true { m0 with tel := { m0.tel with jnl := { j with unclean := j.unclean || dirty } } }
    let rtc := rtcNow m
    let j1 := { m1.tel.jnl with opSec := j.opStored, pcyc := j.pcyc }
    (putGlb { m1.glb with rtc := rtc, rtcEdge := m.tim.edge }
      { m1 with hif := { m1.hif with epoch := m.hif.epoch }, tel := { m1.tel with jnl := j1 } }, [])

/-- BACKUP_SUPPLY_LOST: the backup domain of an unpowered module loses its supply (R547). -/
def backupLost (m : Pnm) : Pnm :=
  if m.glb.phase = .off then
    let m1 := (List.range 8).foldl (fun x i => wr x (Reg.GLB_RETAIN + 4 * i) 0) (wr m Reg.GLB_TAMPER 0)
    putGlb { m1.glb with rtc := 0, rtcEdge := m.tim.edge, backupLost := true } m1
  else m

/-! ## Tamper inputs, VBAT, supply, temperature (R547, R549, R565, R573, R575) -/

/-- TAMPER_COVER_OPEN: the cover switch opens, or closes again; the COVER latch sets on opening, powered or not. -/
def coverSwitch (opens : Bool) (m : Pnm) : Pnm :=
  let m1 := putGlb { m.glb with coverOpen := opens } m
  if opens then sb m1 Reg.GLB_TAMPER 0 else m1

/-- TAMPER_LOOP_SENSE: a reading of the tamper loop; two open ones in a row set the LOOP latch. -/
def loopSense (opens : Bool) (m : Pnm) : Pnm :=
  let n := if opens then min 2 (m.glb.loopReads + 1) else 0
  let m1 := putGlb { m.glb with loopOpen := opens, loopReads := n } m
  if n = 2 then sb m1 Reg.GLB_TAMPER 1 else m1

/-- A write of GLB_TAMPER: a latch clears only while its input is inactive (R549). -/
def tamperWrite (data : Word) (m : Pnm) : Pnm :=
  let clr := fun (i : Nat) (active : Bool) (x : Pnm) => if bit data i && !active then cb x Reg.GLB_TAMPER i else x
  clr 2 false (clr 1 m.glb.loopOpen (clr 0 m.glb.coverOpen m))

/-- VBAT_LOW: a fitted VBAT measures `mv` (R547); none is fitted at 0. -/
def vbat (mv : Nat) (m : Pnm) : Pnm :=
  let low := decide (0 < mv ∧ mv < 2500)
  let was := rb m Reg.GLB_BKP_STAT 26
  let m1 := wf (wf (putGlb { m.glb with vbatFitted := decide (0 < mv) } m) Reg.GLB_BKP_STAT 25 14 mv) Reg.GLB_BKP_STAT 26 26 (b2n low)
  raiseIf (low && !was) { src := 0, code := 0x25, cls := 2, items := [mv] } m1

/-- The GLB node's reason for a supply or temperature event. -/
def glbCause (code : Nat) (on : Bool) (m : Pnm) : Pnm := nodeCause 16 (128 + code) (b2n on) m

/-- SUPPLY_OVERVOLTAGE: a 12 V input has been above 13.5 V for 1 ms, or is below 13.2 V again (R565). -/
def overVoltage (aux above : Bool) (m : Pnm) : Pnm :=
  let was := if aux then m.glb.ovAux else m.glb.ovCard
  if was = above then m
  else
    let g := if aux then { m.glb with ovAux := above } else { m.glb with ovCard := above }
    glbCause 0x2A (g.ovAux || g.ovCard) (raise { src := 0, code := 0x2A, cls := 2, items := [b2n above] } (putGlb g m))

/-- R575: the hottest sensor at a plane tick, in degrees Celsius. -/
def thermal (t : Int) (m : Pnm) : Pnm :=
  let say := fun (p : Nat) (x : Pnm) => raise { src := 0, code := 0x28, cls := 2, items := [p] } (putGlb { x.glb with hot := decide (p = 1) } x)
  let m1 := if 105 ≤ t ∧ m.glb.hot = false then glbCause 0x28 true (say 1 m)
    else if t < 100 ∧ m.glb.hot then glbCause 0x28 false (say 0 m) else m
  if 125 ≤ t ∧ m.glb.resetReq = none then requestReset 0 (raise { src := 0, code := 0x29, cls := 1, items := [] } m1) else m1

end Sys2Proof.Machine
end

