-- ==== Sys2Proof/Machine/Plane.lean ====
section
/-! DEFINITION. What comes together at one instant: the plane tick, the plane's close, the acceptance instant, one
counter-clock edge without a command, and whole frames received and started (R20, R21, R77, R83, R349). -/

namespace Sys2Proof.Machine

/-- Apply one of two changes. -/
def eitherOf (c : Bool) (f g : Pnm → Pnm) (m : Pnm) : Pnm := if c then f m else g m

/-! ## The plane tick (R20) -/

/-- The next plane tick has come. -/
def tickDue (m : Pnm) : Bool := alive m && m.tim.grid && decide (gridInstant m.svi.nextTick ≤ nowU m)

/-- R105, R146, R303, R355: staged entries commit at a plane tick. -/
def commitStaged (m : Pnm) : Pnm := outCommitAll (fpeCommitAll (subCommitAll (loadCommit m)))

/-- The plane ticks from `k` to before `T` whose re-predictions are still to begin, with their instants C(k). -/
def ticksOpen (k T : Nat) (m : Pnm) : List (Nat × Nat) :=
  (List.range ((T - k) / planeTicks m)).map fun j => (k + j * planeTicks m, closeAt m (k + j * planeTicks m))

/-- R115, R182: a requested stop takes effect at plane tick T. The planes still open do not close; their re-predictions
begin at C(k) as before. -/
def stopAt (T : Nat) (m : Pnm) : Pnm :=
  if m.svi.stopReq then
    let m1 := sviStopEffect m
    { m1 with svi := { m1.svi with passes := m.svi.passes ++ ticksOpen m.svi.nextClose T m } }
  else m

/-- R115: SVI stopped at plane tick T; a run requested meanwhile starts with the plane tick after it. -/
def startAnew (again : Bool) (T : Nat) (m : Pnm) : Pnm := onlyIf again (sviStart (T + planeTicks m)) m

/-- The degradations in force at plane tick T (R37, R125). -/
def noteDegrade (T : Nat) (m : Pnm) : Pnm :=
  { m with svi := { m.svi with degr := ((T, degradeNow m) :: m.svi.degr).take 32 },
           ladder := { m.ladder with inForce := degradeNow m } }

/-- R116, R182: with SVI stopped, references are LOST, and a re-prediction will begin at C(k). -/
def stoppedTick (T : Nat) (m : Pnm) : Pnm :=
  if m.svi.running then m
  else
    let m1 := onlyIf (phasorTick m T) (refsLost T) m
    { m1 with svi := { m1.svi with passes := m1.svi.passes ++ [(T, closeAt m T)] } }

/-- PLANE_TICK, with the hottest die sensor's reading in degrees Celsius. -/
def planeTick (die : Int) (m : Pnm) : Pnm :=
  if tickDue m then
    let T := m.svi.nextTick
    let m0 := commitStaged m
    let m1 := glideTick T (stopAt T m0)
    let m2 := startAnew (m0.svi.stopReq && m0.svi.restart) T (stoppedTick T (noteDegrade T (step6 (measureLoad m1))))
    let m3 := onlyIf (decide (T % ticksPerSec = 0)) coreSecond (doorbellPoll T m2)
    let m4 := { m3 with svi := { m3.svi with nextTick := T + planeTicks m3 } }
    thermal die m4
  else m

/-! ## The close of a plane (R21) -/

/-- PLANE_CLOSE: the earliest pending re-prediction of a stopped SVI, else the plane whose close instant has come; `bad` is the mask of phasor lanes whose check vector differs. -/
def planeClose (bad : Nat) (s : PM) : PM :=
  let m := s.1
  match m.svi.passes.find? fun p => alive m && decide (p.2 ≤ nowU m) with
  | some p => (gatePass p.1 p.2 { m with svi := { m.svi with passes := m.svi.passes.erase p } }, s.2)
  | none =>
  if alive m && m.svi.running && decide (closeAt m m.svi.nextClose ≤ nowU m) then
    let T := m.svi.nextClose
    let c := closeAt m T
    let m1 := deliver T (fpeClose T bad (sviClose T m))
    captureRows m T (gatePass T c m1, s.2)
  else s

/-! ## The acceptance instant (R349) -/

/-- ACCEPTANCE_INSTANT. -/
def acceptance (s : PM) : PM :=
  match s.1.hif.accAt with
  | none => s
  | some a =>
    if alive s.1 && decide (a ≤ nowU s.1) then
      let m0 := leasesEnd { s.1 with hif := { s.1.hif with accAt := none } }
      let s1 := onM sharesApply (servicesApply (m0, s.2))
      let s2 := acceptAll a s1
      onM (fun m => afterAccept (uNs a) (resyncSnapshot a (maintApply m))) s2
    else s

/-! ## Without a command (log entry 2) -/

/-- R43, R516: one edge of the counter clock; at a new module-time second with PPS_EN the snapshot is taken, and the alarm
publication that state changes have made due is sent (R507). -/
def idleEdge (m : Pnm) : Pnm :=
  if m.glb.phase = .off then m
  else
    let m1 := timEdge m
    let sec := m1.tim.running && decide (nowNs m / 1000000000 ≠ nowNs m1 / 1000000000) && rb m1 Reg.DIA_SNAP_CFG 2
    let m2 := snapIf sec 4 m1
    onlyIf m2.tel.jnl.almDue pubAlarm m2

/-! ## Frames (R77, R83) -/

/-- The arrival instant of a frame at a port: its receive timestamp of module time (R62), in exact units. -/
def arrival (m : Pnm) (p len : Nat) : Nat := 9 * rxStamp m p 0 len

/-- A GOOSE frame reaches the subscriber, and the safety demands of its subscription (R294, R326). -/
def gooseIn (p : Nat) (route : Bool) (f : Frame) (g : GooseFrame) (m : Pnm) : Pnm :=
  let r := gooseRx p route f g (arrival m p f.len) m
  match r.2 with
  | some i => gooseDemand i r.1
  | none => r.1

/-- A classified frame goes to its block (MAC table 2). -/
def handOn (p : Nat) (beyond : Bool) (f : Frame) (c st : Nat) (s : PM) : PM :=
  let m := s.1
  if c = 0 then (otherRx p f st m, s.2)
  else match f.body with
    | .sv g => ((if beyond then matchDrop 1 m else svRx p f g (arrival m p f.len : Nat) m), s.2)
    | .goose g => (gooseIn p false f g m, s.2)
    | .rgoose g => (gooseIn p true f g m, s.2)
    | .ptp u g => (ptpRx p u g f st m, s.2)
    | .sup => (supRx p f.src m, s.2)
    | .pair g => pairRx p (rxStamp m p 0 f.len) g s
    | _ => s

/-- FRAME_RX: a whole frame at port p. -/
def frameRx (p : Nat) (beyond : Bool) (f : Frame) (s : PM) : PM :=
  if alive s.1 && decide (p < 12) && linkUp s.1 p then
    let r := macRx p f s.1
    match r.cls with
    | some c => handOn p beyond f c r.status (r.m, s.2)
    | none => (r.m, s.2)
  else s

/-- FRAME_TX_START: the next frame of port p starts on the wire; a bulk frame takes its transmit timestamp. -/
def frameTxStart (p : Nat) (m : Pnm) : Pnm :=
  if alive m && decide (p < 12) && linkUp m p then
    let r := frameStart p m
    match r.2 with
    | some (tag, _, ts) => txStamped tag ts r.1
    | none => r.1
  else m

end Sys2Proof.Machine
end

