-- ==== Sys2Proof/Machine/Access.lean ====
section
/-! DEFINITION. Register access by the host: what each offset reads as, what a write of each offset does, multi-word values,
widths, and the BARs of every function (R552 to R562, R10, R361, R511). -/

namespace Sys2Proof.Machine

/-! ## Multi-word values (R556 to R558) -/

/-- The higher words of the read-only multi-word value whose _LO word lies at `o` (R557). -/
def higherWords (o : Nat) : List Nat :=
  if o = Reg.TIM_IRIG_TS_LO ∨ o = Reg.TIM_PPS_IN_TS_LO then [o + 4, o + 8]
  else if o = Reg.TIM_IRIG_SEC_LO ∨ o = Reg.CYE_PROG_ID_LO ∨ o = Reg.CYE_LF_TB_LO ∨ o = Reg.CYE_LF_NEW_ID_LO ∨
      o = Reg.PAR_PEER_REPORT_NS_LO ∨ o = Reg.PAR_TIME_DIFF_LO ∨ o = Reg.PAR_LAST_TAKEOVER_NS_LO ∨ o = Reg.JNL_OPSEC_LO ∨
      o = Reg.JNL_NEXT_RSEQ_LO ∨ o = Reg.JNL_OLDEST_RSEQ_LO ∨ o = Reg.JNL_BIRTH_LAST_RSEQ_LO then [o + 4]
  else if 0x00020000 ≤ o ∧ o < 0x0002C000 ∧ (o % 0x1000 = 0x500 ∨ o % 0x1000 = 0x508) then [o + 4]
  else []

/-- The word at `o` is a higher word of a read-only multi-word value. -/
def isHigher (o : Nat) : Bool := (higherWords (o - 4)).contains o || (higherWords (o - 8)).contains o

/-- A write of _HI: the staged _LO and this word apply as one value (R558). -/
def pairCommit (lo hi : Nat) (hiMask data : Word) (m : Pnm) : Pnm := wr (wr m lo (stagedLo m lo)) hi (data &&& hiMask)

/-! ## What a word reads as -/

/-- A 64-bit value shown at `lo` and `lo + 4`. -/
def half (v : Nat) (lo o : Nat) : Word := if o = lo then loW v else hiW v

/-- The function registers of f at offset x of their page (HIF table 16). -/
def fnWord (m : Pnm) (f x : Nat) : Word :=
  let s := getFn m f
  if x = 4 then loW (b2n (fnOn m f) + 2 * s.errRing.getD 0 + 16 * b2n s.flrBusy + 65536 * s.backlog.length)
  else if x = 0x20 then s.accSeq
  else if x = 0x24 then loW (s.pendSet.length + 65536 * s.reaccept.length)
  else if x = 0x28 then loW m.hif.epoch
  else if x = 0x34 then (getEvt m f).drop
  else if 0x40 ≤ x ∧ x < 0xA0 ∧ x % 16 = 12 then loW (modIdx m f ((x - 0x40) / 16))
  else rd m (Reg.fn f x)

/-- Word x of the page of scan channel c. -/
def chWord (m : Pnm) (c x : Nat) : Word :=
  if x = 0x18 then loW (scanResult m c) else if x = 0x28 then scanDoneWord m c else rd m (Reg.ch c x)

/-- GLB (GLB table 8). -/
def glbWord (m : Pnm) (o : Nat) : Word :=
  if o = Reg.GLB_ID then loW (0x10000 + subsystemId)
  else if o = Reg.GLB_STAT then glbStatWord m
  else if o = Reg.GLB_STRAP then strapWord m.glb.straps
  else if o = Reg.GLB_RTC_LO ∨ o = Reg.GLB_RTC_HI then half (rtcNow m) Reg.GLB_RTC_LO o
  else rd m o

/-- TIM (TIM table 5). -/
def timWord (m : Pnm) (o : Nat) : Word :=
  if o = Reg.TIM_STAT then timStatWord m
  else if Reg.TIM_SNAP_A_LO ≤ o ∧ o ≤ Reg.TIM_SNAP_D_HI then wrd m.tel.dia.timSnap ((o - Reg.TIM_SNAP_A_LO) / 4)
  else if o = Reg.TIM_HOLD_S then timHoldWord m
  else if o = Reg.TIM_GRID_SEC then (timGridWords m).1
  else if o = Reg.TIM_GRID_N then (timGridWords m).2
  else if o = Reg.TIM_DOM_STAT then timDomStatWord m
  else if o = Reg.TIM_IRIG_STAT then timIrigStatWord m
  else rd m o

/-- MAC (MAC table 8). -/
def macWord (m : Pnm) (o : Nat) : Word :=
  if o = Reg.MAC_NODE_STAT then nodeStatWord m
  else if o < 0x0002C000 ∧ o % 0x1000 = 8 then portStatWord m ((o - 0x00020000) / 0x1000)
  else rd m o

/-- CYE and its Leapfrog page (CYE table 9, LFG table 11). -/
def cyeWord (m : Pnm) (o : Nat) : Word :=
  if o = Reg.CYE_STAT then cyeStatWord m
  else if o = Reg.CYE_PROG then cyeProgWord m
  else if o = Reg.CYE_PROG_ID_LO ∨ o = Reg.CYE_PROG_ID_HI then half (cyeProgId m) Reg.CYE_PROG_ID_LO o
  else if o = Reg.CYE_LF_STAT then lfStatWord m
  else if o = Reg.CYE_LF_NEW_ID_LO ∨ o = Reg.CYE_LF_NEW_ID_HI then half (lfNewId m) Reg.CYE_LF_NEW_ID_LO o
  else if Reg.CYE_CORE ≤ o ∧ o < Reg.CYE_CORE + 64 then coreWord m ((o - Reg.CYE_CORE) / 4)
  else rd m o

/-- SIO (SIO table 8). -/
def sioWord (m : Pnm) (o : Nat) : Word :=
  if o = Reg.SIO_STAT then sioStatWord m
  else if o = Reg.SIO_IN_STATE then sioInWord m
  else if o = Reg.SIO_TOUT_STATE then sioToutWord m
  else if o = Reg.SIO_PAIR_STATE then sioPairWord m
  else rd m o

/-- HIF, shares and arbiter (HIF table 16, VFS table 8). -/
def hifWord (m : Pnm) (o : Nat) : Word :=
  if o = Reg.HIF_STAT then hifStatWord m
  else if o = Reg.HIF_BUDGET then budgetWord m
  else if o = Reg.HIF_NEED then needWord m
  else if o = Reg.HIF_EPOCH then loW m.hif.epoch
  else if o = Reg.HIF_OUTSTANDING then loW (outstandingAll m)
  else if Reg.HIF_FN ≤ o ∧ o < Reg.HIF_FN + 0xA0 then fnWord m 0 (o - Reg.HIF_FN)
  else if o = Reg.HIF_VF_STAT then vfStatWord m
  else if o = Reg.HIF_POOL_A ∨ o = Reg.HIF_POOL_B ∨ o = Reg.HIF_POOL_C then poolWord m ((o - Reg.HIF_POOL_A) / 4)
  else if Reg.HIF_SHR_CTRL ≤ o ∧ o < Reg.HIF_SHR_CTRL + 16 * 257 ∧ o % 16 = 0 then
    shrCtrlWord m ((o - Reg.HIF_SHR_CTRL) / 16)
  else if Reg.HIF_USE_A ≤ o ∧ o < Reg.HIF_USE_A + 8 * 257 then
    useWord m ((o - Reg.HIF_USE_A) / 8) ((o - Reg.HIF_USE_A) / 4 % 2)
  else if Reg.HIF_ARB_CFG ≤ o ∧ o < Reg.HIF_ARB_CFG + 8 * 267 ∧ o % 8 = 4 then arbStatWord m ((o - Reg.HIF_ARB_CFG) / 8)
  else rd m o

/-- JNL (CRC table 3). -/
def jnlWord (m : Pnm) (o : Nat) : Word :=
  let j := m.tel.jnl
  if o = Reg.JNL_STAT then jnlStatWord m
  else if o = Reg.JNL_FLAGS then j.flags
  else if o = Reg.JNL_PCYC then loW j.pcyc
  else if o = Reg.JNL_OPSEC_LO ∨ o = Reg.JNL_OPSEC_HI then half j.opSec Reg.JNL_OPSEC_LO o
  else if o = Reg.JNL_NEXT_RSEQ_LO ∨ o = Reg.JNL_NEXT_RSEQ_HI then half j.nextRseq Reg.JNL_NEXT_RSEQ_LO o
  else if o = Reg.JNL_OLDEST_RSEQ_LO ∨ o = Reg.JNL_OLDEST_RSEQ_HI then half (oldestRseq m) Reg.JNL_OLDEST_RSEQ_LO o
  else if o = Reg.JNL_BIRTH_LAST_RSEQ_LO ∨ o = Reg.JNL_BIRTH_LAST_RSEQ_HI then half (birthLast m) Reg.JNL_BIRTH_LAST_RSEQ_LO o
  else if o = Reg.JNL_FLUSHES then j.flushes
  else if o = Reg.JNL_COALESCED then j.coalesced
  else if Reg.JNL_DROP ≤ o ∧ o < Reg.JNL_DROP + 16 then wrd j.dropCnt ((o - Reg.JNL_DROP) / 4)
  else rd m o

/-- DIA (CRC table 3). -/
def diaWord (m : Pnm) (o : Nat) : Word :=
  if o = Reg.DIA_STAT then diaStatWord m
  else if o = Reg.DIA_FLAGS then m.tel.dia.flags
  else if o = Reg.DIA_SNAP_STAT then snapStatWord m
  else if o = Reg.DIA_SNAP_MISSED then m.tel.dia.missed
  else rd m o

/-- The word at offset `o` of PF BAR0 now (R552, R554). -/
def regView (m : Pnm) (o : Nat) : Word :=
  let b := o / 0x10000
  if b = 0 then glbWord m o
  else if b = 1 then timWord m o
  else if b = 2 then macWord m o
  else if o = Reg.SVI_STAT then sviStatWord m
  else if o = Reg.SVI_UNITS then sviUnitsWord m
  else if o = Reg.FPE_STAT then fpeStatWord m
  else if o = Reg.FPE_GLIDE_STAT then glideStatWord m
  else if o = Reg.GTE_STAT then gteStatWord m
  else if b = 6 then cyeWord m o
  else if o = Reg.OUT_STAT then outStatWord m
  else if b = 8 then sioWord m o
  else if b = 9 then hifWord m o
  else if o = Reg.CAP_STAT then capStatWord m
  else if o = Reg.PAR_STAT then parStatWord m
  else if o = Reg.PAR_RESYNC_STAT then parResyncWord m
  else if o = Reg.KEY_STAT then keyStatWord m
  else if Reg.KEY_UID ≤ o ∧ o < Reg.KEY_UID + 16 then Config.factoryUid ((o - Reg.KEY_UID) / 4)
  else if b = 13 then jnlWord m o
  else if b = 14 then diaWord m o
  else if o = Reg.CRC_STAT then crcStatWord m
  else if Reg.CRC_CH ≤ o ∧ o < Reg.CRC_CH + 512 then chWord m ((o - Reg.CRC_CH) / 0x40) ((o - Reg.CRC_CH) % 0x40)
  else if o < 0x00100000 then rd m o
  else 0

/-- R557: a read of a _LO word latches the higher words; a read of a higher word gives what was latched, or the current word
where nothing was. -/
def readPf (o : Nat) (m : Pnm) : Pnm × Word :=
  let hs := higherWords o
  if hs ≠ [] then
    (hs.foldl (fun x h => { x with latched := NMap.set (fun _ => none) x.latched h (some (regView m h)) }) m, regView m o)
  else if isHigher o then (m, (NMap.get (fun _ => none) m.latched o).getD (regView m o))
  else (m, regView m o)

/-! ## What a write does -/

/-- The fields with no behaviour of their own are stored (R10, R559). -/
def plainWrite (o : Nat) (data : Word) (m : Pnm) : Pnm :=
  let k := plainMask o
  if k = 0 then m else wr m o ((rd m o &&& ~~~ k) ||| (data &&& k))

/-- Write-one-to-clear (R9). -/
def w1cWrite (o : Nat) (data : Word) (m : Pnm) : Pnm :=
  let k := data &&& w1cMask o
  if o = Reg.JNL_FLAGS then modJnl (fun j => { j with flags := j.flags &&& ~~~ k }) m
  else if o = Reg.DIA_FLAGS then modDia (fun d => { d with flags := d.flags &&& ~~~ k }) m
  else wr m o (rd m o &&& ~~~ k)

/-- The word of a window command register without GO. -/
def ifGo (cmd : Word) (mask : Word) (reg : Nat) (go : Pnm → Pnm) (m : Pnm) : Pnm :=
  if bit cmd 31 then go m else storeCmd reg mask cmd m

/-- A write of a GLB register (GLB table 8). -/
def glbWrite (o : Nat) (data : Word) (m : Pnm) : Pnm :=
  if o = Reg.GLB_RESET then resetWrite data m
  else if o = Reg.GLB_BOOT then bootWrite data m
  else if o = Reg.GLB_BOOT_CTRL then bootConfirm data m
  else if o = Reg.GLB_MAINT then maintLeave data (maintReq data m)
  else if o = Reg.GLB_PWR then shutdownWrite data m
  else if o = Reg.GLB_FW_ADDR_LO ∨ o = Reg.GLB_RTC_LO then stage m o data
  else if o = Reg.GLB_FW_ADDR_HI then pairCommit Reg.GLB_FW_ADDR_LO o 0xFFFFFFFF#32 data m
  else if o = Reg.GLB_FW_CTRL then fwGo data m
  else if o = Reg.GLB_RTC_HI then rtcCommit data m
  else if o = Reg.GLB_TAMPER then tamperWrite data m
  else if w1cMask o ≠ 0 then w1cWrite o data m
  else plainWrite o data m

/-- A write of a TIM register (TIM table 5). -/
def timWrite (o : Nat) (data : Word) (m : Pnm) : Pnm :=
  if o = Reg.TIM_CTRL then timRunWrite data m
  else if o = Reg.TIM_INC_A_LO ∨ o = Reg.TIM_INC_B_LO ∨ o = Reg.TIM_STEP_A_LO ∨ o = Reg.TIM_STEP_B_LO then stage m o data
  else if o = Reg.TIM_INC_A_HI ∨ o = Reg.TIM_INC_B_HI then timIncWrite (decide (o = Reg.TIM_INC_B_HI)) data m
  else if o = Reg.TIM_STEP_A_HI ∨ o = Reg.TIM_STEP_B_HI then timStepWrite (decide (o = Reg.TIM_STEP_B_HI)) data m
  else if o = Reg.TIM_SLEW ∨ o = Reg.TIM_SLEW_LIMIT then timSlewWrite (decide (o = Reg.TIM_SLEW_LIMIT)) data m
  else if o = Reg.TIM_SEL then timSelWrite data m
  else if o = Reg.TIM_LOCK then timLockWrite data m
  else if o = Reg.TIM_SNAP_CTRL then timSnapWrite data m
  else if o = Reg.TIM_DOM1_CFG then timDomWrite 1 data m
  else if o = Reg.TIM_DOM2_CFG then timDomWrite 2 data m
  else if o = Reg.TIM_SRC_A then timSrcWrite data m
  else if o = Reg.TIM_PPS_WIDTH then timPpsWidthWrite data m
  else if o = Reg.TIM_PPS_OFS then timPpsOfsWrite data m
  else if w1cMask o ≠ 0 then w1cWrite o data m
  else plainWrite o data m

/-- A write of MAC_PORTn_CTRL: EN, then RETRAIN; a link that goes discards its queued frames. -/
def macCtrlWrite (p : Nat) (data : Word) (optic : Option Optic) (m : Pnm) : Pnm :=
  txLost (onlyIf (bit data 1) (portRetrain p) (portCtrlWrite p data optic m))

/-- A write of a MAC register (MAC table 8). -/
def macWrite (a : AtWrite) (o : Nat) (data : Word) (m : Pnm) : Pnm :=
  let p := (o - 0x00020000) / 0x1000
  let x := o % 0x1000
  if p < 12 ∧ x = 0 then macCtrlWrite p data a.optic m
  else if p < 12 ∧ x = 4 then portCfgWrite p data m
  else if p < 12 ∧ x = 0x10 then stage m o data
  else if p < 12 ∧ x = 0x14 then pairCommit (o - 4) o 0x0000FFFF#32 data m
  else if o = Reg.MAC_PAIRMODE then pairModeWrite data m
  else if o = Reg.MAC_PRP_CFG ∨ o = Reg.MAC_HSR_CFG then redCfgWrite o data m
  else if o = Reg.MAC_NODE_FORGET then nodeForgetWrite data m
  else if w1cMask o ≠ 0 then w1cWrite o data m
  else plainWrite o data m

/-- A write of an SVI register but SVI_CTRL (SVI table 10). -/
def sviWrite (o : Nat) (data : Word) (m : Pnm) : Pnm :=
  if o = Reg.SVI_PLANE then step6 (sviPlaneWrite data m)
  else if o = Reg.SVI_LEAD_TOL then sviLeadWrite data m
  else if o = Reg.SVI_GM_ID1_LO ∨ o = Reg.SVI_GM_ID2_LO then stage m o data
  else if o = Reg.SVI_GM_ID1_HI ∨ o = Reg.SVI_GM_ID2_HI then pairCommit (o - 4) o 0xFFFFFFFF#32 data m
  else if o = Reg.SVI_SILENT then sviSilentWrite data m
  else if o = Reg.SVI_TBL_CMD then ifGo data 0x000073FF#32 o (eitherOf (bit data 13) (sviTblWrite data) (sviTblRead data)) m
  else if Reg.SVI_VIEW ≤ o ∧ o < Reg.SVI_VIEW + 1028 then step6 (sviViewWrite ((o - Reg.SVI_VIEW) / 4) data m)
  else if w1cMask o ≠ 0 then w1cWrite o data m
  else plainWrite o data m

/-- A write of an FPE register (FPE table 14). -/
def fpeWrite (o : Nat) (data : Word) (m : Pnm) : Pnm :=
  if o = Reg.FPE_PHASOR then fpePhasorWrite data m
  else if o = Reg.FPE_GLIDE then (if bit data 31 then glideGo data m else wr m o (data &&& 0xFFFFF#32))
  else if o = Reg.FPE_TBL_CMD then ifGo data 0x0017FFFF#32 o (eitherOf (bit data 20) (fpeTblWrite data) (fpeTblRead data)) m
  else if Reg.FPE_PVIEW ≤ o then step6 (plainWrite o data m)
  else if w1cMask o ≠ 0 then w1cWrite o data m
  else plainWrite o data m

/-- The operations of the gate window (R201). -/
def gteWindow (data : Word) (m : Pnm) : Pnm :=
  let op := bits data 13 12
  if op = 0 then gteWindowRead data m
  else if op = 1 then gteWindowArm data m
  else if op = 2 then gteWindowUpdate data m
  else gteWindowCancel data m

/-- A write of a GTE register (GTE table 7). -/
def gteWrite (o : Nat) (data : Word) (m : Pnm) : Pnm :=
  if o = Reg.GTE_CTRL then gteCtrlWrite data m
  else if o = Reg.GTE_HORIZON then gteHorizonWrite data m
  else if o = Reg.GTE_PROG_RANGE then gteRangeWrite data m
  else if o = Reg.GTE_TOUT_CLAIM then applyTouts (nowNs m) (nowFrac m) (gteClaimWrite data m)
  else if o = Reg.GTE_TBL_CMD then ifGo data 0x000033FF#32 o (gteWindow data) m
  else if w1cMask o ≠ 0 then w1cWrite o data m
  else plainWrite o data m

/-- A write of a CYE or Leapfrog register (CYE table 9, LFG table 11). -/
def cyeWrite (o : Nat) (data : Word) (m : Pnm) : Pnm :=
  if o = Reg.CYE_CTRL then onlyIf (bit data 1) cyeStop (onlyIf (bit data 0) cyeStart m)
  else if o = Reg.CYE_TBL_CMD then ifGo data 0x0017FFFF#32 o (eitherOf (bit data 20) (cyeTblWrite data) (cyeTblRead data)) m
  else if o = Reg.CYE_LF_CTRL then
    onlyIf (bit data 3) lfDiscard (onlyIf (bit data 2) lfRevert (onlyIf (bit data 1) lfAbort (onlyIf (bit data 0) lfArm m)))
  else if o = Reg.CYE_LF_REQ_LO then stage m o data
  else if o = Reg.CYE_LF_REQ_HI then pairCommit Reg.CYE_LF_REQ_LO o 0xFFFFFFFF#32 data m
  else if w1cMask o ≠ 0 then w1cWrite o data m
  else plainWrite o data m

/-- A write of an OUT register (OUT table 7). -/
def outWrite (o : Nat) (data : Word) (m : Pnm) : Pnm :=
  if o = Reg.OUT_CTRL then outCtrlWrite data m
  else if o = Reg.OUT_TBL_CMD then ifGo data 0x003FFFFF#32 o (eitherOf (bit data 21) (outTblWrite data) (outTblRead data)) m
  else if w1cMask o ≠ 0 then w1cWrite o data m
  else plainWrite o data m

/-- A write of an SIO register (SIO table 8). -/
def sioWrite (a : AtWrite) (o : Nat) (data : Word) (m : Pnm) : Pnm :=
  if o = Reg.SIO_CTRL then eitherOf (bit data 0) sioRun sioStop m
  else if o = Reg.SIO_PAIR_RESET then lockoutReset data a.cleared (latchReset data m)
  else if o = Reg.SIO_TOUT_RESET then toutReset data a.back m
  else if o = Reg.SIO_TBL_CMD then ifGo data 0x0017001F#32 o (eitherOf (bit data 20) (sioTblWrite data) (sioTblRead data)) m
  else if w1cMask o ≠ 0 then w1cWrite o data m
  else plainWrite o data m

/-- A write of a function register of f at offset x of its page (R344, HIF table 16); those of a DISABLED VF are ignored
(R561). -/
def fnWrite' (f x : Nat) (data : Word) (m : Pnm) : Pnm :=
  let o := Reg.fn f x
  if vfState m f ≠ .inService then m
  else if x = 0 then eitherOf (bit data 0) (fnEnable f (bit data 1)) (fnDisable f (bit data 1)) m
  else if x = 8 then wr m o (rd m o &&& ~~~ (data &&& 0xF#32))
  else if x = 0x10 ∨ x = 0x18 ∨ (0x40 ≤ x ∧ x < 0xA0 ∧ x % 16 = 0) then stage m o data
  else if x = 0x14 ∨ x = 0x1C ∨ (0x40 ≤ x ∧ x < 0xA0 ∧ x % 16 = 4) then
    (if fnOn m f then fnErr f 1 m else pairCommit (o - 4) o 0xFFFFFFFF#32 data m)
  else if 0x40 ≤ x ∧ x < 0xA0 ∧ x % 16 = 8 then fnRegWrite f x 0xF#32 data m
  else m

/-- A write of HIF_POLL: values out of 20 to 60 are ignored and named. -/
def hifPollWrite (data : Word) (m : Pnm) : Pnm :=
  let v := bits data 6 0
  if v < 20 ∨ 60 < v then sb (cfgErr m Reg.HIF_CFG_ERR 1) Reg.HIF_FLAGS 0 else wr m Reg.HIF_POLL (loW v)

/-- A write of HIF_EVT_VECi: a slot of 1 to 7 is refused and named. -/
def hifVecWrite (o : Nat) (data : Word) (m : Pnm) : Pnm :=
  let bad := (List.range 4).any fun j => let v := bits data (8 * j + 5) (8 * j); decide (1 ≤ v ∧ v ≤ 7)
  if bad then sb (cfgErr m Reg.HIF_CFG_ERR 2) Reg.HIF_FLAGS 0 else wr m o (data &&& 0x3F3F3F3F#32)

/-- A write of HIF_ARBq_CFG: STARVE_US 0 is ignored and named (R393). -/
def arbCfgWrite (q : Nat) (data : Word) (m : Pnm) : Pnm :=
  let o := Reg.HIF_ARB_CFG + 8 * q
  if bits data 31 16 = 0 then vfErr 6 q m else wr m o (data &&& 0xFFFF0007#32)

/-- A write of HIF_SHRf_CTRL: SERVICE, then FLR (R375, R376, R378). SERVICE of the PF is read-only. -/
def shrCtrlWrite (f : Nat) (data : Word) (m : Pnm) : Pnm :=
  let m1 := if f = 0 then m else serviceWrite f (bit data 0) m
  onlyIf (bit data 1) (shrFlr f) m1

/-- A write of a HIF register (HIF table 16, VFS table 8). -/
def hifWrite (o : Nat) (data : Word) (m : Pnm) : Pnm :=
  if o = Reg.HIF_POLL then hifPollWrite data m
  else if Reg.HIF_FN ≤ o ∧ o < Reg.HIF_FN + 0xA0 then fnWrite' 0 (o - Reg.HIF_FN) data m
  else if Reg.HIF_EVT_VEC ≤ o ∧ o < Reg.HIF_EVT_VEC + 128 then hifVecWrite o data m
  else if Reg.HIF_SHR_CTRL ≤ o ∧ o < Reg.HIF_SHR_CTRL + 16 * 257 then
    (let f := (o - Reg.HIF_SHR_CTRL) / 16
     let w := (o - Reg.HIF_SHR_CTRL) / 4 % 4
     if w = 0 then shrCtrlWrite f data m else shareWrite f w data m)
  else if Reg.HIF_ARB_CFG ≤ o ∧ o < Reg.HIF_ARB_CFG + 8 * 267 then
    (if o % 8 = 0 then arbCfgWrite ((o - Reg.HIF_ARB_CFG) / 8) data m else m)
  else if w1cMask o ≠ 0 then w1cWrite o data m
  else plainWrite o data m

/-- A write of a CAP register (CAP table 7); scans of segments that are granted no longer end (R515). -/
def capWrite (o : Nat) (data : Word) (m : Pnm) : Pnm :=
  if o = Reg.CAP_CTRL then capCtrlWrite data m
  else if o = Reg.CAP_TBL_CMD then
    ifGo data 0x0017FFFF#32 o (fun x => if bit data 20 then scansLost (capTblWrite data x) else capTblRead data x) m
  else if w1cMask o ≠ 0 then w1cWrite o data m
  else plainWrite o data m

/-- A write of a PAR register (PAR table 13). -/
def parWrite (o : Nat) (data : Word) (m : Pnm) : Pnm :=
  if o = Reg.PAR_CTRL then
    onlyIf (bit data 1) parResync (if bit data 0 = rb m Reg.PAR_CTRL 0 then m else pairEnWrite data m)
  else if o = Reg.PAR_NET_ADDR_LO ∨ o = Reg.PAR_HB_DMAC_LO then stage m o data
  else if o = Reg.PAR_CFG ∨ o = Reg.PAR_ID ∨ o = Reg.PAR_PB ∨ o = Reg.PAR_NET_ADDR_HI ∨ o = Reg.PAR_HB_DMAC_HI then
    parCfgWrite o data m
  else if w1cMask o ≠ 0 then w1cWrite o data m
  else plainWrite o data m

/-- A write of a KEY register (KEY table 13). -/
def keyWrite (o : Nat) (data : Word) (m : Pnm) : Pnm :=
  if o = Reg.KEY_CTRL then onlyIf (bit data 2) lcGo (onlyIf (bit data 1) attGo (onlyIf (bit data 0) mr3Ext m))
  else if o = Reg.KEY_MIG_CTRL then
    (let m1 := wf m o 4 4 (b2n (bit data 4))
     onlyIf (bit data 1) migCancel (onlyIf (bit data 0) (migPrepare (bit data 4)) m1))
  else if o = Reg.KEY_TBL_CMD then ifGo data 0x001701FF#32 o (eitherOf (bit data 20) (keyTblWrite data) (keyTblRead data)) m
  else if w1cMask o ≠ 0 then w1cWrite o data m
  else plainWrite o data m

/-- R507: members 0 to 9 of a PCB have WRITER 3 and the types of JNL table 6. -/
def almMembers (m : Pnm) (i : Nat) : Bool :=
  let e := pcbEntry m i
  decide (10 ≤ pMembers e) && (List.range 10).all fun j =>
    let d := pDesc m e j
    decide (dWriter d = 3 ∧ dType d = (if j < 6 then 8 else 7))

/-- A write of JNL_ALM (CRC table 3). -/
def jnlAlmWrite (data : Word) (m : Pnm) : Pnm :=
  let pcb := bits data 25 16
  let was := rb m Reg.JNL_ALM 0
  if was ∧ pcb ≠ rf m Reg.JNL_ALM 25 16 then jnlErr 3 m
  else if bit data 0 ∧ almMembers m pcb = false then jnlErr 3 (wf m Reg.JNL_ALM 25 16 pcb)
  else wr m Reg.JNL_ALM (data &&& 0x03FF0001#32)

/-- A write of a JNL, DIA or CRC register (CRC table 3). -/
def diagWrite (o : Nat) (data : Word) (m : Pnm) : Pnm :=
  if o = Reg.JNL_CTRL then onlyIf (bit data 0) flushWrite m
  else if o = Reg.JNL_CFG then jnlCfgWrite data m
  else if o = Reg.JNL_ALM then jnlAlmWrite data m
  else if o = Reg.DIA_CTRL then onlyIf (bit data 1) snapRelease (onlyIf (bit data 0) snapTrig m)
  else if o = Reg.DIA_TBL_CMD then ifGo data 0x001707FF#32 o (eitherOf (bit data 20) (diaTblWrite data) (diaTblRead data)) m
  else if w1cMask o ≠ 0 then w1cWrite o data m
  else plainWrite o data m

/-- A write at offset x of the page of scan channel c (R511 to R515); `vf` where a VF writes through its own page. -/
def chWrite (c x : Nat) (vf : Bool) (data : Word) (m : Pnm) : Pnm :=
  let o := Reg.ch c x
  if x = 0 then onlyIf (bit data 2) (scanAbort c) (onlyIf (bit data 1) (scanVerify c) (onlyIf (bit data 0) (scanGo c vf) m))
  else if x = 4 then scanCfgWrite c vf data m
  else if x = 8 then stage m o data
  else if x = 0xC then pairCommit (o - 4) o 0xFFFFFFFF#32 data m
  else if x = 0x14 then scanRunWrite c data m
  else plainWrite o data m

/-- A write at offset `o` of PF BAR0 (R552, R554, R561): GLB in every reachable state, the other blocks while the module runs
and no reset is requested. -/
def writePf (a : AtWrite) (o : Nat) (data : Word) (s : PM) : PM :=
  let b := o / 0x10000
  if b = 0 then onM (whenGlb (glbWrite o data)) s
  else if o = Reg.SVI_CTRL then
    (if !wrOk s.1 then s
     else if bit data 0 then onM sviRun s
     else disarmAll (fun _ => true) 5 (onM sviStop s))
  else
    let go : Pnm → Pnm :=
      if b = 1 then timWrite o data
      else if b = 2 then macWrite a o data
      else if b = 3 then sviWrite o data
      else if b = 4 then fpeWrite o data
      else if b = 5 then gteWrite o data
      else if b = 6 then cyeWrite o data
      else if b = 7 then outWrite o data
      else if b = 8 then sioWrite a o data
      else if b = 9 then hifWrite o data
      else if b = 10 then capWrite o data
      else if b = 11 then parWrite o data
      else if b = 12 then keyWrite o data
      else if Reg.CRC_CH ≤ o ∧ o < Reg.CRC_CH + 512 then chWrite ((o - Reg.CRC_CH) / 0x40) ((o - Reg.CRC_CH) % 0x40) false data
      else if b ≤ 15 then diagWrite o data
      else id
    onM (whenWr go) s

/-! ## The BARs of every function (R553, R361, R511) -/

/-- Vectors of a function (R361). -/
def vectors (f : Nat) : Nat := if f = 0 then 64 else 8

/-- Function f exists. -/
def fnExists (m : Pnm) (f : Nat) : Bool := decide (vfState m f ≠ .absent)

/-- A VF owns scan channel c (R511). -/
def ownsCh (m : Pnm) (f c : Nat) : Bool := decide (c < 8 ∧ rf m (Reg.ch c 4) 24 16 = f)

/-- A VF reads its BAR0. -/
def readVf (f o : Nat) (m : Pnm) : Pnm × Word :=
  if o < 0xC then (m, rd m (Reg.shr f (o / 4 + 1)))
  else if o < 0x14 then (m, useWord m f ((o - 0xC) / 4))
  else if 0x100 ≤ o ∧ o < 0x1A0 then (m, fnWord m f (o - 0x100))
  else if 0x400 ≤ o ∧ o < 0x600 ∧ ownsCh m f ((o - 0x400) / 0x40) then (m, chWord m ((o - 0x400) / 0x40) (o % 0x40))
  else (m, 0)

/-- A VF writes its BAR0. -/
def writeVf (f o : Nat) (data : Word) (m : Pnm) : Pnm :=
  if 0x100 ≤ o ∧ o < 0x1A0 then fnWrite' f (o - 0x100) data m
  else if 0x400 ≤ o ∧ o < 0x600 ∧ ownsCh m f ((o - 0x400) / 0x40) then chWrite ((o - 0x400) / 0x40) (o % 0x40) true data m
  else m

/-- The mask bit of vector v (log entry 6). -/
def maskWord (m : Pnm) (f v : Nat) : Word := loW (b2n (!unmasked m f v))

/-- A function reads its BAR2: the MSI-X table and the Pending Bit Array. -/
def readBar2 (f o : Nat) (m : Pnm) : Word :=
  if o < 16 * vectors f then
    (if o % 16 = 12 then maskWord m f (o / 16) else NMap.get (fun _ => 0) m.hif.msixTbl (f * 65536 + o))
  else if o = 0x1000 ∨ o = 0x1004 then
    loW ((List.range 32).foldl (fun a i => a + b2n ((getEvt m f).held.contains (i + 8 * (o - 0x1000))) * 2 ^ i) 0)
  else 0

/-- R361: vector v of f is unmasked: a message that waits in the PBA is sent. -/
def unmask (f v : Nat) (m : Pnm) : Pnm :=
  let e := getEvt m f
  let m1 := { m with hif := { m.hif with unmasked := m.hif.unmasked.filter (· ≠ (f, v)) ++ [(f, v)] } }
  if e.held.contains v then emit (putEvt f { e with held := e.held.filter (· ≠ v) } m1) [.msix f v] else m1

/-- A function writes its BAR2: the MSI-X table, or its kick page. -/
def writeBar2 (f o : Nat) (data : Word) (m : Pnm) : Pnm :=
  if o < 16 * vectors f then
    if o % 16 = 12 then
      (if bit data 0 then { m with hif := { m.hif with unmasked := m.hif.unmasked.filter (· ≠ (f, o / 16)) } }
       else unmask f (o / 16) m)
    else { m with hif := { m.hif with msixTbl := NMap.set (fun _ => 0) m.hif.msixTbl (f * 65536 + o) data } }
  else if 0x2000 ≤ o ∧ o < 0x3000 then kick f m
  else m

/-- One aligned word is read. -/
def readWord (f : Nat) (bar2 : Bool) (o : Nat) (m : Pnm) : Pnm × Word :=
  if m.glb.phase = .recovery ∧ f = 0 ∧ bar2 = false ∧ o < 0x10000 then readPf o m
  else if !alive m || !fnExists m f then (m, 0)
  else if bar2 then (m, readBar2 f o m)
  else if f = 0 then readPf o m
  else readVf f o m

/-- One aligned word is written. -/
def writeWord (a : AtWrite) (f : Nat) (bar2 : Bool) (o : Nat) (data : Word) (s : PM) : PM :=
  if !fnExists s.1 f then s
  else if bar2 then onM (whenWr (writeBar2 f o data)) s
  else if f = 0 then writePf a o data s
  else onM (whenWr (writeVf f o data)) s

/-- R555: a read of `n` bytes at `o`: every word it touches is read in ascending order, and the bytes are returned. Before
BOOT_DONE no BAR answers (R561). -/
def hostRead (f : Nat) (bar2 : Bool) (o n : Nat) (m : Pnm) : Pnm :=
  if !glbOn m then m
  else
    let first := o / 4 * 4
    let k := cdiv (o + n - first) 4
    let r := (List.range k).foldl (fun (x : Pnm × List Byte) i =>
      let y := readWord f bar2 (first + 4 * i) x.1
      (y.1, x.2 ++ leBytes 4 y.2.toNat)) (m, [])
    emit r.1 [.regRead f ((r.2.drop (o - first)).take n)]

/-- R555, R556: a write of a byte string at `o`: the words that it covers whole, in ascending order; a partial word is
discarded. -/
def hostWriteBytes (a : AtWrite) (f : Nat) (bar2 : Bool) (o : Nat) (data : List Byte) (s : PM) : PM :=
  let first := cdiv o 4 * 4
  let k := ((o + data.length) / 4 * 4 - first) / 4
  (List.range k).foldl (fun x i =>
    writeWord a f bar2 (first + 4 * i) (loW (leAt data (first + 4 * i - o) 4)) x) s

end Sys2Proof.Machine
end

