-- ==== Sys2Proof/Machine/Run.lean ====
section
/-! DEFINITION. How a meaning acts on the state: on the module alone, or on the module and the capture bytes; and the
phases of the block in which it acts. -/

namespace Sys2Proof.Machine

/-- A command that changes the module alone. -/
def run (f : Pnm → Pnm) (s : State) : Result := .next { s with m := f s.m }

/-- A command that changes the module and the capture bytes. -/
def runMem (f : PM → PM) (s : State) : Result :=
  .next { s with m := (f (s.m, s.mem)).1, mem := (f (s.m, s.mem)).2 }

/-- `whenAlive` for commands that reach the capture bytes. -/
def whenAliveM (f : PM → PM) (s : PM) : PM := if alive s.1 then f s else s

/-- `whenWr` for commands that reach the capture bytes. -/
def whenWrM (f : PM → PM) (s : PM) : PM := if wrOk s.1 then f s else s

/-- `whenGlb` for commands that reach the capture bytes. -/
def whenGlbM (f : PM → PM) (s : PM) : PM := if glbOn s.1 then f s else s

/-- The twelve ports P0 to P11. -/
def onPort (p : Nat) (f : Pnm → Pnm) (m : Pnm) : Pnm := if p < 12 then f m else m

/-- The physical function 0 and the virtual functions 1 to 256. -/
def onFn (fn : Nat) (f : Pnm → Pnm) (m : Pnm) : Pnm := if fn ≤ 256 then f m else m

/-- `onFn` for commands that reach the capture bytes. -/
def onFnM (fn : Nat) (f : PM → PM) (s : PM) : PM := if fn ≤ 256 then f s else s

/-- The writer of a scan channel's registers is the physical function or the channel's owner (R511). -/
def ownsCh' (m : Pnm) (fn c : Nat) : Bool := decide (fn = 0) || ownsCh m fn c

/-- SLEW_COMPLETE: the residual has shrunk, and the reported class follows it (R48, R59). -/
def slewDone (m : Pnm) : Pnm := reclass m

end Sys2Proof.Machine
end

