-- ==== Sys2Proof/Machine/ExecCap.lean ====
section
/-! DEFINITION. The commands of disturbance capture: one meaning per row of the command table. Each says in which phases of
the block the command acts, and calls the operation that carries it out. -/

namespace Sys2Proof.Machine

/-- CAP_TBL_READ (R425). A GO with WRITE 0 returns a segment, capture or trigger-input entry. -/
def execCapTblRead (cmd : Word) (s : State) : Result :=
  run (whenWr (capTblRead (setBit cmd 20 false))) s

/-- CAP_SEGMENT_WRITE (R401). A write of a segment-table entry changes layout or grant, or is refused. -/
def execCapSegmentWrite (cmd : Word) (s : State) : Result :=
  run (whenWr (fun m => scansLost (capTblWrite (setBit cmd 20 true) m))) s

/-- SEGMENT_CLEAR_DONE (R402). Clearing of a segment granted to a new function ends, and the grant applies. -/
def execSegmentClearDone (ix : BitVec 16) (s : State) : Result :=
  runMem (whenAliveM (segCleared ix.toNat)) s

/-- REARM_DONE (R417). Re-arm ends, the next record is placed, and a held trigger is taken. -/
def execRearmDone (k : BitVec 5) (s : State) : Result :=
  runMem (whenAliveM (rearmDone k.toNat)) s

/-- AUTO_TRIGGER_TIMEOUT (R416). In MODE 2, AUTO_TMO_MS passes without a trigger, and a trigger is presented. -/
def execAutoTriggerTimeout (k : BitVec 5) (s : State) : Result :=
  run (whenAlive (autoTrigger k.toNat)) s

end Sys2Proof.Machine
end

