-- ==== Sys2Proof/Machine/ExecCye.lean ====
section
/-! DEFINITION. The commands of the cycle engine and the Leapfrog exchange: one meaning per row of the command table. Each says in which phases of
the block the command acts, and calls the operation that carries it out. -/

namespace Sys2Proof.Machine

/-- TASK_PERIOD_START (R208). At a task's period start its inputs are latched and the task becomes ready, and
pending host writes apply. -/
def execTaskPeriodStart (t : BitVec 9) (s : State) : Result :=
  run (whenAlive (taskPeriodStart t.toNat)) s

/-- TASK_RUN_COMPLETE (R211). A task run finishes its blocks, and its output image is held for release. -/
def execTaskRunComplete (t : BitVec 9) (s : State) : Result :=
  run (whenAlive (taskRunComplete t.toNat)) s

/-- TASK_OVERRUN (R218). A run has not completed at Ts plus its budget and overruns. -/
def execTaskOverrun (t : BitVec 9) (s : State) : Result :=
  run (whenAlive (taskOverrun t.toNat)) s

/-- DOUBLED_RETURN (R222). 64 consecutive doubled runs within the original budget return the task to normal state.
-/
def execDoubledReturn (t : BitVec 9) (s : State) : Result :=
  run (whenAlive (doubledReturn t.toNat)) s

/-- TASK_OUTPUT_RELEASE (R214). At the output instant, a completed run's outputs are released to every sink, or SAFE
values are released on overrun. -/
def execTaskOutputRelease (t : BitVec 9) (s : State) : Result :=
  run (whenAlive (taskRelease t.toNat)) s

/-- CORE_ECC_ERROR (R205). An uncorrectable error in core-local memory marks the core failed and its tasks FAULTED.
-/
def execCoreEccError (c : BitVec 4) (s : State) : Result :=
  run (whenAlive (coreFail c.toNat)) s

/-- CORE_ECC_CORRECTED (R205). A corrected single-bit error in core-local memory is counted. -/
def execCoreEccCorrected (c : BitVec 4) (s : State) : Result :=
  run (whenAlive (coreCorrected c.toNat)) s

/-- CYE_START (R250). A write of CYE_CTRL.START checks the loaded image and makes a start pending, or is refused. -/
def execCyeStart (s : State) : Result :=
  run (whenWr cyeStart) s

/-- PROGRAM_START (R250). At the next module-time second, the pending program starts with every instance at its
initial values. -/
def execProgramStart (s : State) : Result :=
  run (whenAlive programStart) s

/-- CYE_STOP (R251). A write of CYE_CTRL.STOP requests a stop at the next hyperperiod boundary, or cancels a pending
start. -/
def execCyeStop (s : State) : Result :=
  run (whenWr cyeStop) s

/-- PROGRAM_STOP (R251). At the hyperperiod boundary, the program stops and every output releases its SAFE value. -/
def execProgramStop (s : State) : Result :=
  run (whenAlive programStop) s

/-- CYE_TBL_READ (R252). A GO with WRITE 0 returns a task, status, host-input or signal entry. -/
def execCyeTblRead (cmd : Word) (s : State) : Result :=
  run (whenWr (cyeTblRead (setBit cmd 20 false))) s

/-- CYE_TBL_WRITE (R252). A GO with WRITE 1 writes a host input configuration entry at the next period start, or is
refused for other tables. -/
def execCyeTblWrite (cmd : Word) (s : State) : Result :=
  run (whenWr (cyeTblWrite (setBit cmd 20 true))) s

/-- HOST_WRITE_APPLY (R230). With no program running, a held host input write applies at its target instant. -/
def execHostWriteApply (w : BitVec 12) (s : State) : Result :=
  run (whenAlive (hostWriteApply w.toNat)) s

/-- IMAGE_VERIFY_DONE (R258). Verification of a loaded image ends, which stages it or rejects it and clears the
bank. -/
def execImageVerifyDone (s : State) : Result :=
  run (whenAlive imageVerifyDone) s

/-- LF_ARM (R269). A write of CYE_LF_CTRL.ARM repeats the exchange checks and arms a switch at Tb. -/
def execLfArm (s : State) : Result :=
  run (whenWr lfArm) s

/-- LF_ABORT (R272). A write of ABORT cancels an armed exchange more than 2 µs before Tb. -/
def execLfAbort (s : State) : Result :=
  run (whenWr lfAbort) s

/-- LF_REVERT (R273). A write of REVERT restages the retained image and arms an exchange back to it. -/
def execLfRevert (s : State) : Result :=
  run (whenWr lfRevert) s

/-- LF_DISCARD (R272). A write of DISCARD in PHASE 3 clears the second bank. -/
def execLfDiscard (s : State) : Result :=
  run (whenWr lfDiscard) s

/-- LF_PRE_SWITCH_CHECK (R271). At Tb − 2 µs an old run still in progress postpones the switch, or abandons it at
the third postponement. -/
def execLfPreSwitchCheck (s : State) : Result :=
  run (whenAlive preSwitchCheck) s

/-- LF_SWITCH (R270). At Tb the old program's releases apply, orphaned sinks receive SAFE values, and carry-over
begins. -/
def execLfSwitch (s : State) : Result :=
  run (whenAlive lfSwitch) s

/-- LF_CARRY_OVER_DONE (R270). Carry-over completes, the old image becomes retained and the new program's identifier
is shown. -/
def execLfCarryOverDone (s : State) : Result :=
  run (whenAlive carryOverDone) s

/-- LF_PEER_TIMEOUT (R275). The peer does not answer an exchange proposal within 100 ms, and ARM is refused. -/
def execLfPeerTimeout (s : State) : Result :=
  run (whenAlive lfPeerTimeout) s

end Sys2Proof.Machine
end

