-- ==== Sys2Proof/Machine/ExecDiag.lean ====
section
/-! DEFINITION. The commands of journal, scans, snapshots and self-test: one meaning per row of the command table. Each says in which phases of
the block the command acts, and calls the operation that carries it out. -/

namespace Sys2Proof.Machine

/-- JNL_FLUSH_TIMER (R500). A flush deadline after a class-0 or class-1 record, or the 1 s bound, expires and a
flush starts. -/
def execJnlFlushTimer (s : State) : Result :=
  run (whenGlb flushTimer) s

/-- JNL_FLUSH_WRITE (R500). A write of JNL_CTRL.FLUSH starts a flush. -/
def execJnlFlushWrite (s : State) : Result :=
  run (whenWr flushWrite) s

/-- JNL_FLUSH_DONE (R500). Flushed records are read back and sealed, or a second read-back failure sets MRAM_FAULT.
-/
def execJnlFlushDone (bad : Bool) (write : Bool) (s : State) : Result :=
  run (whenGlb (flushDone bad write)) s

/-- OP_SECOND_TICK (R495). An operating second passes, held class-0 records enter the buffer and the count is
stored. -/
def execOpSecondTick (s : State) : Result :=
  run (whenGlb opSecond) s

/-- JOURNAL_READ_DONE (R504). A journal copy ends with its verdict bytes, and the command completes. -/
def execJournalReadDone (damage : List (Nat × Nat)) (s : State) : Result :=
  run (whenAlive (journalReadDone damage)) s

/-- FREEZE_TIMEOUT (R505). FREEZE_S elapses during a readout, and the freeze ends early. -/
def execFreezeTimeout (s : State) : Result :=
  run (whenAlive freezeTimeout) s

/-- CRC_SCAN_GO (R512). A write of CRC_CHc_CTRL.GO starts a scan of LEN bytes, or ends it with NO_ACCESS. -/
def execCrcScanGo (fn : BitVec 9) (c : BitVec 3) (s : State) : Result :=
  run (whenWr (fun m => onlyIf (ownsCh' m fn.toNat c.toNat) (scanGo c.toNat (decide (fn ≠ 0#9))) m)) s

/-- CRC_SCAN_DONE (R512). A scan ends, STATUS is set and event 0x07 is raised. -/
def execCrcScanDone (c : BitVec 3) (s : State) : Result :=
  runMem (whenAliveM (scanDone c.toNat)) s

/-- CRC_VERIFY (R514). A write of VERIFY judges RESULT against the stored check field. -/
def execCrcVerify (fn : BitVec 9) (c : BitVec 3) (s : State) : Result :=
  run (whenWr (fun m => onlyIf (ownsCh' m fn.toNat c.toNat) (scanVerify c.toNat) m)) s

/-- CRC_ABORT (R515). A write of ABORT ends a running scan with STATUS ABORTED. -/
def execCrcAbort (fn : BitVec 9) (c : BitVec 3) (s : State) : Result :=
  run (whenWr (fun m => onlyIf (ownsCh' m fn.toNat c.toNat) (scanAbort c.toNat) m)) s

/-- SNAP_TRIG (R516). A write of DIA_CTRL.SNAP_TRIG triggers a snapshot. -/
def execSnapTrig (s : State) : Result :=
  run (whenWr snapTrig) s

/-- SNAP_RELEASE (R517). A write of DIA_CTRL.SNAP_RELEASE unlocks the snapshot bank. -/
def execSnapRelease (s : State) : Result :=
  run (whenWr snapRelease) s

/-- DIA_TBL_READ (R525). A GO with WRITE 0 returns a node, bank or self-test entry. -/
def execDiaTblRead (cmd : Word) (s : State) : Result :=
  run (whenWr (diaTblRead (setBit cmd 20 false))) s

/-- DIA_TBL_WRITE (R521). A GO with WRITE 1 writes a host node or node 0's parent, or is refused. -/
def execDiaTblWrite (cmd : Word) (s : State) : Result :=
  run (whenWr (diaTblWrite (setBit cmd 20 true))) s

/-- SELFTEST_SLICE (R522). A slice of the running self-test starts once its target is idle under DIA table 5. -/
def execSelftestSlice (s : State) : Result :=
  run (whenAlive testSlice) s

/-- SELFTEST_DONE (R523). A self-test ends with pass or fail, and a core or lane is marked or returned. -/
def execSelftestDone (sig : Word) (bad : Option (BitVec 32)) (s : State) : Result :=
  runMem (whenAliveM (testDone sig (bad.map (·.toNat)))) s

/-- SELFTEST_TIMEOUT (R522). A test has not finished TMO_S after its start, and it ends with result 3. -/
def execSelftestTimeout (s : State) : Result :=
  run (whenAlive stTimeout) s

end Sys2Proof.Machine
end

