-- ==== Sys2Proof/Machine/ExecFpe.lean ====
section
/-! DEFINITION. The commands of filter chains: one meaning per row of the command table. Each says in which phases of
the block the command acts, and calls the operation that carries it out. -/

namespace Sys2Proof.Machine

/-- FPE_TBL_READ (R168). A GO with WRITE 0 returns a profile, slot-map, coefficient or reference entry. -/
def execFpeTblRead (cmd : Word) (s : State) : Result :=
  run (whenWr (fpeTblRead (setBit cmd 20 false))) s

/-- FPE_TBL_WRITE (R168). A GO with WRITE 1 stages an FPE table entry for commit, or is refused. -/
def execFpeTblWrite (cmd : Word) (s : State) : Result :=
  run (whenWr (fpeTblWrite (setBit cmd 20 true))) s

/-- GLIDE_GO (R148). A write of FPE_GLIDE.GO starts a Glide from profile FROM to TO, or is refused. -/
def execGlideGo (data : Word) (s : State) : Result :=
  run (whenWr (glideGo data)) s

/-- GLIDE_END (R149). The last fade step is reached, the slot map names TO and the Glide ends. -/
def execGlideEnd (s : State) : Result :=
  run (whenAlive glideEnd) s

/-- REF_HOLD_EXPIRY (R161). HOLD_MS elapses in HOLDING, and the reference becomes LOST. -/
def execRefHoldExpiry (r : BitVec 6) (s : State) : Result :=
  run (whenAlive (refHoldExpiry r.toNat)) s

end Sys2Proof.Machine
end

