-- ==== Sys2Proof/Machine/ExecGeneral.lean ====
section
/-! DEFINITION. The commands of register access and the plane tick: one meaning per row of the command table. Each says in which phases of
the block the command acts, and calls the operation that carries it out. -/

namespace Sys2Proof.Machine

/-- REGISTER_WRITE (R559). A host write to a register field that has no behaviour of its own stores the value, or is
ignored, refused or named under the owning block's checks. -/
def execRegisterWrite (fn : BitVec 9) (bar2 : Bool) (off : BitVec 24) (data : List Byte) (found : AtWrite) (s :
    State) : Result :=
  runMem (hostWriteBytes found fn.toNat bar2 off.toNat data) s

/-- MULTIWORD_LO_READ (R557). A read of the _LO word of a multi-word read-only register latches its higher words on
the same edge. -/
def execMultiwordLoRead (fn : BitVec 9) (bar2 : Bool) (off : BitVec 24) (len : BitVec 13) (s : State) : Result :=
  run (hostRead fn.toNat bar2 off.toNat len.toNat) s

/-- PLANE_TICK (R20). A plane tick falls on the grid every P grid ticks, and the work keyed to it takes place. -/
def execPlaneTick (die : Int) (s : State) : Result :=
  run (whenAlive (planeTick die)) s

/-- PLANE_CLOSE (R21). At the close instant C(k) the plane closes, samples are handed to the chains, and
re-prediction and delivery begin. -/
def execPlaneClose (bad : BitVec 4) (s : State) : Result :=
  runMem (whenAliveM (planeClose bad.toNat)) s

/-- LADDER_DWELL_EXPIRY (R39). The 1 s minimum dwell of ladder step 1, 2, 3 or 5 ends, and the step may be left. -/
def execLadderDwellExpiry (n : BitVec 3) (s : State) : Result :=
  run (whenAlive (onlyIf (decide (1 ≤ n.toNat ∧ n.toNat ≤ 6)) (ladderDwell n.toNat))) s

end Sys2Proof.Machine
end

