-- ==== Sys2Proof/Machine/ExecGlb.lean ====
section
/-! DEFINITION. The commands of start, reset, power and maintenance: one meaning per row of the command table. Each says in which phases of
the block the command acts, and calls the operation that carries it out. -/

namespace Sys2Proof.Machine

/-- POWER_ON (R531). Supply rises and the module runs the start timeline from rails good to BOOT_DONE. -/
def execPowerOn (found : StartIn) (s : State) : Result :=
  runMem (powerOn found) s

/-- STRAP_POLL (R529). Every 100 ms the slot straps are re-read, and a change is flagged. -/
def execStrapPoll (pairPos : Bool) (safetyIo : Bool) (timeSrc : Bool) (maint : Bool) (slotId : BitVec 4) (s :
    State) : Result :=
  run (whenGlb (strapPoll pairPos safetyIo timeSrc maint slotId.toNat)) s

/-- BOOT_CONFIRM (R532). A write of GLB_BOOT_CTRL.CONFIRM makes the trial slot the confirmed slot. -/
def execBootConfirm (data : Word) (s : State) : Result :=
  run (whenGlb (bootConfirm data)) s

/-- TRIAL_CONFIRM_TIMEOUT (R532). CONFIRM_S passes after BOOT_DONE without confirmation, and the module resets with
cause 5. -/
def execTrialConfirmTimeout (s : State) : Result :=
  run (whenAlive trialTimeout) s

/-- FW_GO (R535). A write of GLB_FW_CTRL.GO starts reading and checking a firmware bundle, or is refused. -/
def execFwGo (data : Word) (s : State) : Result :=
  run (whenGlb (fwGo data)) s

/-- FW_WRITE_DONE (R535). A firmware write ends with its result, and event 0x27 is raised. -/
def execFwWriteDone (bundle : List Byte) (flashOk : Bool) (s : State) : Result :=
  run (whenGlb (fwWriteDone bundle flashOk)) s

/-- HOST_RESET (R537). PERST#, hot reset or link-down causes a module reset or, with isolation, a link reset. -/
def execHostReset (found : StartIn) (s : State) : Result :=
  runMem (hostReset found) s

/-- RESET_MODULE_WRITE (R538). A write of GLB_RESET.MODULE with its key requests a module reset. -/
def execResetModuleWrite (data : Word) (s : State) : Result :=
  run (whenGlb (resetWrite data)) s

/-- MODULE_RESET_EFFECT (R538). After outputs drop and the journal is flushed, the reset takes effect and a start
follows. -/
def execModuleResetEffect (found : StartIn) (s : State) : Result :=
  runMem (whenGlbM (resetEffect found)) s

/-- FW_WATCHDOG (R538). The 100 ms main-controller firmware watchdog expires and requests a module reset. -/
def execFwWatchdog (s : State) : Result :=
  run (whenGlb fwWatchdog) s

/-- MEMORY_UE (R538). An uncorrectable error in firmware or program memory requests a module reset. -/
def execMemoryUe (s : State) : Result :=
  run (whenGlb memoryUe) s

/-- MAINT_REQ (R540). A write of GLB_MAINT.REQ with its confirmation requests entry into maintenance. -/
def execMaintReq (data : Word) (s : State) : Result :=
  run (whenGlb (maintReq data)) s

/-- MAINT_LEAVE (R540). A write of GLB_MAINT.LEAVE requests exit from maintenance, or is refused under the strap. -/
def execMaintLeave (data : Word) (s : State) : Result :=
  run (whenGlb (maintLeave data)) s

/-- POWER_FAIL_WARNING (R542). 12 V stays below 10.8 V for 50 µs, fetching stops and the journal is flushed. -/
def execPowerFailWarning (s : State) : Result :=
  run (whenGlb pfWarning) s

/-- RIDE_THROUGH (R544). 12 V stays above 11.2 V for 5 ms before hold-up ends, and the module resumes. -/
def execRideThrough (s : State) : Result :=
  run (whenGlb rideThrough) s

/-- HOLDUP_END (R544). At the warning plus 19 ms, outputs open and the module holds itself in reset. -/
def execHoldupEnd (s : State) : Result :=
  runMem holdupEnd s

/-- SUPPLY_RETURN (R544). After hold-up, 12 V stays above 11.2 V for 100 ms, and a start with cause 7 follows. -/
def execSupplyReturn (found : StartIn) (s : State) : Result :=
  runMem (supplyReturn found) s

/-- SHUTDOWN (R545). A write of GLB_PWR.SHUTDOWN runs the reset sequence and holds the module in reset. -/
def execShutdown (data : Word) (s : State) : Result :=
  run (whenGlb (shutdownWrite data)) s

/-- RTC_COMMIT (R548). A write of GLB_RTC_HI commits both RTC words and zeroes the sub-second count. -/
def execRtcCommit (hi : Word) (s : State) : Result :=
  run (whenGlb (rtcCommit hi)) s

/-- TAMPER_COVER_OPEN (R549). The cover switch opens, and the COVER latch sets. -/
def execTamperCoverOpen (opens : Bool) (s : State) : Result :=
  run (coverSwitch opens) s

/-- TAMPER_LOOP_SENSE (R573). Once per second the tamper loop is sensed, and two open readings set the LOOP latch.
-/
def execTamperLoopSense (opens : Bool) (s : State) : Result :=
  run (loopSense opens) s

/-- VBAT_LOW (R547). A fitted VBAT falls below 2.5 V, and event 0x25 is raised. -/
def execVbatLow (mv : BitVec 12) (s : State) : Result :=
  run (whenGlb (vbat mv.toNat)) s

/-- SUPPLY_OVERVOLTAGE (R565). A 12 V input stays above 13.5 V for 1 ms, or returns below 13.2 V. -/
def execSupplyOvervoltage (aux : Bool) (above : Bool) (s : State) : Result :=
  run (whenGlb (overVoltage aux above)) s

/-- POWER_REMOVED (R545). Supply is removed from the module, so DDR and volatile state are lost and any unflushed
journal records are lost. -/
def execPowerRemoved (s : State) : Result :=
  runMem powerRemoved s

/-- BACKUP_SUPPLY_LOST (R547). The backup domain loses all its supply sources, so the RTC, tamper latches and
retention bytes are lost and VLOSS is set. -/
def execBackupSupplyLost (s : State) : Result :=
  run backupLost s

end Sys2Proof.Machine
end

