-- ==== Sys2Proof/Machine/ExecGte.lean ====
section
/-! DEFINITION. The commands of Slalom gates: one meaning per row of the command table. Each says in which phases of
the block the command acts, and calls the operation that carries it out. -/

namespace Sys2Proof.Machine

/-- GTE_WINDOW_READ (R201). A GO with OP 0 returns a gate entry in the data words. -/
def execGteWindowRead (cmd : Word) (s : State) : Result :=
  run (whenWr (gteWindowRead (setBits cmd 13 12 0))) s

/-- GTE_WINDOW_ARM (R201). A GO with OP 1 arms a PF-owned gate, or is refused. -/
def execGteWindowArm (cmd : Word) (s : State) : Result :=
  run (whenWr (gteWindowArm (setBits cmd 13 12 1))) s

/-- GTE_WINDOW_UPDATE (R201). A GO with OP 2 updates an ARMED or WAITING gate. -/
def execGteWindowUpdate (cmd : Word) (s : State) : Result :=
  run (whenWr (gteWindowUpdate (setBits cmd 13 12 2))) s

/-- GTE_WINDOW_CANCEL (R201). A GO with OP 3 cancels a gate under R179. -/
def execGteWindowCancel (cmd : Word) (s : State) : Result :=
  run (whenWr (gteWindowCancel (setBits cmd 13 12 3))) s

/-- GATE_FIRE (R197). At F, a committed gate performs its action, or enters PEER_PENDING or WITHHELD by role, and
ends FIRED. -/
def execGateFire (ix : BitVec 10) (s : State) : Result :=
  run (whenAlive (gateFire ix.toNat)) s

/-- TOUT_PULSE_END (R193). At F plus the pulse width, a TOUT_PULSE drives its output off. -/
def execToutPulseEnd (t : BitVec 4) (s : State) : Result :=
  run (whenAlive (pulseEnd t.toNat)) s

/-- PEER_NOTICE_TIMEOUT (R199). No firing notice arrives within 1 ms of F, and a PEER_PENDING gate ends WITHHELD. -/
def execPeerNoticeTimeout (ix : BitVec 10) (s : State) : Result :=
  run (whenAlive (peerNoticeTimeout ix.toNat)) s

end Sys2Proof.Machine
end

