-- ==== Sys2Proof/Machine/ExecHif.lean ====
section
/-! DEFINITION. The commands of host rings, functions and shares: one meaning per row of the command table. Each says in which phases of
the block the command acts, and calls the operation that carries it out. -/

namespace Sys2Proof.Machine

/-- DOORBELL_READ_DONE (R346). A function's doorbell block arrives, and new descriptors are fetched within the
limits of R354. -/
def execDoorbellReadDone (fn : BitVec 9) (ok : Bool) (d : Doorbell) (planes : List PlaneDesc) (s : State) : Result :=
  run (whenAlive (onFn fn.toNat (doorbellDone fn.toNat ok d planes))) s

/-- COMMAND_FETCH_DONE (R353). A command descriptor and its indirect payload have been read, and its checks run. -/
def execCommandFetchDone (fn : BitVec 9) (ok : Bool) (h : CmdHdr) (op : Op) (s : State) : Result :=
  runMem (whenAliveM (onFnM fn.toNat (fetchDone fn.toNat ok h op))) s

/-- ACCEPTANCE_INSTANT (R349). At A(k), ready commands are decided in ring order, and completions, write-back and
interrupts follow. -/
def execAcceptanceInstant (s : State) : Result :=
  runMem (whenAliveM acceptance) s

/-- KICK (R350). A write to the kick page makes the module read the doorbell and decide commands as soon as they are
ready. -/
def execKick (fn : BitVec 9) (s : State) : Result :=
  run (whenWr (onFn fn.toNat (kick fn.toNat))) s

/-- NOP (R352). Opcode 0x01 follows the command contract only. -/
def execNop (fn : BitVec 9) (h : CmdHdr) (s : State) : Result :=
  runMem (whenAliveM (onFnM fn.toNat (decideNow fn.toNat h (.nop)))) s

/-- HOST_WRITE (R228). Opcode 0x02 writes a host input word, applied at the next period start or held to its target.
-/
def execHostWrite (fn : BitVec 9) (h : CmdHdr) (word : BitVec 12) (quality : BitVec 16) (value : DWord) (s :
    State) : Result :=
  runMem (whenAliveM (onFnM fn.toNat (decideNow fn.toNat h (.hostWrite word quality value)))) s

/-- GATE_ARM (R175). Opcode 0x03 checks and arms a gate, mapping the owner's gate number to a module-wide index. -/
def execGateArm (fn : BitVec 9) (h : CmdHdr) (gate : List Word) (loc : BitVec 10) (s : State) : Result :=
  runMem (whenAliveM (onFnM fn.toNat (decideNow fn.toNat h (.gateArm gate loc)))) s

/-- GATE_UPDATE (R178). Opcode 0x04 changes the timing fields of an ARMED or WAITING gate. -/
def execGateUpdate (fn : BitVec 9) (h : CmdHdr) (loc : BitVec 10) (mask : BitVec 4) (comp : BitVec 32) (target :
    BitVec 16) (earliest : DWord) (latest : DWord) (s : State) : Result :=
  runMem (whenAliveM (onFnM fn.toNat (decideNow fn.toNat h (.gateUpdate loc mask comp target earliest latest)))) s

/-- GATE_CANCEL (R179). Opcode 0x05 cancels a gate, or has no effect within 10 µs of F. -/
def execGateCancel (fn : BitVec 9) (h : CmdHdr) (loc : BitVec 10) (s : State) : Result :=
  runMem (whenAliveM (onFnM fn.toNat (decideNow fn.toNat h (.gateCancel loc)))) s

/-- GATE_READ (R352). Opcode 0x06 writes the 64-byte gate entry to host memory. -/
def execGateRead (fn : BitVec 9) (h : CmdHdr) (loc : BitVec 10) (addr : DWord) (s : State) : Result :=
  runMem (whenAliveM (onFnM fn.toNat (decideNow fn.toNat h (.gateRead loc addr)))) s

/-- PUBLISH (R290). Opcode 0x08 writes members of a PCB and publishes at its effective instant, or holds it. -/
def execPublish (fn : BitVec 9) (h : CmdHdr) (count : BitVec 9) (pcb : BitVec 10) (items : List PubItem) (s :
    State) : Result :=
  runMem (whenAliveM (onFnM fn.toNat (decideNow fn.toNat h (.publish count pcb items)))) s

/-- LOCK_SELECT (R298). Opcode 0x0C allocates or renews a control lock for an object. -/
def execLockSelect (fn : BitVec 9) (h : CmdHdr) (obj : BitVec 32) (lease : BitVec 32) (keep : Bool) (s : State) :
    Result :=
  runMem (whenAliveM (onFnM fn.toNat (decideNow fn.toNat h (.lockSelect obj lease keep)))) s

/-- LOCK_OPERATE (R299). Opcode 0x0D carries out the embedded command under a selected lock. -/
def execLockOperate (fn : BitVec 9) (h : CmdHdr) (obj : BitVec 32) (emb : Emb) (s : State) : Result :=
  runMem (whenAliveM (onFnM fn.toNat (decideNow fn.toNat h (.lockOperate obj emb)))) s

/-- LOCK_RENEW (R298). Opcode 0x0E restarts the lease of a selected lock. -/
def execLockRenew (fn : BitVec 9) (h : CmdHdr) (obj : BitVec 32) (lease : BitVec 32) (s : State) : Result :=
  runMem (whenAliveM (onFnM fn.toNat (decideNow fn.toNat h (.lockRenew obj lease)))) s

/-- LOCK_CANCEL (R298). Opcode 0x0F frees a lock and discards its held embedded command. -/
def execLockCancel (fn : BitVec 9) (h : CmdHdr) (obj : BitVec 32) (s : State) : Result :=
  runMem (whenAliveM (onFnM fn.toNat (decideNow fn.toNat h (.lockCancel obj)))) s

/-- CAPTURE_ARM (R404). Opcode 0x10 checks and arms a capture over a region of granted segments. -/
def execCaptureArm (fn : BitVec 9) (h : CmdHdr) (arm : CapArm) (s : State) : Result :=
  runMem (whenAliveM (onFnM fn.toNat (decideNow fn.toNat h (.captureArm arm)))) s

/-- CAPTURE_DISARM (R406). Opcode 0x11 ends a capture, truncating or discarding its open record. -/
def execCaptureDisarm (fn : BitVec 9) (h : CmdHdr) (cap : BitVec 5) (s : State) : Result :=
  runMem (whenAliveM (onFnM fn.toNat (decideNow fn.toNat h (.captureDisarm cap)))) s

/-- CAPTURE_FORCE (R407). Opcode 0x12 presents a trigger at the acceptance instant. -/
def execCaptureForce (fn : BitVec 9) (h : CmdHdr) (cap : BitVec 5) (s : State) : Result :=
  runMem (whenAliveM (onFnM fn.toNat (decideNow fn.toNat h (.captureForce cap)))) s

/-- TABLE_LOAD (R355). Opcode 0x40 verifies a signed container and writes subscription entries or arms PF gates
together. -/
def execTableLoad (fn : BitVec 9) (h : CmdHdr) (len : BitVec 32) (container : List Byte) (s : State) : Result :=
  runMem (whenAliveM (onFnM fn.toNat (decideNow fn.toNat h (.tableLoad len container)))) s

/-- IMAGE_LOAD (R254). Opcode 0x41 loads a program image into the second bank for verification. -/
def execImageLoad (fn : BitVec 9) (h : CmdHdr) (len : BitVec 32) (image : List Byte) (s : State) : Result :=
  runMem (whenAliveM (onFnM fn.toNat (decideNow fn.toNat h (.imageLoad len image)))) s

/-- VF_SEQ_RESET (R363). Opcode 0x42 resets a disabled VF's sequence mark, pending set and backlog. -/
def execVfSeqReset (fn : BitVec 9) (h : CmdHdr) (vf : BitVec 9) (s : State) : Result :=
  runMem (whenAliveM (onFnM fn.toNat (decideNow fn.toNat h (.vfSeqReset vf)))) s

/-- SHARE_REVOKE (R385). Opcode 0x43 ends a VF's gates, locks or segments until its use is within its share. -/
def execShareRevoke (fn : BitVec 9) (h : CmdHdr) (of : BitVec 9) (mask : BitVec 3) (resv : Bool) (s : State) :
    Result :=
  runMem (whenAliveM (onFnM fn.toNat (decideNow fn.toNat h (.shareRevoke of mask resv)))) s

/-- KEY_IMPORT (R468). Opcode 0x44 checks an import blob and updates a key slot. -/
def execKeyImport (fn : BitVec 9) (h : CmdHdr) (len : BitVec 32) (blob : List Byte) (s : State) : Result :=
  runMem (whenAliveM (onFnM fn.toNat (decideNow fn.toNat h (.keyImport len blob)))) s

/-- KEY_RETIRE (R470). Opcode 0x45 removes key positions and invalidates an emptied slot and its descendants. -/
def execKeyRetire (fn : BitVec 9) (h : CmdHdr) (slot : BitVec 9) (mask : BitVec 2) (flight : List (BitVec 9 × Bool))
    (s : State) : Result :=
  runMem (whenAliveM (onFnM fn.toNat fun x =>
    onM (lateUses x.1 (flight.map fun q => (q.1.toNat, q.2))) (decideNow fn.toNat h (.keyRetire slot mask) x))) s

/-- SELFTEST (R522). Opcode 0x46 queues a self-test of a core, lane, program bank or segments. -/
def execSelftest (fn : BitVec 9) (h : CmdHdr) (kind : Byte) (index : Byte) (firstSeg : BitVec 16) (segCount :
    BitVec 17) (tmo : BitVec 16) (s : State) : Result :=
  runMem (whenAliveM (onFnM fn.toNat (decideNow fn.toNat h (.selftest kind index firstSeg segCount tmo)))) s

/-- JOURNAL_READ (R503). Opcode 0x47 starts a copy of journal records with verdicts to host memory. -/
def execJournalRead (fn : BitVec 9) (h : CmdHdr) (addr : DWord) (len : BitVec 32) (birth : Bool) (start : DWord)
    (s : State) : Result :=
  runMem (whenAliveM (onFnM fn.toNat (decideNow fn.toNat h (.journalRead addr len birth start)))) s

/-- BULK_READ (R356). Bulk OP 1 copies bytes from granted capture segments to host memory. -/
def execBulkRead (fn : BitVec 9) (opc : Byte) (tag : BitVec 32) (host : DWord) (addr : DWord) (len : BitVec 32) (s
    : State) : Result :=
  run (whenAlive (onFn fn.toNat (bulkRead fn.toNat opc.toNat tag.toNat host.toNat addr.toNat len.toNat))) s

/-- FRAME_TX (R356). Bulk OP 2 queues a PF frame for transmission on a port. -/
def execFrameTx (fn : BitVec 9) (tag : BitVec 32) (port : BitVec 4) (pcp : BitVec 3) (ts : Bool) (len : BitVec 32)
    (data : List Byte) (s : State) : Result :=
  run (whenAlive (onFn fn.toNat (frameTx fn.toNat tag.toNat port.toNat pcp.toNat ts len.toNat data))) s

/-- RX_POST (R356). Bulk OP 3 posts a receive buffer for one frame delivered to the PF. -/
def execRxPost (fn : BitVec 9) (tag : BitVec 32) (host : DWord) (len : BitVec 32) (s : State) : Result :=
  run (whenAlive (onFn fn.toNat (rxPost fn.toNat tag.toNat host.toNat len.toNat))) s

/-- BULK_TRANSFER_DONE (R390). A granted bulk transfer of at most 4 KiB completes, and a finished descriptor
completes. -/
def execBulkTransferDone (q : BitVec 9) (s : State) : Result :=
  runMem (whenGlbM (transferDone q.toNat)) s

/-- HIF_FN_ENABLE (R344). A write of HIF_FN_CTRL.EN = 1 enables a function's rings, or is refused. -/
def execHifFnEnable (fn : BitVec 9) (kickEn : Bool) (s : State) : Result :=
  run (whenWr (onFn fn.toNat (fnEnable fn.toNat kickEn))) s

/-- HIF_FN_DISABLE (R344). A write of HIF_FN_CTRL.EN = 0 stops reads and discards fetched unaccepted commands. -/
def execHifFnDisable (fn : BitVec 9) (kickEn : Bool) (s : State) : Result :=
  run (whenWr (onFn fn.toNat (fnDisable fn.toNat kickEn))) s

/-- FLR (R367). A function-level reset of a VF discards fetched commands and clears its function registers, keeping
its marks. -/
def execFlr (fn : BitVec 9) (s : State) : Result :=
  run (whenAlive (onFn fn.toNat (flr fn.toNat))) s

/-- PCIE_LINK_TRAIN (R337). The PCIe link trains or retrains, and the delivery budget and ladder step 6 are
recomputed. -/
def execPcieLinkTrain (gen : BitVec 3) (width : BitVec 5) (tag10 : Bool) (s : State) : Result :=
  run (whenGlb (linkTrain gen.toNat width.toNat tag10)) s

/-- VF_ENABLE_SET (R374). Setting VF Enable makes VFs 1 to NumVFs DISABLED. -/
def execVfEnableSet (num : BitVec 9) (s : State) : Result :=
  run (whenAlive (vfEnableSet num.toNat)) s

/-- VF_ENABLE_CLEAR (R374). Clearing VF Enable disables every VF and makes it ABSENT. -/
def execVfEnableClear (s : State) : Result :=
  runMem (whenAliveM vfEnableClear) s

/-- SERVICE_WRITE (R375). A write of HIF_SHRn_CTRL.SERVICE requests a VF's entry into or exit from service. -/
def execServiceWrite (n : BitVec 9) (on : Bool) (s : State) : Result :=
  run (whenWr (serviceWrite n.toNat on)) s

/-- SHR_FLR (R378). A write of HIF_SHRn_CTRL.FLR performs an FLR of VF n. -/
def execShrFlr (n : BitVec 9) (s : State) : Result :=
  run (whenWr (shrFlr n.toNat)) s

/-- SHARE_WRITE (R380). A share write is checked against the pools and staged, or refused. -/
def execShareWrite (f : BitVec 9) (w : BitVec 2) (data : Word) (s : State) : Result :=
  run (whenWr (onlyIf (decide (f.toNat ≤ 256 ∧ w ≠ 0#2)) (shareWrite f.toNat w.toNat data))) s

/-- ARBITRATION_CYCLE (R391). Every 64 ns the bulk arbiter grants one transfer and updates backoff and wait counts.
-/
def execArbitrationCycle (s : State) : Result :=
  run (whenGlb arbitrate) s

/-- ARB_STARVATION (R393). A requester's wait reaches STARVE_US, and starvation is flagged once. -/
def execArbStarvation (q : BitVec 9) (s : State) : Result :=
  run (whenGlb (arbStarve q.toNat)) s

/-- FLR_COMPLETE (R367). An FLR that began up to 1 ms earlier completes, FLR_BUSY clears and event 0x19 is raised to
the PF. -/
def execFlrComplete (fn : BitVec 9) (s : State) : Result :=
  run (whenAlive (onFn fn.toNat (flrComplete fn.toNat))) s

end Sys2Proof.Machine
end

