-- ==== Sys2Proof/Machine/ExecKey.lean ====
section
/-! DEFINITION. The commands of keys and attestation: one meaning per row of the command table. Each says in which phases of
the block the command acts, and calls the operation that carries it out. -/

namespace Sys2Proof.Machine

/-- KEY_COMMIT_DONE (R474). A key record is written, read back and committed, and the import or retirement
completes. -/
def execKeyCommitDone (s : State) : Result :=
  run (whenAlive keyCommitDone) s

/-- KEY_EXPIRY (R466). A key position passes NOT_AFTER with no usable successor, and event 0x0E is raised. -/
def execKeyExpiry (slot : BitVec 9) (s : State) : Result :=
  run (whenAlive (keyExpiry slot.toNat)) s

/-- MR3_EXT (R459). A write of KEY_CTRL.MR3_EXT extends MR3 with the data words. -/
def execMr3Ext (s : State) : Result :=
  run (whenWr mr3Ext) s

/-- ATT_GO (R483). A write of KEY_CTRL.ATT_GO takes the claims and starts an attestation statement. -/
def execAttGo (s : State) : Result :=
  run (whenWr attGo) s

/-- ATT_DONE (R483). The signed statement and endorsement are placed in table 2. -/
def execAttDone (s : State) : Result :=
  run (whenAlive attDone) s

/-- LC_GO (R482). A write of KEY_CTRL.LC_GO checks a life-cycle request and programs the fuses. -/
def execLcGo (s : State) : Result :=
  run (whenWr lcGo) s

/-- LC_DESTRUCTION_DONE (R482). The destruction that a life-cycle transition requires is complete. -/
def execLcDestructionDone (s : State) : Result :=
  run (whenAlive lcDestructionDone) s

/-- MIG_PREPARE (R478). A write of KEY_MIG_CTRL.PREPARE starts verification of new firmware and re-wrapping of
migratable slots. -/
def execMigPrepare (boot : Bool) (s : State) : Result :=
  run (whenWr (migPrepare boot)) s

/-- MIG_PREPARE_DONE (R478). Migration preparation ends with PHASE 2, or with a verification failure. -/
def execMigPrepareDone (s : State) : Result :=
  run (whenAlive migPrepareDone) s

/-- MIG_CANCEL (R478). A write of KEY_MIG_CTRL.CANCEL erases the migrated copies and returns PHASE to 0. -/
def execMigCancel (s : State) : Result :=
  run (whenWr migCancel) s

/-- KEY_TBL_READ (R486). A GO with WRITE 0 returns a slot status, measurement, attestation or public-key entry. -/
def execKeyTblRead (cmd : Word) (s : State) : Result :=
  run (whenWr (keyTblRead (setBit cmd 20 false))) s

/-- KEY_TBL_WRITE (R486). A GO with WRITE 1 writes table 4 in maintenance, or is refused. -/
def execKeyTblWrite (cmd : Word) (s : State) : Result :=
  run (whenWr (keyTblWrite (setBit cmd 20 true))) s

end Sys2Proof.Machine
end

