-- ==== Sys2Proof/Machine/ExecMac.lean ====
section
/-! DEFINITION. The commands of ports and frames: one meaning per row of the command table. Each says in which phases of
the block the command acts, and calls the operation that carries it out. -/

namespace Sys2Proof.Machine

/-- MAC_PORT_ENABLE (R72). A write of MAC_PORTn_CTRL.EN enables a port, which reads its optic and trains, or is
refused on a bad SPEED or MAX_LEN. -/
def execMacPortEnable (p : BitVec 4) (data : Word) (optic : Option Optic) (s : State) : Result :=
  run (whenWr (onPort p.toNat fun m => txLost (portCtrlWrite p.toNat data optic m))) s

/-- MAC_RETRAIN (R73). A write of RETRAIN makes the port retrain from its configured speed. -/
def execMacRetrain (p : BitVec 4) (s : State) : Result :=
  run (whenWr (onPort p.toNat fun m => txLost (portRetrain p.toNat m))) s

/-- TRAIN_TIMEOUT (R72). A link reaches no block lock within 500 ms, and the port tries the next speed in its
fallback order. -/
def execTrainTimeout (p : BitVec 4) (s : State) : Result :=
  run (whenAlive (onPort p.toNat (trainTimeout p.toNat))) s

/-- LINK_UP (R73). A port's link comes up, possibly below its configured speed, which enters ladder step 4. -/
def execLinkUp (p : BitVec 4) (hundred : Bool) (fec : BitVec 2) (s : State) : Result :=
  run (whenAlive (onPort p.toNat (linkComesUp p.toNat hundred fec.toNat))) s

/-- LINK_DOWN (R73). A port's link goes down, its queued frames are discarded, and it retrains from the configured
speed. -/
def execLinkDown (p : BitVec 4) (s : State) : Result :=
  run (whenAlive (onPort p.toNat fun m => txLost (linkGoesDown p.toNat m))) s

/-- OPTIC_POLL (R75). Once per second, the module reads each optic's diagnostic page and raises alarms that are
newly set. -/
def execOpticPoll (p : BitVec 4) (temp : BitVec 16) (vcc : BitVec 16) (bias : BitVec 16) (tx : BitVec 16) (rx :
    BitVec 16) (aw : Word) (s : State) : Result :=
  run (whenAlive (onPort p.toNat fun m => opticRead m (p.toNat, temp.toNat, vcc.toNat, bias.toNat, tx.toNat, rx.toNat, aw))) s

/-- FRAME_RX (R77). A whole frame is received on a port, checked, and classified and handed on. -/
def execFrameRx (p : BitVec 4) (beyond : Bool) (f : Frame) (s : State) : Result :=
  runMem (whenAliveM (frameRx p.toNat beyond f)) s

/-- FRAME_TX_START (R83). A queued frame is chosen by priority and starts on the wire once it lies whole in the
transmit buffer. -/
def execFrameTxStart (p : BitVec 4) (s : State) : Result :=
  run (whenAlive (frameTxStart p.toNat)) s

/-- PFC_PAUSE_EXPIRY (R84). The pause quanta of a held priority expire, and its queue is released. -/
def execPfcPauseExpiry (p : BitVec 4) (prio : BitVec 3) (s : State) : Result :=
  run (whenAlive (onPort p.toNat (pauseExpiry p.toNat prio.toNat))) s

/-- PFC_XOFF_REPEAT (R85). Half the quanta time passes with the bulk queue above 16 KiB, and XOFF is repeated. -/
def execPfcXoffRepeat (p : BitVec 4) (s : State) : Result :=
  run (whenAlive (onPort p.toNat (xoffRepeat p.toNat))) s

/-- NODE_FORGET_EXPIRY (R88). A node-table entry unheard for MAC_NODE_FORGET seconds is removed. -/
def execNodeForgetExpiry (pair : BitVec 3) (src : BitVec 48) (s : State) : Result :=
  run (whenAlive (nodeForget pair.toNat src)) s

/-- SUPERVISION_SEND (R89). Every LIFE_CHECK × 100 ms, a PRP or HSR supervision frame is sent on both ports of a
pair. -/
def execSupervisionSend (pair : BitVec 3) (s : State) : Result :=
  run (whenAlive (onlyIf (decide (pair.toNat < 5)) (supervision pair.toNat))) s

/-- MAC_PAIRMODE_WRITE (R86). A write of MAC_PAIRMODE sets pair modes, or is ignored while a port is enabled or on a
reserved or invalid code. -/
def execMacPairmodeWrite (data : Word) (s : State) : Result :=
  run (whenWr (pairModeWrite data)) s

end Sys2Proof.Machine
end

