-- ==== Sys2Proof/Machine/ExecOut.lean ====
section
/-! DEFINITION. The commands of publication and control locks: one meaning per row of the command table. Each says in which phases of
the block the command acts, and calls the operation that carries it out. -/

namespace Sys2Proof.Machine

/-- PUBLISH_TARGET (R291). A held publication command reaches its target instant and is published. -/
def execPublishTarget (pcb : BitVec 10) (s : State) : Result :=
  run (whenAlive (pubTarget pcb.toNat)) s

/-- GOOSE_RETRANSMIT (R285). The next retransmission of a PCB falls due on its curve and is sent with sqNum raised.
-/
def execGooseRetransmit (pcb : BitVec 10) (s : State) : Result :=
  run (whenAlive (retransmit pcb.toNat)) s

/-- SUB_TAL_EXPIRY (R296). timeAllowedtoLive plus GRACE_MS passes without a refreshing message, and the subscription
becomes LOST. -/
def execSubTalExpiry (ix : BitVec 10) (s : State) : Result :=
  run (whenAlive (fun m => gooseDemand ix.toNat (subExpiry ix.toNat m))) s

/-- LOCK_LEASE_END (R301). A SELECTED lock's lease ends, and the lock is released. -/
def execLockLeaseEnd (k : BitVec 8) (s : State) : Result :=
  run (whenAlive (leaseEnd k.toNat)) s

/-- OUT_TBL_READ (R303). A GO with WRITE 0 returns an OUT table entry. -/
def execOutTblRead (cmd : Word) (s : State) : Result :=
  run (whenWr (outTblRead (setBit cmd 21 false))) s

/-- OUT_TBL_WRITE (R303). A GO with WRITE 1 stages an OUT table entry, or is refused for read-only tables. -/
def execOutTblWrite (cmd : Word) (s : State) : Result :=
  run (whenWr (outTblWrite (setBit cmd 21 true))) s

end Sys2Proof.Machine
end

