-- ==== Sys2Proof/Machine/ExecPar.lean ====
section
/-! DEFINITION. The commands of pair operation: one meaning per row of the command table. Each says in which phases of
the block the command acts, and calls the operation that carries it out. -/

namespace Sys2Proof.Machine

/-- PAIR_EN_WRITE (R438). A write of PAR_CTRL.PAIR_EN enters LISTEN or sets OFF, or is refused. -/
def execPairEnWrite (data : Word) (s : State) : Result :=
  run (whenWr (pairEnWrite data)) s

/-- PAR_RESYNC (R438). A write of PAR_CTRL.RESYNC in DEMOTED sends RESYNC_REQ and enters SYNCING. -/
def execParResync (s : State) : Result :=
  run (whenWr parResync) s

/-- HEARTBEAT_SEND (R431). On its schedule, a heartbeat is sent on the Baswick link or the process-bus path. -/
def execHeartbeatSend (s : State) : Result :=
  run (whenAlive heartbeatSend) s

/-- FRAGMENT_TIMEOUT (R434). A message's fragments do not all arrive within 50 µs, and it is discarded. -/
def execFragmentTimeout (s : State) : Result :=
  run (whenAlive fragmentTimeout) s

/-- PATH_TIMEOUT (R433). No valid heartbeat arrives on a path for 400 µs, and the path goes down. -/
def execPathTimeout (path : Bool) (s : State) : Result :=
  run (whenAlive (pathTimeout path)) s

/-- PEER_FAILED (R433). 400 µs pass since the last valid heartbeat on either path, and the peer is failed. -/
def execPeerFailed (s : State) : Result :=
  runMem (whenAliveM peerFailed) s

/-- LISTEN_TIMEOUT (R438). No ACTIVE or STANDBY peer is heard for the listen time, and a LISTEN module with ALONE_OK
becomes ACTIVE. -/
def execListenTimeout (s : State) : Result :=
  run (whenAlive listenTimeout) s

/-- DEMOTED_TIMEOUT (R438). No peer is heard for 1 s, and a DEMOTED module returns to LISTEN. -/
def execDemotedTimeout (s : State) : Result :=
  run (whenAlive demotedTimeout) s

/-- RESYNC_RETRY (R438). 1 s after an unsuccessful resync, RESYNC_REQ is repeated. -/
def execResyncRetry (s : State) : Result :=
  run (whenAlive resyncRetry) s

/-- RESYNC_TIMEOUT (R452). A resync has not ended 2 s after the snapshot, and the active module sends RESYNC_END
with RESULT 8. -/
def execResyncTimeout (s : State) : Result :=
  run (whenAlive resyncTimeout) s

/-- TX_WATCHDOG (R449). An ACTIVE module sends no heartbeat for 300 µs, and the safety supervisor demotes it. -/
def execTxWatchdog (s : State) : Result :=
  run (whenAlive txWatchdog) s

/-- HEALTH_REPORT_SEND (R454). In PROVEN mode, a STANDBY module sends a HEALTH_REPORT every second. -/
def execHealthReportSend (s : State) : Result :=
  run (whenAlive healthSend) s

/-- HEALTH_REPORT_TIMEOUT (R454). No health report arrives for 3 s, and event 0x7E with kind 1 is raised. -/
def execHealthReportTimeout (s : State) : Result :=
  run (whenAlive healthTimeout) s

end Sys2Proof.Machine
end

