-- ==== Sys2Proof/Machine/ExecSio.lean ====
section
/-! DEFINITION. The commands of safety I/O: one meaning per row of the command table. Each says in which phases of
the block the command acts, and calls the operation that carries it out. -/

namespace Sys2Proof.Machine

/-- SIO_INPUT_SAMPLE (R309). Every 250 µs each channel samples its input receivers, and filtered states change after
FILT_US. -/
def execSioInputSample (rawA : Word) (rawB : Word) (s : State) : Result :=
  run (whenAlive (inputSample rawA.toNat rawB.toNat)) s

/-- INPUT_DISAGREE_TIMEOUT (R310). The two receivers of an input differ for longer than 2 ms, and the input becomes
FAULT. -/
def execInputDisagreeTimeout (ix : BitVec 5) (s : State) : Result :=
  run (whenAlive (inputDisagree ix.toNat)) s

/-- INPUT_AGREE_TIMEOUT (R310). Both receivers of a FAULT input agree for 100 ms, and the input leaves FAULT. -/
def execInputAgreeTimeout (ix : BitVec 5) (s : State) : Result :=
  run (whenAlive (inputAgree ix.toNat)) s

/-- SAFETY_CYCLE (R312). Every 1 ms each channel latches inputs, evaluates evaluations and demands, and applies
results to its switches. -/
def execSafetyCycle (s : State) : Result :=
  run (whenAlive safetyCycle) s

/-- CROSSLINK_HEARTBEAT (R308). Every 100 µs channel A sends a heartbeat over the cross-link. -/
def execCrosslinkHeartbeat (s : State) : Result :=
  run (whenAlive crossBeat) s

/-- CROSSLINK_MSG_RX (R308). A cross-link message is received and checked, and channel B acts on a demand. -/
def execCrosslinkMsgRx (toB : Bool) (ok : Bool) (s : State) : Result :=
  run (whenAlive (crossRx toB ok)) s

/-- CROSSLINK_SILENCE (R308). No valid heartbeat for 500 µs makes the channel open its switches and cut the
timed-output supply. -/
def execCrosslinkSilence (chB : Bool) (s : State) : Result :=
  run (whenAlive (crossSilence chB)) s

/-- CHB_RATE_CHECK (R307). Channel B finds module time beyond 100 ppm of its own clock over 100 ms and declares a
mismatch. -/
def execChbRateCheck (ppm : BitVec 20) (s : State) : Result :=
  run (whenAlive (chbRate ppm.toNat)) s

/-- TOUT_READBACK_FAULT (R314). Timed-output readback differs for longer than 10 µs, and the output becomes FAULT
and off. -/
def execToutReadbackFault (t : BitVec 4) (s : State) : Result :=
  run (whenAlive (toutReadback t.toNat)) s

/-- TOUT_OPEN_LOAD (R315). An off output draws under 1 mA for 100 ms, and OPEN_LOAD is set. -/
def execToutOpenLoad (t : BitVec 4) (s : State) : Result :=
  run (whenAlive (toutOpenLoad t.toNat)) s

/-- SIO_TOUT_RESET (R314). A write of SIO_TOUT_RESET clears a timed output's FAULT when readback agrees with off. -/
def execSioToutReset (data : Word) (back : BitVec 16) (s : State) : Result :=
  run (whenWr (toutReset data back.toNat)) s

/-- DEMAND_MIN_EXPIRY (R317). MIN_DEM_MS elapses with no source demanding, and the pair leaves demand. -/
def execDemandMinExpiry (p : BitVec 3) (s : State) : Result :=
  run (whenAlive (demandMin p.toNat)) s

/-- SIO_LATCH_RESET (R317). A write of SIO_PAIR_RESET.LATCH clears a pair's latched demand unless another source
demands. -/
def execSioLatchReset (data : Word) (s : State) : Result :=
  run (whenWr (latchReset data)) s

/-- SIO_LOCKOUT_RESET (R322). A write of SIO_PAIR_RESET.LOCKOUT runs a test on each channel and clears LOCKOUT when
both pass. -/
def execSioLockoutReset (data : Word) (cleared : Byte) (s : State) : Result :=
  run (whenWr (lockoutReset data cleared.toNat)) s

/-- PAIR_READBACK_MISMATCH (R320). Pair readback disagrees for longer than 50 µs, and the pair enters LOCKOUT. -/
def execPairReadbackMismatch (p : BitVec 3) (stuck : Bool) (s : State) : Result :=
  run (whenAlive (pairReadback p.toNat stuck)) s

/-- FEEDBACK_TIMEOUT (R321). A feedback input misses its expected state for FB_MS, and the pair enters LOCKOUT with
reason 3. -/
def execFeedbackTimeout (ix : BitVec 5) (s : State) : Result :=
  run (whenAlive (fbTimeout ix.toNat)) s

/-- EVAL_DISCREPANCY_TIMEOUT (R323). A two-channel input discrepancy lasts longer than DISC_MS, and the evaluation's
safe reaction follows. -/
def execEvalDiscrepancyTimeout (k : BitVec 3) (s : State) : Result :=
  run (whenAlive (evalDisc k.toNat)) s

/-- EVAL_WINDOW_TIMEOUT (R324). WIN_MS passes without IN_B rising, and the two-step operation is refused. -/
def execEvalWindowTimeout (k : BitVec 3) (s : State) : Result :=
  run (whenAlive (evalWindow k.toNat)) s

/-- EVAL_PULSE_END (R323). PULSE_MS after a two-step operation, its demand ends. -/
def execEvalPulseEnd (k : BitVec 3) (s : State) : Result :=
  run (whenAlive (evalPulse k.toNat)) s

/-- PAIR_TEST_PULSE (R327). On its schedule, a test pulse of one channel of a pair starts. -/
def execPairTestPulse (p : BitVec 3) (chB : Bool) (s : State) : Result :=
  run (whenAlive (pairTestPulse p.toNat (b2n chB))) s

/-- TEST_PULSE_CONFIRM (R327). Readback confirms the tested switch changed and returned, and the test ends passed.
-/
def execTestPulseConfirm (tout : Bool) (ix : BitVec 4) (s : State) : Result :=
  run (whenAlive (testConfirm tout ix.toNat)) s

/-- TEST_PULSE_TIMEOUT (R327). A test has no confirmation at 300 µs, and it fails with LOCKOUT or output FAULT. -/
def execTestPulseTimeout (tout : Bool) (ix : BitVec 4) (s : State) : Result :=
  run (whenAlive (testTimeout tout ix.toNat)) s

/-- TOUT_TEST_PULSE (R328). On its schedule, an off-pulse test of an on timed output starts, or is deferred near a
gate edge. -/
def execToutTestPulse (t : BitVec 4) (s : State) : Result :=
  run (whenAlive (toutTestPulse t.toNat)) s

/-- TEST_RETRY (R329). 100 ms after a deferral, a deferred test is retried. -/
def execTestRetry (tout : Bool) (ix : BitVec 4) (chB : Bool) (s : State) : Result :=
  run (whenAlive (testRetry tout ix.toNat (b2n chB))) s

/-- SIO_RUN (R333). A write of SIO_CTRL.RUN = 1 checks IO_EN, channel B and the CRC, and starts the start-up tests.
-/
def execSioRun (s : State) : Result :=
  run (whenWr sioRun) s

/-- SIO_START_TESTS_DONE (R333). The start-up tests end, and RUNNING is set. -/
def execSioStartTestsDone (badPairs : Byte) (badTouts : BitVec 16) (s : State) : Result :=
  run (whenAlive (sioStartDone badPairs.toNat badTouts.toNat)) s

/-- SIO_STOP (R333). A write of SIO_CTRL.RUN = 0 de-energises every output and clears SAFE_FAULT. -/
def execSioStop (s : State) : Result :=
  run (whenWr sioStop) s

/-- SIO_TBL_READ (R335). A GO with WRITE 0 returns an SIO table entry. -/
def execSioTblRead (cmd : Word) (s : State) : Result :=
  run (whenWr (sioTblRead (setBit cmd 20 false))) s

/-- SIO_TBL_WRITE (R335). A GO with WRITE 1 writes an SIO configuration entry while RUN is 0, or is refused. -/
def execSioTblWrite (cmd : Word) (s : State) : Result :=
  run (whenWr (sioTblWrite (setBit cmd 20 true))) s

end Sys2Proof.Machine
end

