-- ==== Sys2Proof/Machine/ExecSvi.lean ====
section
/-! DEFINITION. The commands of sampled-value ingest: one meaning per row of the command table. Each says in which phases of
the block the command acts, and calls the operation that carries it out. -/

namespace Sys2Proof.Machine

/-- SVI_TBL_READ (R130). A GO with WRITE 0 returns a subscription or stream-status entry in the data words. -/
def execSviTblRead (cmd : Word) (s : State) : Result :=
  run (whenWr (sviTblRead (setBit cmd 13 false))) s

/-- SVI_TBL_WRITE (R130). A GO with WRITE 1 stages a subscription entry for commit, or is refused. -/
def execSviTblWrite (cmd : Word) (s : State) : Result :=
  run (whenWr (sviTblWrite (setBit cmd 13 true))) s

/-- SVI_RUN (R115). A write of SVI_CTRL.RUN = 1 latches G and starts planes from the next plane tick, or is refused
while the grid does not run. -/
def execSviRun (s : State) : Result :=
  run (whenWr sviRun) s

/-- SVI_STOP (R115). A write of SVI_CTRL.RUN = 0 requests a stop of SVI at the next plane tick and disarms every
capture. -/
def execSviStop (s : State) : Result :=
  runMem (whenWrM (fun s => disarmAll (fun _ => true) 5 (onM sviStop s))) s

/-- SVI_PLANE_WRITE (R115). A write of SVI_PLANE sets plane rate and hold time, or is ignored and named while SVI or
a program runs. -/
def execSviPlaneWrite (data : Word) (s : State) : Result :=
  run (whenWr (fun m => step6 (sviPlaneWrite data m))) s

/-- STREAM_SILENT (R117). A receiving stream reaches SVI_SILENT.SAMPLES consecutive missing instants and becomes
SILENT. -/
def execStreamSilent (ix : BitVec 10) (s : State) : Result :=
  run (whenAlive (streamSilent ix.toNat)) s

/-- INGEST_OVERLOAD (R128). Load exceeds capacity for four consecutive plane ticks, and the next priority is
decimated. -/
def execIngestOverload (s : State) : Result :=
  run (whenAlive ingestOverload) s

/-- DECIM_RETURN (R128). Load stays below 90 % for 1 s, and the highest decimated priority returns. -/
def execDecimReturn (s : State) : Result :=
  run (whenAlive decimReturn) s

end Sys2Proof.Machine
end

