-- ==== Sys2Proof/Machine/ExecTim.lean ====
section
/-! DEFINITION. The commands of time: one meaning per row of the command table. Each says in which phases of
the block the command acts, and calls the operation that carries it out. -/

namespace Sys2Proof.Machine

/-- TIM_RUN (R47). A write of TIM_CTRL.RUN loads module time once from the selected clock and starts it. -/
def execTimRun (data : Word) (s : State) : Result :=
  run (whenWr (timRunWrite data)) s

/-- GRID_START (R47). The sample grid starts at the first whole module-time second at or after the load. -/
def execGridStart (s : State) : Result :=
  run (whenAlive gridStart) s

/-- TIM_INC_COMMIT (R45). A write of TIM_INC_x_HI commits the staged fraction with the integer part, or is rejected
outside ±1000 ppm. -/
def execTimIncCommit (clkB : Bool) (hi : Word) (s : State) : Result :=
  run (whenWr (timIncWrite clkB hi)) s

/-- TIM_STEP (R46). A write of TIM_STEP_x_HI adds the signed step to clock x, or is refused when the residual would
exceed the limit. -/
def execTimStep (clkB : Bool) (hi : Word) (s : State) : Result :=
  run (whenWr (timStepWrite clkB hi)) s

/-- TIM_SLEW_WRITE (R49). A write of TIM_SLEW.RATE or TIM_SLEW_LIMIT.LIMIT stores the value, or ignores and names a
zero or out-of-range value. -/
def execTimSlewWrite (limit : Bool) (data : Word) (s : State) : Result :=
  run (whenWr (timSlewWrite limit data)) s

/-- TIM_SEL_WRITE (R50). A write of TIM_SEL changes the selected clock at the next edge, or is refused when the
residual would exceed the limit. -/
def execTimSelWrite (data : Word) (s : State) : Result :=
  run (whenWr (timSelWrite data)) s

/-- TIM_LOCK_WRITE (R56). Host software sets or clears a clock's LOCK bit and declares its class. -/
def execTimLockWrite (data : Word) (s : State) : Result :=
  run (whenWr (timLockWrite data)) s

/-- SYNC_TIMEOUT (R55). No Sync from the current master arrives within SYNC_TMO, and the PTP domain becomes LOST. -/
def execSyncTimeout (two : Bool) (s : State) : Result :=
  run (whenAlive (syncTimeout two)) s

/-- ANNOUNCE_TIMEOUT (R55). No Announce arrives within three announce intervals, and the PTP domain becomes LOST. -/
def execAnnounceTimeout (two : Bool) (s : State) : Result :=
  run (whenAlive (announceTimeout two)) s

/-- IRIG_LOST_TIMEOUT (R55). No IRIG-B frame passes its checks, or 1PPS is missing, for 3 s, and IRIG-B becomes
LOST. -/
def execIrigLostTimeout (s : State) : Result :=
  run (whenAlive irigLostTimeout) s

/-- IRIG_FRAME_RX (R65). An IRIG-B frame is received, timestamped in clock A, checked and decoded, and may make the
source usable again. -/
def execIrigFrameRx (ok : Bool) (year : Option (BitVec 16)) (sec : BitVec 25) (tq : BitVec 4) (ago : BitVec 30) (s
    : State) : Result :=
  run (whenAlive (irigFrame ok (year.map (·.toNat)) sec.toNat tq.toNat ago.toNat)) s

/-- PPS_IN_EDGE (R66). A rising edge at the 1PPS input is timestamped in clock A. -/
def execPpsInEdge (s : State) : Result :=
  run (whenAlive ppsInEdge) s

/-- PPS_MISSING_TIMEOUT (R66). 1PPS has been absent for more than 1.1 s, and TIM_FLAGS.PPS_MISSING is set. -/
def execPpsMissingTimeout (s : State) : Result :=
  run (whenAlive ppsMissing) s

/-- OCXO_FAULT (R60). The OCXO leaves its tolerance against the on-die reference, OCXO_FAULT is set and the holdover
class becomes TL. -/
def execOcxoFault (s : State) : Result :=
  run (whenAlive ocxoFault) s

/-- HOLDOVER_CLASS_STEP (R60). Elapsed holdover reaches the next row of the schedule, and the reported class steps
down. -/
def execHoldoverClassStep (s : State) : Result :=
  run (whenAlive reclass) s

/-- PDELAY_REQ_SEND (R64). Once per second, a peer-delay port sends Pdelay_Req. -/
def execPdelayReqSend (p : BitVec 4) (s : State) : Result :=
  run (whenAlive (onPort p.toNat (pdelaySend p.toNat))) s

/-- DELAY_REQ_SEND (R64). Once per second per domain, the module sends Delay_Req on P10 under the 1588 default
profile. -/
def execDelayReqSend (two : Bool) (s : State) : Result :=
  run (whenAlive (delayReqSend two)) s

/-- PPS_OUT_PULSE (R67). At each second of the named clock plus the offset, the 1PPS output rises. -/
def execPpsOutPulse (s : State) : Result :=
  run (whenAlive ppsOutPulse) s

/-- PPS_OUT_PULSE_END (R67). TIM_PPS_WIDTH after its rise, the 1PPS output falls. -/
def execPpsOutPulseEnd (s : State) : Result :=
  run (whenAlive ppsOutEnd) s

/-- TIM_SNAP (R70). A write of TIM_SNAP_CTRL.TRIG latches clocks A and B, module time and D on one edge. -/
def execTimSnap (data : Word) (s : State) : Result :=
  run (whenWr (timSnapWrite data)) s

/-- SLEW_COMPLETE (R48). The slewed residual D reaches a time-class bound or zero, so the reported class improves
and SLEWING clears. -/
def execSlewComplete (s : State) : Result :=
  run (whenAlive slewDone) s

/-- OCXO_TOLERANCE_REGAINED (R60). The OCXO returns within tolerance, and the holdover class follows the schedule
column again. -/
def execOcxoToleranceRegained (s : State) : Result :=
  run (whenAlive ocxoRegained) s

end Sys2Proof.Machine
end

