-- ==== Sys2Proof/Machine/Dispatch.lean ====
section
/-! DEFINITION. Which command has which meaning: one arm per constructor of Instr, each one call of its meaning. -/

namespace Sys2Proof.Machine

/-- A command's effect on everything but the queue. -/
def exec (i : Instr) (s : State) : Host.Outcome State Fault Refusal :=
  match i with
  | .registerWrite fn bar2 off data found => Sys2Proof.Machine.execRegisterWrite fn bar2 off data found s
  | .multiwordLoRead fn bar2 off len => Sys2Proof.Machine.execMultiwordLoRead fn bar2 off len s
  | .planeTick die => Sys2Proof.Machine.execPlaneTick die s
  | .planeClose bad => Sys2Proof.Machine.execPlaneClose bad s
  | .ladderDwellExpiry n => Sys2Proof.Machine.execLadderDwellExpiry n s
  | .timRun data => Sys2Proof.Machine.execTimRun data s
  | .gridStart => Sys2Proof.Machine.execGridStart s
  | .timIncCommit clkB hi => Sys2Proof.Machine.execTimIncCommit clkB hi s
  | .timStep clkB hi => Sys2Proof.Machine.execTimStep clkB hi s
  | .timSlewWrite limit data => Sys2Proof.Machine.execTimSlewWrite limit data s
  | .timSelWrite data => Sys2Proof.Machine.execTimSelWrite data s
  | .timLockWrite data => Sys2Proof.Machine.execTimLockWrite data s
  | .syncTimeout two => Sys2Proof.Machine.execSyncTimeout two s
  | .announceTimeout two => Sys2Proof.Machine.execAnnounceTimeout two s
  | .irigLostTimeout => Sys2Proof.Machine.execIrigLostTimeout s
  | .irigFrameRx ok year sec tq ago => Sys2Proof.Machine.execIrigFrameRx ok year sec tq ago s
  | .ppsInEdge => Sys2Proof.Machine.execPpsInEdge s
  | .ppsMissingTimeout => Sys2Proof.Machine.execPpsMissingTimeout s
  | .ocxoFault => Sys2Proof.Machine.execOcxoFault s
  | .holdoverClassStep => Sys2Proof.Machine.execHoldoverClassStep s
  | .pdelayReqSend p => Sys2Proof.Machine.execPdelayReqSend p s
  | .delayReqSend two => Sys2Proof.Machine.execDelayReqSend two s
  | .ppsOutPulse => Sys2Proof.Machine.execPpsOutPulse s
  | .ppsOutPulseEnd => Sys2Proof.Machine.execPpsOutPulseEnd s
  | .timSnap data => Sys2Proof.Machine.execTimSnap data s
  | .macPortEnable p data optic => Sys2Proof.Machine.execMacPortEnable p data optic s
  | .macRetrain p => Sys2Proof.Machine.execMacRetrain p s
  | .trainTimeout p => Sys2Proof.Machine.execTrainTimeout p s
  | .linkUp p hundred fec => Sys2Proof.Machine.execLinkUp p hundred fec s
  | .linkDown p => Sys2Proof.Machine.execLinkDown p s
  | .opticPoll p temp vcc bias tx rx aw => Sys2Proof.Machine.execOpticPoll p temp vcc bias tx rx aw s
  | .frameRx p beyond f => Sys2Proof.Machine.execFrameRx p beyond f s
  | .frameTxStart p => Sys2Proof.Machine.execFrameTxStart p s
  | .pfcPauseExpiry p prio => Sys2Proof.Machine.execPfcPauseExpiry p prio s
  | .pfcXoffRepeat p => Sys2Proof.Machine.execPfcXoffRepeat p s
  | .nodeForgetExpiry pair src => Sys2Proof.Machine.execNodeForgetExpiry pair src s
  | .supervisionSend pair => Sys2Proof.Machine.execSupervisionSend pair s
  | .macPairmodeWrite data => Sys2Proof.Machine.execMacPairmodeWrite data s
  | .sviTblRead cmd => Sys2Proof.Machine.execSviTblRead cmd s
  | .sviTblWrite cmd => Sys2Proof.Machine.execSviTblWrite cmd s
  | .sviRun => Sys2Proof.Machine.execSviRun s
  | .sviStop => Sys2Proof.Machine.execSviStop s
  | .sviPlaneWrite data => Sys2Proof.Machine.execSviPlaneWrite data s
  | .streamSilent ix => Sys2Proof.Machine.execStreamSilent ix s
  | .ingestOverload => Sys2Proof.Machine.execIngestOverload s
  | .decimReturn => Sys2Proof.Machine.execDecimReturn s
  | .fpeTblRead cmd => Sys2Proof.Machine.execFpeTblRead cmd s
  | .fpeTblWrite cmd => Sys2Proof.Machine.execFpeTblWrite cmd s
  | .glideGo data => Sys2Proof.Machine.execGlideGo data s
  | .glideEnd => Sys2Proof.Machine.execGlideEnd s
  | .refHoldExpiry r => Sys2Proof.Machine.execRefHoldExpiry r s
  | .gteWindowRead cmd => Sys2Proof.Machine.execGteWindowRead cmd s
  | .gteWindowArm cmd => Sys2Proof.Machine.execGteWindowArm cmd s
  | .gteWindowUpdate cmd => Sys2Proof.Machine.execGteWindowUpdate cmd s
  | .gteWindowCancel cmd => Sys2Proof.Machine.execGteWindowCancel cmd s
  | .gateFire ix => Sys2Proof.Machine.execGateFire ix s
  | .toutPulseEnd t => Sys2Proof.Machine.execToutPulseEnd t s
  | .peerNoticeTimeout ix => Sys2Proof.Machine.execPeerNoticeTimeout ix s
  | .taskPeriodStart t => Sys2Proof.Machine.execTaskPeriodStart t s
  | .taskRunComplete t => Sys2Proof.Machine.execTaskRunComplete t s
  | .taskOverrun t => Sys2Proof.Machine.execTaskOverrun t s
  | .doubledReturn t => Sys2Proof.Machine.execDoubledReturn t s
  | .taskOutputRelease t => Sys2Proof.Machine.execTaskOutputRelease t s
  | .coreEccError c => Sys2Proof.Machine.execCoreEccError c s
  | .coreEccCorrected c => Sys2Proof.Machine.execCoreEccCorrected c s
  | .cyeStart => Sys2Proof.Machine.execCyeStart s
  | .programStart => Sys2Proof.Machine.execProgramStart s
  | .cyeStop => Sys2Proof.Machine.execCyeStop s
  | .programStop => Sys2Proof.Machine.execProgramStop s
  | .cyeTblRead cmd => Sys2Proof.Machine.execCyeTblRead cmd s
  | .cyeTblWrite cmd => Sys2Proof.Machine.execCyeTblWrite cmd s
  | .hostWriteApply w => Sys2Proof.Machine.execHostWriteApply w s
  | .imageVerifyDone => Sys2Proof.Machine.execImageVerifyDone s
  | .lfArm => Sys2Proof.Machine.execLfArm s
  | .lfAbort => Sys2Proof.Machine.execLfAbort s
  | .lfRevert => Sys2Proof.Machine.execLfRevert s
  | .lfDiscard => Sys2Proof.Machine.execLfDiscard s
  | .lfPreSwitchCheck => Sys2Proof.Machine.execLfPreSwitchCheck s
  | .lfSwitch => Sys2Proof.Machine.execLfSwitch s
  | .lfCarryOverDone => Sys2Proof.Machine.execLfCarryOverDone s
  | .lfPeerTimeout => Sys2Proof.Machine.execLfPeerTimeout s
  | .publishTarget pcb => Sys2Proof.Machine.execPublishTarget pcb s
  | .gooseRetransmit pcb => Sys2Proof.Machine.execGooseRetransmit pcb s
  | .subTalExpiry ix => Sys2Proof.Machine.execSubTalExpiry ix s
  | .lockLeaseEnd k => Sys2Proof.Machine.execLockLeaseEnd k s
  | .outTblRead cmd => Sys2Proof.Machine.execOutTblRead cmd s
  | .outTblWrite cmd => Sys2Proof.Machine.execOutTblWrite cmd s
  | .sioInputSample rawA rawB => Sys2Proof.Machine.execSioInputSample rawA rawB s
  | .inputDisagreeTimeout ix => Sys2Proof.Machine.execInputDisagreeTimeout ix s
  | .inputAgreeTimeout ix => Sys2Proof.Machine.execInputAgreeTimeout ix s
  | .safetyCycle => Sys2Proof.Machine.execSafetyCycle s
  | .crosslinkHeartbeat => Sys2Proof.Machine.execCrosslinkHeartbeat s
  | .crosslinkMsgRx toB ok => Sys2Proof.Machine.execCrosslinkMsgRx toB ok s
  | .crosslinkSilence chB => Sys2Proof.Machine.execCrosslinkSilence chB s
  | .chbRateCheck ppm => Sys2Proof.Machine.execChbRateCheck ppm s
  | .toutReadbackFault t => Sys2Proof.Machine.execToutReadbackFault t s
  | .toutOpenLoad t => Sys2Proof.Machine.execToutOpenLoad t s
  | .sioToutReset data back => Sys2Proof.Machine.execSioToutReset data back s
  | .demandMinExpiry p => Sys2Proof.Machine.execDemandMinExpiry p s
  | .sioLatchReset data => Sys2Proof.Machine.execSioLatchReset data s
  | .sioLockoutReset data cleared => Sys2Proof.Machine.execSioLockoutReset data cleared s
  | .pairReadbackMismatch p stuck => Sys2Proof.Machine.execPairReadbackMismatch p stuck s
  | .feedbackTimeout ix => Sys2Proof.Machine.execFeedbackTimeout ix s
  | .evalDiscrepancyTimeout k => Sys2Proof.Machine.execEvalDiscrepancyTimeout k s
  | .evalWindowTimeout k => Sys2Proof.Machine.execEvalWindowTimeout k s
  | .evalPulseEnd k => Sys2Proof.Machine.execEvalPulseEnd k s
  | .pairTestPulse p chB => Sys2Proof.Machine.execPairTestPulse p chB s
  | .testPulseConfirm tout ix => Sys2Proof.Machine.execTestPulseConfirm tout ix s
  | .testPulseTimeout tout ix => Sys2Proof.Machine.execTestPulseTimeout tout ix s
  | .toutTestPulse t => Sys2Proof.Machine.execToutTestPulse t s
  | .testRetry tout ix chB => Sys2Proof.Machine.execTestRetry tout ix chB s
  | .sioRun => Sys2Proof.Machine.execSioRun s
  | .sioStartTestsDone badPairs badTouts => Sys2Proof.Machine.execSioStartTestsDone badPairs badTouts s
  | .sioStop => Sys2Proof.Machine.execSioStop s
  | .sioTblRead cmd => Sys2Proof.Machine.execSioTblRead cmd s
  | .sioTblWrite cmd => Sys2Proof.Machine.execSioTblWrite cmd s
  | .doorbellReadDone fn ok d planes => Sys2Proof.Machine.execDoorbellReadDone fn ok d planes s
  | .commandFetchDone fn ok h op => Sys2Proof.Machine.execCommandFetchDone fn ok h op s
  | .acceptanceInstant => Sys2Proof.Machine.execAcceptanceInstant s
  | .kick fn => Sys2Proof.Machine.execKick fn s
  | .nop fn h => Sys2Proof.Machine.execNop fn h s
  | .hostWrite fn h word quality value => Sys2Proof.Machine.execHostWrite fn h word quality value s
  | .gateArm fn h gate loc => Sys2Proof.Machine.execGateArm fn h gate loc s
  | .gateUpdate fn h loc mask comp target earliest latest => Sys2Proof.Machine.execGateUpdate fn h loc mask comp target earliest latest s
  | .gateCancel fn h loc => Sys2Proof.Machine.execGateCancel fn h loc s
  | .gateRead fn h loc addr => Sys2Proof.Machine.execGateRead fn h loc addr s
  | .publish fn h count pcb items => Sys2Proof.Machine.execPublish fn h count pcb items s
  | .lockSelect fn h obj lease keep => Sys2Proof.Machine.execLockSelect fn h obj lease keep s
  | .lockOperate fn h obj emb => Sys2Proof.Machine.execLockOperate fn h obj emb s
  | .lockRenew fn h obj lease => Sys2Proof.Machine.execLockRenew fn h obj lease s
  | .lockCancel fn h obj => Sys2Proof.Machine.execLockCancel fn h obj s
  | .captureArm fn h arm => Sys2Proof.Machine.execCaptureArm fn h arm s
  | .captureDisarm fn h cap => Sys2Proof.Machine.execCaptureDisarm fn h cap s
  | .captureForce fn h cap => Sys2Proof.Machine.execCaptureForce fn h cap s
  | .tableLoad fn h len container => Sys2Proof.Machine.execTableLoad fn h len container s
  | .imageLoad fn h len image => Sys2Proof.Machine.execImageLoad fn h len image s
  | .vfSeqReset fn h vf => Sys2Proof.Machine.execVfSeqReset fn h vf s
  | .shareRevoke fn h of mask resv => Sys2Proof.Machine.execShareRevoke fn h of mask resv s
  | .keyImport fn h len blob => Sys2Proof.Machine.execKeyImport fn h len blob s
  | .keyRetire fn h slot mask flight => Sys2Proof.Machine.execKeyRetire fn h slot mask flight s
  | .selftest fn h kind index firstSeg segCount tmo => Sys2Proof.Machine.execSelftest fn h kind index firstSeg segCount tmo s
  | .journalRead fn h addr len birth start => Sys2Proof.Machine.execJournalRead fn h addr len birth start s
  | .bulkRead fn opc tag host addr len => Sys2Proof.Machine.execBulkRead fn opc tag host addr len s
  | .frameTx fn tag port pcp ts len data => Sys2Proof.Machine.execFrameTx fn tag port pcp ts len data s
  | .rxPost fn tag host len => Sys2Proof.Machine.execRxPost fn tag host len s
  | .bulkTransferDone q => Sys2Proof.Machine.execBulkTransferDone q s
  | .hifFnEnable fn kickEn => Sys2Proof.Machine.execHifFnEnable fn kickEn s
  | .hifFnDisable fn kickEn => Sys2Proof.Machine.execHifFnDisable fn kickEn s
  | .flr fn => Sys2Proof.Machine.execFlr fn s
  | .pcieLinkTrain gen width tag10 => Sys2Proof.Machine.execPcieLinkTrain gen width tag10 s
  | .vfEnableSet num => Sys2Proof.Machine.execVfEnableSet num s
  | .vfEnableClear => Sys2Proof.Machine.execVfEnableClear s
  | .serviceWrite n on => Sys2Proof.Machine.execServiceWrite n on s
  | .shrFlr n => Sys2Proof.Machine.execShrFlr n s
  | .shareWrite f w data => Sys2Proof.Machine.execShareWrite f w data s
  | .arbitrationCycle => Sys2Proof.Machine.execArbitrationCycle s
  | .arbStarvation q => Sys2Proof.Machine.execArbStarvation q s
  | .capTblRead cmd => Sys2Proof.Machine.execCapTblRead cmd s
  | .capSegmentWrite cmd => Sys2Proof.Machine.execCapSegmentWrite cmd s
  | .segmentClearDone ix => Sys2Proof.Machine.execSegmentClearDone ix s
  | .rearmDone k => Sys2Proof.Machine.execRearmDone k s
  | .autoTriggerTimeout k => Sys2Proof.Machine.execAutoTriggerTimeout k s
  | .pairEnWrite data => Sys2Proof.Machine.execPairEnWrite data s
  | .parResync => Sys2Proof.Machine.execParResync s
  | .heartbeatSend => Sys2Proof.Machine.execHeartbeatSend s
  | .fragmentTimeout => Sys2Proof.Machine.execFragmentTimeout s
  | .pathTimeout path => Sys2Proof.Machine.execPathTimeout path s
  | .peerFailed => Sys2Proof.Machine.execPeerFailed s
  | .listenTimeout => Sys2Proof.Machine.execListenTimeout s
  | .demotedTimeout => Sys2Proof.Machine.execDemotedTimeout s
  | .resyncRetry => Sys2Proof.Machine.execResyncRetry s
  | .resyncTimeout => Sys2Proof.Machine.execResyncTimeout s
  | .txWatchdog => Sys2Proof.Machine.execTxWatchdog s
  | .healthReportSend => Sys2Proof.Machine.execHealthReportSend s
  | .healthReportTimeout => Sys2Proof.Machine.execHealthReportTimeout s
  | .keyCommitDone => Sys2Proof.Machine.execKeyCommitDone s
  | .keyExpiry slot => Sys2Proof.Machine.execKeyExpiry slot s
  | .mr3Ext => Sys2Proof.Machine.execMr3Ext s
  | .attGo => Sys2Proof.Machine.execAttGo s
  | .attDone => Sys2Proof.Machine.execAttDone s
  | .lcGo => Sys2Proof.Machine.execLcGo s
  | .lcDestructionDone => Sys2Proof.Machine.execLcDestructionDone s
  | .migPrepare boot => Sys2Proof.Machine.execMigPrepare boot s
  | .migPrepareDone => Sys2Proof.Machine.execMigPrepareDone s
  | .migCancel => Sys2Proof.Machine.execMigCancel s
  | .keyTblRead cmd => Sys2Proof.Machine.execKeyTblRead cmd s
  | .keyTblWrite cmd => Sys2Proof.Machine.execKeyTblWrite cmd s
  | .jnlFlushTimer => Sys2Proof.Machine.execJnlFlushTimer s
  | .jnlFlushWrite => Sys2Proof.Machine.execJnlFlushWrite s
  | .jnlFlushDone bad write => Sys2Proof.Machine.execJnlFlushDone bad write s
  | .opSecondTick => Sys2Proof.Machine.execOpSecondTick s
  | .journalReadDone damage => Sys2Proof.Machine.execJournalReadDone damage s
  | .freezeTimeout => Sys2Proof.Machine.execFreezeTimeout s
  | .crcScanGo fn c => Sys2Proof.Machine.execCrcScanGo fn c s
  | .crcScanDone c => Sys2Proof.Machine.execCrcScanDone c s
  | .crcVerify fn c => Sys2Proof.Machine.execCrcVerify fn c s
  | .crcAbort fn c => Sys2Proof.Machine.execCrcAbort fn c s
  | .snapTrig => Sys2Proof.Machine.execSnapTrig s
  | .snapRelease => Sys2Proof.Machine.execSnapRelease s
  | .diaTblRead cmd => Sys2Proof.Machine.execDiaTblRead cmd s
  | .diaTblWrite cmd => Sys2Proof.Machine.execDiaTblWrite cmd s
  | .selftestSlice => Sys2Proof.Machine.execSelftestSlice s
  | .selftestDone sig bad => Sys2Proof.Machine.execSelftestDone sig bad s
  | .selftestTimeout => Sys2Proof.Machine.execSelftestTimeout s
  | .powerOn found => Sys2Proof.Machine.execPowerOn found s
  | .strapPoll pairPos safetyIo timeSrc maint slotId => Sys2Proof.Machine.execStrapPoll pairPos safetyIo timeSrc maint slotId s
  | .bootConfirm data => Sys2Proof.Machine.execBootConfirm data s
  | .trialConfirmTimeout => Sys2Proof.Machine.execTrialConfirmTimeout s
  | .fwGo data => Sys2Proof.Machine.execFwGo data s
  | .fwWriteDone bundle flashOk => Sys2Proof.Machine.execFwWriteDone bundle flashOk s
  | .hostReset found => Sys2Proof.Machine.execHostReset found s
  | .resetModuleWrite data => Sys2Proof.Machine.execResetModuleWrite data s
  | .moduleResetEffect found => Sys2Proof.Machine.execModuleResetEffect found s
  | .fwWatchdog => Sys2Proof.Machine.execFwWatchdog s
  | .memoryUe => Sys2Proof.Machine.execMemoryUe s
  | .maintReq data => Sys2Proof.Machine.execMaintReq data s
  | .maintLeave data => Sys2Proof.Machine.execMaintLeave data s
  | .powerFailWarning => Sys2Proof.Machine.execPowerFailWarning s
  | .rideThrough => Sys2Proof.Machine.execRideThrough s
  | .holdupEnd => Sys2Proof.Machine.execHoldupEnd s
  | .supplyReturn found => Sys2Proof.Machine.execSupplyReturn found s
  | .shutdown data => Sys2Proof.Machine.execShutdown data s
  | .rtcCommit hi => Sys2Proof.Machine.execRtcCommit hi s
  | .tamperCoverOpen opens => Sys2Proof.Machine.execTamperCoverOpen opens s
  | .tamperLoopSense opens => Sys2Proof.Machine.execTamperLoopSense opens s
  | .vbatLow mv => Sys2Proof.Machine.execVbatLow mv s
  | .supplyOvervoltage aux above => Sys2Proof.Machine.execSupplyOvervoltage aux above s
  | .slewComplete => Sys2Proof.Machine.execSlewComplete s
  | .ocxoToleranceRegained => Sys2Proof.Machine.execOcxoToleranceRegained s
  | .flrComplete fn => Sys2Proof.Machine.execFlrComplete fn s
  | .powerRemoved => Sys2Proof.Machine.execPowerRemoved s
  | .backupSupplyLost => Sys2Proof.Machine.execBackupSupplyLost s

end Sys2Proof.Machine
end

