-- ==== Sys2Proof/Machine/Step.lean ====
section
/-! DEFINITION. One step: the command at the front of the queue takes effect (log entry 1); with an empty queue one edge of
the 625 MHz counter clock passes (log entry 2). -/

namespace Sys2Proof.Machine

/-- One step of the block. -/
def step (s : State) : Host.Outcome State Fault Refusal :=
  match s.pending with
  | [] => run idleEdge s
  | c :: rest => exec c { s with pending := rest }

/-- The state with a command at the front of its queue. -/
def State.push (c : Instr) (s : State) : State := { s with pending := c :: s.pending }

/-- The state with the command that a word spells at the front of its queue; no word spells one. -/
def State.withFetchWord (s : State) (nbits w : Nat) : State :=
  match decodeTableWord nbits w with
  | some c => s.push c
  | none => s

end Sys2Proof.Machine
end

