-- ==== Sys2Proof/Safety.lean ====
section
/-! DEFINITION. What counts as a safe run, and the vocabulary in which the claims say what a command does and what it
leaves alone. -/

namespace Sys2Proof.Machine

/-- The invariant of every step: the capture region is held in its canonical form. -/
abbrev State.Inv (s : State) : Prop := Memory.wf s.mem = true

/-- A run is safe when no step of it stops: no fault, no refusal. -/
def SafeRun : Nat → State → Prop
  | 0, _ => True
  | n + 1, s => ∃ t, step s = .next t ∧ SafeRun n t

/-- Reading one byte of the capture region. -/
def State.readByte (s : State) (a : Nat) : Byte := Memory.read s.mem a

/-- The parts of the module's state, one for each field. -/
inductive Part where
  | regs | staged | latched | free | tim | glb | ladder | tel | scans | hif | mac | key | svi | fpe | gte | cye
  | out | sio | cap | par
  deriving DecidableEq, Repr

/-- One part is the same in two states of the module. -/
def Part.same : Part → Pnm → Pnm → Prop
  | .regs, m, n => n.regs = m.regs
  | .staged, m, n => n.staged = m.staged
  | .latched, m, n => n.latched = m.latched
  | .free, m, n => n.free = m.free
  | .tim, m, n => n.tim = m.tim
  | .glb, m, n => n.glb = m.glb
  | .ladder, m, n => n.ladder = m.ladder
  | .tel, m, n => n.tel = m.tel
  | .scans, m, n => n.scans = m.scans
  | .hif, m, n => n.hif = m.hif
  | .mac, m, n => n.mac = m.mac
  | .key, m, n => n.key = m.key
  | .svi, m, n => n.svi = m.svi
  | .fpe, m, n => n.fpe = m.fpe
  | .gte, m, n => n.gte = m.gte
  | .cye, m, n => n.cye = m.cye
  | .out, m, n => n.out = m.out
  | .sio, m, n => n.sio = m.sio
  | .cap, m, n => n.cap = m.cap
  | .par, m, n => n.par = m.par

/-- Every part but those listed is the same. -/
def Keeps (ps : List Part) (m n : Pnm) : Prop := ∀ p : Part, p ∉ ps → p.same m n

/-- Every register but those at the listed offsets reads as before. -/
def KeepsRegs (os : List Nat) (m n : Pnm) : Prop := ∀ o : Nat, o ∉ os → rd n o = rd m o

/-- The offsets of port p's registers (MAC table 8): one page of 4 KiB. -/
def pagePort (p : Nat) : List Nat := (List.range 1024).map fun i => 0x20000 + 0x1000 * p + 4 * i

/-- Counter i of port p (MAC table 4). -/
def cntReg (p i : Nat) : Nat := Reg.port (Reg.MAC_PORT_CNT + 4 * i) p

/-- Command `c` completes in state `s`: exec answers a next state, which has the queue and every byte of the capture region
as before, a module that differs from the one before in the parts `ps` and the registers `os` at most, and of which
`P` holds. -/
def Does (c : Instr) (s : State) (ps : List Part) (os : List Nat) (P : Pnm → Prop) : Prop :=
  ∃ n : Pnm, exec c s = .next { s with m := n } ∧ Keeps ps s.m n ∧ KeepsRegs os s.m n ∧ P n

/-- The counters of frames that were dropped because their port had no link, of every port. -/
def dropCnts : List Nat := (List.range 16).map fun p => cntReg p 29

/-- What a release of task outputs may reach: frames, gates, timed outputs and pairs, captures, mirror words, peers. -/
def releaseParts : List Part := [.regs, .tel, .hif, .mac, .gte, .cye, .out, .sio, .cap, .par]

/-- The flags and counters that a release of task outputs may set or advance. -/
def releaseRegs : List Nat :=
  [Reg.CAP_FLAGS, Reg.CAP_TIN_UNUSED, Reg.GTE_FIRED, Reg.GTE_FLAGS, Reg.GTE_MISSED, Reg.OUT_FLAGS, Reg.OUT_PUB_SENT,
   Reg.SIO_FLAGS] ++ dropCnts

/-- The registers that the end of a scan writes, for every scan that runs. -/
def scanRegs (m : Pnm) : List Nat := m.scans.flatMap fun x => [Reg.ch x.ch 0x14, Reg.ch x.ch 0x1C, Reg.ch x.ch 0x28]

/-- `n` registers in a row from offset `o`. -/
def rowAt (o n : Nat) : List Nat := (List.range n).map fun k => o + 4 * k

/-- Command `c` completes in state `s` as `Does` says, but for the bytes of the capture region at which `hit` holds. -/
def DoesMem (c : Instr) (s : State) (ps : List Part) (os : List Nat) (hit : Nat → Prop) (P : Pnm → Memory → Prop) : Prop :=
  ∃ (n : Pnm) (mem : Memory), exec c s = .next { s with m := n, mem := mem } ∧ Keeps ps s.m n ∧ KeepsRegs os s.m n ∧
    (∀ a : Nat, ¬ hit a → Memory.read mem a = s.readByte a) ∧ P n mem

/-- Byte `a` lies in one of `k` segments from segment `i`. -/
def inSegs (m : Pnm) (i k a : Nat) : Prop :=
  ∃ j : Nat, i ≤ j ∧ j < i + k ∧ (getSeg m j).addr ≤ a ∧ a < (getSeg m j).addr + (getSeg m j).bytes

/-- Byte `a` lies in the segments of the record that an armed capture holds. -/
def inArmed (m : Pnm) (a : Nat) : Prop :=
  ∃ k : Nat, (getCap m k).state ≠ 0 ∧ inSegs m (getCap m k).cur.segFirst (max 1 (getCap m k).cur.span) a

/-- Command `c` completes in state `s` and changes nothing at all. -/
def DoesNothing (c : Instr) (s : State) : Prop := exec c s = .next s

/-- The events, the journal and the health tree of `n` are those of `m` after event `ev` was raised (R359, R489). -/
def Raised (ev : Ev) (m n : Pnm) : Prop := ∃ k : Pnm, k.tel = m.tel ∧ n.tel = (raise ev k).tel

/-- The module runs and takes commands (R531). -/
abbrev State.live (s : State) : Prop := alive s.m = true

/-- The module takes register writes outside GLB (R538, R561). -/
abbrev State.writable (s : State) : Prop := wrOk s.m = true

/-- GLB works: the module is neither unpowered nor held in reset. -/
abbrev State.glbLive (s : State) : Prop := glbOn s.m = true

/-- The function, the header and the opcode of a command that is decided by itself. -/
def commandOf : Instr → Option (Nat × CmdHdr × Op)
  | .nop f h => some (f.toNat, h, .nop)
  | .hostWrite f h w q v => some (f.toNat, h, .hostWrite w q v)
  | .gateArm f h g l => some (f.toNat, h, .gateArm g l)
  | .gateUpdate f h l k c t e z => some (f.toNat, h, .gateUpdate l k c t e z)
  | .gateCancel f h l => some (f.toNat, h, .gateCancel l)
  | .gateRead f h l a => some (f.toNat, h, .gateRead l a)
  | .publish f h c p items => some (f.toNat, h, .publish c p items)
  | .lockSelect f h o ms k => some (f.toNat, h, .lockSelect o ms k)
  | .lockOperate f h o e => some (f.toNat, h, .lockOperate o e)
  | .lockRenew f h o ms => some (f.toNat, h, .lockRenew o ms)
  | .lockCancel f h o => some (f.toNat, h, .lockCancel o)
  | .captureArm f h p => some (f.toNat, h, .captureArm p)
  | .captureDisarm f h c => some (f.toNat, h, .captureDisarm c)
  | .captureForce f h c => some (f.toNat, h, .captureForce c)
  | .tableLoad f h n c => some (f.toNat, h, .tableLoad n c)
  | .imageLoad f h n c => some (f.toNat, h, .imageLoad n c)
  | .vfSeqReset f h n => some (f.toNat, h, .vfSeqReset n)
  | .shareRevoke f h n k r => some (f.toNat, h, .shareRevoke n k r)
  | .keyImport f h n b => some (f.toNat, h, .keyImport n b)
  | .keyRetire f h k p _ => some (f.toNat, h, .keyRetire k p)
  | .selftest f h k i a n t => some (f.toNat, h, .selftest k i a n t)
  | .journalRead f h a n b r => some (f.toNat, h, .journalRead a n b r)
  | _ => none

/-- Command `op` of function `f` is decided alone: the function is enabled, its SEQ is not one to accept again, no lease of a
lock ends at this instant, and no peer takes part. -/
abbrev Decides (f : Nat) (h : CmdHdr) (op : Op) (s : State) : Prop :=
  s.live ∧ f ≤ 256 ∧ fnOn s.m f = true ∧ reaccepts s.m f h.seq = false ∧ leasesEnd s.m = s.m ∧ mirroring s.m = false ∧
    goesUnmirrored s.m op = false ∧ s.m.par.commits = []

/-- Command `c` passes the checks that every command has, and runs: the mark of its function takes its SEQ and HIF_ACCEPTED
counts it (R353, R363); beside that only the parts `ps`, the registers `os` and the capture bytes of `hit` may change,
and `P` holds of the next state. -/
def RunsMem (c : Instr) (f : Nat) (h : CmdHdr) (op : Op) (s : State) (ps : List Part) (os : List Nat) (hit : Nat → Prop)
    (P : Pnm → Prop) : Prop :=
  Decides f h op s → firstChecks s.m f h op = 0 →
    DoesMem c s (.regs :: .tel :: .hif :: ps) (Reg.HIF_ACCEPTED :: os) hit fun n _ =>
      (getFn n f).accSeq = h.seq ∧ rd n Reg.HIF_ACCEPTED = rd s.m Reg.HIF_ACCEPTED + 1 ∧ P n

/-- `RunsMem` for a command that changes no capture byte. -/
def Runs (c : Instr) (f : Nat) (h : CmdHdr) (op : Op) (s : State) (ps : List Part) (os : List Nat) (P : Pnm → Prop) : Prop :=
  RunsMem c f h op s ps os (fun _ => False) P

/-- Byte `a` holds a part of the MAGIC of a record in memory. -/
def inMagic (m : Pnm) (a : Nat) : Prop :=
  ∃ q ∈ m.cap.recs, (getSeg m q.1).addr ≤ a ∧ a < (getSeg m q.1).addr + 4

end Sys2Proof.Machine
end

