-- ==== Sys2Proof/Certificates/Slice0/Obligations.lean ====
section
/-! DEFINITION. The statements for the provers. Each cites the rules of the spec that it formalises; those that rest on a
choice of the model name its log entry. `Does c s parts regs P` says that command c completes in state s, that it changes at most the
named parts of the module and the named registers, and that P holds of the next state; the queue and the capture region
stay as they were. -/

open Sys2Proof Sys2Proof.Machine

/-! ## The machine as a whole -/

/-- A step runs the command at the front of the queue on the state with the queue's rest (log entry 1). -/
def Obligations.AStepRunsTheFrontCommand : Prop :=
  ∀ (s : State) (c : Instr) (rest : List Instr), s.pending = c :: rest → step s = exec c { s with pending := rest }

/-- No command touches the queue: what exec answers has the queue of the state it was given (log entry 1). No step
stops: from every state a step answers a next state, so that every run is safe. -/
def Obligations.EveryCommandCompletes : Prop :=
  (∀ (c : Instr) (s t : State), exec c s = .next t → t.pending = s.pending) ∧
  ((∀ s : State, ∃ t : State, step s = .next t) ∧ ∀ (n : Nat) (s : State), SafeRun n s)

/-- R400, R409. Every step keeps the bytes of the capture region in their one canonical form. -/
def Obligations.EveryStepKeepsTheInvariant : Prop :=
  ∀ s t : State, s.Inv → step s = .next t → t.Inv

/-- R43, R47, R48. The model's choice (log entry 2): with an empty queue a step is one edge of the counter clock. Clocks
A and B advance by their increments. Module time, where it runs, advances by the selected clock's increment and a slew
term that never leads past that clock and stays within the accumulated rate; where it does not run it stands. An
unpowered module does nothing. -/
def Obligations.AnEmptyQueueIsOneEdge : Prop :=
  ∀ s : State, s.pending = [] →
    (s.m.glb.phase = .off → step s = .next s) ∧
    (s.m.glb.phase ≠ .off →
      ∃ n : Pnm, step s = .next { s with m := n } ∧ Keeps [.regs, .tim, .tel, .mac, .out, .par] s.m n ∧
        KeepsRegs ([Reg.OUT_FLAGS, Reg.OUT_PUB_SENT] ++ dropCnts) s.m n ∧
        n.tim.edge = s.m.tim.edge + 1 ∧ n.tim.running = s.m.tim.running ∧
        n.tim.clkA = (s.m.tim.clkA + incOf s.m false) % 2 ^ 96 ∧ n.tim.clkB = (s.m.tim.clkB + incOf s.m true) % 2 ^ 96 ∧
        (s.m.tim.running = false → n.tim.mt = s.m.tim.mt) ∧
        (s.m.tim.running = true →
          ∃ d : Int, n.tim.mt = (((s.m.tim.mt + incOf s.m s.m.tim.selB : Nat) : Int) + d).toNat % 2 ^ 96 ∧
            d.natAbs ≤ (slewD s.m.tim).natAbs ∧ (0 ≤ slewD s.m.tim → 0 ≤ d) ∧ (slewD s.m.tim ≤ 0 → d ≤ 0) ∧
            d.natAbs * 1000000000 ≤ s.m.tim.slewAcc + incOf s.m s.m.tim.selB * rf s.m Reg.TIM_SLEW 16 0))

/-- R536, R562. After reset nothing waits, no byte of the capture region is stored, module time does not run, every
engine is idle, and registers hold the reset values of the map. -/
def Obligations.ResetLeavesTheMapsValues : Prop :=
  let vals : List (Nat × Word) :=
    [(Reg.TIM_CTRL, 0), (Reg.TIM_FLAGS, 0), (Reg.TIM_INC_A_LO, 0x9999999A), (Reg.TIM_INC_A_HI, 1), (Reg.TIM_INC_B_LO, 0x9999999A),
     (Reg.TIM_INC_B_HI, 1), (Reg.TIM_SLEW, 0x2710), (Reg.TIM_SLEW_LIMIT, 0x3E8), (Reg.TIM_SEL, 2),
     (Reg.TIM_DOM1_CFG, 0x1E0FF000), (Reg.TIM_DOM2_CFG, 0x1E0FF001), (Reg.TIM_UTC_OFS, 0x25), (Reg.TIM_PPS_WIDTH, 0x186A0),
     (Reg.MAC_PAIRMODE, 0x55), (Reg.MAC_PRP_CFG, 0x01901401), (Reg.MAC_HSR_CFG, 0x01901401), (Reg.MAC_NODE_FORGET, 0x3C),
     (Reg.SVI_CTRL, 0), (Reg.SVI_FLAGS, 0), (Reg.SVI_PLANE, 0x00FA0003), (Reg.SVI_LEAD_TOL, 0x32), (Reg.SVI_SILENT, 8)] ++
    [(Reg.FPE_STAT, 0xF0), (Reg.FPE_FLAGS, 0), (Reg.GTE_CTRL, 0), (Reg.GTE_HORIZON, 0x7D0), (Reg.GTE_FIRED, 0), (Reg.CYE_FLAGS, 0),
     (Reg.OUT_CTRL, 0), (Reg.OUT_FLAGS, 0), (Reg.SIO_FLAGS, 0), (Reg.HIF_CTRL, 0), (Reg.HIF_FLAGS, 0), (Reg.HIF_POLL, 0x28),
     (Reg.HIF_POOL_A, 0x01000400), (Reg.HIF_POOL_B, 0xFC0), (Reg.HIF_POOL_C, 0x10000), (Reg.shr 0 0, 9), (Reg.shr 0 2, 0x40),
     (Reg.HIF_ARB_CFG, 0x03E80003), (Reg.HIF_ARB_CFG + 8 * 257, 0x03E80002), (Reg.HIF_ARB_CFG + 8 * 258, 0x03E80001),
     (Reg.CAP_CTRL, 0), (Reg.PAR_CFG, 0x000A140D), (Reg.PAR_PB, 0x40000000), (Reg.KEY_FLAGS, 0), (Reg.JNL_CFG, 0x000A4000),
     (Reg.DIA_SNAP_CFG, 1), (Reg.CRC_FLAGS, 0)]
  State.reset.pending = [] ∧ State.reset.Inv ∧ State.reset.m.tim.running = false ∧ State.reset.m.svi.running = false ∧
    State.reset.m.cye.running = false ∧ (∀ a : Nat, State.reset.readByte a = 0) ∧
    (∀ p ∈ vals, regView State.reset.m p.1 = p.2) ∧
    (∀ p < 11, regView State.reset.m (Reg.tport Reg.TIM_PORT_CFG p) = 2) ∧
    (∀ p < 12, regView State.reset.m (Reg.port Reg.MAC_PORT_PFC p) = 0xFF ∧
      regView State.reset.m (Reg.port Reg.MAC_PORT_PTPTX p) = 8 ∧
      (p ≠ 8 → p ≠ 9 →
        regView State.reset.m (Reg.port Reg.MAC_PORT_CFG p) = (if p = 10 then 0x07D001B4#32 else 0x07D00130#32)))

/-- R531, R544, R545, R561. While the module is unpowered or held in reset, only the commands that give it supply or end
the hold act, with the removal of the supply, the tamper inputs and the backup supply: every other command changes
nothing. -/
def Obligations.NothingActsWithoutAStart : Prop :=
  ∀ (c : Instr) (s : State), ¬ s.glbLive →
    (∀ i, c ≠ .powerOn i) → (∀ i, c ≠ .hostReset i) → (∀ i, c ≠ .supplyReturn i) → c ≠ .powerRemoved →
    (∀ b, c ≠ .tamperCoverOpen b) → (∀ b, c ≠ .tamperLoopSense b) → c ≠ .backupSupplyLost → DoesNothing c s

/-- R489, R490, R496, R507. An event that is raised changes the event rings, the journal and the alarm counts alone.
Where the PF has an event ring with room in its pending set, the set takes an entry with the event's code, class, items
and time, or the count of an equal entry grows. Where the journal takes records and has room, its buffer takes a record
of the event, unless an equal one joins. -/
def Obligations.EventsReachTheRingsAndTheJournal : Prop :=
  ∀ (m : Pnm) (ev : Ev), ¬ (rb m Reg.DIA_SNAP_CFG 1 = true ∧ rf m Reg.DIA_SNAP_CFG 15 8 = ev.code) →
    let n := raise ev m
    let e := getEvt m 0
    let items := ev.items.map (· % 65536)
    let equal (p : PendEvt) : Bool := decide (p.code = ev.code ∧ p.items = items ∧ ev.code ≠ 0)
    let j := m.tel.jnl
    let payload := ev.items.flatMap (fun i => leBytes 2 i) ++ ev.extra
    Keeps [.tel] m n ∧ n.tel.dia = m.tel.dia ∧
    (evtRingOn m 0 = true → ev.cls ≠ 0 → 0 ∉ ev.fns → e.pend.any equal = false → e.pend.length < 256 →
      getEvt n 0 = { e with pend := e.pend ++
        [{ code := ev.code, cls := ev.cls, items := items, count := 1, firstNs := nowNs m, lastNs := nowNs m }] }) ∧
    (evtRingOn m 0 = true → ev.cls ≠ 0 → 0 ∉ ev.fns → e.pend.any equal = true →
      let more (p : PendEvt) := if equal p = true then { p with count := satAdd 65535 p.count 1, lastNs := nowNs m } else p
      getEvt n 0 = { e with pend := e.pend.map more }) ∧
    (evtRingOn m 0 = false → 0 ∉ ev.fns → getEvt n 0 = { e with drop := e.drop + 1 }) ∧
    n.tel.jnl.almCount = modAt j.almCount ev.cls (fun c => (c + 1) % 2 ^ 32) ∧
    n.tel.jnl.almCode = modAt j.almCode ev.cls (fun _ => ev.code) ∧
    (ev.code = 0x20 → n.tel.jnl.buf = j.buf) ∧
    (ev.code ≠ 0x20 → j.pfSealed = true → n.tel.jnl.buf = j.buf ∧ n.tel.jnl.unjournaled = j.unjournaled + 1) ∧
    (ev.code ≠ 0x20 → j.pfSealed = false → (1 ≤ ev.cls ∧ ev.cls ≤ 2) →
      findRec j.buf (j.flushing.getD 0) ev.code ev.src (some payload) = none →
      j.drops.all (· = 0) = true →
      16 * max 4 (cdiv (56 + payload.length) 16) + (if ev.cls = 2 then 32768 else 0) ≤ sharedFree j.buf →
      ∃ r : JRec, n.tel.jnl.buf = j.buf ++ [r] ∧ r.cls = ev.cls ∧ r.code = ev.code ∧ r.source = ev.src ∧ r.payload = payload ∧
        r.count = 1 ∧ r.modNs = nowNs m)

/-! ## Registers and the plane tick (chapters 01 and 18) -/

/-- R10, R554 to R559, R561. A four-byte write to an aligned flag register clears exactly the flags that are written 1;
a write of a staged _LO word stages it and changes nothing else, and an eight-byte write of _LO and _HI, or a write of
_HI alone, commits both words; fields with no behaviour of their own store the value, TIM_PPS_WIDTH ignores one above
500,000. A write narrower than four bytes, one of a function that does not exist, one at a reserved offset, and one
outside GLB between a reset request and its effect change nothing. -/
def Obligations.RegisterWritesTakeEffect : Prop :=
  ∀ (s : State) (off : BitVec 24) (v : Word) (a : AtWrite),
    let write (data : List Byte) : Instr := .registerWrite 0 false off data a
    let flags : List (Nat × Word) :=
      [(Reg.TIM_FLAGS, 0x3F), (Reg.SVI_FLAGS, 0xF), (Reg.FPE_FLAGS, 0x1F), (Reg.GTE_FLAGS, 7), (Reg.CYE_FLAGS, 0x7F),
       (Reg.OUT_FLAGS, 0xF), (Reg.SIO_FLAGS, 0x1F), (Reg.HIF_FLAGS, 7), (Reg.HIF_VF_FLAGS, 7), (Reg.CAP_FLAGS, 7),
       (Reg.PAR_FLAGS, 0x3F), (Reg.KEY_FLAGS, 0x3F), (Reg.CRC_FLAGS, 1)]
    (∀ p ∈ flags, off.toNat = p.1 → s.writable →
      Does (write (leBytes 4 v.toNat)) s [.regs] [p.1] fun n => rd n p.1 = rd s.m p.1 &&& ~~~ (v &&& p.2)) ∧
    (off.toNat = Reg.GLB_FLAGS → s.glbLive →
      Does (write (leBytes 4 v.toNat)) s [.regs] [Reg.GLB_FLAGS] fun n =>
        rd n Reg.GLB_FLAGS = rd s.m Reg.GLB_FLAGS &&& ~~~ (v &&& 0x1F)) ∧
    (off.toNat = Reg.JNL_FLAGS → s.writable →
      Does (write (leBytes 4 v.toNat)) s [.tel] [] fun n =>
        n.tel = { s.m.tel with jnl := { s.m.tel.jnl with flags := s.m.tel.jnl.flags &&& ~~~ (v &&& 0x1F) } }) ∧
    (off.toNat = Reg.DIA_FLAGS → s.writable →
      Does (write (leBytes 4 v.toNat)) s [.tel] [] fun n =>
        n.tel = { s.m.tel with dia := { s.m.tel.dia with flags := s.m.tel.dia.flags &&& ~~~ (v &&& 0xF) } }) ∧
    (∀ lo ∈ [Reg.SVI_GM_ID1_LO, Reg.SVI_GM_ID2_LO], s.writable →
      (off.toNat = lo → Does (write (leBytes 4 v.toNat)) s [.staged] [] fun n =>
        stagedLo n lo = v ∧ ∀ o : Nat, o ≠ lo → stagedLo n o = stagedLo s.m o) ∧
      (off.toNat = lo + 4 → Does (write (leBytes 4 v.toNat)) s [.regs] [lo, lo + 4] fun n =>
        rd n lo = stagedLo s.m lo ∧ rd n (lo + 4) = v) ∧
      (off.toNat = lo → ∀ w : Word,
        Does (write (leBytes 4 v.toNat ++ leBytes 4 w.toNat)) s [.regs, .staged] [lo, lo + 4] fun n =>
          rd n lo = v ∧ rd n (lo + 4) = w ∧ stagedLo n lo = v)) ∧
    (off.toNat = Reg.TIM_PPS_WIDTH → s.writable → bits v 18 0 ≤ 500000 →
      Does (write (leBytes 4 v.toNat)) s [.regs] [Reg.TIM_PPS_WIDTH] fun n =>
        rd n Reg.TIM_PPS_WIDTH = BitVec.ofNat 32 (bits v 18 0)) ∧
    (off.toNat = Reg.TIM_PPS_WIDTH → 500000 < bits v 18 0 → DoesNothing (write (leBytes 4 v.toNat)) s) ∧
    (off.toNat = Reg.TIM_UTC_OFS → s.writable →
      Does (write (leBytes 4 v.toNat)) s [.regs] [Reg.TIM_UTC_OFS] fun n => bits (rd n Reg.TIM_UTC_OFS) 15 0 = bits v 15 0) ∧
    (∀ (fn : BitVec 9) (bar2 : Bool) (data : List Byte), off.toNat % 4 + data.length < 4 →
      DoesNothing (.registerWrite fn bar2 off data a) s) ∧
    (∀ (fn : BitVec 9) (bar2 : Bool) (data : List Byte), fnExists s.m fn.toNat = false →
      DoesNothing (.registerWrite fn bar2 off data a) s) ∧
    (0x100000 ≤ off.toNat → ∀ data : List Byte, DoesNothing (write data) s) ∧
    (0x10000 ≤ off.toNat → ¬ s.writable → ∀ data : List Byte, DoesNothing (write data) s)

/-- R557. A read of the _LO word of a read-only value of several words returns it, and latches every higher word on the
same edge; a read of a higher word returns what was latched, or the current word where nothing was. Where no BAR
answers, a read changes nothing. -/
def Obligations.ReadsLatchTheHigherWords : Prop :=
  ∀ (s : State) (off : BitVec 24),
    let o := off.toNat
    let read : Instr := .multiwordLoRead 0 false off 4
    let answer (n : Pnm) (w : Word) := n.tel = { s.m.tel with out := s.m.tel.out ++ [.regRead 0 (leBytes 4 w.toNat)] }
    (o % 4 = 0 → s.live → higherWords o ≠ [] →
      Does read s [.latched, .tel] [] fun n =>
        answer n (regView s.m o) ∧ (∀ h ∈ higherWords o, NMap.get (fun _ => none) n.latched h = some (regView s.m h)) ∧
        (∀ h, h ∉ higherWords o →
          NMap.get (fun _ => none) n.latched h = NMap.get (fun _ => none) s.m.latched h)) ∧
    (o % 4 = 0 → s.live → higherWords o = [] → isHigher o = true →
      Does read s [.tel] [] fun n =>
        answer n ((NMap.get (fun _ => none) s.m.latched o).getD (regView s.m o))) ∧
    (o % 4 = 0 → s.live → higherWords o = [] → isHigher o = false →
      Does read s [.tel] [] fun n => answer n (regView s.m o)) ∧
    (¬ s.glbLive → DoesNothing read s)

/-- R20, R115, R349, R355. When the instant of the next plane tick has come, it falls: the one after it lies P grid
ticks later, the acceptance instant is set to HIF_POLL.T_US after the tick, the doorbells of the enabled functions are
read where HIF fetches, and a requested stop of SVI takes effect, with the start after it where RUN was written again.
Earlier, nothing happens. R37, R39. A step of the ladder whose trigger has gone is left when 1 s has passed since it was
entered: its event is raised with payload 0 and every node that it marked is freed of its reason. Before that, or while
a trigger stands, the step stays and nothing changes. -/
def Obligations.PlaneTicksAndTheLadder : Prop :=
  (∀ (s : State) (die : Int),
     let T := s.m.svi.nextTick
     (tickDue s.m = true →
       Does (.planeTick die) s [.regs, .glb, .ladder, .tel, .hif, .mac, .svi, .fpe, .cye, .out, .sio, .par]
         ([Reg.FPE_CFG_ERR, Reg.FPE_CHAIN_ERR, Reg.FPE_CHAIN_ERR_COUNT, Reg.FPE_FLAGS, Reg.FPE_STAT, Reg.FPE_TBL_STAT,
           Reg.OUT_CFG_ERR, Reg.OUT_FLAGS, Reg.OUT_PUB_SENT, Reg.OUT_TBL_STAT, Reg.SIO_FLAGS, Reg.SVI_CFG_ERR, Reg.SVI_CTRL,
           Reg.SVI_FLAGS, Reg.SVI_GDELAY, Reg.SVI_STAT, Reg.SVI_TBL_STAT] ++ dropCnts) fun n =>
         n.svi.nextTick = T + planeTicks s.m ∧
         n.hif.accAt = some (gridInstant T + rf s.m Reg.HIF_POLL 6 0 * 1000 * unitNs) ∧
         n.hif.dbWait = (if rb s.m Reg.HIF_CTRL 0 = true ∧ hifFetches s.m = true then (fnList s.m).filter (fnOn s.m) else []) ∧
         (s.m.svi.stopReq = true → s.m.svi.restart = false → n.svi.running = false ∧ n.svi.stopReq = false) ∧
         (s.m.svi.stopReq = true → s.m.svi.restart = true →
           n.svi.running = true ∧ n.svi.k0 = T + planeTicks s.m ∧ n.svi.nextClose = T + planeTicks s.m) ∧
         (s.m.svi.stopReq = false → n.svi.running = s.m.svi.running ∧ n.svi.nextClose = s.m.svi.nextClose)) ∧
     (tickDue s.m = false → DoesNothing (.planeTick die) s)) ∧
  (∀ (s : State) (k : BitVec 3), s.live → 1 ≤ k.toNat → k.toNat ≤ 6 →
     let x := getStep s.m k.toNat
     (x.on = true → x.trig = [] → x.since + edgesS ≤ s.m.tim.edge →
       Does (.ladderDwellExpiry k) s [.ladder, .tel] [] fun n =>
         n.ladder = { s.m.ladder with
                      steps := setAt s.m.ladder.steps (k.toNat - 1) { on := false, since := 0, trig := [], marked := [] } } ∧
         n.tel = x.marked.foldl (fun t c => nodeCauseT s.m (stepNode k.toNat c) k.toNat 0 t)
           (raise (stepEvent s.m k.toNat 0) s.m).tel) ∧
     (x.on = false ∨ x.trig ≠ [] ∨ s.m.tim.edge < x.since + edgesS → DoesNothing (.ladderDwellExpiry k) s))

/-- R21, R115, R182. At C(k) the plane of plane tick k closes: SVI_PLANES_CLOSED counts it, the next close is that of
the next plane tick, and the only bytes of memory that may change lie in the records of armed captures. With SVI
stopped, a re-prediction that is due takes place at its C(k), and no plane closes. Before either is due, nothing
happens. -/
def Obligations.PlanesCloseAtTheirInstant : Prop :=
  ∀ (s : State) (bad : BitVec 4), s.live →
    let due := s.m.svi.passes.find? fun p => decide (p.2 ≤ nowU s.m)
    let gate := [Reg.GTE_FIRED, Reg.GTE_FLAGS, Reg.GTE_MISSED, Reg.GTE_SLIP_COUNT]
    (due = none → s.m.svi.running = true → closeAt s.m s.m.svi.nextClose ≤ nowU s.m →
      DoesMem (.planeClose bad) s [.regs, .ladder, .tel, .hif, .svi, .fpe, .gte, .cap]
        (gate ++ [Reg.FPE_FLAGS, Reg.FPE_SAT_COUNT, Reg.FPE_STAT, Reg.SVI_PLANES_CLOSED, Reg.CAP_FLAGS, Reg.CAP_RECORDS] ++
          (fnList s.m).flatMap fun f => [Reg.fn f 8, Reg.fn f 0x2C, Reg.fn f 0x30]) (inArmed s.m) fun n _ =>
        n.svi.nextClose = s.m.svi.nextClose + planeTicks s.m ∧ n.svi.running = true ∧
        rd n Reg.SVI_PLANES_CLOSED = rd s.m Reg.SVI_PLANES_CLOSED + 1) ∧
    (∀ p, due = some p →
      Does (.planeClose bad) s [.regs, .tel, .svi, .gte] gate fun n =>
        n.svi = { s.m.svi with passes := s.m.svi.passes.erase p }) ∧
    (due = none → s.m.svi.running = false ∨ nowU s.m < closeAt s.m s.m.svi.nextClose →
      DoesNothing (.planeClose bad) s)

/-! ## Time (chapter 02) -/

/-- R47. A write of TIM_CTRL.RUN while module time does not run loads it from the selected clock and starts it, and the
grid start is set for the first whole second at or after the load; when it falls due, GRID_START sets the grid running
and places the first plane tick on grid tick 0 of that second (R20). Otherwise both change nothing. R44, R45. A write of
TIM_INC_x_HI commits the staged fraction with the integer part when the increment is within 1000 ppm of 1.6 ns; beyond
it nothing but TIM_FLAGS and TIM_CFG_ERR changes, and the increment stays. -/
def Obligations.TimeStartsAndIncrementsCommit : Prop :=
  (∀ s : State,
     (∀ data : Word, s.writable → bit data 0 = true → s.m.tim.running = false →
       Does (.timRun data) s [.regs, .tim, .ladder, .tel] [Reg.TIM_CTRL] fun n =>
         n.tim.running = true ∧ rb n Reg.TIM_CTRL 0 = true ∧
         n.tim.mt = (if s.m.tim.selB then s.m.tim.clkB else s.m.tim.clkA) ∧
         n.tim.hold.isSome = (srcLost s.m s.m.tim.selB || s.m.tim.hold.isSome) ∧
         ∃ g : Nat, n.tim.gridAt = some g ∧ g % (1000000000 * nsU) = 0 ∧ n.tim.mt ≤ g ∧
           g < n.tim.mt + 1000000000 * nsU) ∧
     (∀ data : Word, bit data 0 = false ∨ s.m.tim.running = true → DoesNothing (.timRun data) s) ∧
     (∀ g : Nat, s.live → s.m.tim.running = true → s.m.tim.gridAt = some g → g % (1000000000 * nsU) = 0 →
       g ≤ s.m.tim.mt →
       Does .gridStart s [.tim, .svi] [] fun n =>
         n.tim = { s.m.tim with grid := true, gridAt := none } ∧ n.svi.nextTick * unitTick = 9 * g ∧
         n.svi = { s.m.svi with nextTick := n.svi.nextTick, passes := [] })) ∧
  (∀ (s : State) (b : Bool) (hi : Word), s.writable →
     let lo := if b then Reg.TIM_INC_B_LO else Reg.TIM_INC_A_LO
     let v := (stagedLo s.m lo).toNat + 2 ^ 32 * hi.toNat
     (15984 * 2 ^ 32 ≤ 10000 * v → 10000 * v ≤ 16016 * 2 ^ 32 →
       Does (.timIncCommit b hi) s [.regs] [lo, lo + 4] fun n => incOf n b = v ∧ incOf n (!b) = incOf s.m (!b)) ∧
     (10000 * v < 15984 * 2 ^ 32 ∨ 16016 * 2 ^ 32 < 10000 * v →
       Does (.timIncCommit b hi) s [.regs] [Reg.TIM_FLAGS, Reg.TIM_CFG_ERR] fun n =>
         incOf n b = incOf s.m b ∧ rb n Reg.TIM_FLAGS 2 = true ∧ rf n Reg.TIM_CFG_ERR 7 0 = (if b then 9 else 8)))

/-- R46, R51. A write of TIM_STEP_x_HI adds the signed step in whole ns to clock x; a step of the selected clock that
would leave a residual beyond the limit while module time runs is refused, and sets TIM_FLAGS bit 1 alone. R49, R70.
TIM_SLEW.RATE and TIM_SLEW_LIMIT.LIMIT take any value from 1 to 100,000 and ignore and name every other; TIM_SNAP
latches clocks A and B, module time and D on one edge, and without TRIG latches nothing. -/
def Obligations.ClocksStepWithinTheSlewLimits : Prop :=
  (∀ (s : State) (b : Bool) (hi : Word), s.writable →
     let lo := if b then Reg.TIM_STEP_B_LO else Reg.TIM_STEP_A_LO
     let d : Int := sx 64 ((stagedLo s.m lo).toNat + 2 ^ 32 * hi.toNat) * 2 ^ 32
     let c : Nat := if b then s.m.tim.clkB else s.m.tim.clkA
     let c' : Nat := (((c : Int) + d) % 2 ^ 96).toNat
     let far := s.m.tim.running = true ∧ b = s.m.tim.selB ∧ slewLimit s.m < (sx 96 (c' + 2 ^ 96 - s.m.tim.mt)).natAbs
     (¬ far → Does (.timStep b hi) s [.tim, .tel] [] fun n =>
         n.tim = { s.m.tim with clkA := if b then s.m.tim.clkA else c', clkB := if b then c' else s.m.tim.clkB,
                                cls := n.tim.cls }) ∧
     (far → Does (.timStep b hi) s [.regs] [Reg.TIM_FLAGS] fun n => rb n Reg.TIM_FLAGS 1 = true)) ∧
  (∀ (s : State) (data : Word), s.writable →
     (∀ lim : Bool, 1 ≤ bits data 16 0 → bits data 16 0 ≤ 100000 →
       Does (.timSlewWrite lim data) s [.regs] [if lim then Reg.TIM_SLEW_LIMIT else Reg.TIM_SLEW] fun n =>
         rf n (if lim then Reg.TIM_SLEW_LIMIT else Reg.TIM_SLEW) 16 0 = bits data 16 0) ∧
     (∀ lim : Bool, bits data 16 0 = 0 ∨ 100000 < bits data 16 0 →
       Does (.timSlewWrite lim data) s [.regs] [Reg.TIM_CFG_ERR] fun n =>
         rf n Reg.TIM_CFG_ERR 7 0 = (if lim then 2 else 1)) ∧
     (bit data 0 = true →
       Does (.timSnap data) s [.tel] [] fun n =>
         n.tel = { s.m.tel with dia := { s.m.tel.dia with timSnap := timSnapWords s.m.tim } }) ∧
     (bit data 0 = false → DoesNothing (.timSnap data) s))

/-- R50, R53. A write of TIM_SEL that names the other clock selects it and raises event 0x36, unless module time runs
and the residual would exceed the limit: then the selection stays, TIM_FLAGS bit 0 is set and event 0x37 is raised. R56.
A write of TIM_LOCK sets the LOCK bit of a clock whose source is not LOST, clears the bit that is written 0, and takes
the declared classes. R59, R60. The reported class is the worst of the declared class, the class that |D| allows and the
holdover class. SLEW_COMPLETE and HOLDOVER_CLASS_STEP bring it up to date; an OCXO outside its tolerance sets TIM_FLAGS
bit 5 and makes the class TL in holdover, and its return gives the schedule's class again. -/
def Obligations.ClocksAreSelectedLockedAndClassed : Prop :=
  (∀ (s : State) (data : Word), s.writable →
     (bit data 0 = s.m.tim.selB →
       Does (.timSelWrite data) s [.regs] [Reg.TIM_SEL] fun n => rb n Reg.TIM_SEL 1 = bit data 1) ∧
     (bit data 0 ≠ s.m.tim.selB → selRefused s.m (bit data 0) = false →
       Does (.timSelWrite data) s [.regs, .tim, .ladder, .tel] [Reg.TIM_SEL] fun n =>
         n.tim.selB = bit data 0 ∧ rb n Reg.TIM_SEL 0 = bit data 0 ∧ rb n Reg.TIM_SEL 1 = bit data 1 ∧
         n.tim.mt = s.m.tim.mt ∧ n.tim.clkA = s.m.tim.clkA ∧ n.tim.clkB = s.m.tim.clkB ∧
         n.tim.hold.isSome = (s.m.tim.running && srcLost s.m (bit data 0))) ∧
     (bit data 0 ≠ s.m.tim.selB → selRefused s.m (bit data 0) = true →
       Does (.timSelWrite data) s [.regs, .tel] [Reg.TIM_SEL, Reg.TIM_FLAGS] fun n =>
         rb n Reg.TIM_SEL 0 = rb s.m Reg.TIM_SEL 0 ∧ rb n Reg.TIM_FLAGS 0 = true ∧
         Raised { src := 1, code := 0x37, cls := 2, items := [] } s.m n)) ∧
  (∀ (s : State) (data : Word), s.writable →
     Does (.timLockWrite data) s [.regs, .tim, .ladder, .tel] [Reg.TIM_LOCK] fun n =>
       rf n Reg.TIM_LOCK 15 8 = bits data 15 8 ∧
       (∀ b : Bool, bit data (b2n b) = false → rb n Reg.TIM_LOCK (b2n b) = false) ∧
       (∀ b : Bool, bit data (b2n b) = true → srcLost s.m b = false → rb n Reg.TIM_LOCK (b2n b) = true) ∧
       n.tim.clkA = s.m.tim.clkA ∧ n.tim.clkB = s.m.tim.clkB ∧ n.tim.mt = s.m.tim.mt) ∧
  (∀ (s : State), s.live →
     (∀ c : Instr, c = .slewComplete ∨ c = .holdoverClassStep →
       Does c s [.tim, .tel] [] fun n =>
         n.tim = { s.m.tim with cls := n.tim.cls } ∧
         n.tim.cls = min (declaredClass s.m) (min (classOfD (slewD s.m.tim).natAbs) (holdClass s.m.tim)) ∧
         (n.tim.cls = s.m.tim.cls → n.tel = s.m.tel) ∧
         (n.tim.cls ≠ s.m.tim.cls →
           Raised { src := 1, code := 0x39, cls := 2, items := [n.tim.cls], fns := vfList s.m } s.m n)) ∧
     (Does .ocxoFault s [.regs, .tim, .tel] [Reg.TIM_FLAGS] fun n =>
         rb n Reg.TIM_FLAGS 5 = true ∧ n.tim.ocxoBad = true ∧ (s.m.tim.hold.isSome = true → n.tim.cls = 0)) ∧
     (Does .ocxoToleranceRegained s [.tim, .tel] [] fun n =>
         n.tim.ocxoBad = false ∧
         ∀ h : Hold, s.m.tim.hold = some h → n.tim.cls ≤ holdRowClass h.long (h.pos + (s.m.tim.mt - h.startMt))))

/-- R55. When the Sync or Announce time of a domain runs out, or IRIG-B or its 1PPS has been missing for 3 s, the source
becomes LOST at that edge, and clocks and module time run on; a domain that is LOST already changes nothing. R65, R66.
An IRIG-B frame that fails its checks sets TIM_FLAGS bit 3 and shows no time; a good one shows the second it carries. A
1PPS edge is timestamped in clock A; after 1.1 s without one, TIM_FLAGS bit 4 is set. -/
def Obligations.SourcesAreWatched : Prop :=
  (∀ (s : State), s.live →
     (∀ two : Bool, (if two then s.m.tim.dom2 else s.m.tim.dom1).lost = false →
       due (if two then s.m.tim.dom2 else s.m.tim.dom1).syncDue s.m.tim.edge = true →
       Does (.syncTimeout two) s [.regs, .tim, .ladder, .tel] [Reg.TIM_LOCK, Reg.TIM_SEL, Reg.TIM_FLAGS] fun n =>
         (if two then n.tim.dom2 else n.tim.dom1).lost = true ∧
         (if two then n.tim.dom2 else n.tim.dom1).lostAt = s.m.tim.edge ∧
         n.tim.clkA = s.m.tim.clkA ∧ n.tim.clkB = s.m.tim.clkB ∧ n.tim.mt = s.m.tim.mt) ∧
     (∀ two : Bool, (if two then s.m.tim.dom2 else s.m.tim.dom1).lost = false →
       due (if two then s.m.tim.dom2 else s.m.tim.dom1).annDue s.m.tim.edge = true →
       Does (.announceTimeout two) s [.regs, .tim, .ladder, .tel] [Reg.TIM_LOCK, Reg.TIM_SEL, Reg.TIM_FLAGS] fun n =>
         (if two then n.tim.dom2 else n.tim.dom1).lost = true ∧
         (if two then n.tim.dom2 else n.tim.dom1).lostAt = s.m.tim.edge ∧
         n.tim.clkA = s.m.tim.clkA ∧ n.tim.clkB = s.m.tim.clkB ∧ n.tim.mt = s.m.tim.mt) ∧
     (∀ two : Bool, (if two then s.m.tim.dom2 else s.m.tim.dom1).lost = true →
       DoesNothing (.syncTimeout two) s ∧ DoesNothing (.announceTimeout two) s) ∧
     (rb s.m Reg.TIM_SRC_A 0 = true → s.m.tim.irig.lost = false →
       (due s.m.tim.irig.frameDue s.m.tim.edge = true ∨ due s.m.tim.irig.ppsDue s.m.tim.edge = true) →
       Does .irigLostTimeout s [.regs, .tim, .ladder, .tel] [Reg.TIM_LOCK, Reg.TIM_SEL, Reg.TIM_FLAGS] fun n =>
         n.tim.irig.lost = true ∧ n.tim.irig.lostAt = s.m.tim.edge ∧ n.tim.mt = s.m.tim.mt)) ∧
  (∀ (s : State), s.live →
     (∀ year sec tq ago, Does (.irigFrameRx false year sec tq ago) s [.regs] [Reg.TIM_IRIG_STAT, Reg.TIM_FLAGS] fun n =>
         rb n Reg.TIM_FLAGS 3 = true ∧ rb n Reg.TIM_IRIG_STAT 1 = false) ∧
     (∀ (y : BitVec 16) sec tq ago, y ≠ 0 →
       Does (.irigFrameRx true (some y) sec tq ago) s [.regs, .tim, .tel]
         [Reg.TIM_IRIG_STAT, Reg.TIM_IRIG_TS_LO, Reg.TIM_IRIG_TS_HI, Reg.TIM_IRIG_TS_FRAC, Reg.TIM_IRIG_SEC_LO,
          Reg.TIM_IRIG_SEC_HI] fun n =>
         rb n Reg.TIM_IRIG_STAT 1 = true ∧ rb n Reg.TIM_IRIG_STAT 2 = true ∧
         rd n Reg.TIM_IRIG_SEC_LO = loW (irigSecond s.m y.toNat sec.toNat) ∧
         rd n Reg.TIM_IRIG_SEC_HI = hiW (irigSecond s.m y.toNat sec.toNat)) ∧
     (Does .ppsInEdge s [.regs, .tim] [Reg.TIM_PPS_IN_TS_LO, Reg.TIM_PPS_IN_TS_HI, Reg.TIM_PPS_IN_TS_FRAC] fun n =>
         rd n Reg.TIM_PPS_IN_TS_LO = loW (s.m.tim.clkA / 2 ^ 32) ∧
         rd n Reg.TIM_PPS_IN_TS_HI = hiW (s.m.tim.clkA / 2 ^ 32) ∧
         rd n Reg.TIM_PPS_IN_TS_FRAC = loW (s.m.tim.clkA % 2 ^ 32) ∧
         n.tim.irig.ppsMissDue = some (s.m.tim.edge + 1100 * edgesMs)) ∧
     (due s.m.tim.irig.ppsMissDue s.m.tim.edge = true →
       Does .ppsMissingTimeout s [.regs, .tim] [Reg.TIM_FLAGS] fun n =>
         rb n Reg.TIM_FLAGS 4 = true ∧ n.tim.irig.ppsPresent = false ∧ n.tim.irig.ppsMissDue = none) ∧
     (due s.m.tim.irig.ppsMissDue s.m.tim.edge = false → DoesNothing .ppsMissingTimeout s))

/-- R64. Once per second, a peer-delay port queues a Pdelay_Req, and a tracked domain under the 1588 default profile a
Delay_Req on P10; the next one is due a second later. R67. When a second of the named clock plus the offset is reached,
the 1PPS output rises and hands out that instant; TIM_PPS_WIDTH later it falls. Before that, neither command changes
anything. -/
def Obligations.DelayRequestsAndThePpsOutput : Prop :=
  (∀ (s : State), s.live →
     (∀ p : BitVec 4, p.toNat < 12 → pdelayOn s.m p.toNat = true →
       s.m.tim.pdlyDue.getD p.toNat 0 ≤ s.m.tim.edge →
       Does (.pdelayReqSend p) s [.regs, .tim, .mac, .tel]
         [Reg.tport Reg.TIM_PORT_CFG p.toNat, cntReg p.toNat 29] fun n =>
         n.tim.pdlyDue = setAt s.m.tim.pdlyDue p.toNat (s.m.tim.edge + edgesS) ∧
         n.tim.pdlyReq = setAt s.m.tim.pdlyReq p.toNat true ∧ n.tim.mt = s.m.tim.mt ∧
         (portEn s.m p.toNat = true → linkUp s.m p.toNat = true →
           ∃ (i : Nat) (f : TxFrame), f.body = .pdelayReq 0 ∧
             n.mac = { s.m.mac with ports := modAt s.m.mac.ports p.toNat fun x =>
               { x with queues := modAt x.queues i (· ++ [f]) } })) ∧
     (∀ two : Bool,
       rb s.m (if two then Reg.TIM_DOM2_CFG else Reg.TIM_DOM1_CFG) 10 = true →
       rf s.m (if two then Reg.TIM_DOM2_CFG else Reg.TIM_DOM1_CFG) 9 8 = 3 →
       s.m.tim.delayDue.getD (b2n two) 0 ≤ s.m.tim.edge →
       Does (.delayReqSend two) s [.regs, .tim, .mac, .tel] [cntReg 10 29] fun n =>
         n.tim = { s.m.tim with delayDue := setAt s.m.tim.delayDue (b2n two) (s.m.tim.edge + edgesS) } ∧
         (portEn s.m 10 = true → linkUp s.m 10 = true →
           ∃ (i : Nat) (f : TxFrame) (v6 : Bool), f.body = .delayReq (1 + b2n two) v6 ∧
             n.mac = { s.m.mac with ports := modAt s.m.mac.ports 10 fun x =>
               { x with queues := modAt x.queues i (· ++ [f]) } }))) ∧
  (∀ (s : State), s.live →
     (ppsDueNow s.m = true →
       Does .ppsOutPulse s [.tim, .tel] [] fun n =>
         n.tim.ppsOut = true ∧ ∃ t : Nat, n.tel.out = s.m.tel.out ++ [.pin .ppsOut true t 0] ∧
           n.tim.ppsFall = t * 2 ^ 32 + rf s.m Reg.TIM_PPS_WIDTH 18 0 * 1000 * 2 ^ 32) ∧
     (ppsDueNow s.m = false → DoesNothing .ppsOutPulse s) ∧
     (s.m.tim.ppsOut = true → s.m.tim.ppsFall ≤ clkOf s.m (rf s.m Reg.TIM_PPS_OUT 2 1) →
       Does .ppsOutPulseEnd s [.tim, .tel] [] fun n =>
         n.tim = { s.m.tim with ppsOut := false } ∧
         n.tel.out = s.m.tel.out ++ [.pin .ppsOut false (s.m.tim.ppsFall / 2 ^ 32) 0]) ∧
     (s.m.tim.ppsOut = false → DoesNothing .ppsOutPulseEnd s))

/-! ## Ports and frames (chapter 03) -/

/-- R72, R98. A write of EN = 1 to a disabled port enables it when SPEED lies in the port's row and MAX_LEN within 64 to
2048, and training begins; a bad SPEED or MAX_LEN is named with its port and the port stays disabled. EN = 0 disables
the port and ends training. Only the port's own registers change. R72. After 500 ms without a link the port tries the
next speed of its fallback order that the optic supports, until none remains. R73. A link that comes up at the speed
under trial shows it, sets the port's flag and BELOW_CFG when the speed is not the configured one; a link that goes
down, or a port that is told to retrain, is without a link and trains again from its configured speed. Only the port's
own registers, and the factory delays of TIM, change. -/
def Obligations.PortsTrainAndFallBack : Prop :=
  (∀ (s : State) (p : BitVec 4) (data : Word) (o : Option Optic), s.writable → p.toNat < 12 →
     let len := rf s.m (pr Reg.MAC_PORT_CFG p.toNat) 27 16
     let speedOk := (portSpeeds p.toNat).contains (cfgSpeed s.m p.toNat)
     (bit data 0 = true → portEn s.m p.toNat = false → speedOk = true → 64 ≤ len → len ≤ 2048 →
       Does (.macPortEnable p data o) s [.regs, .mac, .tel, .hif] (pagePort p.toNat) fun n =>
         portEn n p.toNat = true ∧
         n.mac = { s.m.mac with ports := modAt s.m.mac.ports p.toNat fun x =>
           let t := (trySpeeds p.toNat (cfgSpeed s.m p.toNat)).find? (opticHas o p.toNat)
           { x with optic := o, trial := t,
                    trainDue := if t.isSome then some (s.m.tim.edge + 500 * edgesMs) else none } }) ∧
     (bit data 0 = true → portEn s.m p.toNat = false → speedOk = false ∨ len < 64 ∨ 2048 < len →
       Does (.macPortEnable p data o) s [.regs, .tel, .hif] [Reg.MAC_CFG_ERR] fun n =>
         portEn n p.toNat = false ∧ rf n Reg.MAC_CFG_ERR 11 8 = p.toNat ∧
         rf n Reg.MAC_CFG_ERR 7 0 = (if speedOk then 2 else 1)) ∧
     (bit data 0 = false → portEn s.m p.toNat = true →
       Does (.macPortEnable p data o) s [.regs, .ladder, .mac, .tel, .hif] (pagePort p.toNat) fun n =>
         portEn n p.toNat = false ∧ (linkUp s.m p.toNat = true → linkUp n p.toNat = false))) ∧
  (∀ (s : State) (p : BitVec 4), s.live → p.toNat < 12 →
     (due (getPort s.m p.toNat).trainDue s.m.tim.edge = true →
       Does (.trainTimeout p) s [.mac] [] fun n =>
         ∃ t : Option Nat,
           (∀ v : Nat, t = some v → opticHas (getPort s.m p.toNat).optic p.toNat v = true) ∧
           n.mac = { s.m.mac with ports := modAt s.m.mac.ports p.toNat fun x =>
             { x with trial := t, trainDue := if t.isSome then some (s.m.tim.edge + 500 * edgesMs) else none } }) ∧
     (due (getPort s.m p.toNat).trainDue s.m.tim.edge = false → DoesNothing (.trainTimeout p) s)) ∧
  (∀ (s : State) (p : BitVec 4), p.toNat < 12 →
     (∀ (t : Nat) (hundred : Bool) (fec : BitVec 2), s.live → (getPort s.m p.toNat).trial = some t → t < 5 →
       Does (.linkUp p hundred fec) s [.regs, .ladder, .mac, .tel]
         (Reg.tport Reg.TIM_PORT_RXDLY p.toNat :: Reg.tport Reg.TIM_PORT_TXDLY p.toNat :: pagePort p.toNat) fun n =>
         linkUp n p.toNat = true ∧ rf n (pr Reg.MAC_PORT_STAT p.toNat) 3 1 = t ∧
         rb n (pr Reg.MAC_PORT_STAT p.toNat) 7 = (decide (t ≠ cfgSpeed s.m p.toNat) || (decide (p.toNat = 10) && hundred)) ∧
         rb n (pr Reg.MAC_PORT_FLAGS p.toNat) 0 = true) ∧
     (∀ (hundred : Bool) (fec : BitVec 2), (getPort s.m p.toNat).trial = none → DoesNothing (.linkUp p hundred fec) s) ∧
     (s.live → linkUp s.m p.toNat = true →
       Does (.linkDown p) s [.regs, .ladder, .mac, .tel, .hif] (pagePort p.toNat) fun n =>
         linkUp n p.toNat = false ∧ rb n (pr Reg.MAC_PORT_FLAGS p.toNat) 0 = true) ∧
     (s.writable → portEn s.m p.toNat = true →
       Does (.macRetrain p) s [.regs, .ladder, .mac, .tel, .hif] (pagePort p.toNat) fun n =>
         linkUp n p.toNat = false ∧ portEn n p.toNat = true))

/-- R76, R77, R81. A good untagged frame of class OTHER that an independent port is set to deliver waits in the port's
bulk queue for a posted buffer of the PF, and is counted; a frame at a port without a link changes nothing. R83. The
frame that starts on the wire is the first of the highest queue that PFC does not hold; it leaves its queue and goes
out. With no frame to send, or no link, nothing changes. R84, R85. A held priority is released when its quanta have
passed. While the bulk queue stays above 16 KiB, XOFF is repeated every half of the quanta time. -/
def Obligations.FramesAreQueuedSentAndPaused : Prop :=
  (∀ (s : State) (p : BitVec 4) (b : Bool) (f : Frame),
     (linkUp s.m p.toNat = false → exec (.frameRx p b f) s = .next s) ∧
     (s.live → p.toNat < 11 → linkUp s.m p.toNat = true → pairMode s.m p.toNat = 0 → f.body = .other → f.stag = false →
       f.tag = none → rb s.m (pr Reg.MAC_PORT_CFG p.toNat) 8 = true → rb s.m (pr Reg.MAC_PORT_CFG p.toNat) 7 = true →
       isGroup f.dst = true → frameChecks s.m p.toNat f = 0 →
       (s.m.mac.ports.foldl (fun a x => a + x.bulkQ.length) 0) < s.m.hif.rxPosts.length →
       bulkFill (getPort s.m p.toNat) + f.raw.length ≤ 65536 →
       Does (.frameRx p b f) s [.regs, .mac, .tel] (pagePort p.toNat) fun n =>
         rd n (cntReg p.toNat 0) = rd s.m (cntReg p.toNat 0) + 1 ∧ rd n (cntReg p.toNat 9) = rd s.m (cntReg p.toNat 9) + 1 ∧
         ∃ w : RxWait, w.port = p.toNat ∧ w.origLen = f.len ∧
           w.data = f.raw.take (rf s.m (pr Reg.MAC_PORT_CFG p.toNat) 27 16) ∧
           n.mac.ports.map (·.bulkQ) = modAt (s.m.mac.ports.map (·.bulkQ)) p.toNat (· ++ [w]))) ∧
  (∀ (s : State) (p : BitVec 4), s.live → p.toNat < 12 → linkUp s.m p.toNat = true →
     (∀ (i : Nat) (f : TxFrame), nextTx (getPort s.m p.toNat) = some (i, f) →
       (∃ g, f.body = .goose g) ∨ (∃ l, f.body = .pair l) ∨ (∃ h q, f.body = .supervision h q) →
       Does (.frameTxStart p) s [.regs, .mac, .tel] (pagePort p.toNat) fun n =>
         n.mac = { s.m.mac with ports := modAt s.m.mac.ports p.toNat fun x =>
           { x with queues := modAt x.queues i List.tail } } ∧
         rd n (cntReg p.toNat 27) = rd s.m (cntReg p.toNat 27) + 1 ∧
         n.tel.out.getLast? = some (.tx p.toNat f)) ∧
     (nextTx (getPort s.m p.toNat) = none → DoesNothing (.frameTxStart p) s)) ∧
  (∀ (s : State) (p : BitVec 4) (k : BitVec 3), s.live → p.toNat < 12 →
     (due ((getPort s.m p.toNat).held.getD k.toNat none) s.m.tim.edge = true →
       Does (.pfcPauseExpiry p k) s [.mac] [] fun n =>
         n.mac = { s.m.mac with ports := modAt s.m.mac.ports p.toNat fun x =>
           { x with held := setAt x.held k.toNat none } }) ∧
     (due ((getPort s.m p.toNat).held.getD k.toNat none) s.m.tim.edge = false → DoesNothing (.pfcPauseExpiry p k) s) ∧
     (due (getPort s.m p.toNat).xoffDue s.m.tim.edge = true → 16384 < bulkFill (getPort s.m p.toNat) →
       Does (.pfcXoffRepeat p) s [.regs, .mac, .tel] [cntReg p.toNat 28] fun n =>
         rd n (cntReg p.toNat 28) = rd s.m (cntReg p.toNat 28) + 1 ∧
         n.mac = { s.m.mac with ports := modAt s.m.mac.ports p.toNat fun x =>
           { x with xoffDue := some (s.m.tim.edge + halfQuanta (getPort s.m p.toNat).mbps) } }) ∧
     (due (getPort s.m p.toNat).xoffDue s.m.tim.edge = false → DoesNothing (.pfcXoffRepeat p) s))

/-- R75. The diagnostic page of an optic with diagnostics is shown in the port's registers; an alarm or warning that is
newly set sets its flag. A port without such an optic shows nothing new. R86, R88, R89. MAC_PAIRMODE takes a write
whole, or is left as it is and named when a pair would get code 3, (P8,P9) would get HSR, or a pair with an enabled port
would change. A node entry unheard for MAC_NODE_FORGET seconds leaves the table, and no other does. A supervision frame
uses the pair's next sequence number, and the next one is due LIFE_CHECK x 100 ms later. -/
def Obligations.OpticsAndPairModes : Prop :=
  (∀ (s : State) (p : BitVec 4) (temp vcc bias tx rx : BitVec 16) (aw : Word), s.live → p.toNat < 12 →
     (∀ o : Optic, (getPort s.m p.toNat).optic = some o → o.ddm = true →
       Does (.opticPoll p temp vcc bias tx rx aw) s [.regs, .tel] (pagePort p.toNat) fun n =>
         (rd n (pr Reg.MAC_PORT_OPT_TEMP p.toNat)).toNat = temp.toNat ∧ (rd n (pr Reg.MAC_PORT_OPT_VCC p.toNat)).toNat = vcc.toNat ∧
         (rd n (pr Reg.MAC_PORT_OPT_RXPWR p.toNat)).toNat = rx.toNat ∧ rd n (pr Reg.MAC_PORT_OPT_AW p.toNat) = aw ∧
         (bits (aw &&& ~~~ rd s.m (pr Reg.MAC_PORT_OPT_AW p.toNat)) 15 0 ≠ 0 → rb n (pr Reg.MAC_PORT_FLAGS p.toNat) 1 = true) ∧
         (bits (aw &&& ~~~ rd s.m (pr Reg.MAC_PORT_OPT_AW p.toNat)) 31 16 ≠ 0 → rb n (pr Reg.MAC_PORT_FLAGS p.toNat) 2 = true)) ∧
     ((getPort s.m p.toNat).optic = none → DoesNothing (.opticPoll p temp vcc bias tx rx aw) s)) ∧
  (∀ s : State,
     (∀ data : Word, s.writable → (∀ q < 5, bits data (2 * q + 1) (2 * q) ≠ 3) → bits data 9 8 ≠ 2 →
       (∀ p < 10, portEn s.m p = false) →
       Does (.macPairmodeWrite data) s [.regs] [Reg.MAC_PAIRMODE] fun n => rf n Reg.MAC_PAIRMODE 9 0 = bits data 9 0) ∧
     (∀ data : Word, s.writable →
       (∃ q < 5, bits data (2 * q + 1) (2 * q) = 3 ∨
         (bits data (2 * q + 1) (2 * q) ≠ rf s.m Reg.MAC_PAIRMODE (2 * q + 1) (2 * q) ∧
           (portEn s.m (2 * q) = true ∨ portEn s.m (2 * q + 1) = true))) ∨ bits data 9 8 = 2 →
       Does (.macPairmodeWrite data) s [.regs] [Reg.MAC_CFG_ERR] fun n =>
         rf n Reg.MAC_CFG_ERR 7 0 = 3 ∨ rf n Reg.MAC_CFG_ERR 7 0 = 4 ∨ rf n Reg.MAC_CFG_ERR 7 0 = 7) ∧
     (∀ (q : BitVec 3) (src : BitVec 48), s.live →
       Does (.nodeForgetExpiry q src) s [.regs, .mac] [Reg.MAC_NODE_STAT] fun n =>
         ∀ e : NodeEnt, e ∈ n.mac.nodes ↔ e ∈ s.m.mac.nodes ∧
           ¬ (e.pair = q.toNat ∧ e.src = src ∧ e.heard + rf s.m Reg.MAC_NODE_FORGET 15 0 * edgesS ≤ s.m.tim.edge)) ∧
     (∀ (q : BitVec 3), s.live → q.toNat < 5 → pairMode s.m (2 * q.toNat) = 1 → rb s.m Reg.MAC_PRP_CFG 0 = true →
       rf s.m Reg.MAC_PRP_CFG 15 8 ≠ 0 → s.m.mac.supDue.getD q.toNat 0 ≤ s.m.tim.edge →
       Does (.supervisionSend q) s [.regs, .mac, .tel] [cntReg (2 * q.toNat) 29, cntReg (2 * q.toNat + 1) 29] fun n =>
         n.mac.supDue = setAt s.m.mac.supDue q.toNat (s.m.tim.edge + rf s.m Reg.MAC_PRP_CFG 15 8 * 100 * edgesMs) ∧
         n.mac.seqs = setAt s.m.mac.seqs q.toNat (s.m.mac.seqs.getD q.toNat 0 + 1)))

/-! ## Sampled values (chapter 04) -/

/-- R130, R131. A GO that reads returns the 16 words of the entry, or the stream's status; bit 14 with the status clears
the delay marks and nothing else. R105, R130, R577. A GO that writes stages the entry behind those that wait, for the
next plane tick; without a grid every waiting entry commits or is refused at once. A write to the status table is
refused. -/
def Obligations.SviWindowReadsAndStages : Prop :=
  (∀ (s : State) (cmd : Word), s.writable →
     let i := bits cmd 9 0
     let os := Reg.SVI_TBL_CMD :: rowAt Reg.SVI_TBL_DATA (max (subEntry s.m i).length (statWords s.m i).length)
     (bit cmd 12 = false →
       Does (.sviTblRead cmd) s [.regs] os fun n =>
         ∀ k < (subEntry s.m i).length, rd n (Reg.SVI_TBL_DATA + 4 * k) = (subEntry s.m i).getD k 0) ∧
     (bit cmd 12 = true →
       Does (.sviTblRead cmd) s [.regs, .svi] os fun n =>
         (∀ k < (statWords s.m i).length, rd n (Reg.SVI_TBL_DATA + 4 * k) = (statWords s.m i).getD k 0) ∧
         (bit cmd 14 = false → n.svi = s.m.svi) ∧
         (bit cmd 14 = true → n.svi = { s.m.svi with stat := n.svi.stat } ∧
           getStat n i = { getStat s.m i with dMin := none, dMax := none } ∧
           ∀ j, j ≠ i → getStat n j = getStat s.m j))) ∧
  (∀ (s : State) (cmd : Word), s.writable →
     (bit cmd 12 = true →
       Does (.sviTblWrite cmd) s [.regs] [Reg.SVI_TBL_CMD, Reg.SVI_TBL_STAT] fun n => rb n Reg.SVI_TBL_STAT 1 = true) ∧
     (bit cmd 12 = false → s.m.tim.grid = true →
       Does (.sviTblWrite cmd) s [.regs, .svi] [Reg.SVI_TBL_CMD, Reg.SVI_TBL_STAT] fun n =>
         rb n Reg.SVI_TBL_STAT 0 = true ∧
         n.svi = { s.m.svi with
                   pend := s.m.svi.pend ++
                     [(bits cmd 9 0, (List.range 16).map fun k => rd s.m (Reg.SVI_TBL_DATA + 4 * k))] }) ∧
     (bit cmd 12 = false → s.m.tim.grid = false →
       Does (.sviTblWrite cmd) s [.regs, .tel, .svi, .fpe]
         [Reg.SVI_TBL_CMD, Reg.SVI_TBL_STAT, Reg.SVI_FLAGS, Reg.SVI_CFG_ERR, Reg.FPE_CHAIN_ERR, Reg.FPE_CHAIN_ERR_COUNT,
          Reg.FPE_FLAGS] fun n => rb n Reg.SVI_TBL_STAT 0 = false ∧ n.svi.pend = []))

/-- R112, R115, R116. RUN = 1 starts SVI with the plane of the next plane tick, latches G and makes every enabled stream
wait; without a grid it is refused with FIELD 21, and after a stop request it asks for a restart. RUN = 0 asks for a
stop at the next plane tick and disarms every capture, which writes their current records alone. R115, R119. SVI_PLANE
takes a plane rate of table 1 and a hold time of 20 µs to 4,000 µs that the alignment buffer can hold, and moves the
next plane tick to the next multiple of the new spacing; otherwise it keeps its value, and FIELD says why: 12 while SVI
or a program runs, 22, 13 or 8. R117, R128. A receiving stream with SVI_SILENT.SAMPLES missing instants in a row becomes
SILENT, with event 0x40, and no other does. Four overloaded plane ticks in a row enter step 2 and decimate the lowest
undecimated priority; a second below 90 % returns the highest decimated one, and the last to return clears step 2. -/
def Obligations.SampledValuesRunStopAndOverload : Prop :=
  (∀ (s : State), s.writable →
     (s.m.svi.stopReq = false → s.m.svi.running = false → s.m.tim.grid = true →
       Does .sviRun s [.regs, .tel, .svi, .fpe]
         [Reg.SVI_CTRL, Reg.SVI_STAT, Reg.SVI_GDELAY, Reg.FPE_STAT, Reg.FPE_CHAIN_ERR, Reg.FPE_CHAIN_ERR_COUNT,
          Reg.FPE_FLAGS] fun n =>
         n.svi.running = true ∧ rb n Reg.SVI_CTRL 0 = true ∧ rb n Reg.SVI_STAT 0 = true ∧
         n.svi.k0 = s.m.svi.nextTick ∧ n.svi.gTicks = gLatch s.m [] ∧ n.svi.planes = [] ∧ n.svi.streams = [] ∧
         n.svi.sub = s.m.svi.sub ∧ n.fpe.chains = [] ∧ n.fpe.ph = [] ∧ n.fpe.prof = s.m.fpe.prof ∧
         n.fpe.smap = s.m.fpe.smap ∧ ∀ p ∈ enabledSubs s.m, (getStat n p.1).state = 1) ∧
     (s.m.svi.stopReq = false → s.m.svi.running = false → s.m.tim.grid = false →
       Does .sviRun s [.regs] [Reg.SVI_FLAGS, Reg.SVI_CFG_ERR] fun n =>
         rb n Reg.SVI_FLAGS 0 = true ∧ rf n Reg.SVI_CFG_ERR 7 0 = 21) ∧
     (s.m.svi.stopReq = true →
       Does .sviRun s [.regs, .svi] [Reg.SVI_CTRL] fun n =>
         rb n Reg.SVI_CTRL 0 = true ∧ n.svi = { s.m.svi with restart := true }) ∧
     (s.m.svi.stopReq = false → s.m.svi.running = true → DoesNothing .sviRun s) ∧
     (s.m.svi.running = true →
       DoesMem .sviStop s [.regs, .tel, .svi, .cap] [Reg.SVI_CTRL, Reg.CAP_FLAGS, Reg.CAP_RECORDS] (inArmed s.m) fun n _ =>
         rb n Reg.SVI_CTRL 0 = false ∧ n.svi = { s.m.svi with stopReq := true, restart := false } ∧
         ∀ k, (getCap n k).state = 0)) ∧
  (∀ (s : State) (data : Word), s.writable →
     let busy := rb s.m Reg.SVI_CTRL 0 = true ∨ s.m.svi.running = true ∨ s.m.cye.running = true
     let hold := bits data 27 16
     let fits := reserved (wr s.m Reg.SVI_PLANE (data &&& 0x0FFF0007#32)) hold (gLatch s.m []) ((enabledSubs s.m).map (·.2))
     let refused (field : Nat) :=
       Does (.sviPlaneWrite data) s [.regs, .ladder, .tel] [Reg.SVI_FLAGS, Reg.SVI_CFG_ERR] fun n =>
         rb n Reg.SVI_FLAGS 0 = true ∧ rf n Reg.SVI_CFG_ERR 7 0 = field
     (¬ busy → bits data 2 0 < 6 → 20 ≤ hold → hold ≤ 4000 → fits = true →
       Does (.sviPlaneWrite data) s [.regs, .svi, .ladder, .tel] [Reg.SVI_PLANE] fun n =>
         rd n Reg.SVI_PLANE = data &&& 0x0FFF0007#32 ∧ n.svi = { s.m.svi with nextTick := n.svi.nextTick } ∧
         n.svi.nextTick = (if s.m.tim.grid = true ∧ bits data 2 0 ≠ rf s.m Reg.SVI_PLANE 2 0
           then nextTickAfter s.m (planeP (bits data 2 0)) else s.m.svi.nextTick)) ∧
     (busy → refused 12) ∧
     (¬ busy → 6 ≤ bits data 2 0 → refused 22) ∧
     (¬ busy → bits data 2 0 < 6 → (hold < 20 ∨ 4000 < hold) → refused 13) ∧
     (¬ busy → bits data 2 0 < 6 → 20 ≤ hold → hold ≤ 4000 → fits = false → refused 8)) ∧
  (∀ (s : State), s.live →
     (∀ ix : BitVec 10, (getStat s.m ix.toNat).state = 2 → rf s.m Reg.SVI_SILENT 7 0 ≤ (getStream s.m ix.toNat).silRun →
       Does (.streamSilent ix) s [.tel, .svi] [] fun n =>
         n.svi = { s.m.svi with stat := n.svi.stat } ∧ getStat n ix.toNat = { getStat s.m ix.toNat with state := 3 } ∧
         (∀ j, j ≠ ix.toNat → getStat n j = getStat s.m j) ∧
         Raised { src := 3, code := 0x40, cls := 2, items := [ix.toNat, 1] } s.m n) ∧
     (∀ ix : BitVec 10, (getStat s.m ix.toNat).state ≠ 2 ∨ (getStream s.m ix.toNat).silRun < rf s.m Reg.SVI_SILENT 7 0 →
       DoesNothing (.streamSilent ix) s) ∧
     (4 ≤ s.m.svi.above →
       Does .ingestOverload s [.ladder, .tel, .svi] [] fun n =>
         n.ladder = (ladderEnter 2 0 s.m).ladder ∧ n.svi = { s.m.svi with above := 0, decim := n.svi.decim } ∧
         n.svi.decim = (match (prioList s.m).find? (fun p => !s.m.svi.decim.testBit p) with
           | some p => Nat.lor s.m.svi.decim (2 ^ p)
           | none => s.m.svi.decim)) ∧
     (s.m.svi.above < 4 → DoesNothing .ingestOverload s) ∧
     (∀ t p : Nat, s.m.svi.lowSince = some t → t + edgesS ≤ s.m.tim.edge →
       [7, 6, 5, 4, 3, 2, 1, 0].find? (fun p => s.m.svi.decim.testBit p) = some p →
       Does .decimReturn s [.ladder, .tel, .svi] [] fun n =>
         n.svi = { s.m.svi with decim := s.m.svi.decim - 2 ^ p, lowSince := some s.m.tim.edge } ∧
         n.ladder = (if s.m.svi.decim = 2 ^ p then (ladderClear 2 0 s.m).ladder else s.m.ladder)) ∧
     (s.m.svi.lowSince = none → DoesNothing .decimReturn s))

/-! ## Filter chains (chapter 05) -/

/-- R168. A GO that reads returns the words of a profile, a slot-map entry, a coefficient, a reference configuration or
a reference's state; a GO that writes stages the entry for the next plane tick, or commits at once without a grid. The
state table and reserved tables and indices are refused. R148, R149, R161. GO with two profiles that may follow each
other starts a Glide over the slots that name the first; a Glide that runs (14), FROM = TO (15), a reserved profile (20)
or a chain that cannot run (17) refuses it. At its last fade step the slot map of those slots, and of no other, names
TO, and the Glide ends with event 0x4A. A reference that has held for HOLD_MS becomes LOST, with event 0x48. -/
def Obligations.PhasorWindowGlidesAndReferences : Prop :=
  (∀ (s : State) (cmd : Word), s.writable →
     let i := bits cmd 15 0
     let t := bits cmd 18 16
     let absent := 5 ≤ t ∨ (t = 0 ∧ 256 ≤ i) ∨ (t = 1 ∧ 8192 ≤ i) ∨ (t = 3 ∧ 64 ≤ i)
     (t = 1 → i < 8192 → Does (.fpeTblRead cmd) s [.regs] [Reg.FPE_TBL_CMD, Reg.FPE_TBL_DATA] fun n =>
       rd n Reg.FPE_TBL_DATA = NMap.get (fun _ => 0) s.m.fpe.smap i) ∧
     (t = 2 → Does (.fpeTblRead cmd) s [.regs] [Reg.FPE_TBL_CMD, Reg.FPE_TBL_DATA] fun n =>
       rd n Reg.FPE_TBL_DATA = NMap.get (fun _ => 0) s.m.fpe.coef i) ∧
     (∀ w : List Word, w.length = 8 →
       ((t = 0 ∧ i < 256 ∧ w = profWords s.m i) ∨ (t = 3 ∧ i < 64 ∧ w = refCfg s.m i) ∨
         (t = 4 ∧ i < 64 ∧ w = refWords (getRef s.m i).rep)) →
       Does (.fpeTblRead cmd) s [.regs] (Reg.FPE_TBL_CMD :: rowAt Reg.FPE_TBL_DATA 8) fun n =>
         ∀ k < 8, rd n (Reg.FPE_TBL_DATA + 4 * k) = w.getD k 0) ∧
     (t = 4 → Does (.fpeTblWrite cmd) s [.regs] [Reg.FPE_TBL_CMD, Reg.FPE_TBL_STAT, Reg.FPE_FLAGS, Reg.FPE_CFG_ERR] fun n =>
       rb n Reg.FPE_TBL_STAT 1 = true ∧ rf n Reg.FPE_CFG_ERR 7 0 = 19) ∧
     (absent → Does (.fpeTblWrite cmd) s [.regs] [Reg.FPE_TBL_CMD, Reg.FPE_TBL_STAT, Reg.FPE_FLAGS] fun n =>
       rb n Reg.FPE_TBL_STAT 1 = true ∧ rb n Reg.FPE_FLAGS 0 = true) ∧
     (t ≠ 4 → ¬ absent → s.m.tim.grid = true →
       Does (.fpeTblWrite cmd) s [.regs, .fpe] [Reg.FPE_TBL_CMD, Reg.FPE_TBL_STAT] fun n =>
         rb n Reg.FPE_TBL_STAT 0 = true ∧
         n.fpe = { s.m.fpe with
                   pend := s.m.fpe.pend ++ [(t, i, (List.range 8).map fun k => rd s.m (Reg.FPE_TBL_DATA + 4 * k))] }) ∧
     (t ≠ 4 → ¬ absent → s.m.tim.grid = false →
       Does (.fpeTblWrite cmd) s [.regs, .tel, .fpe]
         [Reg.FPE_TBL_CMD, Reg.FPE_TBL_STAT, Reg.FPE_FLAGS, Reg.FPE_CFG_ERR, Reg.FPE_CHAIN_ERR, Reg.FPE_CHAIN_ERR_COUNT]
         fun n => rb n Reg.FPE_TBL_STAT 0 = false ∧ n.fpe.pend = [])) ∧
  (∀ (s : State),
     (∀ data : Word, s.writable →
       let a := bits data 7 0
       let b := bits data 15 8
       let here := (mappedSlots s.m).filter fun x => decide (slotProf s.m x.1 = a)
       let cannot := ∃ x ∈ here, chainReason s.m x.1 b x.2 ≠ 0
       let refused (field : Nat) :=
         Does (.glideGo data) s [.regs] [Reg.FPE_GLIDE, Reg.FPE_FLAGS, Reg.FPE_CFG_ERR] fun n =>
           rb n Reg.FPE_FLAGS 0 = true ∧ rf n Reg.FPE_CFG_ERR 7 0 = field
       (s.m.fpe.glide = none → a ≠ b → b < 8 ∨ 16 ≤ b → ¬ cannot →
         (∀ x ∈ here, slotPh s.m x.1 = true → mOut (profWords s.m a) (eN x.2) = mOut (profWords s.m b) (eN x.2)) →
         bits data 19 16 ≤ 10 →
         Does (.glideGo data) s [.regs, .fpe] [Reg.FPE_GLIDE, Reg.FPE_STAT] fun n =>
           rb n Reg.FPE_STAT 2 = true ∧
           n.fpe = { s.m.fpe with
                     glide := some { src := a, dst := b, log2 := bits data 19 16, slots := slotsOf s.m a, k1 := none,
                                     ks := 0, j := 0 } }) ∧
       (s.m.fpe.glide.isSome = true → refused 14) ∧
       (s.m.fpe.glide = none → a = b → refused 15) ∧
       (s.m.fpe.glide = none → a ≠ b → 8 ≤ b → b < 16 → refused 20) ∧
       (s.m.fpe.glide = none → a ≠ b → b < 8 ∨ 16 ≤ b → cannot → refused 17)) ∧
     (∀ g : Glide, s.live → s.m.fpe.glide = some g → g.j = 2 ^ g.log2 → g.k1.isSome = true →
       Does .glideEnd s [.regs, .tel, .fpe] [Reg.FPE_STAT, Reg.FPE_FLAGS] fun n =>
         n.fpe = { s.m.fpe with glide := none, smap := n.fpe.smap, bad := n.fpe.bad } ∧
         (∀ x ∈ g.slots, slotProf n x = g.dst % 256) ∧
         (∀ x, x ∉ g.slots → NMap.get (fun _ => 0) n.fpe.smap x = NMap.get (fun _ => 0) s.m.fpe.smap x) ∧
         rb n Reg.FPE_STAT 2 = false ∧ rb n Reg.FPE_FLAGS 4 = true ∧
         Raised { src := 4, code := 0x4A, cls := 3, items := [g.src, g.dst] } s.m n) ∧
     (s.m.fpe.glide = none → DoesNothing .glideEnd s) ∧
     (∀ r : BitVec 6, s.live → fbit (refCfg s.m r.toNat) 0 0 = true → (getRef s.m r.toNat).state = 3 →
       closeAt s.m (getRef s.m r.toNat).holdTick + fld (refCfg s.m r.toNat) 3 15 0 * 1000000 * unitNs ≤ nowU s.m →
       Does (.refHoldExpiry r) s [.tel, .fpe] [] fun n =>
         n.fpe = { s.m.fpe with refs := n.fpe.refs } ∧ (getRef n r.toNat).state = 4 ∧
         (∀ x, x ≠ r.toNat → getRef n x = getRef s.m x) ∧
         Raised { src := 4, code := 0x48, cls := 2, items := [r.toNat, 4] } s.m n) ∧
     (∀ r : BitVec 6, (getRef s.m r.toNat).state ≠ 3 → DoesNothing (.refHoldExpiry r) s))

/-! ## Slalom gates (chapter 06) -/

/-- R175, R177, R178, R179, R201. The window of GTE_TBL_CMD: a read returns the 16 words of a gate; an arming that
passes every check arms the gate for the PF, one of a zero-width pulse arms nothing, and one that fails a check is
refused with that check's FIELD; an update changes the timing words of an ARMED or WAITING gate alone; a cancellation
that is in time ends the gate CANCELLED. No operation touches another gate. -/
def Obligations.GateWindowReadsArmsUpdatesCancels : Prop :=
  ∀ (s : State) (cmd : Word), s.writable →
    let i := bits cmd 9 0
    let g := getGate s.m i
    let d := gateFrom (gteData s.m)
    let w := updWords 15 d.comp d.target d.earliest d.latest g.w
    let others (n : Pnm) : Prop := n.gte = { s.m.gte with gates := n.gte.gates } ∧ ∀ j, j ≠ i → getGate n j = getGate s.m j
    let refused (c : Instr) (field : Nat) :=
      Does c s [.regs] [Reg.GTE_TBL_CMD, Reg.GTE_TBL_STAT, Reg.GTE_FLAGS, Reg.GTE_CFG_ERR] fun n =>
        rb n Reg.GTE_TBL_STAT 1 = true ∧ rb n Reg.GTE_FLAGS 0 = true ∧ rf n Reg.GTE_CFG_ERR 7 0 = field ∧
        rf n Reg.GTE_CFG_ERR 17 8 = i
    (Does (.gteWindowRead cmd) s [.regs] (Reg.GTE_TBL_CMD :: rowAt Reg.GTE_TBL_DATA 16) fun n =>
      ∀ k < 16, rd n (Reg.GTE_TBL_DATA + 4 * k) = (gateWords g).getD k 0) ∧
    (gateZero d = false → gateWindowCheck s.m i d = 0 →
      Does (.gteWindowArm cmd) s [.regs, .gte] [Reg.GTE_TBL_CMD] fun n =>
        getGate n i = { gateFrom ((gteData s.m).take 10) with state := 1, owner := 0, loc := i, prog := false } ∧ others n) ∧
    (gateZero d = true → Does (.gteWindowArm cmd) s [.regs] [Reg.GTE_TBL_CMD] fun _ => True) ∧
    (gateZero d = false → gateWindowCheck s.m i d ≠ 0 → refused (.gteWindowArm cmd) (gateWindowCheck s.m i d)) ∧
    (g.open' = true → updCheck w = 0 →
      Does (.gteWindowUpdate cmd) s [.regs, .gte] [Reg.GTE_TBL_CMD] fun n => getGate n i = { g with w := w } ∧ others n) ∧
    (g.open' = true → updCheck w ≠ 0 → refused (.gteWindowUpdate cmd) (updCheck w)) ∧
    (g.open' = false → Does (.gteWindowUpdate cmd) s [.regs] [Reg.GTE_TBL_CMD] fun _ => True) ∧
    (cancels s.m g = true →
      Does (.gteWindowCancel cmd) s [.regs, .tel, .gte] [Reg.GTE_TBL_CMD] fun n =>
        getGate n i = { g with state := 9, afterCommit := decide (g.state = 3), byProgram := false } ∧
        n.gte.level = s.m.gte.level ∧ n.gte.pulses = s.m.gte.pulses ∧ ∀ j, j ≠ i → getGate n j = getGate s.m j) ∧
    (cancels s.m g = false → Does (.gteWindowCancel cmd) s [.regs] [Reg.GTE_TBL_CMD] fun _ => True)

/-- R193, R197, R199. At its firing instant a committed gate acts and ends FIRED, and GTE_FIRED counts it, unless its
action is an output action and the module does not release outputs: then it waits for the peer's notice, or in
maintenance ends WITHHELD. A claimed timed output follows its gate, and falls when the gate's pulse ends. Without a
notice within 1 ms the waiting gate ends WITHHELD. No other gate changes. -/
def Obligations.GatesFireByRole : Prop :=
  ∀ (s : State), s.live →
    (∀ ix : BitVec 10,
      let g := getGate s.m ix.toNat
      let fires := g.output = false ∨ releases s.m = true
      let others (n : Pnm) : Prop := ∀ j, j ≠ ix.toNat → getGate n j = getGate s.m j
      (g.state = 3 → g.f ≤ s.m.tim.mt → fires →
        Does (.gateFire ix) s [.regs, .tel, .mac, .gte, .cye, .out, .sio, .cap, .par]
          ([Reg.GTE_FIRED, Reg.SIO_FLAGS, Reg.OUT_FLAGS, Reg.OUT_PUB_SENT, Reg.CAP_FLAGS, Reg.CAP_TIN_UNUSED] ++ dropCnts)
          fun n =>
          (getGate n ix.toNat).state = 8 ∧ rd n Reg.GTE_FIRED = rd s.m Reg.GTE_FIRED + 1 ∧ others n ∧
          (1 ≤ g.action → g.action ≤ 3 → rb s.m Reg.GTE_TOUT_CLAIM g.arg = true →
            n.gte.level.testBit g.arg = decide (g.action ≠ 2)) ∧
          n.gte.pulses = s.m.gte.pulses ++ (if g.action = 3 then [(g.arg, g.f + g.value * nsU)] else [])) ∧
      (g.state = 3 → g.f ≤ s.m.tim.mt → ¬ fires → inMaint s.m = false →
        Does (.gateFire ix) s [.gte] [] fun n =>
          n.gte = { s.m.gte with gates := n.gte.gates } ∧ getGate n ix.toNat = { g with state := 4 } ∧ others n) ∧
      (g.state = 3 → g.f ≤ s.m.tim.mt → ¬ fires → inMaint s.m = true →
        Does (.gateFire ix) s [.tel, .gte] [] fun n => (getGate n ix.toNat).state = 15 ∧ others n) ∧
      (g.state ≠ 3 ∨ s.m.tim.mt < g.f → DoesNothing (.gateFire ix) s) ∧
      (g.state = 4 → g.f + 1000000 * nsU ≤ s.m.tim.mt →
        Does (.peerNoticeTimeout ix) s [.tel, .gte] [] fun n => (getGate n ix.toNat).state = 15 ∧ others n) ∧
      (g.state ≠ 4 ∨ s.m.tim.mt < g.f + 1000000 * nsU → DoesNothing (.peerNoticeTimeout ix) s)) ∧
    (∀ (t : BitVec 4) (p : Nat × Nat), s.m.gte.pulses.find? (fun p => decide (p.1 = t.toNat ∧ p.2 ≤ s.m.tim.mt)) = some p →
      Does (.toutPulseEnd t) s [.regs, .tel, .gte, .sio] [Reg.SIO_FLAGS] fun n =>
        n.gte.pulses = s.m.gte.pulses.filter (fun q => decide (q ≠ p)) ∧ n.gte.gates = s.m.gte.gates ∧
        (rb s.m Reg.GTE_TOUT_CLAIM t.toNat = true → n.gte.level.testBit t.toNat = false)) ∧
    (∀ t : BitVec 4, (∀ p ∈ s.m.gte.pulses, p.1 ≠ t.toNat) → DoesNothing (.toutPulseEnd t) s)

/-! ## Cycle engine (chapter 07) -/

/-- R208, R213, R219. At its period start a task that has no run in progress latches its inputs and starts one, after
the releases and host writes of that instant; one whose run is in progress skips the start, and counts it; a start at
which a doubled or FAULTED task does not run only passes; before the instant nothing happens. R205, R222. A doubled task
whose last 64 runs were within the original budget returns to normal at an even period start after the dwell, and its
trigger of step 5 goes. An uncorrectable error in a core's memory marks the core failed, sets its flag and makes every
task on it FAULTED, and no other; a corrected one is counted up to 63. -/
def Obligations.TasksStartSkipAndReturn : Prop :=
  (∀ (s : State) (b : BitVec 9), s.live → beforeSwitch s.m b.toNat = true →
     let t := b.toNat
     let k := getTask s.m t
     (startsNow s.m t = true → k.run = none →
       Does (.taskPeriodStart b) s ([.free, .ladder] ++ releaseParts)
         ([Reg.CYE_FALLBACKS, Reg.CYE_FLAGS, Reg.CYE_TBL_STAT, Reg.PAR_STAT, Reg.PAR_RESYNC_STAT] ++ releaseRegs) fun n =>
         ∃ r : Run, (getTask n t).run = some r ∧ r.ts = k.next ∧ r.tsNs = uNs (gridInstant k.next) ∧ r.ovr = false ∧
           r.skips = 0 ∧ r.dbl = decide ((getTask n t).state = 2) ∧ (getTask n t).lastStart = r.tsNs ∧
           (getTask n t).next = k.next + periodTicks s.m t) ∧
     (∀ r : Run, startsNow s.m t = true → k.run = some r →
       Does (.taskPeriodStart b) s ([.free, .ladder] ++ releaseParts)
         ([Reg.CYE_FLAGS, Reg.CYE_SKIPS, Reg.CYE_TBL_STAT, Reg.PAR_STAT, Reg.PAR_RESYNC_STAT] ++ releaseRegs) fun n =>
         (getTask n t).skipCnt = k.skipCnt + 1 ∧ rd n Reg.CYE_SKIPS = rd s.m Reg.CYE_SKIPS + 1 ∧
         rb n Reg.CYE_FLAGS 2 = true ∧ (getTask n t).next = k.next + periodTicks s.m t ∧
         (3 ≤ r.skips + 1 → (getTask n t).state = 3 ∧ (getTask n t).run = none)) ∧
     (startsNow s.m t = false → s.m.cye.running = true → (liveTasks s.m).contains t = true →
       gridInstant k.next ≤ nowU s.m →
       Does (.taskPeriodStart b) s [.cye] [] fun n =>
         n.cye = { s.m.cye with tasks := n.cye.tasks } ∧ getTask n t = { k with next := k.next + periodTicks s.m t } ∧
         ∀ j, j ≠ t → getTask n j = getTask s.m j) ∧
     (nowU s.m < gridInstant k.next → DoesNothing (.taskPeriodStart b) s)) ∧
  (∀ (s : State), s.live →
     (∀ b : BitVec 9,
       let k := getTask s.m b.toNat
       (k.state = 2 → 64 ≤ k.returnRuns → gridInstant k.next ≤ nowU s.m → startIndex s.m b.toNat k.next % 2 = 0 →
         (getStep s.m 5).since + edgesS ≤ s.m.tim.edge →
         Does (.doubledReturn b) s [.ladder, .tel, .cye] [] fun n =>
           n.cye = { s.m.cye with tasks := n.cye.tasks } ∧ getTask n b.toNat = { k with state := 1, returnRuns := 0 } ∧
           (∀ j, j ≠ b.toNat → getTask n j = getTask s.m j) ∧ n.ladder = (ladderClear 5 b.toNat s.m).ladder) ∧
       (k.state ≠ 2 ∨ k.returnRuns < 64 → DoesNothing (.doubledReturn b) s)) ∧
     (∀ c : BitVec 4, c.toNat < s.m.cye.cores.length →
       Does (.coreEccError c) s [.regs, .ladder, .tel, .cye] [Reg.CYE_FLAGS] fun n =>
         (getCore n c.toNat).failed = true ∧ rb n Reg.CYE_FLAGS 4 = true ∧
         (∀ t ∈ liveTasks s.m, tCore ((cyeProg s.m).task t) = c.toNat → (getTask n t).state = 3) ∧
         (∀ t, tCore ((cyeProg s.m).task t) ≠ c.toNat → getTask n t = getTask s.m t)) ∧
     (∀ c : BitVec 4,
       Does (.coreEccCorrected c) s [.cye] [] fun n =>
         n.cye = { s.m.cye with
                   cores := setAt s.m.cye.cores c.toNat
                     { getCore s.m c.toNat with ecc := min 63 ((getCore s.m c.toNat).ecc + 1) } }))

/-- R211, R214, R218, R221. A run that completes within its budget holds the outputs of its blocks for the output
instant Ts + D, and the block instances take their new states; a run that has overrun completes without outputs. A run
still in progress at Ts + B overruns: it is counted, flagged and told by event 0x58, and its task's SAFE values are due
at Ts + D where the task asks for them. R214, R235. At an output instant every release of it, and every earlier one,
leaves its task; a task whose one output is a signal hands the signal its value. Without a release that is due nothing
happens. -/
def Obligations.RunsCompleteAndOutputsAreReleased : Prop :=
  (∀ (s : State) (b : BitVec 9) (r : Run), s.live → (getTask s.m b.toNat).run = some r →
     let t := b.toNat
     let k := getTask s.m t
     let u := gridInstant r.ts
     let body := ((cyeProg s.m).body t).getD { blocks := [], outs := [] }
     let res := runBody body r.img r.dt r.tsNs s.m.cye.insts
     let safe : Rel := { at' := u + runD s.m t r.dbl, safe := true, vals := [] }
     let done (rel : List Rel) :=
       Does (.taskRunComplete b) s [.regs, .tel, .mac, .cye, .par] dropCnts fun n =>
         (getTask n t).run = none ∧ (getTask n t).rel = k.rel ++ rel ∧ (getTask n t).last = some r.tsNs ∧
         (getTask n t).ovrLast = r.ovr ∧ (getTask n t).state = k.state ∧ n.cye.insts = res.2 ∧
         ∀ j, j ≠ t → getTask n j = getTask s.m j
     (s.m.cye.carry = none → r.ovr = false → nowU s.m ≤ u + runB s.m t r.dbl →
       done [{ at' := u + runD s.m t r.dbl, safe := false, vals := res.1 }]) ∧
     (s.m.cye.carry = none → r.ovr = true → done []) ∧
     (r.ovr = false → u + runB s.m t r.dbl ≤ nowU s.m →
       Does (.taskOverrun b) s [.regs, .ladder, .tel, .cye] [Reg.CYE_OVERRUNS, Reg.CYE_FLAGS] fun n =>
         rd n Reg.CYE_OVERRUNS = rd s.m Reg.CYE_OVERRUNS + 1 ∧ rb n Reg.CYE_FLAGS 1 = true ∧
         (getTask n t).run = some { r with ovr := true } ∧ (getTask n t).overruns = k.overruns + 1 ∧
         (getTask n t).rel = k.rel ++ (if tSafe ((cyeProg s.m).task t) then [safe] else []) ∧
         (∀ j, j ≠ t → getTask n j = getTask s.m j) ∧
         (tHalve ((cyeProg s.m).task t) = false →
           n.ladder = s.m.ladder ∧ Raised { src := 6, code := 0x58, cls := 2, items := [t] } s.m n)) ∧
     (r.ovr = true ∨ nowU s.m < u + runB s.m t r.dbl → DoesNothing (.taskOverrun b) s)) ∧
  (∀ (s : State) (b : BitVec 9), s.live → s.m.cye.running = true →
     let due := ((getTask s.m b.toNat).rel.map (·.at')).filter fun a => decide (a ≤ nowU s.m)
     (∀ u : Nat, u ∈ due → (∀ a ∈ due, u ≤ a) →
       Does (.taskOutputRelease b) s releaseParts releaseRegs fun n =>
         (∀ t ∈ liveTasks s.m, (getTask n t).rel = (getTask s.m t).rel.filter fun r => decide (u < r.at')) ∧
         (∀ (t j : Nat) (r : Rel) (e : List Word) (v : TV), dueRels s.m u = [(t, r)] → relItems s.m t r = [(j, e, v)] →
           eKind e = 7 → NMap.get (fun _ => none) n.cye.sigs (eIndex e) = some v)) ∧
     (due = [] → DoesNothing (.taskOutputRelease b) s))

/-- R250, R251. START with an image that passes its checks, while no program runs and no start waits, waits for the next
second; otherwise it is refused with the FIELD of the reason. At that second the program runs with every instance at its
initial value, every task at its offset, and every host word lost. STOP cancels a start that waits, or waits for the
next hyperperiod boundary; there the program stops, its gates that have not committed end, and only host writes with a
later target stay. -/
def Obligations.ProgramsStartAndStop : Prop :=
  ∀ (s : State),
    (s.writable →
      let refused (field : Nat) :=
        Does .cyeStart s [.regs] [Reg.CYE_FLAGS, Reg.CYE_CFG_ERR] fun n =>
          rb n Reg.CYE_FLAGS 0 = true ∧ rf n Reg.CYE_CFG_ERR 7 0 = field
      let idle := s.m.cye.running = false ∧ s.m.cye.startAt = none
      (∀ p : Prog, idle → startImage s.m = some p → imageRules s.m p = none → s.m.tim.grid = true →
        Does .cyeStart s [.cye] [] fun n =>
          n.cye = { s.m.cye with startAt := some (nextTickAfter s.m ticksPerSec) }) ∧
      (¬ idle → refused 13) ∧
      (idle → startImage s.m = none → refused 1) ∧
      (∀ (p : Prog) (c i : Nat), idle → startImage s.m = some p → imageRules s.m p = some (c, i) → refused (c % 256)) ∧
      (∀ p : Prog, idle → startImage s.m = some p → imageRules s.m p = none → s.m.tim.grid = false → refused 3)) ∧
    (∀ (g : Nat) (p : Prog), s.live → s.m.cye.startAt = some g → startImage s.m = some p → gridInstant g ≤ nowU s.m →
      Does .programStart s [.regs, .ladder, .tel, .key, .cye] [Reg.CYE_FLAGS, Reg.CYE_LF_STAT, Reg.KEY_MR3_COUNT] fun n =>
        n.cye.running = true ∧ n.cye.prog = some p ∧ n.cye.startAt = none ∧ n.cye.staged = none ∧
        n.cye.insts = progInit p p.enabled [] ∧ (∀ w, (getWord n w).fresh = false) ∧
        ∀ t ∈ p.enabled, (getTask n t).next = g + tOffset (p.task t) * planeP p.rate) ∧
    (s.m.cye.startAt = none → DoesNothing .programStart s) ∧
    (s.writable → s.m.cye.startAt.isSome = true →
      Does .cyeStop s [.cye] [] fun n => n.cye = { s.m.cye with startAt := none }) ∧
    (s.writable → s.m.cye.startAt = none → s.m.cye.running = true → s.m.cye.stopAt = none →
      Does .cyeStop s [.cye] [] fun n =>
        n.cye = { s.m.cye with stopAt := some (nextTickAfter s.m (max 1 (cyeProg s.m).hyper * progP s.m)) }) ∧
    (s.m.cye.startAt = none → s.m.cye.running = false → DoesNothing .cyeStop s) ∧
    (∀ g : Nat, s.live → s.m.cye.stopAt = some g → gridInstant g ≤ nowU s.m →
      Does .programStop s (.ladder :: releaseParts) ([Reg.CYE_LF_STAT, Reg.CYE_TBL_STAT] ++ releaseRegs) fun n =>
        n.cye.running = false ∧ n.cye.stopAt = none ∧ n.cye.tasks = [] ∧ n.cye.gev = [] ∧ n.cye.exch = none ∧
        (∀ i, (getGate n i).prog = true → (getGate n i).open' = false) ∧
        n.cye.pend = s.m.cye.pend.filter fun h =>
          match h.target with | some t => decide (gridInstant g < t) | none => false) ∧
    (s.m.cye.stopAt = none → DoesNothing .programStop s)

/-- R227, R228, R230, R252. The window returns the ten words of an entry, and refuses an index beyond its table. A write
of a host input configuration waits for the next period start while a program runs, else applies at once and leaves the
word lost; other tables are refused. While no program runs, a held host write applies at its target. -/
def Obligations.HostWordsAreConfiguredAndWritten : Prop :=
  ∀ (s : State),
    (∀ cmd : Word, s.writable →
      let i := bits cmd 15 0
      let t := bits cmd 18 16
      let e := rd s.m Reg.CYE_TBL_DATA
      let refused (field : Nat) :=
        Does (.cyeTblWrite cmd) s [.regs] [Reg.CYE_TBL_CMD, Reg.CYE_TBL_STAT, Reg.CYE_FLAGS, Reg.CYE_CFG_ERR] fun n =>
          rb n Reg.CYE_TBL_STAT 1 = true ∧ rf n Reg.CYE_CFG_ERR 7 0 = field
      (i < cyeSize t →
        Does (.cyeTblRead cmd) s [.regs] (Reg.CYE_TBL_CMD :: rowAt Reg.CYE_TBL_DATA 10) fun n =>
          ∀ k < 10, rd n (Reg.CYE_TBL_DATA + 4 * k) = (cyeWords s.m t i).getD k 0) ∧
      (cyeSize t ≤ i →
        Does (.cyeTblRead cmd) s [.regs] [Reg.CYE_TBL_CMD, Reg.CYE_TBL_STAT, Reg.CYE_FLAGS] fun n =>
          rb n Reg.CYE_TBL_STAT 1 = true ∧ rb n Reg.CYE_FLAGS 0 = true) ∧
      (t ≠ 2 → refused 14) ∧
      (t = 2 → 4096 ≤ i ∨ 256 < bits e 8 0 → refused 15) ∧
      (t = 2 → i < 4096 → bits e 8 0 ≤ 256 → s.m.cye.running = true →
        Does (.cyeTblWrite cmd) s [.regs, .cye] [Reg.CYE_TBL_CMD, Reg.CYE_TBL_STAT] fun n =>
          rb n Reg.CYE_TBL_STAT 0 = true ∧ n.cye = { s.m.cye with cfgPend := s.m.cye.cfgPend ++ [(i, [e])] }) ∧
      (t = 2 → i < 4096 → bits e 8 0 ≤ 256 → s.m.cye.running = false →
        Does (.cyeTblWrite cmd) s [.regs, .cye] [Reg.CYE_TBL_CMD] fun n =>
          n.cye = { s.m.cye with words := n.cye.words } ∧
          getWord n i = { getWord s.m i with owner := bits e 8 0, en := bit e 9, lease := bits e 31 16, fresh := false } ∧
          ∀ j, j ≠ i → getWord n j = getWord s.m j)) ∧
    (∀ (b : BitVec 12) (h : HostPend), s.live → s.m.cye.running = false →
      s.m.cye.pend.filter (fun h => decide (h.word = b.toNat) && dueAtStart (nowU s.m + 1) h) = [h] →
      Does (.hostWriteApply b) s [.hif, .cye, .out, .par] [] fun n =>
        getWord n b.toNat = { getWord s.m b.toNat with
                              value := h.value, q := h.q, late := h.late, fresh := true, at' := h.target.getD (nowU s.m),
                              writes := (getWord s.m b.toNat).writes + 1 } ∧
        n.cye.pend = s.m.cye.pend.filter (fun x => decide (x ≠ h)) ∧
        ∀ j, j ≠ b.toNat → getWord n j = getWord s.m j) ∧
    (∀ b : BitVec 12, s.m.cye.running = true → DoesNothing (.hostWriteApply b) s)

/-! ## Leapfrog (chapter 08) -/

/-- R258, R269, R272, R273, R275. The verification of an image stages it with RESULT 1, or rejects it with its RESULT
and clears the bank. ARM and REVERT show Tb and arm the exchange, or propose it to a peer that mirrors; an exchange in
hand (15), nothing to arm (18) or a failing check refuses them. ABORT more than 2 µs before Tb, DISCARD and the peer's
silence for 100 ms end the exchange. -/
def Obligations.ImagesAreStagedAndArmed : Prop :=
  ∀ (s : State),
    let rejected (c : Instr) (result : Nat) (P : Pnm → Prop) :=
      Does c s [.regs, .tel, .cye] [Reg.CYE_LF_STAT, Reg.CYE_LF_ERR] fun n =>
        rf n Reg.CYE_LF_STAT 15 8 = result % 256 ∧
        Raised { src := 6, code := 0x5F, cls := 2, items := [result, 0] } s.m n ∧ P n
    let busy := lfPhase s.m = 4 ∨ lfPhase s.m = 5 ∨ s.m.cye.exch.isSome = true
    let arms (c : Instr) (p : Prog) (map : List MapEnt) (rev : Bool) :=
      let tb := switchTick s.m p (lfReq s.m)
      let after (asked : Option Nat) : Cye :=
        { s.m.cye with
          exch := some { tb := tb, map := map, askedAt := asked }, staged := some p,
          retained := if rev then none else s.m.cye.retained }
      (mirroring s.m = false →
        Does c s [.regs, .cye] [Reg.CYE_LF_STAT, Reg.CYE_LF_TB_LO, Reg.CYE_LF_TB_HI] fun n =>
          lfPhase n = 4 ∧ n.cye = after none ∧ rd n Reg.CYE_LF_TB_LO = loW (uNs (gridInstant tb)) ∧
          rd n Reg.CYE_LF_TB_HI = hiW (uNs (gridInstant tb))) ∧
      (mirroring s.m = true →
        Does c s [.regs, .tel, .mac, .cye, .par] ([Reg.CYE_LF_STAT, Reg.CYE_LF_TB_LO, Reg.CYE_LF_TB_HI] ++ dropCnts) fun n =>
          lfPhase n = 3 ∧ n.cye = after (some s.m.tim.edge))
    (∀ (image : List Byte) (ref : CmdRef), s.live → s.m.cye.loading = some (image, ref) → lfPhase s.m = 2 →
      (∀ p : Prog, verifyImage s.m image = .ok p →
        Does .imageVerifyDone s [.regs, .hif, .cye, .par] [Reg.CYE_LF_STAT] fun n =>
          lfPhase n = 3 ∧ rf n Reg.CYE_LF_STAT 15 8 = 1 ∧ n.cye = { s.m.cye with loading := none, staged := some p }) ∧
      (∀ e, verifyImage s.m image = .error e →
        Does .imageVerifyDone s [.regs, .tel, .hif, .cye, .par]
          [Reg.CYE_LF_STAT, Reg.CYE_LF_ERR, Reg.CYE_FLAGS, Reg.CYE_CFG_ERR] fun n =>
          lfPhase n = 0 ∧ rf n Reg.CYE_LF_STAT 15 8 = e.result % 256 ∧ n.cye = { s.m.cye with loading := none })) ∧
    (s.m.cye.loading = none → DoesNothing .imageVerifyDone s) ∧
    (s.writable →
      (busy → rejected .lfArm 15 (fun n => n.cye = s.m.cye) ∧ rejected .lfRevert 15 (fun n => n.cye = s.m.cye)) ∧
      (¬ busy → s.m.cye.staged = none → rejected .lfArm 18 (fun n => n.cye = s.m.cye)) ∧
      (¬ busy → s.m.cye.retained = none → rejected .lfRevert 18 (fun n => n.cye = s.m.cye)) ∧
      (∀ p : Prog, ¬ busy → s.m.cye.staged = some p →
        (∀ e, exchBad s.m p p.baseId p.map = some e → rejected .lfArm e.result (fun n => n.cye = s.m.cye)) ∧
        (exchBad s.m p p.baseId p.map = none → arms .lfArm p p.map false)) ∧
      (∀ p : Prog, ¬ busy → s.m.cye.retained = some p →
        let map := inverseMap s.m.cye.lastMap
        (∀ e, exchBad s.m p (cyeProg s.m).progId map = some e → rejected .lfRevert e.result (fun n => n.cye = s.m.cye)) ∧
        (exchBad s.m p (cyeProg s.m).progId map = none → arms .lfRevert p map true)) ∧
      (∀ x : Exch, s.m.cye.exch = some x → nowU s.m + 2000 * unitNs < gridInstant x.tb →
        lfPhase s.m = 3 ∨ lfPhase s.m = 4 →
        rejected .lfAbort 15 fun n => lfPhase n = 3 ∧ n.cye = { s.m.cye with exch := none }) ∧
      (lfPhase s.m = 3 →
        Does .lfDiscard s [.regs, .cye] [Reg.CYE_LF_STAT] fun n =>
          lfPhase n = 0 ∧ n.cye = { s.m.cye with staged := none, retained := none, exch := none })) ∧
    (s.m.cye.exch = none → DoesNothing .lfAbort s) ∧
    (lfPhase s.m ≠ 3 → DoesNothing .lfDiscard s) ∧
    (∀ (x : Exch) (asked : Nat), s.live → s.m.cye.exch = some x → x.askedAt = some asked →
      (asked + 100 * edgesMs ≤ s.m.tim.edge → rejected .lfPeerTimeout 17 fun n => n.cye = { s.m.cye with exch := none }) ∧
      (s.m.tim.edge < asked + 100 * edgesMs → DoesNothing .lfPeerTimeout s))

/-- R266, R270, R271. 2 µs before Tb, and at Tb, an old run in progress moves the exchange on to the next instant that
suits both programs and counts it; at the third time in a row the exchange is abandoned with RESULT 16. At Tb the new
program runs, with every instance at its initial value and every task at its offset from Tb, and the old one's states
are kept for carry-over. When carry-over is done the old image is retained, RESULT is 1 and the counts are shown. -/
def Obligations.TheSwitchHappensAtTb : Prop :=
  ∀ (s : State), s.live →
    (∀ (c : Instr) (x : Exch) (new : Prog), s.m.cye.staged = some new → oldRun s.m = true →
      (c = .lfPreSwitchCheck ∧ switchNear s.m 2000 = some x) ∨ (c = .lfSwitch ∧ switchNear s.m 0 = some x) →
      let k := rf s.m Reg.CYE_LF_STAT 5 4 + 1
      let tb := x.tb + switchStep s.m new
      (k < 3 →
        Does c s [.regs, .tel, .cye] [Reg.CYE_LF_STAT, Reg.CYE_LF_TB_LO, Reg.CYE_LF_TB_HI] fun n =>
          n.cye = { s.m.cye with exch := some { x with tb := tb } } ∧ rf n Reg.CYE_LF_STAT 5 4 = k ∧
          rd n Reg.CYE_LF_TB_LO = loW (uNs (gridInstant tb)) ∧
          Raised { src := 6, code := 0x5F, cls := 2, items := [1, 1] } s.m n) ∧
      (3 ≤ k →
        Does c s [.regs, .tel, .cye] [Reg.CYE_LF_STAT, Reg.CYE_LF_ERR] fun n =>
          n.cye = { s.m.cye with exch := none } ∧ lfPhase n = 3 ∧ rf n Reg.CYE_LF_STAT 15 8 = 16 ∧
          Raised { src := 6, code := 0x5F, cls := 2, items := [16, 0] } s.m n)) ∧
    (oldRun s.m = false → DoesNothing .lfPreSwitchCheck s) ∧
    (∀ (x : Exch) (new : Prog), switchNear s.m 0 = some x → s.m.cye.staged = some new → oldRun s.m = false →
      Does .lfSwitch s (.ladder :: releaseParts)
        ([Reg.CYE_FLAGS, Reg.CYE_LF_STAT, Reg.CYE_TBL_STAT] ++ releaseRegs) fun n =>
        n.cye.prog = some new ∧ lfPhase n = 5 ∧ n.cye.exch = none ∧ n.cye.staged = none ∧ n.cye.carry = some x.map ∧
        n.cye.old = some (cyeProg s.m) ∧ n.cye.insts = progInit new new.enabled [] ∧ n.cye.oldInsts = s.m.cye.insts ∧
        ∀ t ∈ new.enabled, (getTask n t).next = x.tb + tOffset (new.task t) * planeP new.rate) ∧
    (switchNear s.m 0 = none → DoesNothing .lfSwitch s) ∧
    (∀ (map : List MapEnt) (old : Prog), s.m.cye.carry = some map → s.m.cye.old = some old →
      Does .lfCarryOverDone s [.regs, .tel, .key, .cye]
        [Reg.CYE_LF_STAT, Reg.CYE_LF_COUNT_A, Reg.CYE_LF_COUNT_B, Reg.KEY_MR3_COUNT] fun n =>
        lfPhase n = 0 ∧ rf n Reg.CYE_LF_STAT 15 8 = 1 ∧ rf n Reg.CYE_LF_STAT 5 4 = 0 ∧
        rf n Reg.CYE_LF_COUNT_A 15 0 = (carryInsts s.m map).1 % 65536 ∧
        n.cye = { s.m.cye with
                  insts := (carryInsts s.m map).2.2, carry := none, old := none, oldTasks := [], oldInsts := [],
                  retained := some old, lastMap := map }) ∧
    (s.m.cye.carry = none → DoesNothing .lfCarryOverDone s)

/-! ## GOOSE publication, subscription and control locks (chapter 09) -/

/-- R283, R284, R285, R291. When the target of held publication commands comes they leave the PCB, and one that changes
a member counts as a state change: stNum rises by one step, sqNum is 0, and the target is the instant of change. A
retransmission that is due raises sqNum, lengthens the interval by its curve and changes no value; before it is due, or
on a PCB that is off, nothing happens. No other PCB changes. R296, R301. A VALID subscription whose supervision time
ends is LOST, with its flag and event 0x60, and keeps its values. The end of a SELECTED lock's lease makes the lock
FREE, discards the host write that it carries, counts the release and raises event 0x64, unless a standby hears its
active module; a lock in another state is left alone. -/
def Obligations.PublicationsSubscriptionsAndLocks : Prop :=
  (∀ (s : State) (pcb : BitVec 10), s.live →
     let i := pcb.toNat
     let p := getPub s.m i
     let ready := sortBy (fun a b => decide (a.target ≤ b.target)) (p.held.filter fun h => decide (h.target ≤ nowU s.m))
     let c := curveOf s.m (pCurve (pcbEntry s.m i))
     let iv := min (p.interval * fld c 0 23 16 / 16) (fld c 1 15 0 * 1000)
     (Does (.publishTarget pcb) s [.regs, .tel, .hif, .mac, .out, .par] ([Reg.OUT_FLAGS, Reg.OUT_PUB_SENT] ++ dropCnts)
       fun n =>
         (getPub n i).held = p.held.filter (fun h => decide (nowU s.m < h.target)) ∧
         (∀ j, j ≠ i → getPub n j = getPub s.m j) ∧
         ∀ (h : HeldPub) (x : PubItem), ready = [h] → h.items = [x] → pubCounts s.m = true → p.merge ≠ some h.target →
           (putMember i x.member.toNat 1 (fun t => hostTo t x.value) x.quality.toNat s.m).2 = true →
           (getPub n i).stNum = numUp p.stNum ∧ (getPub n i).sqNum = 0 ∧ (getPub n i).change = h.target) ∧
     (p.on = true → due p.nextTx (nowU s.m) = true →
       Does (.gooseRetransmit pcb) s [.regs, .tel, .mac, .out, .par] ([Reg.OUT_FLAGS, Reg.OUT_PUB_SENT] ++ dropCnts) fun n =>
         (getPub n i).sqNum = numUp p.sqNum ∧ (getPub n i).stNum = p.stNum ∧ (getPub n i).vals = p.vals ∧
         (getPub n i).interval = iv ∧
         (getPub n i).nextTx = (if curveRuns c then p.nextTx.map (· + iv * 1000 * unitNs) else none) ∧
         ∀ j, j ≠ i → getPub n j = getPub s.m j) ∧
     (p.on = false ∨ due p.nextTx (nowU s.m) = false → DoesNothing (.gooseRetransmit pcb) s)) ∧
  (∀ (s : State), s.live →
     (∀ b : BitVec 10, (getSub s.m b.toNat).status = 2 → due (getSub s.m b.toNat).deadline (nowU s.m) = true →
       Does (.subTalExpiry b) s [.regs, .tel, .out, .sio] [Reg.OUT_FLAGS, Reg.SIO_FLAGS] fun n =>
         rb n Reg.OUT_FLAGS 3 = true ∧ getSub n b.toNat = { getSub s.m b.toNat with status := 3, deadline := none } ∧
         ∀ j, j ≠ b.toNat → getSub n j = getSub s.m j) ∧
     (∀ b : BitVec 8,
       let l := getLock s.m b.toNat
       (l.state = 1 → l.leaseEnd ≤ nowNs s.m → leaseRuns s.m = true →
         Does (.lockLeaseEnd b) s [.regs, .tel, .hif, .cye, .out, .par] [Reg.OUT_LOCK_RELEASES] fun n =>
           getLock n b.toNat = Lock.init b.toNat ∧ (∀ j, j ≠ b.toNat → getLock n j = getLock s.m j) ∧
           rd n Reg.OUT_LOCK_RELEASES = rd s.m Reg.OUT_LOCK_RELEASES + 1 ∧
           n.cye = { s.m.cye with pend := s.m.cye.pend.filter fun h => decide (h.lock ≠ some b.toNat) } ∧
           Raised { src := 7, code := 0x64, cls := 1, items := [b.toNat, 3],
                    extra := leBytes 4 l.obj ++ leBytes 2 l.owner } s.m n) ∧
       (l.state ≠ 1 ∨ nowNs s.m < l.leaseEnd ∨ leaseRuns s.m = false → DoesNothing (.lockLeaseEnd b) s)))

/-- R303, R577. A GO that reads returns the words of an entry, padded with zeros to 16; a GO that writes stages the
entry for the next plane tick, or commits at once without a grid. Status tables cannot be written (FIELD 11), and a
table or an index that is not there sets the error bit. -/
def Obligations.OutWindowReadsAndStages : Prop :=
  ∀ (s : State) (cmd : Word), s.writable →
    let t := bits cmd 20 17
    let i := bits cmd 16 0
    let shown := t = 1 ∨ t = 3 ∨ t = 7
    (i < outSize t →
      Does (.outTblRead cmd) s [.regs] (Reg.OUT_TBL_CMD :: rowAt Reg.OUT_TBL_DATA 16) fun n =>
        ∀ k < 16, rd n (Reg.OUT_TBL_DATA + 4 * k) = (outWords s.m t i).getD k 0) ∧
    (outSize t ≤ i →
      Does (.outTblRead cmd) s [.regs] [Reg.OUT_TBL_CMD, Reg.OUT_TBL_STAT] fun n => rb n Reg.OUT_TBL_STAT 1 = true) ∧
    (shown →
      Does (.outTblWrite cmd) s [.regs] [Reg.OUT_TBL_CMD, Reg.OUT_TBL_STAT, Reg.OUT_FLAGS, Reg.OUT_CFG_ERR] fun n =>
        rb n Reg.OUT_TBL_STAT 1 = true ∧ rf n Reg.OUT_CFG_ERR 7 0 = 11) ∧
    (¬ shown → outSize t ≤ i →
      Does (.outTblWrite cmd) s [.regs] [Reg.OUT_TBL_CMD, Reg.OUT_TBL_STAT] fun n => rb n Reg.OUT_TBL_STAT 1 = true) ∧
    (¬ shown → i < outSize t → s.m.tim.grid = true →
      Does (.outTblWrite cmd) s [.regs, .out] [Reg.OUT_TBL_CMD, Reg.OUT_TBL_STAT] fun n =>
        rb n Reg.OUT_TBL_STAT 0 = true ∧ n.out = { s.m.out with pend := s.m.out.pend ++ [(t, i, outData s.m)] }) ∧
    (¬ shown → i < outSize t → s.m.tim.grid = false →
      Does (.outTblWrite cmd) s [.regs, .tel, .mac, .out, .par]
        ([Reg.OUT_TBL_CMD, Reg.OUT_TBL_STAT, Reg.OUT_FLAGS, Reg.OUT_CFG_ERR, Reg.OUT_PUB_SENT] ++ dropCnts) fun n =>
        rb n Reg.OUT_TBL_STAT 0 = false ∧ n.out.pend = [])

/-! ## Safety I/O (chapter 10) -/

/-- R309, R310. Every 250 µs both channels take the receivers' levels, and the next sample is due 250 µs later. An input
whose receivers differ for longer than 2 ms becomes FAULT, with its flag and event 0x6A; one that agrees for 100 ms
leaves FAULT. R312, R317. A safety cycle latches the filtered inputs in both channels, keeps the ones before, and is due
again at the next module-time millisecond. A minimum demand time that ends, and a write of LATCH, evaluate the demands
of both channels anew; the write first clears the latches of the pairs it names that no other source demands. -/
def Obligations.SafetyInputsAndCycles : Prop :=
  (∀ (s : State), s.live →
     (∀ rawA rawB : Word, s.m.sio.nextSample ≤ s.m.tim.edge →
       Does (.sioInputSample rawA rawB) s [.sio] [] fun n =>
         n.sio.a = chanSample s.m rawA.toNat s.m.sio.a ∧ n.sio.b = chanSample s.m rawB.toNat s.m.sio.b ∧
         n.sio.a.raw = rawA.toNat ∧ n.sio.b.raw = rawB.toNat ∧ n.sio.nextSample = s.m.tim.edge + 250 * edgesUs ∧
         n.sio = { s.m.sio with
                   a := n.sio.a, b := n.sio.b, differ := n.sio.differ, agree := n.sio.agree, fbSince := n.sio.fbSince,
                   fbBad := n.sio.fbBad, nextSample := n.sio.nextSample }) ∧
     (∀ rawA rawB : Word, s.m.tim.edge < s.m.sio.nextSample → DoesNothing (.sioInputSample rawA rawB) s) ∧
     (∀ (ix : BitVec 5) (t : Nat), s.m.sio.differ.getD ix.toNat none = some t → t + 2 * edgesMs < s.m.tim.edge →
       (inFault s.m).testBit ix.toNat = false →
       Does (.inputDisagreeTimeout ix) s [.regs, .tel, .sio] [Reg.SIO_IN_FAULT, Reg.SIO_FLAGS] fun n =>
         (inFault n).testBit ix.toNat = true ∧ rb n Reg.SIO_FLAGS 2 = true ∧
         n.sio = { s.m.sio with fbSince := n.sio.fbSince, fbBad := n.sio.fbBad } ∧
         Raised { src := 8, code := 0x6A, cls := 0, items := [ix.toNat] } s.m n) ∧
     (∀ ix : BitVec 5, s.m.sio.differ.getD ix.toNat none = none → DoesNothing (.inputDisagreeTimeout ix) s) ∧
     (∀ (ix : BitVec 5) (t : Nat), s.m.sio.agree.getD ix.toNat none = some t → t + 100 * edgesMs ≤ s.m.tim.edge →
       (inFault s.m).testBit ix.toNat = true →
       Does (.inputAgreeTimeout ix) s [.regs, .sio] [Reg.SIO_IN_FAULT] fun n =>
         (inFault n).testBit ix.toNat = false ∧ n.sio = { s.m.sio with fbSince := n.sio.fbSince, fbBad := n.sio.fbBad }) ∧
     (∀ ix : BitVec 5, s.m.sio.agree.getD ix.toNat none = none → DoesNothing (.inputAgreeTimeout ix) s)) ∧
  (∀ (s : State),
     (s.live → s.m.tim.running = true → s.m.sio.nextCycle ≤ nowNs s.m / 1000000 →
       Does .safetyCycle s [.regs, .tel, .sio] [Reg.SIO_FLAGS, Reg.SIO_STAT] fun n =>
         n.sio.nextCycle = nowNs s.m / 1000000 + 1 ∧
         n.sio.a.latch = effIn s.m s.m.sio.a ∧ n.sio.a.prev = s.m.sio.a.latch ∧ n.sio.a.filt = s.m.sio.a.filt ∧
         n.sio.b.latch = effIn s.m s.m.sio.b ∧ n.sio.b.prev = s.m.sio.b.latch ∧ n.sio.b.filt = s.m.sio.b.filt ∧
         n.sio.tbl = s.m.sio.tbl ∧ (s.m.sio.takeover = 1 → n.sio.takeover = 0)) ∧
     (s.m.tim.running = false ∨ nowNs s.m / 1000000 < s.m.sio.nextCycle → DoesNothing .safetyCycle s) ∧
     (∀ p : BitVec 3, s.live → (s.m.sio.a.dems.getD p.toNat DemSt.init).on = true → sioRuns s.m = true →
       Does (.demandMinExpiry p) s [.regs, .tel, .sio] [Reg.SIO_FLAGS] fun n =>
         n.sio.a.dems = (chanDems s.m s.m.sio.a).dems ∧ n.sio.b.dems = (chanDems s.m s.m.sio.b).dems) ∧
     (∀ p : BitVec 3, (s.m.sio.a.dems.getD p.toNat DemSt.init).on = false → DoesNothing (.demandMinExpiry p) s) ∧
     (∀ data : Word, s.writable →
       let f (c : Chan) : Chan :=
         { c with dems := c.dems.zipIdx.map fun x =>
             if (bits data 7 0).testBit x.2 && decide (x.1.src % 8 = 0) then { x.1 with latched := false } else x.1 }
       Does (.sioLatchReset data) s [.regs, .tel, .sio] [Reg.SIO_FLAGS] fun n =>
         n.sio.a.dems = (if sioRuns s.m then (chanDems s.m (f s.m.sio.a)).dems else (f s.m.sio.a).dems) ∧
         n.sio.b.dems = (if sioRuns s.m then (chanDems s.m (f s.m.sio.b)).dems else (f s.m.sio.b).dems)))

/-- R307, R308, R331. Every 100 µs channel A sends module time over the cross-link. A heartbeat that arrives whole
renews channel B's watch and is answered; the answer renews channel A's and shows channel B ready; a demand reaches
channel B; a message that fails its check is dropped. Silence for 500 µs while SIO runs removes the supply of the timed
outputs: each is off. Channel B's rate check beyond 100 ppm declares a mismatch and puts every pair in LOCKOUT. -/
def Obligations.ChannelsWatchEachOther : Prop :=
  ∀ (s : State), s.live →
    let silent := some (s.m.tim.edge + 500 * edgesUs)
    (s.m.sio.nextBeat ≤ s.m.tim.edge →
      Does .crosslinkHeartbeat s [.tel, .sio] [] fun n =>
        n.sio = { s.m.sio with nextBeat := s.m.tim.edge + 100 * edgesUs, toB := s.m.sio.toB ++ [.heartbeat (nowNs s.m)] } ∧
        n.tel = { s.m.tel with out := s.m.tel.out ++ [.xlink false [0, nowNs s.m]] }) ∧
    (s.m.tim.edge < s.m.sio.nextBeat → DoesNothing .crosslinkHeartbeat s) ∧
    (∀ (x : XMsg) (t : List XMsg), s.m.sio.toB = x :: t →
      Does (.crosslinkMsgRx true false) s [.sio] [] (fun n => n.sio = { s.m.sio with toB := t }) ∧
      (∀ k : Nat, x = .heartbeat k →
        Does (.crosslinkMsgRx true true) s [.tel, .sio] [] fun n =>
          n.sio = { s.m.sio with toB := t, b := { s.m.sio.b with silentAt := silent },
                                 toA := s.m.sio.toA ++ [.heartbeat k] }) ∧
      (∀ c : Nat, x = .demand c →
        Does (.crosslinkMsgRx true true) s [.tel, .sio] [] fun n => n.sio.toB = t ∧ n.sio.b.cye = c)) ∧
    (∀ (k : Nat) (t : List XMsg), s.m.sio.toA = .heartbeat k :: t →
      Does (.crosslinkMsgRx false true) s [.regs, .sio] [Reg.SIO_STAT] fun n =>
        rb n Reg.SIO_STAT 2 = true ∧
        n.sio = { s.m.sio with toA := t, a := { s.m.sio.a with silentAt := silent } }) ∧
    (∀ chB : Bool, due (if chB then s.m.sio.b else s.m.sio.a).silentAt s.m.tim.edge = true →
      rb s.m Reg.SIO_CTRL 0 = true →
      Does (.crosslinkSilence chB) s [.regs, .tel, .sio] [Reg.SIO_STAT, Reg.SIO_FLAGS] fun n =>
        rb n Reg.SIO_STAT 2 = false ∧ n.sio.cut = true ∧
        ∀ (t : Nat) (x : ToutSt), t < 16 → n.sio.touts[t]? = some x → x.level = false) ∧
    (∀ chB : Bool, due (if chB then s.m.sio.b else s.m.sio.a).silentAt s.m.tim.edge = false →
      DoesNothing (.crosslinkSilence chB) s) ∧
    (∀ ppm : BitVec 20, s.m.sio.nextRate ≤ s.m.tim.edge → ppm.toNat ≤ 100 →
      Does (.chbRateCheck ppm) s [.sio] [] fun n =>
        n.sio = { s.m.sio with nextRate := s.m.tim.edge + 100 * edgesMs }) ∧
    (∀ ppm : BitVec 20, s.m.sio.nextRate ≤ s.m.tim.edge → 100 < ppm.toNat → rb s.m Reg.SIO_CTRL 0 = true →
      rb s.m Reg.SIO_STAT 1 = false →
      Does (.chbRateCheck ppm) s [.regs, .tel, .sio] [Reg.SIO_STAT, Reg.SIO_FLAGS] fun n =>
        rb n Reg.SIO_STAT 1 = true ∧ ∀ (p : Nat) (x : PairSt), p < 8 → n.sio.pairs[p]? = some x → x.lockout = true)

/-- R314, R315. A timed output whose readback differs becomes FAULT with reason 1 and goes off; one that draws too
little shows OPEN_LOAD with event 0x6B. A write of SIO_TOUT_RESET clears the FAULT of the outputs that it names and
whose readback is off, and of no other. R320, R321, R322. A pair whose readback disagrees, and the pair of a feedback
input that misses its state for FB_MS, enter LOCKOUT: both channels' switches open, the flag is set, and the reason is
1, 5 or 3. A write of LOCKOUT starts the reset test of channel A on a pair whose cause has gone. R323, R324. A
discrepancy that lasts longer than DISC_MS is the evaluation's safe reaction; a two-step operation whose second step
does not come within WIN_MS is refused with event 0x6D, code 4; PULSE_MS after an operation its demand ends. -/
def Obligations.TimedOutputsPairsAndEvaluations : Prop :=
  (∀ (s : State) (t : BitVec 4) (x : ToutSt), s.m.sio.touts[t.toNat]? = some x →
     (s.live → fbit (sioEntry s.m 1 t.toNat) 0 0 = true → fbit (sioEntry s.m 1 t.toNat) 0 3 = true → x.test = none →
       sioRuns s.m = true → x.fault = false →
       Does (.toutReadbackFault t) s [.regs, .tel, .sio] [Reg.SIO_FLAGS] fun n =>
         rb n Reg.SIO_FLAGS 3 = true ∧
         ∃ y : ToutSt, n.sio.touts[t.toNat]? = some y ∧ y.fault = true ∧ y.reason = 1 ∧ y.level = false) ∧
     (fbit (sioEntry s.m 1 t.toNat) 0 3 = false → DoesNothing (.toutReadbackFault t) s) ∧
     (s.live → fbit (sioEntry s.m 1 t.toNat) 0 0 = true → fbit (sioEntry s.m 1 t.toNat) 0 4 = true → x.level = false →
       x.openLoad = false →
       Does (.toutOpenLoad t) s [.tel, .sio] [] fun n =>
         n.sio = { s.m.sio with touts := setAt s.m.sio.touts t.toNat { x with openLoad := true } } ∧
         Raised { src := 8, code := 0x6B, cls := 0, items := [t.toNat, 3] } s.m n) ∧
     (x.level = true ∨ x.openLoad = true → DoesNothing (.toutOpenLoad t) s) ∧
     (∀ (data : Word) (back : BitVec 16), s.writable →
       Does (.sioToutReset data back) s [.regs, .tel, .sio] [Reg.SIO_FLAGS] fun n =>
         ∃ y : ToutSt, n.sio.touts[t.toNat]? = some y ∧
           y.fault = (x.fault && !(bit data t.toNat && !back.toNat.testBit t.toNat)))) ∧
  (∀ (s : State) (x : PairSt),
     (∀ (p : BitVec 3) (stuck : Bool), s.live → s.m.sio.pairs[p.toNat]? = some x → sioRuns s.m = true →
       fbit (sioEntry s.m 2 p.toNat) 0 0 = true → x.test = none → x.lockout = false →
       Does (.pairReadbackMismatch p stuck) s [.regs, .tel, .sio] [Reg.SIO_FLAGS] fun n =>
         rb n Reg.SIO_FLAGS 1 = true ∧ n.sio.a.sw.testBit p.toNat = false ∧ n.sio.b.sw.testBit p.toNat = false ∧
         ∃ y : PairSt, n.sio.pairs[p.toNat]? = some y ∧ y.lockout = true ∧ y.reason = (if stuck then 5 else 1)) ∧
     (∀ (p : BitVec 3) (stuck : Bool), sioRuns s.m = false → DoesNothing (.pairReadbackMismatch p stuck) s) ∧
     (∀ (ix : BitVec 5) (t : Nat),
       let p := fld (sioEntry s.m 0 ix.toNat) 0 4 2
       s.live → s.m.sio.pairs[p]? = some x → sioRuns s.m = true → s.m.sio.fbSince.getD ix.toNat none = some t →
       t + fld (sioEntry s.m 0 ix.toNat) 1 9 0 * edgesMs ≤ s.m.tim.edge → s.m.sio.fbBad.testBit ix.toNat = false →
       x.lockout = false →
       Does (.feedbackTimeout ix) s [.regs, .tel, .sio] [Reg.SIO_FLAGS] fun n =>
         rb n Reg.SIO_FLAGS 1 = true ∧ n.sio.a.sw.testBit p = false ∧ n.sio.b.sw.testBit p = false ∧
         ∃ y : PairSt, n.sio.pairs[p]? = some y ∧ y.lockout = true ∧ y.reason = 3) ∧
     (∀ ix : BitVec 5, s.m.sio.fbSince.getD ix.toNat none = none → DoesNothing (.feedbackTimeout ix) s) ∧
     (∀ (data : Word) (cleared : Byte) (p : BitVec 3), s.writable → s.m.sio.pairs[p.toNat]? = some x →
       bit data (8 + p.toNat) = true → x.lockout = true → x.test = none →
       x.reason = 2 ∨ ((x.reason = 1 ∨ x.reason = 5) ∧ cleared.toNat.testBit p.toNat = true) ∨
         (x.reason = 3 ∧ ∀ i < 32, fbDiffers s.m i = true → fld (sioEntry s.m 0 i) 0 4 2 ≠ p.toNat) →
       Does (.sioLockoutReset data cleared) s [.tel, .sio] [] fun n =>
         ∃ y : PairSt, n.sio.pairs[p.toNat]? = some y ∧ y.lockout = true ∧
           y.test = some { ch := 0, start := s.m.tim.edge, reset := true })) ∧
  (∀ (s : State) (b : BitVec 3) (v : EvSt), s.live → sioRuns s.m = true → s.m.sio.a.evals[b.toNat]? = some v →
     let k := b.toNat
     let e := sioEntry s.m 3 k
     (∀ t : Nat, v.disc = some t → t + fld e 2 15 0 * edgesMs < s.m.tim.edge → v.react = false →
       Does (.evalDiscrepancyTimeout b) s [.regs, .tel, .sio] [Reg.SIO_FLAGS] fun n =>
         n.sio.a.evals[k]? = some { v with react := true, dem := decide (fld e 0 2 1 = 1),
                                           alarm := v.alarm || !decide (fld e 0 2 1 = 1) }) ∧
     (v.disc = none ∨ v.react = true → DoesNothing (.evalDiscrepancyTimeout b) s) ∧
     (v.step = 1 → v.selAt + fld e 2 15 0 * edgesMs ≤ s.m.tim.edge →
       Does (.evalWindowTimeout b) s [.tel, .sio] [] fun n =>
         n.sio = { s.m.sio with
                   a := { s.m.sio.a with evals := modAt s.m.sio.a.evals k fun v => { v with step := 0 } },
                   b := { s.m.sio.b with evals := modAt s.m.sio.b.evals k fun v => { v with step := 0 } } } ∧
         Raised { src := 8, code := 0x6D, cls := 0, items := [k, 4] } s.m n) ∧
     (v.step ≠ 1 → DoesNothing (.evalWindowTimeout b) s) ∧
     (due v.pulse s.m.tim.edge = true →
       Does (.evalPulseEnd b) s [.regs, .tel, .sio] [Reg.SIO_FLAGS] fun n =>
         n.sio.a.evals[k]? = some { v with dem := false, pulse := none }) ∧
     (due v.pulse s.m.tim.edge = false → DoesNothing (.evalPulseEnd b) s))

/-- R327, R328, R329. On its schedule, once a second, a channel of a pair, or a timed output that is on, is tested; a
gate edge near a timed output defers its test by 100 ms; the test of an output switches its driver off. A confirmed test
ends without a deferral; one without confirmation at 300 µs fails, is counted, and ends in LOCKOUT or FAULT. A deferred
test is tried again when it is due. -/
def Obligations.TestPulses : Prop :=
  ∀ (s : State), s.live →
    (∀ (p : BitVec 3) (x : PairSt), s.m.sio.pairs[p.toNat]? = some x →
      let sec := nowNs s.m / 1000000000 + 1
      (∀ chB : Bool, pairTestable s.m p.toNat = true → s.m.tim.running = true →
        p.toNat * 62500000 + b2n chB * 500000000 ≤ nowNs s.m % 1000000000 → x.done.getD (b2n chB) 0 ≠ sec →
        Does (.pairTestPulse p chB) s [.tel, .sio] [] fun n =>
          ∃ y : PairSt, n.sio.pairs[p.toNat]? = some y ∧ y.done = setAt x.done (b2n chB) sec ∧
            y.test = some { ch := b2n chB, start := s.m.tim.edge, reset := false }) ∧
      (∀ chB : Bool, x.done.getD (b2n chB) 0 = sec → DoesNothing (.pairTestPulse p chB) s) ∧
      (∀ (ix : BitVec 4) (t : PairTest), ix.toNat = p.toNat → x.test = some t →
        (t.start + 20 * edgesUs ≤ s.m.tim.edge → t.reset = false →
          Does (.testPulseConfirm false ix) s [.tel, .sio] [] fun n =>
            ∃ y : PairSt, n.sio.pairs[p.toNat]? = some y ∧ y.test = none ∧ y.defers = setAt x.defers t.ch 0 ∧
              y.lockout = x.lockout) ∧
        (t.start + 20 * edgesUs ≤ s.m.tim.edge → t.reset = true → t.ch = 0 →
          Does (.testPulseConfirm false ix) s [.tel, .sio] [] fun n =>
            ∃ y : PairSt, n.sio.pairs[p.toNat]? = some y ∧ y.test = some { ch := 1, start := s.m.tim.edge, reset := true }) ∧
        (t.start + 20 * edgesUs ≤ s.m.tim.edge → t.reset = true → t.ch ≠ 0 →
          Does (.testPulseConfirm false ix) s [.tel, .sio] [] fun n =>
            ∃ y : PairSt, n.sio.pairs[p.toNat]? = some y ∧ y.test = none ∧ y.lockout = false ∧ y.reason = 0) ∧
        (t.start + 300 * edgesUs ≤ s.m.tim.edge →
          Does (.testPulseTimeout false ix) s [.regs, .tel, .sio] [Reg.SIO_TEST_FAILS, Reg.SIO_FLAGS] fun n =>
            rd n Reg.SIO_TEST_FAILS = rd s.m Reg.SIO_TEST_FAILS + 1 ∧
            ∃ y : PairSt, n.sio.pairs[p.toNat]? = some y ∧ y.test = none ∧ y.lockout = true)) ∧
      (∀ (ix : BitVec 4) (chB : Bool), ix.toNat = p.toNat → due (x.retry.getD (b2n chB) none) s.m.tim.edge = true →
        pairTestable s.m p.toNat = true →
        Does (.testRetry false ix chB) s [.tel, .sio] [] fun n =>
          ∃ y : PairSt, n.sio.pairs[p.toNat]? = some y ∧ y.retry = setAt x.retry (b2n chB) none ∧
            y.test = some { ch := b2n chB, start := s.m.tim.edge, reset := false })) ∧
    (∀ (b : BitVec 4) (x : ToutSt), s.m.sio.touts[b.toNat]? = some x →
      let t := b.toNat
      let sec := nowNs s.m / 1000000000 + 1
      let due' := 31250000 + t * 62500000 ≤ nowNs s.m % 1000000000
      (toutTestable s.m t = true → s.m.tim.running = true → due' → x.done ≠ sec → edgeNear s.m t = false →
        Does (.toutTestPulse b) s [.tel, .sio] [] fun n =>
          n.sio = { s.m.sio with
                    touts := setAt s.m.sio.touts t { x with done := sec, test := some s.m.tim.edge, readback := false } } ∧
          n.tel = { s.m.tel with out := s.m.tel.out ++ [.pin (.tout t) false (nowNs s.m) (nowFrac s.m)] }) ∧
      (toutTestable s.m t = true → s.m.tim.running = true → due' → x.done ≠ sec → edgeNear s.m t = true →
        Does (.toutTestPulse b) s [.regs, .tel, .sio] [Reg.SIO_FLAGS] fun n =>
          n.sio = { s.m.sio with
                    touts := setAt s.m.sio.touts t { x with done := sec, test := none, defers := x.defers + 1,
                                                            retry := some (s.m.tim.edge + 100 * edgesMs) } }) ∧
      (x.done = sec → DoesNothing (.toutTestPulse b) s) ∧
      (∀ c : Nat, x.test = some c → c + 20 * edgesUs ≤ s.m.tim.edge →
        Does (.testPulseConfirm true b) s [.tel, .sio] [] fun n =>
          n.sio = { s.m.sio with touts := setAt s.m.sio.touts t { x with test := none, defers := 0, readback := x.level } }) ∧
      (∀ c : Nat, x.test = some c → c + 300 * edgesUs ≤ s.m.tim.edge →
        Does (.testPulseTimeout true b) s [.regs, .tel, .sio] [Reg.SIO_TEST_FAILS, Reg.SIO_FLAGS] fun n =>
          rd n Reg.SIO_TEST_FAILS = rd s.m Reg.SIO_TEST_FAILS + 1 ∧
          ∃ y : ToutSt, n.sio.touts[t]? = some y ∧ y.fault = true) ∧
      (∀ chB : Bool, due x.retry s.m.tim.edge = true → x.test = none → toutTestable s.m t = false →
        Does (.testRetry true b chB) s [.sio] [] fun n =>
          n.sio = { s.m.sio with touts := setAt s.m.sio.touts t { x with retry := none } }))

/-- R333, R334, R335. RUN = 1 with IO_EN, channel B ready and the right CRC starts the start-up tests and clears the
LOCKOUT of a channel mismatch; FIELD 1, 2 or 3 refuses it. At the end of the tests SIO runs, and a pair whose test
failed is in LOCKOUT. RUN = 0 opens every switch and turns every timed output off. The window returns the words of an
entry; a write, while RUN is 0, stores an entry that is off or passes its checks. -/
def Obligations.SafetyRunsStopsAndIsConfigured : Prop :=
  ∀ (s : State),
    (s.writable → rb s.m Reg.SIO_CTRL 0 = false →
      let crcOk := sioCrc s.m = (rd s.m Reg.SIO_CFG_CRC).toNat
      let refused (field : Nat) :=
        Does .sioRun s [.regs] [Reg.SIO_FLAGS, Reg.SIO_CFG_ERR] fun n =>
          rb n Reg.SIO_FLAGS 0 = true ∧ rf n Reg.SIO_CFG_ERR 7 0 = field
      (rb s.m Reg.SIO_CTRL 1 = true → rb s.m Reg.SIO_STAT 2 = true → crcOk →
        Does .sioRun s [.regs, .sio] [Reg.SIO_CTRL] fun n =>
          rb n Reg.SIO_CTRL 0 = true ∧
          n.sio = { s.m.sio with
                    starting := true, cut := false, mismatch := 0,
                    pairs := s.m.sio.pairs.map fun p =>
                      if p.reason = 4 then { p with lockout := false, reason := 0 } else p }) ∧
      (rb s.m Reg.SIO_CTRL 1 = false → refused 1) ∧
      (rb s.m Reg.SIO_CTRL 1 = true → rb s.m Reg.SIO_STAT 2 = false → refused 2) ∧
      (rb s.m Reg.SIO_CTRL 1 = true → rb s.m Reg.SIO_STAT 2 = true → ¬ crcOk → refused 3)) ∧
    (∀ (badPairs : Byte) (badTouts : BitVec 16), s.live → s.m.sio.starting = true →
      Does (.sioStartTestsDone badPairs badTouts) s [.regs, .tel, .sio] [Reg.SIO_STAT, Reg.SIO_FLAGS, Reg.SIO_TEST_FAILS]
        fun n =>
        rb n Reg.SIO_STAT 0 = true ∧ n.sio.starting = false ∧
        ∀ (p : Nat) (y : PairSt), p < 8 → n.sio.pairs[p]? = some y → badPairs.toNat.testBit p = true →
          fbit (sioEntry s.m 2 p) 0 0 = true → fbit (sioEntry s.m 2 p) 0 5 = true → y.lockout = true) ∧
    (∀ (badPairs : Byte) (badTouts : BitVec 16), s.m.sio.starting = false →
      DoesNothing (.sioStartTestsDone badPairs badTouts) s) ∧
    (s.writable → rb s.m Reg.SIO_CTRL 0 = true →
      Does .sioStop s [.regs, .tel, .sio] [Reg.SIO_CTRL, Reg.SIO_STAT, Reg.SIO_FLAGS] fun n =>
        rb n Reg.SIO_CTRL 0 = false ∧ rb n Reg.SIO_STAT 0 = false ∧ rb n Reg.SIO_STAT 1 = false ∧ n.sio.a.sw = 0 ∧
        n.sio.b.sw = 0 ∧ ∀ (t : Nat) (x : ToutSt), t < 16 → n.sio.touts[t]? = some x → x.level = false) ∧
    (rb s.m Reg.SIO_CTRL 0 = false → DoesNothing .sioStop s) ∧
    (∀ cmd : Word, s.writable →
      let t := bits cmd 18 16
      let i := bits cmd 4 0
      let e := (((List.range 4).map fun k => rd s.m (Reg.SIO_TBL_DATA + 4 * k)).zip (sioMask t)).map fun p => p.1 &&& p.2
      let store (x : List Word) : Sio := { s.m.sio with tbl := NMap.set sioDflt s.m.sio.tbl (32 * t + i) x }
      let refused (field : Nat) (sio : Sio) :=
        Does (.sioTblWrite cmd) s [.regs, .sio] [Reg.SIO_TBL_CMD, Reg.SIO_TBL_STAT, Reg.SIO_FLAGS, Reg.SIO_CFG_ERR] fun n =>
          rb n Reg.SIO_TBL_STAT 1 = true ∧ rf n Reg.SIO_CFG_ERR 7 0 = field ∧ n.sio = sio
      (i < sioSize t →
        Does (.sioTblRead cmd) s [.regs] (Reg.SIO_TBL_CMD :: rowAt Reg.SIO_TBL_DATA (sioWords s.m t i).length) fun n =>
          ∀ k < (sioWords s.m t i).length, rd n (Reg.SIO_TBL_DATA + 4 * k) = (sioWords s.m t i).getD k 0) ∧
      (sioSize t ≤ i →
        Does (.sioTblRead cmd) s [.regs] [Reg.SIO_TBL_CMD, Reg.SIO_TBL_STAT] fun n => rb n Reg.SIO_TBL_STAT 1 = true) ∧
      (t < 5 → i < sioSize t → rb s.m Reg.SIO_CTRL 0 = false → fbit e 0 0 = false ∨ sioCheck s.m t i e = 0 →
        Does (.sioTblWrite cmd) s [.regs, .sio] [Reg.SIO_TBL_CMD] fun n => n.sio = store e) ∧
      (5 ≤ t → refused 10 s.m.sio) ∧
      (t < 5 → i < sioSize t → rb s.m Reg.SIO_CTRL 0 = true → refused 4 s.m.sio) ∧
      (t < 5 → i < sioSize t → rb s.m Reg.SIO_CTRL 0 = false → fbit e 0 0 = true → sioCheck s.m t i e ≠ 0 →
        refused (sioCheck s.m t i e) (store (entryOff e))))

/-! ## Commands, rings and functions (chapters 11 and 12) -/

/-- R344, R353, R363. A command whose function is not enabled changes nothing. One that fails a check that every command
has takes no effect: it takes the mark and is counted unless its status is BAD_SEQUENCE, DUPLICATE or NOT_ACTIVE. One
that passes, a NOP among them, takes the mark. The completion entry of either carries its SEQ, and its status where it
is refused, at the next place of the completion ring. R349, R383. At the acceptance instant, and not before it, share
writes of at least 2 µs ago are in force; a NOP that waits at the head of the PF's queue is decided. -/
def Obligations.CommandsAreDecided : Prop :=
  (∀ (s : State) (c : Instr) (f : Nat) (h : CmdHdr) (op : Op), commandOf c = some (f, h, op) →
     let st := firstChecks s.m f h op
     let entry (n : Pnm) (P : Word → Prop) : Prop := s.m.hif.cplDue = [] → ringOn s.m f 3 = true →
       ∃ w : List Word, Emit.write f (ringAddr s.m f 3 (modIdx s.m f 3) 32) w ∈ n.tel.out ∧ w.getD 0 0 = h.seq ∧
         P (w.getD 1 0)
     (¬ s.live ∨ fnOn s.m f = false → DoesNothing c s) ∧
     (Decides f h op s → st ≠ 0 →
       Does c s [.regs, .tel, .hif] [Reg.HIF_ACCEPTED] fun n =>
         (getFn n f).accSeq = (if consumes st then h.seq else (getFn s.m f).accSeq) ∧
         rd n Reg.HIF_ACCEPTED = rd s.m Reg.HIF_ACCEPTED + BitVec.ofNat 32 (b2n (consumes st)) ∧
         entry n fun w => bits w 15 8 = st ∧ bits w 7 0 = op.code % 256) ∧
     (op = .nop → Runs c f h op s [] [] fun n => entry n fun w => bits w 15 8 = 0 ∧ bits w 7 0 = 1)) ∧
  (∀ (s : State) (a : Nat), s.live → s.m.hif.accAt = some a →
     let parts : List Part := [.regs, .tel, .hif]
     let quiet := s.m.hif.svcReq = [] ∧ s.m.glb.maintReq = none ∧ s.m.par.commits = [] ∧ s.m.par.tx = none ∧
       pairState s.m = 0 ∧ ∀ k, (getLock s.m k).state = 1 → nowNs s.m < (getLock s.m k).leaseEnd
     (nowU s.m < a → DoesNothing .acceptanceInstant s) ∧
     (a ≤ nowU s.m → quiet → s.m.hif.fns = [] → (∀ f, fnOn s.m f = false) →
       (s.m.hif.staged = [] → Does .acceptanceInstant s parts [] fun n => n.hif.accAt = none) ∧
       (∀ f w d e : Nat, s.m.hif.staged = [(f, w, d, 0, e)] → 1 ≤ w → w ≤ 3 → e + 2 * edgesUs ≤ s.m.tim.edge →
         Does .acceptanceInstant s parts [Reg.shr f w] fun n =>
           n.hif.accAt = none ∧ n.hif.staged = [] ∧ rd n (Reg.shr f w) = loW d)) ∧
     (∀ (c : Fetched) (h : CmdHdr), a ≤ nowU s.m → quiet → s.m.hif.staged = [] → s.m.hif.cplDue = [] → vfList s.m = [] →
       Decides 0 h .nop s → (getFn s.m 0).cmds = [c] →
       c.hdr = h → c.op = .nop → c.ready = true → firstChecks s.m 0 h .nop = 0 →
       Does .acceptanceInstant s parts [Reg.HIF_ACCEPTED] fun n =>
         n.hif.accAt = none ∧ (getFn n 0).cmds = [] ∧ (getFn n 0).accSeq = h.seq ∧
         rd n Reg.HIF_ACCEPTED = rd s.m Reg.HIF_ACCEPTED + 1))

/-- R175, R178, R179, R228, R230. An accepted HOST_WRITE of an enabled word of its function is stored, or waits for the
next period start or its target. GATE_ARM arms the gate that the function's number names, GATE_UPDATE changes the timing
of an open gate, GATE_CANCEL ends a gate that is in time, and GATE_READ writes its sixteen words to the host; no other
gate changes. R404, R406, R407. An accepted CAPTURE_ARM that passes its checks places the first record of a free capture
in the segments it names. CAPTURE_DISARM ends a capture of its function, and CAPTURE_FORCE triggers one that takes
forced triggers. Only that capture's segments, and the MAGIC of records that it overlaps or discards, are written. -/
def Obligations.HostWritesGatesAndCapturesRun : Prop :=
  (∀ (s : State) (fn : BitVec 9) (h : CmdHdr),
     let f := fn.toNat
     (∀ (w : BitVec 12) (q : BitVec 16) (v : DWord),
       let x := getWord s.m w.toNat
       let held := nowU s.m < h.target.toNat * unitNs
       let late := h.target.toNat ≠ 0 ∧ h.target.toNat * unitNs ≤ nowU s.m
       let free := (∀ p ∈ s.m.cye.pend, p.word = w.toNat → p.target = none) ∧ x.en = true ∧ x.owner = f ∧
         (late → h.lateOk = true)
       (free → ¬ held → s.m.cye.running = false →
         Runs (.hostWrite fn h w q v) f h (.hostWrite w q v) s [.cye] [] fun n =>
           getWord n w.toNat = { x with value := v.toNat, q := q.toNat, late := (getWord n w.toNat).late,
                                        fresh := true, at' := nowU s.m, writes := x.writes + 1 } ∧
           ((getWord n w.toNat).late = true ↔ late) ∧ n.cye.pend = s.m.cye.pend ∧
           ∀ k, k ≠ w.toNat → getWord n k = getWord s.m k) ∧
       (free → held ∨ s.m.cye.running = true →
         Runs (.hostWrite fn h w q v) f h (.hostWrite w q v) s [.cye] [] fun n =>
           ∃ p : HostPend, n.cye = { s.m.cye with pend := s.m.cye.pend ++ [p] } ∧ p.word = w.toNat ∧ p.value = v.toNat ∧
             p.q = q.toNat ∧ (p.target = if held then some (h.target.toNat * unitNs) else none) ∧ p.accept = nowU s.m)) ∧
     (∀ (g : List Word) (loc : BitVec 10),
       let l := loc.toNat
       let known := if f = 0 then some l else mappedIdx s.m f l
       gateZero (gateFrom g) = false → gateFieldCheck s.m (gateFrom g) = 0 → (f = 0 → pfMay s.m l = true) →
         (f ≠ 0 → l < gateShare s.m f) → gateUse s.m f < gateShare s.m f → rb s.m Reg.GTE_CTRL 0 = true →
         (∀ i, known = some i → (getGate s.m i).active = false) → (known = none → gateAlloc s.m ≠ none) →
         Runs (.gateArm fn h g loc) f h (.gateArm g loc) s [.gte] [] fun n =>
           ∃ i : Nat, getGate n i = { gateFrom g with state := 1, owner := f, loc := l, prog := false } ∧
             (if f = 0 then i = l else mappedIdx n f l = some i) ∧ ∀ j, j ≠ i → getGate n j = getGate s.m j) ∧
     (∀ (loc : BitVec 10) (mask : BitVec 4) (comp : BitVec 32) (target : BitVec 16) (earliest latest : DWord) (i : Nat),
       let g := getGate s.m i
       let w := updWords mask.toNat comp.toNat target.toNat earliest.toNat latest.toNat g.w
       let c : Instr := .gateUpdate fn h loc mask comp target earliest latest
       mask ≠ 0 → (mask.toNat.testBit 0 = true → comp.toNat ≤ 1000000000) → gateOf s.m f loc.toNat = some i →
         (g.open' = true → updCheck w = 0 →
           Runs c f h (.gateUpdate loc mask comp target earliest latest) s [.gte] [] fun n =>
             getGate n i = { g with w := w } ∧ ∀ j, j ≠ i → getGate n j = getGate s.m j) ∧
         (g.open' = false → Runs c f h (.gateUpdate loc mask comp target earliest latest) s [] [] fun _ => True)) ∧
     (∀ (loc : BitVec 10) (i : Nat), gateOf s.m f loc.toNat = some i →
       let g := getGate s.m i
       (cancels s.m g = true → Runs (.gateCancel fn h loc) f h (.gateCancel loc) s [.gte] [] fun n =>
         getGate n i = { g with state := 9, afterCommit := decide (g.state = 3), byProgram := false } ∧
         ∀ j, j ≠ i → getGate n j = getGate s.m j) ∧
       (cancels s.m g = false → Runs (.gateCancel fn h loc) f h (.gateCancel loc) s [] [] fun _ => True)) ∧
     (∀ (loc : BitVec 10) (a : DWord) (i : Nat), gateOf s.m f loc.toNat = some i → a.toNat % 64 = 0 →
       Runs (.gateRead fn h loc a) f h (.gateRead loc a) s [] [] fun n =>
         Emit.write f a.toNat (gateWords (getGate s.m i)) ∈ n.tel.out)) ∧
  (∀ (s : State) (fn : BitVec 9) (h : CmdHdr),
     let f := fn.toNat
     (∀ p : CapArm,
       let k := freeCap s.m
       (armCheck f p s.m).1 = 0 →
         RunsMem (.captureArm fn h p) f h (.captureArm p) s [.cap] []
           (fun a => inSegs s.m p.firstSeg.toNat p.segCount.toNat a ∨ inMagic s.m a) fun n =>
           (getCap n k).state = 1 ∧ (getCap n k).owner = f ∧ (getCap n k).mask = p.trigMask.toNat ∧
           (getCap n k).cur.seq = 0 ∧ (getCap n k).cur.segFirst = p.firstSeg.toNat ∧ (getCap n k).records = 0 ∧
           ∀ j, j ≠ k → getCap n j = getCap s.m j) ∧
     (∀ p : CapArm, (armCheck f p s.m).1 ≠ 0 → Runs (.captureArm fn h p) f h (.captureArm p) s [] [] fun _ => True) ∧
     (∀ b : BitVec 5,
       let k := b.toNat
       let c := getCap s.m k
       let mine := c.state ≠ 0 ∧ c.owner = f
       let others (n : Pnm) : Prop := ∀ j, j ≠ k → getCap n j = getCap s.m j
       (mine → RunsMem (.captureDisarm fn h b) f h (.captureDisarm b) s [.cap] [Reg.CAP_FLAGS, Reg.CAP_RECORDS]
         (fun a => inSegs s.m c.cur.segFirst (max 1 c.cur.span) a ∨ inMagic s.m a) fun n =>
           (getCap n k).state = 0 ∧ (getCap n k).lastEnd = 3 ∧
           (getCap n k).records = c.records + (if c.state = 2 then 1 else 0) ∧ others n) ∧
       (¬ mine → Runs (.captureDisarm fn h b) f h (.captureDisarm b) s [] [] (fun _ => True) ∧
         Runs (.captureForce fn h b) f h (.captureForce b) s [] [] fun _ => True) ∧
       (mine → c.mask.testBit 16 = true → c.state = 1 →
         Runs (.captureForce fn h b) f h (.captureForce b) s [.cap] [] fun n =>
           (getCap n k).state = 2 ∧ (getCap n k).cur.trig = some (nowNs s.m * nsU) ∧ (getCap n k).cur.mask = 2 ^ 16 ∧ others n)))

/-- R290, R291, R298, R299, R302. An accepted PUBLISH is held to its target, or changes the members at once: stNum rises
by one step and sqNum is 0. SELECT takes a free lock for its lease, or restarts the lease of a lock that is the
function's own; RENEW restarts it; CANCEL makes the lock FREE; OPERATE makes it OPERATE_PENDING until the embedded
command takes effect. No other publication and no other lock changes. -/
def Obligations.PublicationsAndLockCommandsRun : Prop :=
  ∀ (s : State) (fn : BitVec 9) (h : CmdHdr),
    let f := fn.toNat
    let now := nowNs s.m
    (∀ (count : BitVec 9) (pcb : BitVec 10) (items : List PubItem),
      let i := pcb.toNat
      let e := pcbEntry s.m i
      let p := getPub s.m i
      let target := h.target.toNat * unitNs
      count ≠ 0 → count.toNat ≤ 256 →
        (∀ x ∈ items, x.member.toNat < pMembers e ∧ dWriter (pDesc s.m e x.member.toNat) = 1) → pEn e = true →
        pOwner e = f → target ≤ nowU s.m + 10 * unitS →
        (nowU s.m < target → p.held.length < 8 →
          Runs (.publish fn h count pcb items) f h (.publish count pcb items) s [.out] [] fun n =>
            (∃ x : HeldPub, getPub n i = { p with held := p.held ++ [x] } ∧ x.items = items ∧ x.target = target) ∧
            ∀ j, j ≠ i → getPub n j = getPub s.m j) ∧
        (h.target = 0 →
          Runs (.publish fn h count pcb items) f h (.publish count pcb items) s [.mac, .out, .par]
            ([Reg.OUT_FLAGS, Reg.OUT_PUB_SENT] ++ dropCnts) fun n =>
            (getPub n i).held = p.held ∧ (∀ j, j ≠ i → getPub n j = getPub s.m j) ∧
            ∀ x : PubItem, items = [x] → pubCounts s.m = true → p.merge ≠ some (nowU s.m) →
              (putMember i x.member.toNat 1 (fun t => hostTo t x.value) x.quality.toNat s.m).2 = true →
              (getPub n i).stNum = numUp p.stNum ∧ (getPub n i).sqNum = 0 ∧ (getPub n i).change = nowU s.m)) ∧
    (∀ (obj ms : BitVec 32) (keep : Bool) (k : Nat), badLease ms.toNat = false →
      let c : Instr := .lockSelect fn h obj ms keep
      let op : Op := .lockSelect obj ms keep
      let others (n : Pnm) : Prop := ∀ j, j ≠ k → getLock n j = getLock s.m j
      (lockOf s.m obj.toNat = none → freeLock s.m = some k → lockUse s.m f < lockShare s.m f →
        Runs c f h op s [.out] [] fun n => others n ∧ getLock n k =
          { state := 1, keep := keep, owner := f, obj := obj.toNat, pairId := rf s.m Reg.PAR_ID 15 0, leaseMs := ms.toNat,
            leaseEnd := now + ms.toNat * 1000000 }) ∧
      (lockOf s.m obj.toNat = some k → (getLock s.m k).owner = f → (getLock s.m k).state = 1 →
        Runs c f h op s [.out] [] fun n => others n ∧ getLock n k =
          { getLock s.m k with keep := keep, leaseMs := ms.toNat, leaseEnd := now + ms.toNat * 1000000 }) ∧
      (lockOf s.m obj.toNat = some k → (getLock s.m k).owner = f → (getLock s.m k).state = 1 →
        Runs (.lockRenew fn h obj ms) f h (.lockRenew obj ms) s [.out] [] fun n => others n ∧ getLock n k =
          { getLock s.m k with leaseMs := ms.toNat, leaseEnd := now + ms.toNat * 1000000 }) ∧
      (lockOf s.m obj.toNat = some k → (getLock s.m k).owner ≠ f →
        Runs c f h op s [] [] (fun _ => True) ∧ Runs (.lockRenew fn h obj ms) f h (.lockRenew obj ms) s [] [] fun _ => True)) ∧
    (∀ (obj : BitVec 32) (k : Nat), lockOf s.m obj.toNat = some k →
      ((getLock s.m k).owner = f → Runs (.lockCancel fn h obj) f h (.lockCancel obj) s [.cye, .out] [] fun n =>
        getLock n k = Lock.init k ∧ (∀ j, j ≠ k → getLock n j = getLock s.m j) ∧
        n.cye = { s.m.cye with pend := s.m.cye.pend.filter fun p => decide (p.lock ≠ some k) }) ∧
      ((getLock s.m k).owner ≠ f → Runs (.lockCancel fn h obj) f h (.lockCancel obj) s [] [] fun _ => True)) ∧
    (∀ (obj : BitVec 32) (e : Emb) (w : BitVec 12) (q : BitVec 16) (v : DWord) (k : Nat),
      let c : Instr := .lockOperate fn h obj e
      lockOf s.m obj.toNat = some k → e.op = .hostWrite w q v → (getLock s.m k).owner = f → (getLock s.m k).state = 1 →
        (getWord s.m w.toNat).en = true → (getWord s.m w.toNat).owner = f →
        (∀ p ∈ s.m.cye.pend, p.word = w.toNat → p.target = none) → nowU s.m < e.target.toNat * unitNs →
        Runs c f h (.lockOperate obj e) s [.cye, .out] [] fun n =>
          getLock n k = { getLock s.m k with state := 2 } ∧ (∀ j, j ≠ k → getLock n j = getLock s.m j) ∧
          ∃ p : HostPend, n.cye = { s.m.cye with pend := s.m.cye.pend ++ [p] } ∧ p.lock = some k ∧ p.word = w.toNat ∧
            p.value = v.toNat ∧ p.target = some (e.target.toNat * unitNs)) ∧
    (∀ (obj : BitVec 32) (e : Emb), lockOf s.m obj.toNat = none →
      Runs (.lockOperate fn h obj e) f h (.lockOperate obj e) s [] [] (fun _ => True) ∧
      Runs (.lockCancel fn h obj) f h (.lockCancel obj) s [] [] fun _ => True)

/-- R254, R355, R363, R385, R467, R470, R503, R522. The accepted commands of the PF: a table that verifies extends MR3,
and waits for the plane tick, or arms its gates; an image begins to load; a disabled VF starts anew with mark 0;
segments above a VF's share are withdrawn, none other; a key import that passes its checks waits for its commit; a
retired position is gone, and a slot without positions is INVALIDATED; a self-test and a readout take their place behind
those that wait. -/
def Obligations.ManagementCommandsRun : Prop :=
  ∀ (s : State) (fn : BitVec 9) (h : CmdHdr),
    let f := fn.toNat
    (∀ (len : BitVec 32) (b : List Byte),
      let l := bytesAt b 0 len.toNat
      let es := containerEntries l
      let c : Instr := .tableLoad fn h len b
      let near (k : Pnm) : Prop := Keeps [.regs, .tel, .hif, .key] s.m k ∧ KeepsRegs [Reg.HIF_ACCEPTED, Reg.KEY_MR3_COUNT] s.m k
      len ≠ 0 → s.m.svi.load = none → containerBad s.m l = 0 → es ≠ [] →
        (leAt l 6 1 = 1 → (∀ k, near k → subsBad es k = none) → s.m.tim.grid = true →
          Runs c f h (.tableLoad len b) s [.svi, .key] [Reg.KEY_MR3_COUNT] fun n =>
            n.key = { s.m.key with mr := modAt s.m.key.mr 3 fun x => Config.sha384 (x ++ Config.sha384 l) } ∧
            ∃ r, n.svi = { s.m.svi with load := some (r, es) }) ∧
        (leAt l 6 1 = 2 → (∀ k, near k → (gateLoad (leAt l 0x10 4) (es.map (·.2)) k).2 = none) →
          Runs c f h (.tableLoad len b) s [.gte, .key] [Reg.KEY_MR3_COUNT] fun n =>
            ∀ x ∈ es, gateZero (gateFrom x.2) = false → (getGate n x.1).state = 1 ∧ (getGate n x.1).owner = 0)) ∧
    (∀ (len : BitVec 32) (b : List Byte), len ≠ 0 → lfPhase s.m = 0 ∨ lfPhase s.m = 3 →
      Runs (.imageLoad fn h len b) f h (.imageLoad len b) s [.cye] [Reg.CYE_LF_STAT] fun n =>
        lfPhase n = 1 ∧ (∃ r, n.cye.loading = some (b.take len.toNat, r)) ∧ n.cye.staged = none ∧ n.cye.retained = none ∧
        (getArb n 257).pending = min len.toNat (128 * 2 ^ 20)) ∧
    (∀ v : BitVec 9, v ≠ 0 → v.toNat ≤ 256 → vfState s.m v.toNat = .disabled →
      Runs (.vfSeqReset fn h v) f h (.vfSeqReset v) s [] [] fun n =>
        getFn n v.toNat = { getFn s.m v.toNat with accSeq := 0, pendSet := [], reaccept := [], backlog := [] }) ∧
    (∀ v : BitVec 9, v ≠ 0 → v.toNat ≤ 256 →
      Runs (.shareRevoke fn h v 4#3 false) f h (.shareRevoke v 4#3 false) s [.scans, .cap]
        (Reg.HIF_VF_FLAGS :: scanRegs s.m) fun n =>
        (useOf s.m v.toNat 3 ≤ shareOf s.m v.toNat 3 → n.cap = s.m.cap) ∧
        ∀ i, getSeg n i = getSeg s.m i ∨ ((getSeg s.m i).grant = v.toNat ∧ inCapture s.m i = false ∧
          getSeg n i = { getSeg s.m i with grant := 511 })) ∧
    (∀ (len : BitVec 32) (b : List Byte), len ≠ 0 → rf s.m Reg.KEY_MIG_STAT 1 0 = 0 →
      (importCheck s.m len.toNat b).1 = 0 →
      Runs (.keyImport fn h len b) f h (.keyImport len b) s [.key] [] fun n =>
        ∃ u : KeyUpd, n.key = { s.m.key with updates := s.m.key.updates ++ [u] } ∧
          u.slot = (importCheck s.m len.toNat b).2.1 ∧ u.ref.isSome = true ∧ u.new.state = 1) ∧
    (∀ (slot : BitVec 9) (mask : BitVec 2) (flight : List (BitVec 9 × Bool)),
      let k := getSlot s.m slot.toNat
      let p0 := if mask.getLsbD 0 then KeyPos.none else k.p0
      let p1 := if mask.getLsbD 1 then KeyPos.none else k.p1
      let flown := flight.map fun q => (q.1.toNat, q.2)
      let late (n : Pnm) : Word := loW (flown.filter fun q => decide (q.1 = slot.toNat) && lostPos s.m n q).length
      let counted (n : Pnm) : Prop :=
        rd n Reg.KEY_LATE_USE = rd s.m Reg.KEY_LATE_USE + loW (flown.filter (lostPos s.m n)).length ∧
        rd n Reg.KEY_FLAGS = if (flown.filter (lostPos s.m n)).isEmpty then rd s.m Reg.KEY_FLAGS
          else rd s.m Reg.KEY_FLAGS ||| 2#32
      slot ≠ 0 → mask ≠ 0 → k.state = 1 →
        (p0.present = true ∨ p1.present = true →
          Runs (.keyRetire fn h slot mask flight) f h (.keyRetire slot mask) s [.key] [Reg.KEY_LATE_USE, Reg.KEY_FLAGS] fun n =>
            getSlot n slot.toNat = { k with p0 := p0, p1 := p1, lateUse := k.lateUse + late n } ∧ counted n ∧
            ∀ j, j ≠ slot.toNat → getSlot n j = getSlot s.m j) ∧
        (p0.present = false → p1.present = false →
          Runs (.keyRetire fn h slot mask flight) f h (.keyRetire slot mask) s [.key] [Reg.KEY_LATE_USE, Reg.KEY_FLAGS] fun n =>
            (getSlot n slot.toNat).state = 2 ∧ (getSlot n slot.toNat).p0 = KeyPos.none ∧
            (getSlot n slot.toNat).p1 = KeyPos.none ∧ (getStore n slot.toNat).valid = false ∧
            (getSlot n slot.toNat).lateUse = k.lateUse + late n ∧ counted n)) ∧
    (∀ (kind index : Byte) (first : BitVec 16) (count : BitVec 17) (tmo : BitVec 16),
      (kind = 1 ∨ kind = 2) → index.toNat ≤ 15 → tmo ≠ 0 → tmo.toNat ≤ 3600 →
      Runs (.selftest fn h kind index first count tmo) f h (.selftest kind index first count tmo) s [] [] fun n =>
        ∃ t : SelfTest, t.kind = kind.toNat ∧ t.index = index.toNat ∧ t.tmoS = tmo.toNat ∧ t.slices = 0 ∧
          ((∃ x q, s.m.tel.dia.queue = x :: q ∧ x.started.isSome = true ∧ n.tel.dia.queue = x :: q ++ [t]) ∨
            (∃ x q, s.m.tel.dia.queue = x :: q ∧ x.started = none) ∨
            (s.m.tel.dia.queue = [] ∧ n.tel.dia.queue = [t] ∧ t.started = some s.m.tim.edge))) ∧
    (∀ (a : DWord) (len : BitVec 32) (birth : Bool) (start : DWord), 4096 ≤ len.toNat → len.toNat ≤ 64 * 2 ^ 20 →
      a.toNat % 64 = 0 →
      Runs (.journalRead fn h a len birth start) f h (.journalRead a len birth start) s [] [] fun n =>
        ∃ r : JRead, n.tel.jnl.reads = s.m.tel.jnl.reads ++ [r] ∧ r.addr = a.toNat ∧ r.len = len.toNat ∧ r.birth = birth)

/-- R342, R344, R345, R346, R350. A doorbell block that was asked for moves the host indices of its rings; a failed read
is a ring error, which stops the function's rings and says so. A fetched command joins its function's queue. A kick asks
for the doorbell block at once, but not within 10 µs of the last one. EN enables rings whose registers pass the checks,
with every index 0; cleared, it stops them and drops what was not accepted. -/
def Obligations.RingsAreEnabledAndServed : Prop :=
  ∀ (s : State) (fn : BitVec 9), fn.toNat ≤ 256 →
    let f := fn.toNat
    let x := getFn s.m f
    let waits := f ∈ s.m.hif.dbWait ∨ f ∈ s.m.hif.kickWait
    let stopped (r : Nat) (n : Pnm) : Prop := (getFn n f).errRing = some r ∧ fnOn n f = false ∧ (getFn n f).cmds = [] ∧
      rb n (Reg.fn f 8) 1 = true ∧ rb n Reg.HIF_FLAGS 1 = true
    let errRegs := [Reg.fn f 0, Reg.fn f 8, Reg.HIF_FLAGS]
    (∀ (d : Doorbell) (planes : List PlaneDesc),
      let inRange := ∀ r < 6, ringOn s.m f r = true → beyond s.m f r ((dbFields d).getD r 0) = false
      (s.live → fnOn s.m f = true → waits → inRange →
        Does (.doorbellReadDone fn true d planes) s [.tel, .hif] [] fun n =>
          (∀ r < 6, hostIdx n f r =
            if ringOn s.m f r then hostOf s.m f r ((dbFields d).getD r 0) else hostIdx s.m f r) ∧
          (f ∈ s.m.hif.dbWait → f ∉ n.hif.dbWait)) ∧
      (s.live → fnOn s.m f = true → waits →
        Does (.doorbellReadDone fn false d planes) s [.regs, .tel, .hif] errRegs (stopped 6)) ∧
      (∀ ok, ¬ s.live ∨ fnOn s.m f = false ∨ ¬ waits → DoesNothing (.doorbellReadDone fn ok d planes) s)) ∧
    (∀ (h : CmdHdr) (op : Op),
      (s.live → x.inFetch = 0 → ∀ ok, DoesNothing (.commandFetchDone fn ok h op) s) ∧
      (s.live → x.inFetch ≠ 0 →
        Does (.commandFetchDone fn false h op) s [.regs, .tel, .hif] errRegs (stopped 0)) ∧
      (s.live → x.inFetch ≠ 0 → mirroring s.m = false → h.kick = false → (∀ c ∈ x.cmds, c.hdr.kick = false) →
        Does (.commandFetchDone fn true h op) s [.hif] [] fun n =>
          getFn n f = { x with inFetch := x.inFetch - 1,
                               cmds := x.cmds ++ [{ hdr := h, op := op, ready := true, sent := false, acked := false }] } ∧
          ∀ j, j ≠ f → getFn n j = getFn s.m j)) ∧
    (s.writable →
      let takes := fnOn s.m f = true ∧ rb s.m (Reg.fn f 0) 1 = true ∧ rb s.m Reg.HIF_CTRL 0 = true ∧
        hifFetches s.m = true ∧ (x.kickEdge = 0 ∨ x.kickEdge + 10 * edgesUs < s.m.tim.edge)
      (takes → Does (.kick fn) s [.tel, .hif] [] fun n =>
        getFn n f = { x with kick := true, kickEdge := s.m.tim.edge } ∧ f ∈ n.hif.kickWait ∧
        n.tel.out = s.m.tel.out ++ [.read f (fnAddr s.m f 0x10) 64]) ∧
      (¬ takes → DoesNothing (.kick fn) s)) ∧
    (∀ kickEn : Bool, s.writable → vfState s.m f = .inService →
      (fnOn s.m f = false → enableCheck s.m f = 0 →
        Does (.hifFnEnable fn kickEn) s [.regs, .tel, .hif] [Reg.fn f 0] fun n =>
          rd n (Reg.fn f 0) = loW (1 + 2 * b2n kickEn) ∧ (getFn n f).hostIdx = List.replicate 6 0 ∧
          (getFn n f).fetchedIdx = 0 ∧ (getFn n f).errRing = none ∧ (getFn n f).accSeq = x.accSeq ∧
          (x.backlog = [] → (getFn n f).modIdx = List.replicate 6 0)) ∧
      (fnOn s.m f = false → enableCheck s.m f ≠ 0 →
        Does (.hifFnEnable fn kickEn) s [.regs] [Reg.fn f 0, Reg.fn f 8, Reg.fn f 0xC] fun n =>
          fnOn n f = false ∧ rb n (Reg.fn f 8) 0 = true ∧ rf n (Reg.fn f 0xC) 7 0 = enableCheck s.m f) ∧
      (fnOn s.m f = true → kickEn = rb s.m (Reg.fn f 0) 1 → DoesNothing (.hifFnEnable fn kickEn) s) ∧
      (fnOn s.m f = true →
        Does (.hifFnDisable fn kickEn) s [.regs, .hif] [Reg.fn f 0] fun n =>
          fnOn n f = false ∧ rb n (Reg.fn f 0) 1 = kickEn ∧ (getFn n f).cmds = [] ∧ (getFn n f).inFetch = 0 ∧
          (getFn n f).bulks = [] ∧ (getFn n f).accSeq = x.accSeq ∧ (getFn n f).pendSet = x.pendSet)) ∧
    (∀ kickEn : Bool, s.writable → vfState s.m f ≠ .inService →
      DoesNothing (.hifFnEnable fn kickEn) s ∧ DoesNothing (.hifFnDisable fn kickEn) s)

/-- R356, R386, R390, R391, R393. A bulk descriptor that passes its checks takes its place in the bulk ring, a receive
buffer is posted, and one that fails completes at once. The arbiter grants at most one transfer in 64 ns; a transfer
that ends moves its bytes: a read writes them to the host and completes with the last. A requester that has waited
STARVE_US is flagged once. -/
def Obligations.BulkTransfersAreArbitrated : Prop :=
  ∀ (s : State) (fn : BitVec 9), fn.toNat ≤ 256 →
    let f := fn.toNat
    let x := getFn s.m f
    let asked := ringOn s.m f 1 = true ∧ x.modIdx.getD 1 0 < x.bulkIdx
    let joins (c : Instr) (P : Bulk → Prop) : Prop := Does c s [.hif] [] fun n =>
      ∃ b : Bulk, (getFn n f).bulks = [b] ∧ b.moved = 0 ∧ P b
    let refused (c : Instr) : Prop := Does c s [.tel, .hif] [] fun n =>
      (getFn n f).bulks = [] ∧ n.hif.rxPosts = s.m.hif.rxPosts
    (∀ (opc : Byte) (tag len : BitVec 32) (host addr : DWord),
      let c : Instr := .bulkRead fn opc tag host addr len
      let good := opc = 1 ∧ len ≠ 0 ∧ len.toNat ≤ 64 * 2 ^ 20 ∧ mayRead s.m f addr.toNat len.toNat = true
      s.live → x.bulks = [] →
        (asked → good → joins c fun b => b.tag = tag ∧ b.op = 1 ∧ b.hostAddr = host.toNat ∧ b.modAddr = addr.toNat ∧
          b.len = len.toNat) ∧
        (asked → ¬ good → opc ≠ 2 → opc ≠ 3 → refused c) ∧
        (¬ asked ∨ opc = 2 ∨ opc = 3 → DoesNothing c s)) ∧
    (∀ (tag len : BitVec 32) (port : BitVec 4) (pcp : BitVec 3) (ts : Bool) (data : List Byte),
      let c : Instr := .frameTx fn tag port pcp ts len data
      let good := f = 0 ∧ 60 ≤ len.toNat ∧ len.toNat ≤ rf s.m (Reg.port Reg.MAC_PORT_CFG port.toNat) 27 16 - 4 ∧
        port.toNat ≤ 10 ∧ portEn s.m port.toNat = true
      s.live → x.bulks = [] →
        (asked → good → joins c fun b => b.tag = tag ∧ b.op = 2 ∧ b.port = port.toNat ∧ b.data = data.take len.toNat) ∧
        (asked → ¬ good → refused c) ∧ (¬ asked → DoesNothing c s)) ∧
    (∀ (tag len : BitVec 32) (host : DWord),
      let c : Instr := .rxPost fn tag host len
      let good := f = 0 ∧ 64 ≤ len.toNat ∧ len.toNat ≤ 4096
      s.live → x.bulks = [] →
        (asked → good → Does c s [.hif] [] fun n => (getFn n f).bulks = [] ∧
          ∃ b : Bulk, n.hif.rxPosts = s.m.hif.rxPosts ++ [b] ∧ b.tag = tag ∧ b.hostAddr = host.toNat ∧ b.len = len.toNat) ∧
        (asked → ¬ good → refused c) ∧ (¬ asked → DoesNothing c s)) ∧
    (∀ q : BitVec 9, s.glbLive →
      (∀ y ∈ s.m.hif.inFlight, y.1 ≠ q.toNat) → DoesNothing (.bulkTransferDone q) s) ∧
    (∀ (q : BitVec 9) (n' : Nat) (t : List (Nat × Nat × Nat)), s.glbLive → s.m.hif.inFlight = (q.toNat, 0, n') :: t →
      (q.toNat = 257 → Does (.bulkTransferDone q) s [.regs, .hif] [Reg.CYE_LF_STAT] fun n =>
        n.hif = { s.m.hif with inFlight := t } ∧
        (lfPhase s.m = 1 → (getArb s.m 257).pending = 0 → (∀ y ∈ t, y.1 ≠ 257) → lfPhase n = 2)) ∧
      (258 ≤ q.toNat → q.toNat < 266 → Does (.bulkTransferDone q) s [.scans, .hif] [] fun n =>
        n.hif = { s.m.hif with inFlight := t } ∧
        n.scans = s.m.scans.map fun z => if z.ch = q.toNat - 258 then { z with left := z.left - n' } else z) ∧
      (266 ≤ q.toNat → Does (.bulkTransferDone q) s [.tel, .hif] [] fun n =>
        n.hif = { s.m.hif with inFlight := t } ∧
        ∀ (r : JRead) (rest : List JRead), s.m.tel.jnl.reads = r :: rest →
          n.tel.jnl.reads = { r with left := r.left - min n' r.left } :: rest) ∧
      (q = fn → ∀ b : Bulk, x.bulks = [b] → b.op = 1 →
        Does (.bulkTransferDone q) s [.tel, .hif] [] fun n =>
          Emit.writeBytes f (b.hostAddr + b.moved) (Memory.readBytes s.mem (b.modAddr + b.moved) n') ∈ n.tel.out ∧
          (b.len ≤ b.moved + n' → (getFn n f).bulks = []) ∧
          (b.moved + n' < b.len → (∀ y ∈ t, y.1 ≠ f) → mayRead s.m f (b.modAddr + b.moved + n') (b.len - b.moved - n') = true →
            (getFn n f).bulks = [{ b with moved := b.moved + n' }]))) ∧
    (s.glbLive →
      (s.m.tim.edge / 40 ≤ s.m.hif.arbAt → DoesNothing .arbitrationCycle s) ∧
      (s.m.hif.arbAt < s.m.tim.edge / 40 →
        (∀ q < 267, arbPending s.m q = false) ∨ 16 ≤ s.m.hif.inFlight.length →
        Does .arbitrationCycle s [.hif] [] fun n => n.hif = { s.m.hif with arbAt := s.m.tim.edge / 40 }) ∧
      (∀ w < 267, s.m.hif.arbAt < s.m.tim.edge / 40 → s.m.hif.inFlight.length < 16 → arbPending s.m w = true →
        (∀ q < 267, q ≠ w → arbPending s.m q = false) →
        Does .arbitrationCycle s [.hif] [] fun n =>
          n.hif.arbAt = s.m.tim.edge / 40 ∧ n.hif.arbLast = w ∧
          n.hif.inFlight = s.m.hif.inFlight ++ [(w, (nextBytes s.m w).2, (nextBytes s.m w).1)])) ∧
    (∀ q : BitVec 9, s.glbLive → q.toNat ≤ 266 →
      let r := getArb s.m q.toNat
      let starves := ∃ t, r.since = some t ∧ r.starved = false ∧
        t + rf s.m (Reg.HIF_ARB_CFG + 8 * q.toNat) 31 16 * edgesUs ≤ s.m.tim.edge
      (starves → Does (.arbStarvation q) s [.regs, .tel, .hif]
        [Reg.HIF_ARB_STARVED + 4 * (q.toNat / 32), Reg.HIF_VF_FLAGS] fun n =>
          getArb n q.toNat = { r with starved := true } ∧ rb n Reg.HIF_VF_FLAGS 1 = true ∧
          rb n (Reg.HIF_ARB_STARVED + 4 * (q.toNat / 32)) (q.toNat % 32) = true ∧
          Raised { src := 9, code := 0x16, cls := 2, items := [q.toNat] } s.m n) ∧
      (¬ starves → DoesNothing (.arbStarvation q) s))

/-- R337, R367, R373, R374, R375, R378, R380. VF Enable makes VFs 1 to NumVFs DISABLED; cleared, every VF is ABSENT and
its work has ended. A service request and a share that fits the pools are staged, and one that does not is refused by
name. An FLR of a VF in service drops its commands, keeps its mark, ends its locks and leaves its gates; its end is said
once. A retrained link sets speed and width within the strap's limit. -/
def Obligations.FunctionsComeAndGo : Prop :=
  ∀ (s : State),
    let refused (c : Instr) (field f : Nat) : Prop := Does c s [.regs] [Reg.HIF_VF_FLAGS, Reg.HIF_VF_CFG_ERR] fun n =>
      rb n Reg.HIF_VF_FLAGS 0 = true ∧ rf n Reg.HIF_VF_CFG_ERR 7 0 = field ∧ rf n Reg.HIF_VF_CFG_ERR 16 8 = f
    let page (f : Nat) := (List.range 0xA0).map fun k => Reg.fn f 0 + k
    (∀ num : BitVec 9, s.live →
      (s.m.hif.vfEnable = false → Does (.vfEnableSet num) s [.hif] [] fun n =>
        n.hif.vfEnable = true ∧ n.hif.numVf = min num.toNat 256 ∧
        ∀ f, f ≠ 0 → vfState n f = if f ≤ num.toNat ∧ f ≤ 256 then .disabled else .absent) ∧
      (s.m.hif.vfEnable = true → DoesNothing (.vfEnableSet num) s)) ∧
    (s.live → s.m.hif.numVf ≤ 256 →
      ∃ (n : Pnm) (mem : Memory), exec .vfEnableClear s = .next { s with m := n, mem := mem } ∧
        Keeps [.regs, .tel, .scans, .hif, .gte, .cye, .out, .cap, .par] s.m n ∧
        (∀ a : Nat, ¬ inArmed s.m a → ¬ inMagic s.m a → Memory.read mem a = s.readByte a) ∧
        n.hif.vfEnable = false ∧ n.hif.numVf = 0 ∧ (∀ f, f ≠ 0 → vfState n f = .absent) ∧
        (∀ f, 1 ≤ f → f ≤ s.m.hif.numVf → rb n (Reg.shr f 0) 0 = false)) ∧
    (∀ (v : BitVec 9) (on : Bool), s.writable →
      (v ≠ 0 → v.toNat ≤ 256 → vfState s.m v.toNat ≠ .absent →
        Does (.serviceWrite v on) s [.regs, .hif] [Reg.shr v.toNat 0] fun n =>
          rb n (Reg.shr v.toNat 0) 0 = on ∧ n.hif = { s.m.hif with svcReq := n.hif.svcReq } ∧
          n.hif.svcReq = s.m.hif.svcReq.filter (fun q => decide (q.1 ≠ v.toNat)) ++ [(v.toNat, on, s.m.tim.edge)]) ∧
      (v = 0 ∨ 256 < v.toNat ∨ vfState s.m v.toNat = .absent →
        refused (.serviceWrite v on) 7 v.toNat ∧ refused (.shrFlr v) 8 v.toNat)) ∧
    (∀ (fn : BitVec 9) (w : BitVec 2) (data : Word), s.writable →
      (fn.toNat ≤ 256 → w ≠ 0 → shareCheck s.m fn.toNat w.toNat data = 0 →
        Does (.shareWrite fn w data) s [.hif] [] fun n =>
          n.hif = { s.m.hif with staged := s.m.hif.staged ++
            [(fn.toNat, w.toNat, (data &&& shareMask w.toNat).toNat, 0, s.m.tim.edge)] }) ∧
      (fn.toNat ≤ 256 → w ≠ 0 → shareCheck s.m fn.toNat w.toNat data ≠ 0 →
        refused (.shareWrite fn w data) (shareCheck s.m fn.toNat w.toNat data) fn.toNat) ∧
      (256 < fn.toNat ∨ w = 0 → DoesNothing (.shareWrite fn w data) s)) ∧
    (∀ (v : BitVec 9) (c : Instr), v ≠ 0 → v.toNat ≤ 256 → (c = .flr v ∧ s.live) ∨ (c = .shrFlr v ∧ s.writable) →
      let f := v.toNat
      let x := getFn s.m f
      (vfState s.m f = .inService →
        Does c s [.regs, .tel, .scans, .hif, .cye, .out, .par]
          (page f ++ [Reg.OUT_LOCK_RELEASES] ++ scanRegs s.m) fun n =>
          (getFn n f).cmds = [] ∧ (getFn n f).accSeq = x.accSeq ∧ (getFn n f).flrBusy = true ∧ fnOn n f = false ∧
          vfState n f = .inService) ∧
      (vfState s.m f = .disabled → Does c s [.regs, .tel, .hif] (page f) fun n => getFn n f = x)) ∧
    (∀ v : BitVec 9, s.live → v = 0 ∨ 256 < v.toNat ∨ vfState s.m v.toNat = .absent → DoesNothing (.flr v) s) ∧
    (∀ fn : BitVec 9, s.live → fn.toNat ≤ 256 →
      ((getFn s.m fn.toNat).flrBusy = true → Does (.flrComplete fn) s [.tel, .hif] [] fun n =>
        getFn n fn.toNat = { getFn s.m fn.toNat with flrBusy := false } ∧
        Raised { src := 9, code := 0x19, cls := 2, items := [fn.toNat] } s.m n) ∧
      ((getFn s.m fn.toNat).flrBusy = false → DoesNothing (.flrComplete fn) s)) ∧
    (∀ (gen : BitVec 3) (width : BitVec 5) (tag10 : Bool), s.glbLive →
      let g := min gen.toNat (5 - s.m.glb.straps.genMax)
      Does (.pcieLinkTrain gen width tag10) s [.regs, .tel, .ladder, .hif] [Reg.HIF_FLAGS] fun n =>
        n.hif = { s.m.hif with linkUp := decide (g ≠ 0), gen := g, width := if g = 0 then 0 else min width.toNat 16,
                               tag10 := tag10 } ∧ rb n Reg.HIF_FLAGS 2 = true)

/-! ## Keys and attestation (chapter 15) -/

/-- R466, R469, R474. KEY_COMMIT_DONE commits the oldest update: the slot holds the new key material, its record is
sealed into the copy that was not committed, with the next GEN, and an import completes with its slot; a retirement of a
slot that is no longer VALID writes nothing. A position that passes NOT_AFTER with no usable successor sets KEY_FLAGS
bit 5 and raises event 0x0E, once. No other slot changes. R459, R486. MR3_EXT extends MR3 by the twelve data words and
counts it, and is refused once the count is at its limit. A read of the KEY window returns the entry's words, padded
with zeros; tables 5 to 7 are refused. A write puts the sixteen data words into table 4 in maintenance mode, and is
refused outside it and for every other table or index. -/
def Obligations.KeysCommitExpireAndMeasure : Prop :=
  (∀ (s : State), s.live →
     (∀ (u : KeyUpd) (t : List KeyUpd), s.m.key.updates = u :: t → u.slot ≠ 0 →
       let was := getSlot s.m u.slot
       let st := getStore s.m u.slot
       (u.ref.isSome = true ∨ was.state = 1 →
         Does .keyCommitDone s [.tel, .hif, .key, .par] [] fun n =>
           n.key.updates = t ∧ n.key.lc = s.m.key.lc ∧ n.key.mr = s.m.key.mr ∧
           getSlot n u.slot = { u.new with lateUse := was.lateUse, gen := nextGen s.m st } ∧
           (getStore n u.slot).copy = (!st.copy) ∧ (getStore n u.slot).valid = true ∧
           (getStore n u.slot).gen = nextGen s.m st ∧
           (getStore n u.slot).committed =
             some (sealRec s.m s.m.key.mr 0 u.slot (!st.copy) (nextGen s.m st) { u.new with lateUse := was.lateUse }) ∧
           (∀ j, j ≠ u.slot → getSlot n j = getSlot s.m j ∧ getStore n j = getStore s.m j) ∧
           (∀ r, u.ref = some r → ∃ k : Pnm, k.hif = s.m.hif ∧ n = complete r (ansR 0 0 u.slot) k) ∧
           (u.ref = none → n.hif = s.m.hif)) ∧
       (u.ref = none → was.state ≠ 1 →
         Does .keyCommitDone s [.key] [] fun n =>
           n.key.updates = t ∧ ∀ j, getSlot n j = getSlot s.m j ∧ getStore n j = getStore s.m j)) ∧
     (s.m.key.updates = [] → DoesNothing .keyCommitDone s) ∧
     (∀ i : BitVec 9,
       let k := getSlot s.m i.toNat
       let past := ∃ p : KeyPos, (p = k.p0 ∨ p = k.p1) ∧ p.present = true ∧ p.notAfter ≠ 0 ∧ p.notAfter < nowNs s.m
       let due' := s.m.tim.running = true ∧ k.state = 1 ∧ past ∧ usable s.m false k = [] ∧ i.toNat ∉ s.m.key.expired
       (due' → Does (.keyExpiry i) s [.regs, .tel, .key] [Reg.KEY_FLAGS] fun n =>
         rb n Reg.KEY_FLAGS 5 = true ∧ n.key = { s.m.key with expired := i.toNat :: s.m.key.expired } ∧
         Raised { src := 12, code := 0x0E, cls := 2, items := [i.toNat] } s.m n) ∧
       (¬ due' → DoesNothing (.keyExpiry i) s))) ∧
  (∀ (s : State), s.writable →
     (rd s.m Reg.KEY_MR3_COUNT ≠ 0xFFFFFFFF#32 →
       Does .mr3Ext s [.regs, .key] [Reg.KEY_MR3_COUNT] fun n =>
         rd n Reg.KEY_MR3_COUNT = rd s.m Reg.KEY_MR3_COUNT + 1 ∧ n.key = { s.m.key with mr := n.key.mr } ∧
         ∀ x : List Byte, s.m.key.mr[3]? = some x →
           n.key.mr = setAt s.m.key.mr 3 (Config.sha384 (x ++ ((List.range 12).flatMap fun i =>
             leBytes 4 (rd s.m (Reg.KEY_TBL_DATA + 4 * i)).toNat)))) ∧
     (rd s.m Reg.KEY_MR3_COUNT = 0xFFFFFFFF#32 →
       Does .mr3Ext s [.regs] [Reg.KEY_FLAGS, Reg.KEY_CFG_ERR] fun n =>
         rb n Reg.KEY_FLAGS 0 = true ∧ rf n Reg.KEY_CFG_ERR 7 0 = 1) ∧
     (∀ cmd : Word,
       let t := bits cmd 18 16
       let i := bits cmd 8 0
       (t < 5 → Does (.keyTblRead cmd) s [.regs] (Reg.KEY_TBL_CMD :: rowAt Reg.KEY_TBL_DATA 16) fun n =>
         ∀ k < 16, rd n (Reg.KEY_TBL_DATA + 4 * k) = (keyTblWords s.m t i).getD k 0) ∧
       (5 ≤ t → Does (.keyTblRead cmd) s [.regs] [Reg.KEY_TBL_CMD, Reg.KEY_TBL_STAT, Reg.KEY_FLAGS] fun n =>
         rb n Reg.KEY_TBL_STAT 1 = true ∧ rb n Reg.KEY_FLAGS 0 = true) ∧
       (t = 4 → i ≤ 2 → inMaint s.m = true →
         Does (.keyTblWrite cmd) s [.regs, .key] [Reg.KEY_TBL_CMD] fun n =>
           n.key = { s.m.key with
                     table4 := s.m.key.table4.take (16 * i) ++ (List.range 16).map (fun k => rd s.m (Reg.KEY_TBL_DATA + 4 * k)) ++
                       s.m.key.table4.drop (16 * i + 16) }) ∧
       (t = 4 → i ≤ 2 → inMaint s.m = false →
         Does (.keyTblWrite cmd) s [.regs] [Reg.KEY_TBL_CMD, Reg.KEY_TBL_STAT, Reg.KEY_FLAGS, Reg.KEY_CFG_ERR] fun n =>
           rb n Reg.KEY_TBL_STAT 1 = true ∧ rb n Reg.KEY_FLAGS 0 = true ∧ rf n Reg.KEY_CFG_ERR 7 0 = 2) ∧
       (t ≠ 4 ∨ 2 < i →
         Does (.keyTblWrite cmd) s [.regs] [Reg.KEY_TBL_CMD, Reg.KEY_TBL_STAT, Reg.KEY_FLAGS, Reg.KEY_CFG_ERR] fun n =>
           rb n Reg.KEY_TBL_STAT 1 = true ∧ rb n Reg.KEY_FLAGS 0 = true ∧ rf n Reg.KEY_CFG_ERR 7 0 = 3)))

/-- R482, R483. ATT_GO takes the claims of that moment, and ATT_DONE places the signed statement and the endorsement,
each behind its length, in table 2; a second ATT_GO before that is refused, and without an identity key there is no
statement. LC_GO moves the life cycle forward only in maintenance mode, with the magic value, along a permitted
transition, with a token signed by the service key where it leads to RMA, and with an owner seed where a -K module
becomes owned; each other case names its result and changes nothing else. -/
def Obligations.StatementsAndTheLifeCycle : Prop :=
  ∀ (s : State),
    (s.writable → s.m.key.att = none → idkPresent s.m = true →
      Does .attGo s [.regs, .key] [Reg.KEY_STAT] fun n =>
        n.key = { s.m.key with att := some (claims s.m) } ∧ rb n Reg.KEY_STAT 6 = true) ∧
    (s.writable → s.m.key.att.isSome = true →
      Does .attGo s [.regs] [Reg.KEY_ATT_STAT] fun n => rf n Reg.KEY_ATT_STAT 1 0 = 3) ∧
    (s.writable → s.m.key.att = none → idkPresent s.m = false →
      Does .attGo s [.regs, .key] [Reg.KEY_ATT_STAT] fun n =>
        n.key = { s.m.key with attBuf := [] } ∧ rf n Reg.KEY_ATT_STAT 1 0 = 2) ∧
    (∀ c : List Byte, s.live → s.m.key.att = some c →
      Does .attDone s [.regs, .key] [Reg.KEY_STAT, Reg.KEY_ATT_STAT] fun n =>
        let e := s.m.key.endorsement
        let b := coseSign1 (akKey s.m) c
        n.key = { s.m.key with att := none, attBuf := leBytes 4 b.length ++ b ++ leBytes 4 e.length ++ e } ∧
        rb n Reg.KEY_STAT 6 = false ∧ rf n Reg.KEY_ATT_STAT 1 0 = 1) ∧
    (s.live → s.m.key.att = none → DoesNothing .attDone s) ∧
    (s.writable →
      let dest := rf s.m Reg.KEY_LC_REQ 2 0
      let magic := rf s.m Reg.KEY_LC_REQ 31 16 = 0x4C43
      let lc := s.m.key.lc
      let permitted := (lc = 1 ∧ dest = 2) ∨ ((lc = 1 ∨ lc = 2) ∧ dest = 3) ∨ (lc ≠ 4 ∧ dest = 4)
      let signed := Config.ecdsaVerify Config.serviceKey (uidBytes ++ beBytes 4 s.m.tel.jnl.pcyc ++ beBytes 1 dest)
        (bytesAt (table4Bytes s.m) 0 96) = true
      let seed := bytesAt (table4Bytes s.m) 128 32
      let seeded := (seed = List.replicate 32 0 ∧ isK = false) ∨ (seed ≠ List.replicate 32 0 ∧ isK = true)
      let refused (r : Nat) := Does .lcGo s [.regs] [Reg.KEY_LC_STAT] fun n => rf n Reg.KEY_LC_STAT 3 0 = r
      (inMaint s.m = false → refused 2) ∧
      (inMaint s.m = true → ¬ magic → refused 3) ∧
      (inMaint s.m = true → magic → ¬ permitted → refused 4) ∧
      (inMaint s.m = true → magic → permitted → dest = 3 → ¬ signed → refused 5) ∧
      (inMaint s.m = true → magic → permitted → dest = 2 → ¬ seeded → refused 6) ∧
      (inMaint s.m = true → magic → permitted → (dest = 3 → signed) → (dest = 2 → seeded) →
        Does .lcGo s [.regs, .tel, .key] [Reg.KEY_LC_STAT] fun n =>
          n.key.lc = dest ∧ rf n Reg.KEY_LC_STAT 3 0 = 1 ∧ n.key.store = s.m.key.store ∧
          n.key.erase = (if dest = 2 then none else some dest) ∧
          rb n Reg.KEY_LC_STAT 4 = decide (dest ≠ 2) ∧
          (dest ≠ 2 → ∀ i, i ≠ 0 → (getSlot n i).state ≠ 1) ∧ (dest = 2 → n.key.slots = s.m.key.slots))) ∧
    (∀ d : Nat, s.live → s.m.key.erase = some d →
      Does .lcDestructionDone s [.regs, .key] [Reg.KEY_LC_STAT, Reg.KEY_MIG_STAT] fun n =>
        n.key.store = [] ∧ n.key.erase = none ∧ n.key.lc = s.m.key.lc ∧ n.key.genMax = s.m.key.genMax ∧
        n.key.rootOk = (s.m.key.rootOk && decide (d ≠ 4)) ∧ rb n Reg.KEY_LC_STAT 4 = false ∧
        rf n Reg.KEY_MIG_STAT 1 0 = 0) ∧
    (s.live → s.m.key.erase = none → DoesNothing .lcDestructionDone s)

/-- R478. PREPARE is taken in PHASE 0 alone; when preparation ends, each VALID migratable slot has a record for the new
firmware beside its committed one, and PHASE is 2, or the image does not verify, nothing was written and the result is
3. CANCEL is taken in PHASE 2 alone, erases those records and returns PHASE to 0. -/
def Obligations.MigrationIsPreparedAndCancelled : Prop :=
  ∀ (s : State),
    let phase := rf s.m Reg.KEY_MIG_STAT 1 0
    let refused (c : Instr) (field : Nat) := Does c s [.regs] [Reg.KEY_FLAGS, Reg.KEY_CFG_ERR] fun n =>
      rb n Reg.KEY_FLAGS 0 = true ∧ rf n Reg.KEY_CFG_ERR 7 0 = field
    (∀ boot : Bool, s.writable → phase = 0 →
      Does (.migPrepare boot) s [.regs, .key] [Reg.KEY_MIG_CTRL, Reg.KEY_MIG_STAT] fun n =>
        n.key = { s.m.key with migBoot := boot } ∧ rf n Reg.KEY_MIG_STAT 1 0 = 1 ∧ rb n Reg.KEY_MIG_CTRL 4 = boot) ∧
    (∀ boot : Bool, s.writable → phase ≠ 0 → refused (.migPrepare boot) 4) ∧
    (∀ b, s.live → phase = 1 → s.m.glb.slots.getD (b2n s.m.key.migBoot) none = some b → b.verifies = true →
      Does .migPrepareDone s [.regs, .tel, .key] [Reg.KEY_MIG_STAT] fun n =>
        let mr := (List.range 3).map fun i => Config.sha384 (List.replicate 48 0 ++ Config.sha384 (b.images.getD i []))
        rf n Reg.KEY_MIG_STAT 1 0 = 2 ∧ rf n Reg.KEY_MIG_STAT 31 16 = (migSlots s.m).length % 65536 ∧
        n.key = { s.m.key with store := n.key.store } ∧
        (∀ i, i ∉ migSlots s.m → getStore n i = getStore s.m i) ∧
        (∀ i, i ∈ migSlots s.m → (getStore n i).pend = true ∧ (getStore n i).committed = (getStore s.m i).committed ∧
          ∃ r, (getStore n i).other = some r ∧ r.migTag = kwkIdOf s.m mr ∧ r.gen = (getStore s.m i).gen + 1)) ∧
    (s.live → phase = 1 → (∀ b, s.m.glb.slots.getD (b2n s.m.key.migBoot) none = some b → b.verifies = false) →
      Does .migPrepareDone s [.regs, .tel] [Reg.KEY_MIG_STAT] fun n =>
        rf n Reg.KEY_MIG_STAT 1 0 = 0 ∧ rf n Reg.KEY_MIG_STAT 4 2 = 3 ∧
        Raised { src := 12, code := 0x0B, cls := 2, items := [0, 3] } s.m n) ∧
    (s.live → phase ≠ 1 → DoesNothing .migPrepareDone s) ∧
    (s.writable → phase = 2 →
      Does .migCancel s [.regs, .key] [Reg.KEY_MIG_STAT] fun n =>
        rf n Reg.KEY_MIG_STAT 1 0 = 0 ∧ n.key = { s.m.key with store := n.key.store } ∧
        ∀ i, getStore n i = if (getStore s.m i).pend = true then
          { (getStore s.m i).setOther none with pend := false } else getStore s.m i) ∧
    (s.writable → phase ≠ 2 → refused .migCancel 5)

/-! ## Captures (chapter 13) -/

/-- R400, R401, R425. The window returns the eight words of an entry. A write of a segment is refused with the FIELD of
the first check that fails; else it sets base, size and enable, and the grant: given back at once, kept, returned to its
last holder at once, or given after clearing. Scans whose segments are no longer granted end; no other segment changes.
-/
def Obligations.SegmentsAreGranted : Prop :=
  ∀ (s : State) (cmd : Word), s.writable →
    let t := bits cmd 18 16
    let i := bits cmd 15 0
    let w0 := rd s.m Reg.CAP_TBL_DATA
    let w1 := rd s.m (Reg.CAP_TBL_DATA + 4)
    let grant := bits w1 24 16
    let x := getSeg s.m i
    let y : Seg := { x with base := bits w0 20 0, en := bit w0 31, size := bits w1 15 0 }
    let field := segCheck s.m i (bits w0 20 0) (bits w1 15 0) grant (bit w0 31)
    let regs := [Reg.CAP_TBL_CMD, Reg.CAP_TBL_STAT, Reg.CAP_FLAGS, Reg.CAP_CFG_ERR] ++ scanRegs s.m
    let parts : List Part := [.regs, .tel, .scans, .hif, .cap]
    (i < capSize t →
      Does (.capTblRead cmd) s [.regs] (Reg.CAP_TBL_CMD :: rowAt Reg.CAP_TBL_DATA 8) fun n =>
        ∀ k < 8, rd n (Reg.CAP_TBL_DATA + 4 * k) = (capWords s.m t i).getD k 0) ∧
    (capSize t ≤ i →
      Does (.capTblRead cmd) s [.regs] [Reg.CAP_TBL_CMD, Reg.CAP_TBL_STAT] fun n => rb n Reg.CAP_TBL_STAT 1 = true) ∧
    (t = 0 → field = 0 →
      Does (.capSegmentWrite cmd) s parts (Reg.CAP_TBL_CMD :: scanRegs s.m) fun n =>
        n.cap = { s.m.cap with segs := n.cap.segs } ∧ (∀ j, j ≠ i → getSeg n j = getSeg s.m j) ∧
        getSeg n i =
          (if grant = 511 then { y with grant := 511, clearing := none }
           else if grant = x.grant ∨ x.clearing = some grant then y
           else if x.last = grant then { y with grant := grant }
           else { y with clearing := some grant })) ∧
    (t = 0 → field ≠ 0 →
      Does (.capSegmentWrite cmd) s parts regs fun n =>
        n.cap = s.m.cap ∧
        rb n Reg.CAP_TBL_STAT 1 = true ∧ rf n Reg.CAP_CFG_ERR 7 0 = field) ∧
    (0 < t →
      Does (.capSegmentWrite cmd) s parts regs fun n =>
        n.cap = s.m.cap ∧
        rb n Reg.CAP_TBL_STAT 1 = true ∧ (t ≤ 3 → rf n Reg.CAP_CFG_ERR 7 0 = 8))

/-- R402, R410, R414, R416, R417, R420. When a segment has been cleared every byte of it is 0, its grant applies, and
its records are gone; no other byte changes. At the end of a re-arm the next record is placed after the last one, or at
the front with FULL_POL, with the next sequence number, and a held trigger is taken; without room the capture ends. Only
that record's segments, and the MAGIC of records that it overlaps, are written. A READY capture whose time without a
trigger ends takes the automatic trigger at that instant. -/
def Obligations.RecordsArePlacedAndTriggered : Prop :=
  ∀ (s : State), s.live →
    (∀ (ix : BitVec 16) (f : Nat), (getSeg s.m ix.toNat).clearing = some f →
      DoesMem (.segmentClearDone ix) s [.tel, .cap] [] (inSegs s.m ix.toNat 1) fun n mem =>
        getSeg n ix.toNat = { getSeg s.m ix.toNat with clearing := none, grant := f, last := f } ∧
        (∀ j, j ≠ ix.toNat → getSeg n j = getSeg s.m j) ∧ (∀ a, inSegs s.m ix.toNat 1 a → Memory.read mem a = 0) ∧
        n.cap.recs = s.m.cap.recs.filter (fun r => decide (r.1 ≠ ix.toNat)) ∧
        Raised { src := 10, code := 0x74, cls := 3, items := [ix.toNat, f] } s.m n) ∧
    (∀ ix : BitVec 16, (getSeg s.m ix.toNat).clearing = none → DoesNothing (.segmentClearDone ix) s) ∧
    (∀ k : BitVec 5,
      let c := getCap s.m k.toNat
      let next := capPick s.m c (c.cur.segFirst + c.cur.span)
      (c.state = 3 → next = none →
        DoesMem (.rearmDone k) s [.tel, .cap] [] (fun _ => False) fun n _ =>
          (getCap n k.toNat).state = 0 ∧ (getCap n k.toNat).lastEnd = 2 ∧
          Raised { src := 10, code := 0x71, cls := 2, items := [k.toNat, 2], fns := capFns c } s.m n) ∧
      (∀ first num : Nat, c.state = 3 → next = some (first, num) →
        DoesMem (.rearmDone k) s [.tel, .cap] []
          (fun a => inSegs s.m first num a ∨
            ∃ q ∈ s.m.cap.recs, q.1 < first + num ∧ first < q.1 + q.2 ∧ (getSeg s.m q.1).addr ≤ a ∧
              a < (getSeg s.m q.1).addr + 4) fun n _ =>
          let d := getCap n k.toNat
          d.cur.segFirst = first ∧ d.cur.span = num ∧ d.cur.seq = c.cur.seq + 1 ∧ d.ready = nowNs s.m ∧
          (c.held = none → d.state = 1) ∧
          (∀ ts mask : Nat, c.held = some (ts, mask) → d.state = 2 ∧ d.cur.trig = some ts ∧ d.cur.mask = mask) ∧
          ∀ j, j ≠ k.toNat → getCap n j = getCap s.m j) ∧
      (c.state ≠ 3 → DoesNothing (.rearmDone k) s) ∧
      (∀ ts : Nat, c.state = 1 → c.auto = some ts → ts ≤ s.m.tim.mt →
        Does (.autoTriggerTimeout k) s [.tel, .cap] [] fun n =>
          (getCap n k.toNat).state = 2 ∧ (getCap n k.toNat).cur.trig = some ts ∧
          (getCap n k.toNat).cur.mask = 2 ^ 17 ∧ (getCap n k.toNat).auto = none ∧
          (∀ j, j ≠ k.toNat → getCap n j = getCap s.m j) ∧
          Raised { src := 10, code := 0x72, cls := 3, items := [k.toNat, 0, 2], fns := capFns c } s.m n) ∧
      (c.auto = none ∨ c.state ≠ 1 → DoesNothing (.autoTriggerTimeout k) s))

/-! ## Pair (chapter 14) -/

/-- R438, R439, R451. A write of PAIR_EN that changes it enters LISTEN from OFF with a valid configuration, and its
first failing check (or FIELD 9 while the peer is heard) refuses it; PAIR_EN 0 sets OFF. A write of RESYNC in DEMOTED
enters SYNCING, and FIELD 10 refuses it elsewhere; a retry that is due asks again, or waits another second while R451
does not hold. R429, R433, R438, R446. A path without a heartbeat for 400 µs goes down, and a peer without one has
failed. Then a standby that holds no mirrored command becomes ACTIVE with a pair epoch above every one it has seen, a
syncing module listens again, and an active one with evidence against itself is DEMOTED. A module that has listened long
enough and may be alone becomes ACTIVE with its epoch raised; a DEMOTED one that hears nobody for 1 s listens. -/
def Obligations.PairingPathsAndRoles : Prop :=
  (∀ (s : State),
     let refused (c : Instr) (field : Nat) :=
       Does c s [.regs] [Reg.PAR_FLAGS, Reg.PAR_CFG_ERR] fun n =>
         rb n Reg.PAR_FLAGS 0 = true ∧ rf n Reg.PAR_CFG_ERR 7 0 = field
     (∀ data : Word, s.writable →
       let on := rb s.m Reg.PAR_CTRL 0
       let heard := ∃ e, s.m.par.lastHb = some e ∧ s.m.tim.edge < e + edgesS
       (bit data 0 = on → DoesNothing (.pairEnWrite data) s) ∧
       (bit data 0 = true → on = false → parCheck s.m = 0 → pairState s.m = 0 →
         Does (.pairEnWrite data) s [.regs, .tel, .sio, .par] [Reg.PAR_CTRL, Reg.PAR_STAT, Reg.SIO_FLAGS] fun n =>
           rb n Reg.PAR_CTRL 0 = true ∧ pairState n = 1 ∧ n.par.listenDue = some (s.m.tim.edge + listenEdges s.m)) ∧
       (bit data 0 = true → on = false → parCheck s.m = 0 → pairState s.m ≠ 0 →
         Does (.pairEnWrite data) s [.regs] [Reg.PAR_CTRL] fun n => rb n Reg.PAR_CTRL 0 = true) ∧
       (bit data 0 = true → on = false → parCheck s.m ≠ 0 → refused (.pairEnWrite data) (parCheck s.m)) ∧
       (bit data 0 = false → on = true → heard → refused (.pairEnWrite data) 9) ∧
       (bit data 0 = false → on = true → ¬ heard → pairState s.m ≠ 6 →
         Does (.pairEnWrite data) s [.regs, .tel, .out, .sio, .par] [Reg.PAR_CTRL, Reg.PAR_STAT, Reg.SIO_FLAGS] fun n =>
           rb n Reg.PAR_CTRL 0 = false ∧ pairState n = 0) ∧
       (bit data 0 = false → on = true → ¬ heard → pairState s.m = 6 →
         Does (.pairEnWrite data) s [.regs] [Reg.PAR_CTRL] fun n => rb n Reg.PAR_CTRL 0 = false)) ∧
     (s.writable → pairState s.m = 5 →
       Does .parResync s [.regs, .tel, .mac, .sio, .par] ([Reg.PAR_STAT, Reg.SIO_FLAGS] ++ dropCnts) fun n =>
         pairState n = 4 ∧ (n.par.rx.isSome = true ∨ n.par.retryDue = some (s.m.tim.edge + edgesS))) ∧
     (s.writable → pairState s.m ≠ 5 → refused .parResync 10) ∧
     (s.live → pairState s.m = 4 → due s.m.par.retryDue s.m.tim.edge = true → mayRequest s.m = false →
       Does .resyncRetry s [.par] [] fun n => n.par = { s.m.par with retryDue := some (s.m.tim.edge + edgesS) }) ∧
     (s.live → pairState s.m = 4 → due s.m.par.retryDue s.m.tim.edge = true → mayRequest s.m = true →
       Does .resyncRetry s [.regs, .tel, .mac, .par] dropCnts fun n =>
         n.par.rx.isSome = true ∧ n.par.retryDue = none ∧ n.par.stored = []) ∧
     (pairState s.m ≠ 4 ∨ due s.m.par.retryDue s.m.tim.edge = false → DoesNothing .resyncRetry s)) ∧
  (∀ (s : State), s.live →
     let epoch := loW (max (rd s.m Reg.PAR_EPOCH).toNat s.m.par.highEpoch + 1)
     (∀ path : Bool, due (if path then s.m.par.duePb else s.m.par.dueBl) s.m.tim.edge = true →
       Does (.pathTimeout path) s [.regs, .tel, .par] [Reg.PAR_STAT] fun n =>
         pathUp n path = false ∧ pathUp n (!path) = pathUp s.m (!path) ∧ pairState n = pairState s.m ∧
         (if path then n.par.duePb else n.par.dueBl) = none) ∧
     (∀ path : Bool, due (if path then s.m.par.duePb else s.m.par.dueBl) s.m.tim.edge = false →
       DoesNothing (.pathTimeout path) s) ∧
     (due s.m.par.failDue s.m.tim.edge = true →
       (pairState s.m = 3 → s.m.par.stored = [] →
         Does .peerFailed s [.regs, .tel, .hif, .mac, .gte, .cye, .out, .sio, .par]
           ([Reg.PAR_STAT, Reg.PAR_FLAGS, Reg.PAR_EPOCH, Reg.PAR_LAST_TAKEOVER_NS_LO, Reg.PAR_LAST_TAKEOVER_NS_HI,
             Reg.SIO_FLAGS, Reg.OUT_FLAGS, Reg.OUT_PUB_SENT] ++ dropCnts) fun n =>
           pairState n = 2 ∧ rd n Reg.PAR_EPOCH = epoch ∧ rb n Reg.PAR_FLAGS 4 = true ∧ rb n Reg.PAR_STAT 9 = true) ∧
       (pairState s.m = 4 →
         Does .peerFailed s [.regs, .tel, .hif, .sio, .par] [Reg.PAR_STAT, Reg.PAR_RESYNC_STAT, Reg.SIO_FLAGS] fun n =>
           pairState n = 1 ∧ rb n Reg.PAR_STAT 9 = true ∧ rf n Reg.PAR_RESYNC_STAT 7 0 = 7) ∧
       (pairState s.m = 2 → s.m.par.evidence = true →
         Does .peerFailed s [.regs, .tel, .hif, .sio, .par] [Reg.PAR_STAT, Reg.PAR_FLAGS, Reg.SIO_FLAGS] fun n =>
           pairState n = 5 ∧ rb n Reg.PAR_STAT 9 = true ∧ rb n Reg.PAR_FLAGS 3 = true) ∧
       (pairState s.m = 2 → s.m.par.evidence = false →
         Does .peerFailed s [.regs, .tel, .hif, .par] [Reg.PAR_STAT] fun n =>
           pairState n = 2 ∧ rb n Reg.PAR_STAT 9 = true)) ∧
     (due s.m.par.failDue s.m.tim.edge = false → DoesNothing .peerFailed s) ∧
     (pairState s.m = 1 → due s.m.par.listenDue s.m.tim.edge = true → rb s.m Reg.PAR_CFG 2 = true →
       Does .listenTimeout s [.regs, .tel, .hif, .out, .sio, .par] [Reg.PAR_STAT, Reg.PAR_EPOCH, Reg.SIO_FLAGS] fun n =>
         pairState n = 2 ∧ rd n Reg.PAR_EPOCH = epoch ∧ rb n Reg.PAR_STAT 9 = true) ∧
     (pairState s.m ≠ 1 → DoesNothing .listenTimeout s) ∧
     (pairState s.m = 5 → due s.m.par.demotedDue s.m.tim.edge = true →
       Does .demotedTimeout s [.regs, .tel, .sio, .par] [Reg.PAR_STAT, Reg.SIO_FLAGS] fun n =>
         pairState n = 1 ∧ n.par.listenDue = some (s.m.tim.edge + listenEdges s.m)) ∧
     (pairState s.m ≠ 5 → DoesNothing .demotedTimeout s))

/-- R431, R434, R449, R452, R454. On its schedule a paired module sends a heartbeat and plans the next one; an ACTIVE
one that has sent none for 300 µs is demoted. Fragments that did not complete in time are dropped and counted. A resync
that has not ended 2 s after its snapshot ends. In PROVEN mode a standby sends a report every second, and one that stays
out for 3 s sets the flag. -/
def Obligations.HeartbeatsReportsAndTheirLimits : Prop :=
  ∀ (s : State), s.live →
    (s.writable → s.m.tim.running = true → pairSends s.m = true →
      s.m.par.nextBl ≤ nowNs s.m / 100000 ∨ s.m.par.nextPb ≤ (nowNs s.m + 50000) / 100000 →
      Does .heartbeatSend s [.regs, .tel, .mac, .par] dropCnts fun n =>
        n.par.lastTx = some s.m.tim.edge ∧ nowNs s.m / 100000 < n.par.nextBl ∧
        (nowNs s.m + 50000) / 100000 < n.par.nextPb) ∧
    (pairSends s.m = false → DoesNothing .heartbeatSend s) ∧
    (∀ e : Nat, s.m.par.lastTx = some e → pairState s.m = 2 → e + 300 * edgesUs ≤ s.m.tim.edge →
      Does .txWatchdog s [.regs, .tel, .sio, .par] [Reg.PAR_STAT, Reg.PAR_FLAGS, Reg.SIO_FLAGS] fun n =>
        pairState n = 5 ∧ rb n Reg.PAR_FLAGS 3 = true) ∧
    (s.m.par.lastTx = none ∨ pairState s.m ≠ 2 → DoesNothing .txWatchdog s) ∧
    (Does .fragmentTimeout s [.regs, .par] [Reg.PAR_CNT + 8] fun n =>
        n.par = { s.m.par with frags := s.m.par.frags.filter fun x => decide (s.m.tim.edge < x.endsAt) } ∧
        rd n (Reg.PAR_CNT + 8) = rd s.m (Reg.PAR_CNT + 8) +
          BitVec.ofNat 32 (s.m.par.frags.filter fun x => decide (x.endsAt ≤ s.m.tim.edge)).length) ∧
    (∀ x : ResyncTx, s.m.par.tx = some x → x.snap = true → x.snapAt + 2 * edgesS ≤ s.m.tim.edge →
      Does .resyncTimeout s [.regs, .tel, .mac, .par] dropCnts fun n => n.par.tx = none) ∧
    (s.m.par.tx = none → DoesNothing .resyncTimeout s) ∧
    (pairState s.m = 3 → rb s.m Reg.PAR_CFG 1 = true → due s.m.par.reportNext s.m.tim.edge = true →
      Does .healthReportSend s [.regs, .tel, .mac, .par] dropCnts fun n =>
        n.par.reportNext = some (s.m.tim.edge + edgesS)) ∧
    (pairState s.m ≠ 3 ∨ rb s.m Reg.PAR_CFG 1 = false → DoesNothing .healthReportSend s) ∧
    (pairState s.m = 2 → rb s.m Reg.PAR_CFG 1 = true → due s.m.par.reportDue s.m.tim.edge = true →
      Does .healthReportTimeout s [.regs, .tel, .par] [Reg.PAR_FLAGS] fun n =>
        rb n Reg.PAR_FLAGS 5 = true ∧ n.par = { s.m.par with reportDue := none, reportLate := true }) ∧
    (pairState s.m ≠ 2 ∨ rb s.m Reg.PAR_CFG 1 = false → DoesNothing .healthReportTimeout s)

/-! ## Journal, scans, diagnostics (chapter 16) -/

/-- R495, R497, R500. A due deadline starts a flush of the records then in the buffer; a write of FLUSH starts one while
there are records. When a flush is done, its records stand in MRAM in order, and behind them a SEAL record that names
the previous seal and the last record; a repeated failure sets JNL_FLAGS bit 2 and writes nothing. An operating second
is counted when it has passed. R503, R504, R505. A readout that has moved its bytes writes its records, in the order of
the zone, and then one verdict byte for each, to the host; the zones stay as they are. A readout that freezes the ring
past its time, or past a fill of 192 KiB, is cut short and JNL_FLAGS bit 3 is set. -/
def Obligations.TheJournalFlushesAndIsRead : Prop :=
  (∀ (s : State), s.glbLive →
     let j := s.m.tel.jnl
     let started : Jnl := { j with flushing := some (j.flushing.getD j.buf.length),
                                   flushDue := if j.flushing.isSome then j.flushDue else none }
     let zonesSame (n : Pnm) : Prop := n.tel.jnl.ring = j.ring ∧ n.tel.jnl.birth = j.birth ∧
       n.tel.jnl.birthCopies = j.birthCopies ∧ n.tel.jnl.nextRseq = j.nextRseq
     (due j.flushDue s.m.tim.edge = true →
       Does .jnlFlushTimer s [.tel] [] fun n => n.tel = { s.m.tel with jnl := started }) ∧
     (due j.flushDue s.m.tim.edge = false → DoesNothing .jnlFlushTimer s) ∧
     (s.writable → j.buf ≠ [] →
       Does .jnlFlushWrite s [.tel] [] fun n => n.tel = { s.m.tel with jnl := started }) ∧
     (s.writable → j.buf = [] → DoesNothing .jnlFlushWrite s) ∧
     (∀ (k : Nat) (write : Bool), j.flushing = some k → flushWaits s.m = false →
       Does (.jnlFlushDone false write) s [.tel] [] fun n =>
         let l := (j.buf.take k).length
         n.tel.jnl.nextRseq = j.nextRseq + l + 1 ∧ n.tel.jnl.prevSeal = j.nextRseq + l ∧
         ∃ (o : Nat) (r : JRec), ((o, r) ∈ n.tel.jnl.ring ∨ (o, r) ∈ n.tel.jnl.birth) ∧ r.code = 0x100 ∧
           r.rseq = j.nextRseq + l ∧
           r.payload = leBytes 8 j.prevSeal ++ leBytes 8 (j.nextRseq + l - 1) ++ jnlKcv s.m ++ n.tel.jnl.lastTag) ∧
     (∀ (k : Nat) (write : Bool), j.flushing = some k →
       Does (.jnlFlushDone true write) s [.tel] [] fun n =>
         bit n.tel.jnl.flags 2 = true ∧ zonesSame n ∧ n.tel.jnl.prevSeal = j.prevSeal) ∧
     (∀ bad write : Bool, j.flushing = none → DoesNothing (.jnlFlushDone bad write) s) ∧
     (∀ write : Bool, flushWaits s.m = true → DoesNothing (.jnlFlushDone false write) s) ∧
     (j.opEdge + edgesS ≤ s.m.tim.edge →
       Does .opSecondTick s [.tel] [] fun n =>
         n.tel = { s.m.tel with jnl := n.tel.jnl } ∧ n.tel.jnl.opSec = j.opSec + 1 ∧
         n.tel.jnl.opEdge = j.opEdge + edgesS ∧ zonesSame n) ∧
     (s.m.tim.edge < j.opEdge + edgesS → DoesNothing .opSecondTick s)) ∧
  (∀ (s : State), s.live →
     let j := s.m.tel.jnl
     let zonesSame (n : Pnm) : Prop := n.tel.jnl.ring = j.ring ∧ n.tel.jnl.birth = j.birth ∧
       n.tel.jnl.birthCopies = j.birthCopies ∧ n.tel.jnl.nextRseq = j.nextRseq
     (∀ (r : JRead) (t : List JRead), j.reads = r :: t → r.left = 0 →
       let l := (readRecs j r).take (r.early.getD r.count)
       let all := zoneRecs j true ++ zoneRecs j false
       Does (.journalReadDone []) s [.tel, .hif, .par] [] fun n =>
         zonesSame n ∧ n.tel.jnl.reads.length = t.length ∧
         Emit.writeBytes 0 r.addr (l.flatMap recRaw ++ l.map fun x => BitVec.ofNat 8 (sealVerdict s.m all x)) ∈ n.tel.out ∧
         (t = [] → ∃ (k : Pnm) (x : Nat), k.hif = s.m.hif ∧ n.hif = (complete r.ref (ansR 0 l.length x) k).hif)) ∧
     (∀ damage, j.reads = [] ∨ (∃ r t, j.reads = r :: t ∧ r.left ≠ 0) → DoesNothing (.journalReadDone damage) s) ∧
     (∀ (r : JRead) (t : List JRead), j.reads = r :: t → r.birth = false → r.early = none →
       (due r.freezeDue s.m.tim.edge = true ∨ 196608 ≤ recBytes j.buf →
         Does .freezeTimeout s [.tel, .hif] [] fun n =>
           (∃ k : Nat, n.tel.jnl.reads = { r with early := some k, left := 0 } :: t) ∧ zonesSame n ∧
           bit n.tel.jnl.flags 3 = true) ∧
       (due r.freezeDue s.m.tim.edge = false → recBytes j.buf < 196608 → DoesNothing .freezeTimeout s)) ∧
     (j.reads = [] → DoesNothing .freezeTimeout s))

/-- R511, R512, R513, R514, R515. The writer of a scan channel is the PF or its owner. GO starts a scan of LEN bytes
whose bytes the channel's function may read, ends at once with ZERO_LEN or NO_ACCESS, or is refused; the end of a scan
leaves in RUNNING the working register after the bytes; VERIFY judges RESULT against the stored check field; ABORT
clears RUNNING. No other channel changes. -/
def Obligations.ScansRunEndAndJudge : Prop :=
  ∀ (s : State) (fn : BitVec 9) (ch : BitVec 3),
    let c := ch.toNat
    let mine := fn = 0 ∨ ownsCh s.m fn.toNat c = true
    let cfg := rd s.m (Reg.ch c 4)
    let poly := bits cfg 1 0
    let space := bit cfg 4
    let f := bits cfg 24 16
    let addr := (rd s.m (Reg.ch c 8)).toNat + 2 ^ 32 * (rd s.m (Reg.ch c 0xC)).toNat
    let len := (rd s.m (Reg.ch c 0x10)).toNat
    let inSpace := (space = true ∧ f = 0 ∧ addr + len ≤ 2 ^ 27) ∨ (space = false ∧ mayRead s.m f addr len = true)
    let allowed := ¬ (space = true ∧ fn ≠ 0)
    let run := if bit cfg 5 then loW (crcInit poly) else rd s.m (Reg.ch c 0x14)
    let running := [Reg.ch c 0x14, Reg.ch c 0x1C, Reg.ch c 0x28]
    let status (n : Pnm) := rf n (Reg.ch c 0x1C) 3 0
    let refused (i : Instr) (field : Nat) := Does i s [.regs] [Reg.CRC_FLAGS, Reg.CRC_CFG_ERR] fun n =>
      rb n Reg.CRC_FLAGS 0 = true ∧ rf n Reg.CRC_CFG_ERR 7 0 = field ∧ rf n Reg.CRC_CFG_ERR 10 8 = c
    (s.writable → ¬ mine →
      DoesNothing (.crcScanGo fn ch) s ∧ DoesNothing (.crcVerify fn ch) s ∧ DoesNothing (.crcAbort fn ch) s) ∧
    (s.writable → mine → (scanOf s.m c).isSome = true → refused (.crcScanGo fn ch) 2 ∧ refused (.crcVerify fn ch) 2) ∧
    (s.writable → mine → scanOf s.m c = none → ¬ allowed → refused (.crcScanGo fn ch) 4) ∧
    (s.writable → mine → scanOf s.m c = none → allowed → len ≠ 0 → inSpace →
      Does (.crcScanGo fn ch) s [.regs, .scans, .hif] running fun n =>
        status n = 1 ∧ rd n (Reg.ch c 0x14) = run ∧ n.scans = s.m.scans ++
          [{ ch := c, fn := f, space := space, addr := addr, len := len, poly := poly, left := len }]) ∧
    (s.writable → mine → scanOf s.m c = none → allowed → (len = 0 ∨ ¬ inSpace) →
      Does (.crcScanGo fn ch) s [.regs, .tel, .hif] running fun n =>
        status n = (if len = 0 then 3 else 4) ∧ rd n (Reg.ch c 0x14) = run) ∧
    (∀ x : Scan, s.live → scanOf s.m c = some x → x.left = 0 →
      Does (.crcScanDone ch) s [.regs, .scans, .tel, .hif] running fun n =>
        status n = 2 ∧ scanOf n c = none ∧ (∀ d, d ≠ c → scanOf n d = scanOf s.m d) ∧
        rd n (Reg.ch c 0x14) = loW (crcRun x.poly (rd s.m (Reg.ch c 0x14)).toNat (scanBytes s.m s.mem x)) ∧
        rd n (Reg.ch c 0x28) = loW x.len) ∧
    (s.live → (∀ x, scanOf s.m c = some x → x.left ≠ 0) → DoesNothing (.crcScanDone ch) s) ∧
    (s.writable → mine → scanOf s.m c = none → poly ≠ 0 → refused (.crcVerify fn ch) 3) ∧
    (s.writable → mine → scanOf s.m c = none → poly = 0 →
      Does (.crcVerify fn ch) s [.regs, .tel] [Reg.ch c 0x1C] fun n =>
        let stored := (rd s.m (Reg.ch c 0x20)).toNat
        status n = status s.m ∧ rf n (Reg.ch c 0x1C) 6 4 =
          if crc8of stored ≠ rf s.m (Reg.ch c 0x24) 7 0 then 2
          else if Nat.xor (rd s.m (Reg.ch c 0x14)).toNat 0xFFFFFFFF ≠ stored then 1 else 0) ∧
    (∀ x : Scan, s.writable → mine → scanOf s.m c = some x →
      Does (.crcAbort fn ch) s [.regs, .scans, .tel, .hif] running fun n =>
        status n = 5 ∧ scanOf n c = none ∧ (∀ d, d ≠ c → scanOf n d = scanOf s.m d) ∧ rd n (Reg.ch c 0x14) = 0 ∧
        rd n (Reg.ch c 0x28) = loW (x.len - x.left)) ∧
    (s.writable → mine → scanOf s.m c = none → DoesNothing (.crcAbort fn ch) s)

/-- R516, R517, R521, R525. A snapshot trigger latches the bank and the time snapshot on its edge, joins the snapshot of
the same edge, or is counted as missed while the bank is locked; a release unlocks it. The window reads nodes, the bank
and test results; it writes host nodes and node 0's parent, and refuses cycles, built-in nodes, bad types and every
other table. -/
def Obligations.SnapshotsAndTheNodeWindow : Prop :=
  ∀ (s : State), s.writable →
    let d := s.m.tel.dia
    let same := d.snapEdge = some s.m.tim.edge
    (d.locked = false → ¬ same →
      Does .snapTrig s [.tel] [] fun n =>
        n.tel.dia.timSnap = timSnapWords s.m.tim ∧ n.tel.dia.seq = d.seq + 1 ∧ n.tel.dia.source = 1 ∧
        n.tel.dia.locked = rb s.m Reg.DIA_SNAP_CFG 0 ∧
        n.tel.dia.bank = (List.range 656).map (bankWord s.m s.m.tel (d.seq + 1) 1 0)) ∧
    (d.locked = true → ¬ same →
      Does .snapTrig s [.tel] [] fun n =>
        n.tel = { s.m.tel with dia := { d with missed := d.missed + 1, flags := setBit d.flags 1 true } }) ∧
    (same →
      Does .snapTrig s [.tel] [] fun n =>
        n.tel = { s.m.tel with dia := { d with source := Nat.lor d.source 1, bank := n.tel.dia.bank } } ∧
        ∀ k, k ≠ 1 → n.tel.dia.bank.getD k 0 = d.bank.getD k 0) ∧
    (Does .snapRelease s [.tel] [] fun n => n.tel = { s.m.tel with dia := { d with locked := false } }) ∧
    (∀ cmd : Word,
      let t := bits cmd 18 16
      let i := bits cmd 10 0
      let w := rd s.m Reg.DIA_TBL_DATA
      let node := NMap.get nodeDflt d.nodes i
      let cycle := above d i 2048 (bits w 26 16) = true
      let badType := 5 ≤ bits w 6 4 ∨ (bits w 6 4 = 3 ∧ bits w 15 8 = 0)
      let fields (x : Node) := (x.typ, x.k, x.parent, x.en)
      let stored (P : Node → Prop) := Does (.diaTblWrite cmd) s [.regs, .tel] [Reg.DIA_TBL_CMD] fun n =>
        P (NMap.get nodeDflt n.tel.dia.nodes i) ∧
        ∀ k, k ≠ i → fields (NMap.get nodeDflt n.tel.dia.nodes k) = fields (NMap.get nodeDflt d.nodes k) ∧
          (NMap.get nodeDflt n.tel.dia.nodes k).own = (NMap.get nodeDflt d.nodes k).own
      let refused (field : Nat) :=
        Does (.diaTblWrite cmd) s [.regs, .tel] [Reg.DIA_TBL_CMD, Reg.DIA_TBL_STAT, Reg.DIA_CFG_ERR] fun n =>
          rb n Reg.DIA_TBL_STAT 1 = true ∧ rf n Reg.DIA_CFG_ERR 7 0 = field ∧ rf n Reg.DIA_CFG_ERR 18 8 = i ∧
          n.tel = { s.m.tel with dia := { d with flags := setBit d.flags 0 true } }
      (t < 3 → Does (.diaTblRead cmd) s [.regs] (Reg.DIA_TBL_CMD :: rowAt Reg.DIA_TBL_DATA 4) fun n =>
        ∀ k < 4, rd n (Reg.DIA_TBL_DATA + 4 * k) = (diaWords s.m t i).getD k 0) ∧
      (3 ≤ t → ∀ c : Instr, c = .diaTblRead cmd ∨ c = .diaTblWrite cmd →
        Does c s [.regs] [Reg.DIA_TBL_CMD, Reg.DIA_TBL_STAT] fun n => rb n Reg.DIA_TBL_STAT 1 = true) ∧
      (0 < t → t < 3 → refused 4) ∧
      (t = 0 → 0 < i → i < 1280 → refused 1) ∧
      (t = 0 → (i = 0 ∨ 1280 ≤ i) → cycle → refused 2) ∧
      (t = 0 → 1280 ≤ i → ¬ cycle → badType → refused 3) ∧
      (t = 0 → i = 0 → ¬ cycle →
        stored fun x => fields x = (node.typ, node.k, bits w 26 16, node.en) ∧ x.own = node.own) ∧
      (t = 0 → 1280 ≤ i → ¬ cycle → ¬ badType →
        stored fun x => fields x = (bits w 6 4, bits w 15 8, bits w 26 16, bit w 31) ∧ x.own = bits w 3 2))

/-- R522, R523, R524. The test at work, or the continuous cycle where none waits, takes a slice when its target is idle.
A test whose slices and bytes are done completes: it counts a pass or a fail, marks or returns the core or lane it
tested, and leaves the segments of kind 5 zero. A test that runs past TMO_S ends with no result counted. -/
def Obligations.SelfTestsRunInSlices : Prop :=
  ∀ (s : State), s.live →
    let d := s.m.tel.dia
    let cyc := cycleTest d.cyclePos
    (∀ (t : SelfTest) (q : List SelfTest), d.queue = t :: q →
      let may := t.started.isSome = true ∧ sliceMay s.m t.kind t.index = true ∧ t.slices < testSlices t.kind
      let late := ∃ e, t.started = some e ∧ e + t.tmoS * edgesS ≤ s.m.tim.edge
      (may → Does .selftestSlice s [.tel] [] fun n =>
        n.tel = { s.m.tel with dia := { d with queue := { t with slices := t.slices + 1 } :: q } }) ∧
      (¬ may → DoesNothing .selftestSlice s) ∧
      (∀ (sig : Word) (bad : Option (BitVec 32)), t.started.isSome = true → testSlices t.kind ≤ t.slices → t.left = 0 →
        let signed := t.kind = 1 ∨ t.kind = 3
        let pass := if signed then decide (sig = Config.expectedSig t.kind t.index) else bad.isNone
        DoesMem (.selftestDone sig bad) s [.regs, .ladder, .tel, .hif, .fpe, .cye, .par]
          [Reg.DIA_ST_PASSES, Reg.DIA_ST_FAILS, Reg.CYE_FLAGS, Reg.FPE_FLAGS, Reg.FPE_STAT]
          (fun a => t.kind = 5 ∧ inSegs s.m t.firstSeg t.segCount a) fun n mem =>
          (pass = true → rd n Reg.DIA_ST_PASSES = rd s.m Reg.DIA_ST_PASSES + 1 ∧
            rd n Reg.DIA_ST_FAILS = rd s.m Reg.DIA_ST_FAILS) ∧
          (pass = false → rd n Reg.DIA_ST_FAILS = rd s.m Reg.DIA_ST_FAILS + 1 ∧
            rd n Reg.DIA_ST_PASSES = rd s.m Reg.DIA_ST_PASSES) ∧
          (t.kind = 1 ∨ t.kind = 2 → ∀ x, s.m.cye.cores[t.index]? = some x → (getCore n t.index).failed = !pass) ∧
          (t.kind = 3 → ∀ x, s.m.fpe.lanes[t.index]? = some x → n.fpe.lanes[t.index]? = some pass) ∧
          (t.kind = 5 → Memory.wf s.mem = true → ∀ a, inSegs s.m t.firstSeg t.segCount a → Memory.read mem a = 0) ∧
          (q = [] → n.tel.dia.queue = [])) ∧
      (∀ (sig : Word) (bad : Option (BitVec 32)), t.started = none ∨ t.slices < testSlices t.kind ∨ t.left ≠ 0 →
        DoesNothing (.selftestDone sig bad) s) ∧
      (late → Does .selftestTimeout s [.tel, .hif, .par] [] fun n =>
        n.tel.dia.results = d.results ∧ (q = [] → n.tel.dia.queue = []) ∧
        (q = [] → t.left = 0 → ∃ k : Pnm, k.hif = s.m.hif ∧ n.hif = (complete t.ref (ansR 0 0 3) k).hif)) ∧
      (¬ late → DoesNothing .selftestTimeout s)) ∧
    (d.queue = [] →
      let may := cycleRuns s.m = true ∧ sliceMay s.m cyc.1 cyc.2 = true ∧ d.cycleSlices < testSlices cyc.1
      let done := cycleRuns s.m = true ∧ d.cycleSlices = testSlices cyc.1
      DoesNothing .selftestTimeout s ∧
      (may → Does .selftestSlice s [.tel] [] fun n =>
        n.tel = { s.m.tel with dia := { d with cycleSlices := d.cycleSlices + 1 } }) ∧
      (¬ may → DoesNothing .selftestSlice s) ∧
      (∀ (sig : Word) (bad : Option (BitVec 32)),
        (done → Does (.selftestDone sig bad) s [.regs, .ladder, .tel, .fpe, .cye]
          [Reg.DIA_ST_PASSES, Reg.DIA_ST_FAILS, Reg.CYE_FLAGS, Reg.FPE_FLAGS, Reg.FPE_STAT] fun n =>
          n.tel.dia.cyclePos = (d.cyclePos + 1) % 36 ∧ n.tel.dia.cycleSlices = 0 ∧ n.tel.dia.queue = []) ∧
        (¬ done → DoesNothing (.selftestDone sig bad) s)))

/-! ## Start, reset, power and maintenance (chapter 17) -/

/-- R531, R532, R533, R536, R538, R544, R545. A start (at power-on, when the supply returns, when PERST# is asserted
after a shutdown, and when a module reset takes effect) boots a slot that verifies, and enters the recovery state where
none does. It shows its cause, counts a module reset, and puts every engine at its reset state; the retention bytes, the
pair epoch and the MRAM journal stay, and the capture region lists nothing. In any other phase these commands do
nothing. -/
def Obligations.StartsBootAVerifiedSlot : Prop :=
  ∀ (s : State) (i : StartIn),
    let boots := slotOk s.m false = true ∨ slotOk s.m true = true
    let starts (c : Instr) (cause : Nat) (P : Pnm → Prop) : Prop :=
      ∃ n : Pnm, exec c s = .next { s with m := n, mem := [] } ∧
        n.glb.phase = (if boots then Phase.run else Phase.recovery) ∧ rd n Reg.GLB_RESET_INFO = loW cause ∧
        n.hif.epoch = s.m.hif.epoch + 1 ∧ n.tim.running = false ∧ n.tim.grid = false ∧ n.tim.edge = s.m.tim.edge ∧
        n.svi = Pnm.init.svi ∧ n.fpe = Pnm.init.fpe ∧ n.gte = Pnm.init.gte ∧ n.cye = Pnm.init.cye ∧ n.out = Pnm.init.out ∧
        n.cap.segs = [] ∧ n.cap.recs = [] ∧ n.mac = Pnm.init.mac ∧ n.scans = [] ∧
        (∀ k < 32, (getCap n k).state = 0 ∧ (getCap n k).lastEnd =
          if cause ≠ 1 ∧ ((getCap s.m k).state ≠ 0 ∨ (getCap s.m k).lastEnd = 6) then 6 else 0) ∧
        (∀ k < 8, rd n (Reg.GLB_RETAIN + 4 * k) = rd s.m (Reg.GLB_RETAIN + 4 * k)) ∧
        rd n Reg.PAR_EPOCH = rd s.m Reg.PAR_EPOCH ∧ P n
    (s.m.glb.phase = .off → starts (.powerOn i) 1 fun n =>
      n.tel.jnl.pcyc = s.m.tel.jnl.pcyc + 1 ∧ n.tel.jnl.opSec = s.m.tel.jnl.opStored + 10 ∧
      n.tel.jnl.ring = s.m.tel.jnl.ring ∧ n.tel.jnl.birth = s.m.tel.jnl.birth) ∧
    (s.m.glb.phase ≠ .off → DoesNothing (.powerOn i) s) ∧
    (s.m.glb.phase = .held → starts (.supplyReturn i) 7 fun n =>
      n.tel.jnl.pcyc = s.m.tel.jnl.pcyc ∧ n.tel.jnl.ring = s.m.tel.jnl.ring ∧ n.tel.jnl.birth = s.m.tel.jnl.birth) ∧
    (s.m.glb.phase ≠ .held → DoesNothing (.supplyReturn i) s) ∧
    (s.m.glb.phase = .shut → starts (.hostReset i) 8 fun n =>
      n.tel.jnl.pcyc = s.m.tel.jnl.pcyc ∧ n.tel.jnl.ring = s.m.tel.jnl.ring) ∧
    (s.m.glb.phase = .off ∨ s.m.glb.phase = .held → DoesNothing (.hostReset i) s) ∧
    (∀ cause : Nat, s.glbLive → s.m.glb.resetReq = some cause → s.m.glb.resetShut = false →
      starts (.moduleResetEffect i) cause fun n => n.tel.jnl.pcyc = s.m.tel.jnl.pcyc ∧ n.tel.jnl.opSec = s.m.tel.jnl.opSec) ∧
    (∀ cause : Nat, s.glbLive → s.m.glb.resetReq = some cause → s.m.glb.resetShut = true →
      ∃ n : Pnm, exec (.moduleResetEffect i) s = .next { s with m := n, mem := [] } ∧ n.glb.phase = .shut ∧
        n.hif.epoch = s.m.hif.epoch ∧ n.svi = Pnm.init.svi ∧ n.cye = Pnm.init.cye ∧ n.out = Pnm.init.out) ∧
    (s.glbLive → s.m.glb.resetReq = none → DoesNothing (.moduleResetEffect i) s)

/-- R537, R538, R539, R545. A request for a module reset is recorded with its cause, and the outputs are driven at once;
a second one merges with it, and one that comes during a power failure waits. GLB_RESET and GLB_PWR need their keys. A
host reset that is isolated is a link reset: the link is down, VF Enable is clear and no VF is in service; committed
gates still stand. -/
def Obligations.ResetsAreRequested : Prop :=
  ∀ s : State,
    let free := s.m.glb.pfEdge = none ∧ s.m.glb.resetReq = none
    let asked (c : Instr) (cause : Nat) : Prop :=
      (free → Does c s [.regs, .glb, .tel, .sio] [Reg.SIO_FLAGS] fun n =>
        n.glb = { s.m.glb with resetReq := some cause, resetShut := decide (cause = 0) }) ∧
      (s.m.glb.pfEdge.isSome = true → Does c s [.glb] [] fun n =>
        n.glb = { s.m.glb with resetWait := s.m.glb.resetWait ++ [cause] }) ∧
      (s.m.glb.pfEdge = none → s.m.glb.resetReq.isSome = true → DoesNothing c s)
    let refused (c : Instr) (field : Nat) : Prop := Does c s [.regs] [Reg.GLB_CFG_ERR, Reg.GLB_FLAGS] fun n =>
      rf n Reg.GLB_CFG_ERR 7 0 = field ∧ rb n Reg.GLB_FLAGS 0 = true
    let isolated := s.m.glb.phase = .run ∧ rb s.m Reg.GLB_CFG 0 = true ∧ s.m.glb.resetReq = none
    (s.glbLive → asked .fwWatchdog 4 ∧ asked .memoryUe 6) ∧
    (∀ data : Word, s.glbLive → bit data 0 = true →
      (bits data 31 16 = 0x5253 → asked (.resetModuleWrite data) 3) ∧
      (bits data 31 16 ≠ 0x5253 → refused (.resetModuleWrite data) 1) ∧
      (bits data 31 16 = 0x5344 → asked (.shutdown data) 0) ∧
      (bits data 31 16 ≠ 0x5344 → refused (.shutdown data) 2)) ∧
    (∀ data : Word, s.glbLive → bit data 0 = false →
      DoesNothing (.resetModuleWrite data) s ∧ DoesNothing (.shutdown data) s) ∧
    (s.live → s.glbLive →
      (due s.m.glb.confirmDue s.m.tim.edge = true → asked .trialConfirmTimeout 5) ∧
      (due s.m.glb.confirmDue s.m.tim.edge = false → DoesNothing .trialConfirmTimeout s)) ∧
    (∀ i : StartIn, s.glbLive → ¬ isolated → asked (.hostReset i) 2) ∧
    (∀ i : StartIn, s.glbLive → isolated →
      ∃ (n : Pnm) (mem : Memory), exec (.hostReset i) s = .next { s with m := n, mem := mem } ∧
        Keeps [.regs, .tel, .scans, .hif, .gte, .cye, .out, .cap, .par] s.m n ∧
        (∀ a : Nat, ¬ inArmed s.m a →
          (∀ q ∈ s.m.cap.recs, a < (getSeg s.m q.1).addr ∨ (getSeg s.m q.1).addr + 4 ≤ a) →
          Memory.read mem a = s.readByte a) ∧
        n.hif.linkUp = false ∧ n.hif.vfEnable = false ∧ n.hif.vfs = [] ∧ rb n (Reg.fn 0 0) 0 = false ∧
        (getFn n 0).accSeq = (getFn s.m 0).accSeq ∧ (getFn n 0).cmds = [] ∧
        ∀ g, (getGate s.m g).state = 3 → (getGate n g).state = 3 ∧ (getGate n g).f = (getGate s.m g).f)

/-- R501, R542, R543, R544. The warning is raised once: fetched commands that were not accepted are dropped, and every
record is in MRAM with a POWER_FAIL record and a seal. Before the warning plus 19 ms the module may ride through; from
then on the hold-up has ended, and the module is held in reset. When power goes, only what is not volatile stays. -/
def Obligations.PowerFailsRidesThroughOrEnds : Prop :=
  ∀ s : State,
    let g := s.m.glb
    (s.glbLive → g.pfEdge = none →
      Does .powerFailWarning s [.regs, .glb, .tel, .hif] [Reg.GLB_FW_STAT] fun n =>
        n.glb = { g with pfEdge := some s.m.tim.edge, fwWrite := none } ∧ n.tel.jnl.pfSealed = true ∧
        (∀ f, (getFn n f).cmds = [] ∧ (getFn n f).inFetch = 0 ∧ (getFn n f).accSeq = (getFn s.m f).accSeq) ∧
        ∃ (o : Nat) (r : JRec), ((o, r) ∈ n.tel.jnl.ring ∨ (o, r) ∈ n.tel.jnl.birth) ∧ r.code = 0x100 ∧
          r.rseq = n.tel.jnl.nextRseq - 1) ∧
    (s.glbLive → g.pfEdge.isSome = true → DoesNothing .powerFailWarning s) ∧
    (∀ e : Nat, s.glbLive → g.pfEdge = some e → s.m.tim.edge < e + 19 * edgesMs →
      Does .rideThrough s [.regs, .glb, .tel, .sio] [Reg.GLB_FLAGS, Reg.SIO_FLAGS] fun n =>
        n.glb.pfEdge = none ∧ n.tel.jnl.pfSealed = false ∧ rb n Reg.GLB_FLAGS 4 = true ∧
        n.glb.resetReq = (if g.resetReq.isSome = true then g.resetReq else g.resetWait.head?)) ∧
    (∀ e : Nat, s.glbLive → g.pfEdge = some e → e + 19 * edgesMs ≤ s.m.tim.edge → DoesNothing .rideThrough s) ∧
    (s.glbLive → g.pfEdge = none → DoesNothing .rideThrough s ∧ DoesNothing .holdupEnd s) ∧
    (∀ e : Nat, g.pfEdge = some e → s.m.tim.edge < e + 19 * edgesMs → DoesNothing .holdupEnd s) ∧
    (∀ e : Nat, s.glbLive → g.pfEdge = some e → e + 19 * edgesMs ≤ s.m.tim.edge →
      ∃ n : Pnm, exec .holdupEnd s = .next { s with m := n, mem := [] } ∧ n.glb.phase = .held ∧
        n.hif.epoch = s.m.hif.epoch ∧ n.svi = Pnm.init.svi ∧ n.gte = Pnm.init.gte ∧ n.cye = Pnm.init.cye ∧
        n.key.store = s.m.key.store ∧ n.tel.jnl.ring = s.m.tel.jnl.ring) ∧
    (g.phase ≠ .off →
      ∃ n : Pnm, exec .powerRemoved s = .next { s with m := n, mem := [] } ∧ n.glb.phase = .off ∧
        n.hif.epoch = s.m.hif.epoch ∧ n.svi = Pnm.init.svi ∧ n.gte = Pnm.init.gte ∧ n.cye = Pnm.init.cye ∧
        n.key.store = s.m.key.store ∧ n.key.lc = s.m.key.lc ∧ n.tel.jnl.ring = s.m.tel.jnl.ring ∧
        n.tel.jnl.birth = s.m.tel.jnl.birth ∧ n.tel.jnl.buf = [] ∧
        n.tel.jnl.unclean = (s.m.tel.jnl.unclean || (glbOn s.m && !s.m.tel.jnl.pfSealed))) ∧
    (g.phase = .off → DoesNothing .powerRemoved s) ∧
    (g.phase = .off →
      Does .backupSupplyLost s [.regs, .glb] (Reg.GLB_TAMPER :: rowAt Reg.GLB_RETAIN 8) fun n =>
        rd n Reg.GLB_TAMPER = 0 ∧ (∀ k < 8, rd n (Reg.GLB_RETAIN + 4 * k) = 0) ∧ n.glb.rtc = 0 ∧ n.glb.backupLost = true) ∧
    (g.phase ≠ .off → DoesNothing .backupSupplyLost s)

/-- R529, R532, R535. A change of the slot straps is flagged once. A confirmation within its time makes the running slot
the one to boot. A write of firmware starts only for a slot that does not run, outside a trial and a migration, one at a
time and with a length; the target slot is invalid until the bundle has been read, checked and written. -/
def Obligations.BootWordsAndFirmware : Prop :=
  ∀ s : State, s.glbLive →
    let g := s.m.glb
    (∀ (pairPos safetyIo timeSrc maint : Bool) (slotId : BitVec 4),
      let now : Straps := { g.straps with pairPos := pairPos, slotId := slotId.toNat, safetyIo := safetyIo,
                                          timeSrc := timeSrc, maint := maint }
      let c : Instr := .strapPoll pairPos safetyIo timeSrc maint slotId
      (now ≠ g.straps → g.strapSeen = false →
        Does c s [.regs, .glb, .tel] [Reg.GLB_FLAGS] fun n =>
          n.glb = { g with strapSeen := true } ∧ rb n Reg.GLB_FLAGS 2 = true ∧
          Raised { src := 0, code := 0x22, cls := 2, items := [2] } s.m n) ∧
      (now = g.straps ∨ g.strapSeen = true → DoesNothing c s)) ∧
    (∀ data : Word,
      (bit data 0 = true → g.confirmDue.isSome = true →
        Does (.bootConfirm data) s [.regs, .glb] [Reg.GLB_BOOT, Reg.GLB_STAT] fun n =>
          n.glb = { g with confirmDue := none } ∧ rb n Reg.GLB_BOOT 0 = rb s.m Reg.GLB_STAT 3 ∧
          rb n Reg.GLB_STAT 2 = false) ∧
      (bit data 0 = false ∨ g.confirmDue = none → DoesNothing (.bootConfirm data) s)) ∧
    (∀ data : Word,
      let slot := bit data 4
      let len := (rd s.m Reg.GLB_FW_LEN).toNat
      let runs := g.phase ≠ .recovery ∧ slot = rb s.m Reg.GLB_STAT 3
      let trial := rb s.m Reg.GLB_STAT 2 = true
      let migrates := rf s.m Reg.KEY_MIG_STAT 1 0 ≠ 0
      let refused (field : Nat) := Does (.fwGo data) s [.regs] [Reg.GLB_FW_CTRL, Reg.GLB_CFG_ERR, Reg.GLB_FLAGS] fun n =>
        rf n Reg.GLB_CFG_ERR 7 0 = field ∧ rb n Reg.GLB_FLAGS 0 = true
      (bit data 0 = false → Does (.fwGo data) s [.regs] [Reg.GLB_FW_CTRL] fun n => rb n Reg.GLB_FW_CTRL 4 = slot) ∧
      (bit data 0 = true →
        (runs → refused 4) ∧ (¬ runs → trial → refused 5) ∧ (¬ runs → ¬ trial → migrates → refused 6) ∧
        (¬ runs → ¬ trial → ¬ migrates → g.fwWrite.isSome = true → refused 7) ∧
        (¬ runs → ¬ trial → ¬ migrates → g.fwWrite = none → len = 0 → refused 8) ∧
        (¬ runs → ¬ trial → ¬ migrates → g.fwWrite = none → len ≠ 0 →
          Does (.fwGo data) s [.regs, .glb, .hif] [Reg.GLB_FW_CTRL, Reg.GLB_FW_STAT] fun n =>
            (∃ a : Nat, n.glb.fwWrite = some (slot, a, len)) ∧ rb n Reg.GLB_FW_STAT 0 = true ∧
            n.glb.slots = setAt g.slots (b2n slot) none ∧
            (getArb n 257).pending = (getArb s.m 257).pending + len))) ∧
    (∀ (slot : Bool) (a len : Nat) (bundle : List Byte) (ok : Bool), g.fwWrite = some (slot, a, len) →
      (getArb s.m 257).pending = 0 → flying s.m 257 = 0 →
      Does (.fwWriteDone bundle ok) s [.regs, .glb, .tel] [Reg.GLB_FW_STAT] fun n =>
        n.glb.fwWrite = none ∧ rb n Reg.GLB_FW_STAT 0 = false ∧
        rf n Reg.GLB_FW_STAT 3 1 = bundleResult bundle len ok ∧ 
        ∃ b : Option Bundle, n.glb.slots = setAt g.slots (b2n slot) b ∧
          (match b with | some x => x.verifies | none => false) = decide (bundleResult bundle len ok = 1)) ∧
    (∀ (bundle : List Byte) (ok : Bool),
      g.fwWrite = none ∨ (getArb s.m 257).pending ≠ 0 ∨ flying s.m 257 ≠ 0 → DoesNothing (.fwWriteDone bundle ok) s)

/-- R540, R546, R547, R548, R549, R565. Maintenance is requested and left with its key alone, and never left while the
strap holds it. The clock of the backup domain takes the seconds written to it. A cover that opens and a loop read open
twice set their tamper latches, powered or not. A low battery and an input above its limit are flagged and said once. -/
def Obligations.MaintenanceBackupAndSupply : Prop :=
  ∀ s : State,
    let g := s.m.glb
    let refused (c : Instr) (field : Nat) : Prop := Does c s [.regs] [Reg.GLB_CFG_ERR, Reg.GLB_FLAGS] fun n =>
      rf n Reg.GLB_CFG_ERR 7 0 = field ∧ rb n Reg.GLB_FLAGS 0 = true
    (∀ data : Word, s.glbLive →
      let key := bits data 31 16 = 0x4D54
      (bit data 0 = true → key → Does (.maintReq data) s [.glb] [] fun n =>
        n.glb = { g with maintReq := some (true, s.m.tim.edge) }) ∧
      (bit data 0 = true → ¬ key → refused (.maintReq data) 2) ∧
      (bit data 0 = false → DoesNothing (.maintReq data) s) ∧
      (bit data 1 = true → key → g.straps.maint = false → Does (.maintLeave data) s [.glb] [] fun n =>
        n.glb = { g with maintReq := some (false, s.m.tim.edge) }) ∧
      (bit data 1 = true → key → g.straps.maint = true → refused (.maintLeave data) 3) ∧
      (bit data 1 = true → ¬ key → refused (.maintLeave data) 2) ∧
      (bit data 1 = false → DoesNothing (.maintLeave data) s)) ∧
    (∀ hi : Word, s.glbLive → Does (.rtcCommit hi) s [.glb] [] fun n =>
      n.glb = { g with rtc := n.glb.rtc, rtcEdge := s.m.tim.edge } ∧
      n.glb.rtc = (bits (stagedLo s.m Reg.GLB_RTC_LO) 31 15 + 2 ^ 17 * bits hi 30 0) * 2 ^ 15) ∧
    (∀ opens : Bool, Does (.tamperCoverOpen opens) s [.regs, .glb] [Reg.GLB_TAMPER] fun n =>
      n.glb = { g with coverOpen := opens } ∧ rb n Reg.GLB_TAMPER 0 = (opens || rb s.m Reg.GLB_TAMPER 0)) ∧
    (∀ opens : Bool, Does (.tamperLoopSense opens) s [.regs, .glb] [Reg.GLB_TAMPER] fun n =>
      n.glb.loopOpen = opens ∧ (opens = false → n.glb.loopReads = 0) ∧
      (opens = true → 1 ≤ g.loopReads → rb n Reg.GLB_TAMPER 1 = true) ∧
      (opens = false ∨ g.loopReads = 0 → rb n Reg.GLB_TAMPER 1 = rb s.m Reg.GLB_TAMPER 1)) ∧
    (∀ mv : BitVec 12, s.glbLive → Does (.vbatLow mv) s [.regs, .glb, .tel] [Reg.GLB_BKP_STAT] fun n =>
      let low := decide (0 < mv.toNat ∧ mv.toNat < 2500)
      n.glb = { g with vbatFitted := decide (0 < mv.toNat) } ∧ rf n Reg.GLB_BKP_STAT 25 14 = mv.toNat ∧
      rb n Reg.GLB_BKP_STAT 26 = low ∧
      (low = true → rb s.m Reg.GLB_BKP_STAT 26 = false →
        Raised { src := 0, code := 0x25, cls := 2, items := [mv.toNat] } s.m n) ∧
      (low = false ∨ rb s.m Reg.GLB_BKP_STAT 26 = true → n.tel = s.m.tel)) ∧
    (∀ aux above : Bool, s.glbLive →
      ((if aux then g.ovAux else g.ovCard) ≠ above → Does (.supplyOvervoltage aux above) s [.glb, .tel] [] fun n =>
        n.glb = (if aux then { g with ovAux := above } else { g with ovCard := above })) ∧
      ((if aux then g.ovAux else g.ovCard) = above → DoesNothing (.supplyOvervoltage aux above) s))
end

