-- ==== Sys2Proof/Laws/Maps.lean ====
section
/-! SUPPORT. Laws of the sparse maps, of the capture region built on them, and of bit fields. -/

namespace Sys2Proof

variable {α : Type}

/-! ## Reading after writing -/

theorem NMap.get_ins_same (d : Nat → α) (m : NMap α) (k : Nat) (v : α) : NMap.get d (NMap.ins m k v) k = v := by
  induction m with
  | nil => simp [NMap.ins, NMap.get]
  | cons p t ih =>
    obtain ⟨j, a⟩ := p
    simp only [NMap.ins]
    split
    · simp [NMap.get]
    · split
      · simp [NMap.get]
      · rename_i h; simp [NMap.get, Ne.symm h, ih]

theorem NMap.get_ins_ne (d : Nat → α) (m : NMap α) (k o : Nat) (v : α) (h : o ≠ k) :
    NMap.get d (NMap.ins m k v) o = NMap.get d m o := by
  induction m with
  | nil => simp [NMap.ins, NMap.get, Ne.symm h]
  | cons p t ih =>
    obtain ⟨j, a⟩ := p
    simp only [NMap.ins]
    split
    · simp [NMap.get, Ne.symm h]
    · split
      · rename_i e; subst e; simp [NMap.get, Ne.symm h]
      · simp only [NMap.get, ih]

theorem NMap.get_del_same (d : Nat → α) (m : NMap α) (k : Nat) : NMap.get d (NMap.del m k) k = d k := by
  induction m with
  | nil => rfl
  | cons p t ih =>
    obtain ⟨j, a⟩ := p
    simp only [NMap.del]
    split
    · exact ih
    · rename_i h; simp [NMap.get, h, ih]

theorem NMap.get_del_ne (d : Nat → α) (m : NMap α) (k o : Nat) (h : o ≠ k) :
    NMap.get d (NMap.del m k) o = NMap.get d m o := by
  induction m with
  | nil => rfl
  | cons p t ih =>
    obtain ⟨j, a⟩ := p
    simp only [NMap.del]
    split
    · rename_i e; subst e; simp [NMap.get, Ne.symm h, ih]
    · simp only [NMap.get, ih]

/-- A key that was just written reads as what was written. -/
@[simp] theorem NMap.get_set_same [DecidableEq α] (d : Nat → α) (m : NMap α) (k : Nat) (v : α) :
    NMap.get d (NMap.set d m k v) k = v := by
  unfold NMap.set
  split
  · rename_i e; rw [NMap.get_del_same, e]
  · exact NMap.get_ins_same d m k v

/-- Writing one key leaves every other key as it was. -/
theorem NMap.get_set_ne [DecidableEq α] (d : Nat → α) (m : NMap α) (k o : Nat) (v : α) (h : o ≠ k) :
    NMap.get d (NMap.set d m k v) o = NMap.get d m o := by
  unfold NMap.set
  split
  · exact NMap.get_del_ne d m k o h
  · exact NMap.get_ins_ne d m k o v h

theorem NMap.get_set [DecidableEq α] (d : Nat → α) (m : NMap α) (k o : Nat) (v : α) :
    NMap.get d (NMap.set d m k v) o = if o = k then v else NMap.get d m o := by
  split
  · rename_i e; subst e; simp
  · rename_i h; exact NMap.get_set_ne d m k o v h

/-! ## The canonical form -/

/-- Every key of the map is at least `k`. -/
def NMap.above (k : Nat) (m : NMap α) : Prop := ∀ p ∈ m, k < p.1

theorem NMap.rising_cons {p : Nat × α} {t : NMap α} :
    NMap.rising (p :: t) = true ↔ NMap.above p.1 t ∧ NMap.rising t = true := by
  induction t generalizing p with
  | nil => simp [NMap.rising, NMap.above]
  | cons q t ih =>
    obtain ⟨j, a⟩ := p
    obtain ⟨k, b⟩ := q
    simp only [NMap.rising, Bool.and_eq_true, decide_eq_true_eq, NMap.above, List.mem_cons, forall_eq_or_imp]
    constructor
    · rintro ⟨h, hr⟩
      refine ⟨⟨h, fun x hx => ?_⟩, hr⟩
      exact Nat.lt_trans h ((ih.mp hr).1 x hx)
    · rintro ⟨⟨h, -⟩, hr⟩
      exact ⟨h, hr⟩

theorem NMap.mem_ins {m : NMap α} {k : Nat} {v : α} {p : Nat × α} (h : p ∈ NMap.ins m k v) : p = (k, v) ∨ p ∈ m := by
  induction m with
  | nil => simpa [NMap.ins] using h
  | cons q t ih =>
    obtain ⟨j, a⟩ := q
    simp only [NMap.ins] at h
    split at h
    · simpa using h
    · split at h
      · simp only [List.mem_cons] at h ⊢
        exact h.imp_right .inr
      · simp only [List.mem_cons] at h ⊢
        rcases h with h | h
        · exact .inr (.inl h)
        · exact (ih h).imp_right .inr

theorem NMap.mem_del {m : NMap α} {k : Nat} {p : Nat × α} (h : p ∈ NMap.del m k) : p ∈ m := by
  induction m with
  | nil => simp [NMap.del] at h
  | cons q t ih =>
    obtain ⟨j, a⟩ := q
    simp only [NMap.del] at h
    split at h
    · exact List.mem_cons_of_mem _ (ih h)
    · simp only [List.mem_cons] at h ⊢
      rcases h with h | h
      · exact .inl h
      · exact .inr (ih h)

theorem NMap.rising_ins {m : NMap α} {k : Nat} {v : α} (h : NMap.rising m = true) : NMap.rising (NMap.ins m k v) = true := by
  induction m with
  | nil => rfl
  | cons q t ih =>
    obtain ⟨j, a⟩ := q
    have ⟨ha, ht⟩ := NMap.rising_cons.mp h
    simp only [NMap.ins]
    split
    · rename_i hk
      refine NMap.rising_cons.mpr ⟨fun p hp => ?_, h⟩
      simp only [List.mem_cons] at hp
      rcases hp with rfl | hp
      · exact hk
      · exact Nat.lt_trans hk (ha p hp)
    · split
      · rename_i e; subst e; exact NMap.rising_cons.mpr ⟨ha, ht⟩
      · rename_i h1 h2
        refine NMap.rising_cons.mpr ⟨fun p hp => ?_, ih ht⟩
        rcases NMap.mem_ins hp with rfl | hp
        · simp only; omega
        · exact ha p hp

theorem NMap.rising_del {m : NMap α} {k : Nat} (h : NMap.rising m = true) : NMap.rising (NMap.del m k) = true := by
  induction m with
  | nil => rfl
  | cons q t ih =>
    obtain ⟨j, a⟩ := q
    have ⟨ha, ht⟩ := NMap.rising_cons.mp h
    simp only [NMap.del]
    split
    · exact ih ht
    · exact NMap.rising_cons.mpr ⟨fun p hp => ha p (NMap.mem_del hp), ih ht⟩

theorem NMap.wf_iff [DecidableEq α] {d : Nat → α} {m : NMap α} :
    NMap.wf d m = true ↔ NMap.rising m = true ∧ ∀ p ∈ m, p.2 ≠ d p.1 := by
  simp [NMap.wf]

/-- A write keeps the canonical form. -/
theorem NMap.wf_set [DecidableEq α] {d : Nat → α} {m : NMap α} {k : Nat} {v : α} (h : NMap.wf d m = true) :
    NMap.wf d (NMap.set d m k v) = true := by
  have ⟨hr, hd⟩ := NMap.wf_iff.mp h
  unfold NMap.set
  split
  · exact NMap.wf_iff.mpr ⟨NMap.rising_del hr, fun p hp => hd p (NMap.mem_del hp)⟩
  · rename_i hv
    refine NMap.wf_iff.mpr ⟨NMap.rising_ins hr, fun p hp => ?_⟩
    rcases NMap.mem_ins hp with rfl | hp
    · exact hv
    · exact hd p hp

theorem NMap.wf_filter [DecidableEq α] {d : Nat → α} {m : NMap α} (f : Nat × α → Bool) (h : NMap.wf d m = true) :
    NMap.wf d (m.filter f) = true := by
  have ⟨hr, hd⟩ := NMap.wf_iff.mp h
  refine NMap.wf_iff.mpr ⟨?_, fun p hp => hd p ((List.mem_filter.mp hp).1)⟩
  clear h hd
  induction m with
  | nil => rfl
  | cons q t ih =>
    have ⟨ha, ht⟩ := NMap.rising_cons.mp hr
    simp only [List.filter_cons]
    split
    · exact NMap.rising_cons.mpr ⟨fun p hp => ha p ((List.mem_filter.mp hp).1), ih ht⟩
    · exact ih ht

/-! ## The capture region -/

theorem Memory.read_write (m : Memory) (a x : Nat) (b : Byte) :
    Memory.read (Memory.write m a b) x = if x = a then b else Memory.read m x :=
  NMap.get_set _ m a x b

theorem Memory.wf_write {m : Memory} {a : Nat} {b : Byte} (h : Memory.wf m = true) :
    Memory.wf (Memory.write m a b) = true := NMap.wf_set h

theorem Memory.wf_writeBytes {m : Memory} {a : Nat} {l : List Byte} (h : Memory.wf m = true) :
    Memory.wf (Memory.writeBytes m a l) = true := by
  induction l generalizing m a with
  | nil => exact h
  | cons b t ih => exact ih (Memory.wf_write h)

theorem Memory.wf_clear {m : Memory} {a n : Nat} (h : Memory.wf m = true) : Memory.wf (Memory.clear m a n) = true :=
  NMap.wf_filter _ h

/-- A byte string written leaves every byte outside it as it was. -/
theorem Memory.read_writeBytes_of_outside (m : Memory) (a x : Nat) (l : List Byte) (h : x < a ∨ a + l.length ≤ x) :
    Memory.read (Memory.writeBytes m a l) x = Memory.read m x := by
  induction l generalizing m a with
  | nil => rfl
  | cons b t ih =>
    simp only [List.length_cons] at h
    simp only [Memory.writeBytes]
    rw [ih _ _ (by omega), Memory.read_write, if_neg (by omega)]

/-- A cleared range reads as an unlisted byte, and every other byte as before. -/
theorem Memory.read_clear (m : Memory) (a n x : Nat) :
    Memory.read (Memory.clear m a n) x = if x < a ∨ a + n ≤ x then Memory.read m x else Memory.unlisted x := by
  unfold Memory.read Memory.clear
  induction m with
  | nil => simp [NMap.get]
  | cons p t ih =>
    obtain ⟨j, b⟩ := p
    simp only [List.filter_cons]
    by_cases hj : j < a ∨ a + n ≤ j
    · simp only [hj, decide_true, if_true, NMap.get]
      by_cases e : j = x
      · subst e; simp [hj]
      · simp only [e, if_false]; exact ih
    · simp only [hj, decide_false, NMap.get]
      by_cases e : j = x
      · subst e; simp only [if_true, hj, if_false]; simpa [hj] using ih
      · simp only [e, if_false]; simpa using ih

/-! ## Bit fields -/

theorem bit_maskW (hi lo i : Nat) : bit (maskW hi lo) i = decide (i < 32 ∧ lo ≤ i ∧ i ≤ hi) := by
  simp only [bit, maskW, BitVec.getLsbD_ofNat, Nat.testBit_mul_two_pow, Nat.testBit_two_pow_sub_one]
  by_cases h1 : i < 32 <;> by_cases h2 : lo ≤ i <;> by_cases h3 : i ≤ hi <;> simp [h1, h2, h3] <;> omega

/-- Bit i after a field was written. -/
theorem bit_setBits (w : Word) (hi lo v i : Nat) :
    bit (setBits w hi lo v) i = if i < 32 ∧ lo ≤ i ∧ i ≤ hi then v.testBit (i - lo) else bit w i := by
  have hm := bit_maskW hi lo i
  simp only [bit] at hm ⊢
  simp only [setBits, BitVec.getLsbD_or, BitVec.getLsbD_and, BitVec.getLsbD_not, hm, BitVec.getLsbD_ofNat,
    Nat.testBit_mul_two_pow, Nat.testBit_mod_two_pow]
  by_cases h1 : i < 32
  · by_cases h2 : lo ≤ i <;> by_cases h3 : i ≤ hi <;> simp [h1, h2, h3] <;> omega
  · simp [h1, BitVec.getLsbD_of_ge w i (by omega)]

/-- A field that was just written reads as what was written. -/
theorem bits_setBits_same (w : Word) (hi lo v : Nat) (h : hi < 32) :
    bits (setBits w hi lo v) hi lo = v % 2 ^ (hi + 1 - lo) := by
  apply Nat.eq_of_testBit_eq
  intro i
  have := bit_setBits w hi lo v (lo + i)
  simp only [bit, BitVec.getLsbD] at this
  simp only [bits, bitsN, Nat.testBit_mod_two_pow, Nat.testBit_div_two_pow]
  rw [Nat.add_comm i lo, this]
  by_cases hh : i < hi + 1 - lo
  · have h1 : lo + i < 32 ∧ lo ≤ lo + i ∧ lo + i ≤ hi := by omega
    simp [hh, h1]
  · simp [hh]

/-- A field outside the one written reads as before. -/
theorem bits_setBits_apart (w : Word) (hi lo v hi' lo' : Nat) (h : hi' < lo ∨ hi < lo') :
    bits (setBits w hi lo v) hi' lo' = bits w hi' lo' := by
  apply Nat.eq_of_testBit_eq
  intro i
  have := bit_setBits w hi lo v (lo' + i)
  simp only [bit, BitVec.getLsbD] at this
  simp only [bits, bitsN, Nat.testBit_mod_two_pow, Nat.testBit_div_two_pow]
  rw [Nat.add_comm i lo', this]
  by_cases hh : i < hi' + 1 - lo'
  · have h1 : ¬ (lo' + i < 32 ∧ lo ≤ lo' + i ∧ lo' + i ≤ hi) := by omega
    simp [hh, h1]
  · simp [hh]

end Sys2Proof
end

