-- ==== Sys2Proof/Laws/State.lean ====
section
/-! SUPPORT. What each shared operation over the module leaves alone: one lemma per field and operation, so that no proof
unfolds a record update. -/

namespace Sys2Proof.Machine

@[simp] theorem wr_staged (m : Pnm) (o : Nat) (v : Word) : (wr m o v).staged = m.staged := rfl
@[simp] theorem wr_latched (m : Pnm) (o : Nat) (v : Word) : (wr m o v).latched = m.latched := rfl
@[simp] theorem wr_free (m : Pnm) (o : Nat) (v : Word) : (wr m o v).free = m.free := rfl
@[simp] theorem wr_tim (m : Pnm) (o : Nat) (v : Word) : (wr m o v).tim = m.tim := rfl
@[simp] theorem wr_glb (m : Pnm) (o : Nat) (v : Word) : (wr m o v).glb = m.glb := rfl
@[simp] theorem wr_ladder (m : Pnm) (o : Nat) (v : Word) : (wr m o v).ladder = m.ladder := rfl
@[simp] theorem wr_tel (m : Pnm) (o : Nat) (v : Word) : (wr m o v).tel = m.tel := rfl
@[simp] theorem wr_scans (m : Pnm) (o : Nat) (v : Word) : (wr m o v).scans = m.scans := rfl
@[simp] theorem wr_hif (m : Pnm) (o : Nat) (v : Word) : (wr m o v).hif = m.hif := rfl
@[simp] theorem wr_mac (m : Pnm) (o : Nat) (v : Word) : (wr m o v).mac = m.mac := rfl
@[simp] theorem wr_key (m : Pnm) (o : Nat) (v : Word) : (wr m o v).key = m.key := rfl
@[simp] theorem wr_svi (m : Pnm) (o : Nat) (v : Word) : (wr m o v).svi = m.svi := rfl
@[simp] theorem wr_fpe (m : Pnm) (o : Nat) (v : Word) : (wr m o v).fpe = m.fpe := rfl
@[simp] theorem wr_gte (m : Pnm) (o : Nat) (v : Word) : (wr m o v).gte = m.gte := rfl
@[simp] theorem wr_cye (m : Pnm) (o : Nat) (v : Word) : (wr m o v).cye = m.cye := rfl
@[simp] theorem wr_out (m : Pnm) (o : Nat) (v : Word) : (wr m o v).out = m.out := rfl
@[simp] theorem wr_sio (m : Pnm) (o : Nat) (v : Word) : (wr m o v).sio = m.sio := rfl
@[simp] theorem wr_cap (m : Pnm) (o : Nat) (v : Word) : (wr m o v).cap = m.cap := rfl
@[simp] theorem wr_par (m : Pnm) (o : Nat) (v : Word) : (wr m o v).par = m.par := rfl

@[simp] theorem wf_staged (m : Pnm) (o hi lo v : Nat) : (wf m o hi lo v).staged = m.staged := rfl
@[simp] theorem wf_latched (m : Pnm) (o hi lo v : Nat) : (wf m o hi lo v).latched = m.latched := rfl
@[simp] theorem wf_free (m : Pnm) (o hi lo v : Nat) : (wf m o hi lo v).free = m.free := rfl
@[simp] theorem wf_tim (m : Pnm) (o hi lo v : Nat) : (wf m o hi lo v).tim = m.tim := rfl
@[simp] theorem wf_glb (m : Pnm) (o hi lo v : Nat) : (wf m o hi lo v).glb = m.glb := rfl
@[simp] theorem wf_ladder (m : Pnm) (o hi lo v : Nat) : (wf m o hi lo v).ladder = m.ladder := rfl
@[simp] theorem wf_tel (m : Pnm) (o hi lo v : Nat) : (wf m o hi lo v).tel = m.tel := rfl
@[simp] theorem wf_scans (m : Pnm) (o hi lo v : Nat) : (wf m o hi lo v).scans = m.scans := rfl
@[simp] theorem wf_hif (m : Pnm) (o hi lo v : Nat) : (wf m o hi lo v).hif = m.hif := rfl
@[simp] theorem wf_mac (m : Pnm) (o hi lo v : Nat) : (wf m o hi lo v).mac = m.mac := rfl
@[simp] theorem wf_key (m : Pnm) (o hi lo v : Nat) : (wf m o hi lo v).key = m.key := rfl
@[simp] theorem wf_svi (m : Pnm) (o hi lo v : Nat) : (wf m o hi lo v).svi = m.svi := rfl
@[simp] theorem wf_fpe (m : Pnm) (o hi lo v : Nat) : (wf m o hi lo v).fpe = m.fpe := rfl
@[simp] theorem wf_gte (m : Pnm) (o hi lo v : Nat) : (wf m o hi lo v).gte = m.gte := rfl
@[simp] theorem wf_cye (m : Pnm) (o hi lo v : Nat) : (wf m o hi lo v).cye = m.cye := rfl
@[simp] theorem wf_out (m : Pnm) (o hi lo v : Nat) : (wf m o hi lo v).out = m.out := rfl
@[simp] theorem wf_sio (m : Pnm) (o hi lo v : Nat) : (wf m o hi lo v).sio = m.sio := rfl
@[simp] theorem wf_cap (m : Pnm) (o hi lo v : Nat) : (wf m o hi lo v).cap = m.cap := rfl
@[simp] theorem wf_par (m : Pnm) (o hi lo v : Nat) : (wf m o hi lo v).par = m.par := rfl

@[simp] theorem sb_staged (m : Pnm) (o i : Nat) : (sb m o i).staged = m.staged := rfl
@[simp] theorem sb_latched (m : Pnm) (o i : Nat) : (sb m o i).latched = m.latched := rfl
@[simp] theorem sb_free (m : Pnm) (o i : Nat) : (sb m o i).free = m.free := rfl
@[simp] theorem sb_tim (m : Pnm) (o i : Nat) : (sb m o i).tim = m.tim := rfl
@[simp] theorem sb_glb (m : Pnm) (o i : Nat) : (sb m o i).glb = m.glb := rfl
@[simp] theorem sb_ladder (m : Pnm) (o i : Nat) : (sb m o i).ladder = m.ladder := rfl
@[simp] theorem sb_tel (m : Pnm) (o i : Nat) : (sb m o i).tel = m.tel := rfl
@[simp] theorem sb_scans (m : Pnm) (o i : Nat) : (sb m o i).scans = m.scans := rfl
@[simp] theorem sb_hif (m : Pnm) (o i : Nat) : (sb m o i).hif = m.hif := rfl
@[simp] theorem sb_mac (m : Pnm) (o i : Nat) : (sb m o i).mac = m.mac := rfl
@[simp] theorem sb_key (m : Pnm) (o i : Nat) : (sb m o i).key = m.key := rfl
@[simp] theorem sb_svi (m : Pnm) (o i : Nat) : (sb m o i).svi = m.svi := rfl
@[simp] theorem sb_fpe (m : Pnm) (o i : Nat) : (sb m o i).fpe = m.fpe := rfl
@[simp] theorem sb_gte (m : Pnm) (o i : Nat) : (sb m o i).gte = m.gte := rfl
@[simp] theorem sb_cye (m : Pnm) (o i : Nat) : (sb m o i).cye = m.cye := rfl
@[simp] theorem sb_out (m : Pnm) (o i : Nat) : (sb m o i).out = m.out := rfl
@[simp] theorem sb_sio (m : Pnm) (o i : Nat) : (sb m o i).sio = m.sio := rfl
@[simp] theorem sb_cap (m : Pnm) (o i : Nat) : (sb m o i).cap = m.cap := rfl
@[simp] theorem sb_par (m : Pnm) (o i : Nat) : (sb m o i).par = m.par := rfl

@[simp] theorem cb_staged (m : Pnm) (o i : Nat) : (cb m o i).staged = m.staged := rfl
@[simp] theorem cb_latched (m : Pnm) (o i : Nat) : (cb m o i).latched = m.latched := rfl
@[simp] theorem cb_free (m : Pnm) (o i : Nat) : (cb m o i).free = m.free := rfl
@[simp] theorem cb_tim (m : Pnm) (o i : Nat) : (cb m o i).tim = m.tim := rfl
@[simp] theorem cb_glb (m : Pnm) (o i : Nat) : (cb m o i).glb = m.glb := rfl
@[simp] theorem cb_ladder (m : Pnm) (o i : Nat) : (cb m o i).ladder = m.ladder := rfl
@[simp] theorem cb_tel (m : Pnm) (o i : Nat) : (cb m o i).tel = m.tel := rfl
@[simp] theorem cb_scans (m : Pnm) (o i : Nat) : (cb m o i).scans = m.scans := rfl
@[simp] theorem cb_hif (m : Pnm) (o i : Nat) : (cb m o i).hif = m.hif := rfl
@[simp] theorem cb_mac (m : Pnm) (o i : Nat) : (cb m o i).mac = m.mac := rfl
@[simp] theorem cb_key (m : Pnm) (o i : Nat) : (cb m o i).key = m.key := rfl
@[simp] theorem cb_svi (m : Pnm) (o i : Nat) : (cb m o i).svi = m.svi := rfl
@[simp] theorem cb_fpe (m : Pnm) (o i : Nat) : (cb m o i).fpe = m.fpe := rfl
@[simp] theorem cb_gte (m : Pnm) (o i : Nat) : (cb m o i).gte = m.gte := rfl
@[simp] theorem cb_cye (m : Pnm) (o i : Nat) : (cb m o i).cye = m.cye := rfl
@[simp] theorem cb_out (m : Pnm) (o i : Nat) : (cb m o i).out = m.out := rfl
@[simp] theorem cb_sio (m : Pnm) (o i : Nat) : (cb m o i).sio = m.sio := rfl
@[simp] theorem cb_cap (m : Pnm) (o i : Nat) : (cb m o i).cap = m.cap := rfl
@[simp] theorem cb_par (m : Pnm) (o i : Nat) : (cb m o i).par = m.par := rfl

@[simp] theorem inc_staged (m : Pnm) (o n : Nat) : (inc m o n).staged = m.staged := rfl
@[simp] theorem inc_latched (m : Pnm) (o n : Nat) : (inc m o n).latched = m.latched := rfl
@[simp] theorem inc_free (m : Pnm) (o n : Nat) : (inc m o n).free = m.free := rfl
@[simp] theorem inc_tim (m : Pnm) (o n : Nat) : (inc m o n).tim = m.tim := rfl
@[simp] theorem inc_glb (m : Pnm) (o n : Nat) : (inc m o n).glb = m.glb := rfl
@[simp] theorem inc_ladder (m : Pnm) (o n : Nat) : (inc m o n).ladder = m.ladder := rfl
@[simp] theorem inc_tel (m : Pnm) (o n : Nat) : (inc m o n).tel = m.tel := rfl
@[simp] theorem inc_scans (m : Pnm) (o n : Nat) : (inc m o n).scans = m.scans := rfl
@[simp] theorem inc_hif (m : Pnm) (o n : Nat) : (inc m o n).hif = m.hif := rfl
@[simp] theorem inc_mac (m : Pnm) (o n : Nat) : (inc m o n).mac = m.mac := rfl
@[simp] theorem inc_key (m : Pnm) (o n : Nat) : (inc m o n).key = m.key := rfl
@[simp] theorem inc_svi (m : Pnm) (o n : Nat) : (inc m o n).svi = m.svi := rfl
@[simp] theorem inc_fpe (m : Pnm) (o n : Nat) : (inc m o n).fpe = m.fpe := rfl
@[simp] theorem inc_gte (m : Pnm) (o n : Nat) : (inc m o n).gte = m.gte := rfl
@[simp] theorem inc_cye (m : Pnm) (o n : Nat) : (inc m o n).cye = m.cye := rfl
@[simp] theorem inc_out (m : Pnm) (o n : Nat) : (inc m o n).out = m.out := rfl
@[simp] theorem inc_sio (m : Pnm) (o n : Nat) : (inc m o n).sio = m.sio := rfl
@[simp] theorem inc_cap (m : Pnm) (o n : Nat) : (inc m o n).cap = m.cap := rfl
@[simp] theorem inc_par (m : Pnm) (o n : Nat) : (inc m o n).par = m.par := rfl

@[simp] theorem cfgErr_staged (m : Pnm) (o n : Nat) : (cfgErr m o n).staged = m.staged := rfl
@[simp] theorem cfgErr_latched (m : Pnm) (o n : Nat) : (cfgErr m o n).latched = m.latched := rfl
@[simp] theorem cfgErr_free (m : Pnm) (o n : Nat) : (cfgErr m o n).free = m.free := rfl
@[simp] theorem cfgErr_tim (m : Pnm) (o n : Nat) : (cfgErr m o n).tim = m.tim := rfl
@[simp] theorem cfgErr_glb (m : Pnm) (o n : Nat) : (cfgErr m o n).glb = m.glb := rfl
@[simp] theorem cfgErr_ladder (m : Pnm) (o n : Nat) : (cfgErr m o n).ladder = m.ladder := rfl
@[simp] theorem cfgErr_tel (m : Pnm) (o n : Nat) : (cfgErr m o n).tel = m.tel := rfl
@[simp] theorem cfgErr_scans (m : Pnm) (o n : Nat) : (cfgErr m o n).scans = m.scans := rfl
@[simp] theorem cfgErr_hif (m : Pnm) (o n : Nat) : (cfgErr m o n).hif = m.hif := rfl
@[simp] theorem cfgErr_mac (m : Pnm) (o n : Nat) : (cfgErr m o n).mac = m.mac := rfl
@[simp] theorem cfgErr_key (m : Pnm) (o n : Nat) : (cfgErr m o n).key = m.key := rfl
@[simp] theorem cfgErr_svi (m : Pnm) (o n : Nat) : (cfgErr m o n).svi = m.svi := rfl
@[simp] theorem cfgErr_fpe (m : Pnm) (o n : Nat) : (cfgErr m o n).fpe = m.fpe := rfl
@[simp] theorem cfgErr_gte (m : Pnm) (o n : Nat) : (cfgErr m o n).gte = m.gte := rfl
@[simp] theorem cfgErr_cye (m : Pnm) (o n : Nat) : (cfgErr m o n).cye = m.cye := rfl
@[simp] theorem cfgErr_out (m : Pnm) (o n : Nat) : (cfgErr m o n).out = m.out := rfl
@[simp] theorem cfgErr_sio (m : Pnm) (o n : Nat) : (cfgErr m o n).sio = m.sio := rfl
@[simp] theorem cfgErr_cap (m : Pnm) (o n : Nat) : (cfgErr m o n).cap = m.cap := rfl
@[simp] theorem cfgErr_par (m : Pnm) (o n : Nat) : (cfgErr m o n).par = m.par := rfl

@[simp] theorem drawFree_regs (m : Pnm) : (drawFree m).regs = m.regs := rfl
@[simp] theorem drawFree_staged (m : Pnm) : (drawFree m).staged = m.staged := rfl
@[simp] theorem drawFree_latched (m : Pnm) : (drawFree m).latched = m.latched := rfl
@[simp] theorem drawFree_tim (m : Pnm) : (drawFree m).tim = m.tim := rfl
@[simp] theorem drawFree_glb (m : Pnm) : (drawFree m).glb = m.glb := rfl
@[simp] theorem drawFree_ladder (m : Pnm) : (drawFree m).ladder = m.ladder := rfl
@[simp] theorem drawFree_tel (m : Pnm) : (drawFree m).tel = m.tel := rfl
@[simp] theorem drawFree_scans (m : Pnm) : (drawFree m).scans = m.scans := rfl
@[simp] theorem drawFree_hif (m : Pnm) : (drawFree m).hif = m.hif := rfl
@[simp] theorem drawFree_mac (m : Pnm) : (drawFree m).mac = m.mac := rfl
@[simp] theorem drawFree_key (m : Pnm) : (drawFree m).key = m.key := rfl
@[simp] theorem drawFree_svi (m : Pnm) : (drawFree m).svi = m.svi := rfl
@[simp] theorem drawFree_fpe (m : Pnm) : (drawFree m).fpe = m.fpe := rfl
@[simp] theorem drawFree_gte (m : Pnm) : (drawFree m).gte = m.gte := rfl
@[simp] theorem drawFree_cye (m : Pnm) : (drawFree m).cye = m.cye := rfl
@[simp] theorem drawFree_out (m : Pnm) : (drawFree m).out = m.out := rfl
@[simp] theorem drawFree_sio (m : Pnm) : (drawFree m).sio = m.sio := rfl
@[simp] theorem drawFree_cap (m : Pnm) : (drawFree m).cap = m.cap := rfl
@[simp] theorem drawFree_par (m : Pnm) : (drawFree m).par = m.par := rfl

@[simp] theorem stage_regs (m : Pnm) (o : Nat) (v : Word) : (stage m o v).regs = m.regs := rfl
@[simp] theorem stage_latched (m : Pnm) (o : Nat) (v : Word) : (stage m o v).latched = m.latched := rfl
@[simp] theorem stage_free (m : Pnm) (o : Nat) (v : Word) : (stage m o v).free = m.free := rfl
@[simp] theorem stage_tim (m : Pnm) (o : Nat) (v : Word) : (stage m o v).tim = m.tim := rfl
@[simp] theorem stage_glb (m : Pnm) (o : Nat) (v : Word) : (stage m o v).glb = m.glb := rfl
@[simp] theorem stage_ladder (m : Pnm) (o : Nat) (v : Word) : (stage m o v).ladder = m.ladder := rfl
@[simp] theorem stage_tel (m : Pnm) (o : Nat) (v : Word) : (stage m o v).tel = m.tel := rfl
@[simp] theorem stage_scans (m : Pnm) (o : Nat) (v : Word) : (stage m o v).scans = m.scans := rfl
@[simp] theorem stage_hif (m : Pnm) (o : Nat) (v : Word) : (stage m o v).hif = m.hif := rfl
@[simp] theorem stage_mac (m : Pnm) (o : Nat) (v : Word) : (stage m o v).mac = m.mac := rfl
@[simp] theorem stage_key (m : Pnm) (o : Nat) (v : Word) : (stage m o v).key = m.key := rfl
@[simp] theorem stage_svi (m : Pnm) (o : Nat) (v : Word) : (stage m o v).svi = m.svi := rfl
@[simp] theorem stage_fpe (m : Pnm) (o : Nat) (v : Word) : (stage m o v).fpe = m.fpe := rfl
@[simp] theorem stage_gte (m : Pnm) (o : Nat) (v : Word) : (stage m o v).gte = m.gte := rfl
@[simp] theorem stage_cye (m : Pnm) (o : Nat) (v : Word) : (stage m o v).cye = m.cye := rfl
@[simp] theorem stage_out (m : Pnm) (o : Nat) (v : Word) : (stage m o v).out = m.out := rfl
@[simp] theorem stage_sio (m : Pnm) (o : Nat) (v : Word) : (stage m o v).sio = m.sio := rfl
@[simp] theorem stage_cap (m : Pnm) (o : Nat) (v : Word) : (stage m o v).cap = m.cap := rfl
@[simp] theorem stage_par (m : Pnm) (o : Nat) (v : Word) : (stage m o v).par = m.par := rfl

@[simp] theorem emit_regs (m : Pnm) (es : List Emit) : (emit m es).regs = m.regs := rfl
@[simp] theorem emit_staged (m : Pnm) (es : List Emit) : (emit m es).staged = m.staged := rfl
@[simp] theorem emit_latched (m : Pnm) (es : List Emit) : (emit m es).latched = m.latched := rfl
@[simp] theorem emit_free (m : Pnm) (es : List Emit) : (emit m es).free = m.free := rfl
@[simp] theorem emit_tim (m : Pnm) (es : List Emit) : (emit m es).tim = m.tim := rfl
@[simp] theorem emit_glb (m : Pnm) (es : List Emit) : (emit m es).glb = m.glb := rfl
@[simp] theorem emit_ladder (m : Pnm) (es : List Emit) : (emit m es).ladder = m.ladder := rfl
@[simp] theorem emit_scans (m : Pnm) (es : List Emit) : (emit m es).scans = m.scans := rfl
@[simp] theorem emit_hif (m : Pnm) (es : List Emit) : (emit m es).hif = m.hif := rfl
@[simp] theorem emit_mac (m : Pnm) (es : List Emit) : (emit m es).mac = m.mac := rfl
@[simp] theorem emit_key (m : Pnm) (es : List Emit) : (emit m es).key = m.key := rfl
@[simp] theorem emit_svi (m : Pnm) (es : List Emit) : (emit m es).svi = m.svi := rfl
@[simp] theorem emit_fpe (m : Pnm) (es : List Emit) : (emit m es).fpe = m.fpe := rfl
@[simp] theorem emit_gte (m : Pnm) (es : List Emit) : (emit m es).gte = m.gte := rfl
@[simp] theorem emit_cye (m : Pnm) (es : List Emit) : (emit m es).cye = m.cye := rfl
@[simp] theorem emit_out (m : Pnm) (es : List Emit) : (emit m es).out = m.out := rfl
@[simp] theorem emit_sio (m : Pnm) (es : List Emit) : (emit m es).sio = m.sio := rfl
@[simp] theorem emit_cap (m : Pnm) (es : List Emit) : (emit m es).cap = m.cap := rfl
@[simp] theorem emit_par (m : Pnm) (es : List Emit) : (emit m es).par = m.par := rfl

@[simp] theorem addReplica_regs (f : Nat) (c : Cpl) (m : Pnm) : (addReplica f c m).regs = m.regs := rfl
@[simp] theorem addReplica_staged (f : Nat) (c : Cpl) (m : Pnm) : (addReplica f c m).staged = m.staged := rfl
@[simp] theorem addReplica_latched (f : Nat) (c : Cpl) (m : Pnm) : (addReplica f c m).latched = m.latched := rfl
@[simp] theorem addReplica_free (f : Nat) (c : Cpl) (m : Pnm) : (addReplica f c m).free = m.free := rfl
@[simp] theorem addReplica_tim (f : Nat) (c : Cpl) (m : Pnm) : (addReplica f c m).tim = m.tim := rfl
@[simp] theorem addReplica_glb (f : Nat) (c : Cpl) (m : Pnm) : (addReplica f c m).glb = m.glb := rfl
@[simp] theorem addReplica_ladder (f : Nat) (c : Cpl) (m : Pnm) : (addReplica f c m).ladder = m.ladder := rfl
@[simp] theorem addReplica_tel (f : Nat) (c : Cpl) (m : Pnm) : (addReplica f c m).tel = m.tel := rfl
@[simp] theorem addReplica_scans (f : Nat) (c : Cpl) (m : Pnm) : (addReplica f c m).scans = m.scans := rfl
@[simp] theorem addReplica_hif (f : Nat) (c : Cpl) (m : Pnm) : (addReplica f c m).hif = m.hif := rfl
@[simp] theorem addReplica_mac (f : Nat) (c : Cpl) (m : Pnm) : (addReplica f c m).mac = m.mac := rfl
@[simp] theorem addReplica_key (f : Nat) (c : Cpl) (m : Pnm) : (addReplica f c m).key = m.key := rfl
@[simp] theorem addReplica_svi (f : Nat) (c : Cpl) (m : Pnm) : (addReplica f c m).svi = m.svi := rfl
@[simp] theorem addReplica_fpe (f : Nat) (c : Cpl) (m : Pnm) : (addReplica f c m).fpe = m.fpe := rfl
@[simp] theorem addReplica_gte (f : Nat) (c : Cpl) (m : Pnm) : (addReplica f c m).gte = m.gte := rfl
@[simp] theorem addReplica_cye (f : Nat) (c : Cpl) (m : Pnm) : (addReplica f c m).cye = m.cye := rfl
@[simp] theorem addReplica_out (f : Nat) (c : Cpl) (m : Pnm) : (addReplica f c m).out = m.out := rfl
@[simp] theorem addReplica_sio (f : Nat) (c : Cpl) (m : Pnm) : (addReplica f c m).sio = m.sio := rfl
@[simp] theorem addReplica_cap (f : Nat) (c : Cpl) (m : Pnm) : (addReplica f c m).cap = m.cap := rfl

@[simp] theorem raiseIf_regs (c : Bool) (ev : Ev) (m : Pnm) : (raiseIf c ev m).regs = m.regs := rfl
@[simp] theorem raiseIf_staged (c : Bool) (ev : Ev) (m : Pnm) : (raiseIf c ev m).staged = m.staged := rfl
@[simp] theorem raiseIf_latched (c : Bool) (ev : Ev) (m : Pnm) : (raiseIf c ev m).latched = m.latched := rfl
@[simp] theorem raiseIf_free (c : Bool) (ev : Ev) (m : Pnm) : (raiseIf c ev m).free = m.free := rfl
@[simp] theorem raiseIf_tim (c : Bool) (ev : Ev) (m : Pnm) : (raiseIf c ev m).tim = m.tim := rfl
@[simp] theorem raiseIf_glb (c : Bool) (ev : Ev) (m : Pnm) : (raiseIf c ev m).glb = m.glb := rfl
@[simp] theorem raiseIf_ladder (c : Bool) (ev : Ev) (m : Pnm) : (raiseIf c ev m).ladder = m.ladder := rfl
@[simp] theorem raiseIf_scans (c : Bool) (ev : Ev) (m : Pnm) : (raiseIf c ev m).scans = m.scans := rfl
@[simp] theorem raiseIf_hif (c : Bool) (ev : Ev) (m : Pnm) : (raiseIf c ev m).hif = m.hif := rfl
@[simp] theorem raiseIf_mac (c : Bool) (ev : Ev) (m : Pnm) : (raiseIf c ev m).mac = m.mac := rfl
@[simp] theorem raiseIf_key (c : Bool) (ev : Ev) (m : Pnm) : (raiseIf c ev m).key = m.key := rfl
@[simp] theorem raiseIf_svi (c : Bool) (ev : Ev) (m : Pnm) : (raiseIf c ev m).svi = m.svi := rfl
@[simp] theorem raiseIf_fpe (c : Bool) (ev : Ev) (m : Pnm) : (raiseIf c ev m).fpe = m.fpe := rfl
@[simp] theorem raiseIf_gte (c : Bool) (ev : Ev) (m : Pnm) : (raiseIf c ev m).gte = m.gte := rfl
@[simp] theorem raiseIf_cye (c : Bool) (ev : Ev) (m : Pnm) : (raiseIf c ev m).cye = m.cye := rfl
@[simp] theorem raiseIf_out (c : Bool) (ev : Ev) (m : Pnm) : (raiseIf c ev m).out = m.out := rfl
@[simp] theorem raiseIf_sio (c : Bool) (ev : Ev) (m : Pnm) : (raiseIf c ev m).sio = m.sio := rfl
@[simp] theorem raiseIf_cap (c : Bool) (ev : Ev) (m : Pnm) : (raiseIf c ev m).cap = m.cap := rfl
@[simp] theorem raiseIf_par (c : Bool) (ev : Ev) (m : Pnm) : (raiseIf c ev m).par = m.par := rfl

@[simp] theorem raise_regs (ev : Ev) (m : Pnm) : (raise ev m).regs = m.regs := rfl
@[simp] theorem raise_staged (ev : Ev) (m : Pnm) : (raise ev m).staged = m.staged := rfl
@[simp] theorem raise_latched (ev : Ev) (m : Pnm) : (raise ev m).latched = m.latched := rfl
@[simp] theorem raise_free (ev : Ev) (m : Pnm) : (raise ev m).free = m.free := rfl
@[simp] theorem raise_tim (ev : Ev) (m : Pnm) : (raise ev m).tim = m.tim := rfl
@[simp] theorem raise_glb (ev : Ev) (m : Pnm) : (raise ev m).glb = m.glb := rfl
@[simp] theorem raise_ladder (ev : Ev) (m : Pnm) : (raise ev m).ladder = m.ladder := rfl
@[simp] theorem raise_scans (ev : Ev) (m : Pnm) : (raise ev m).scans = m.scans := rfl
@[simp] theorem raise_hif (ev : Ev) (m : Pnm) : (raise ev m).hif = m.hif := rfl
@[simp] theorem raise_mac (ev : Ev) (m : Pnm) : (raise ev m).mac = m.mac := rfl
@[simp] theorem raise_key (ev : Ev) (m : Pnm) : (raise ev m).key = m.key := rfl
@[simp] theorem raise_svi (ev : Ev) (m : Pnm) : (raise ev m).svi = m.svi := rfl
@[simp] theorem raise_fpe (ev : Ev) (m : Pnm) : (raise ev m).fpe = m.fpe := rfl
@[simp] theorem raise_gte (ev : Ev) (m : Pnm) : (raise ev m).gte = m.gte := rfl
@[simp] theorem raise_cye (ev : Ev) (m : Pnm) : (raise ev m).cye = m.cye := rfl
@[simp] theorem raise_out (ev : Ev) (m : Pnm) : (raise ev m).out = m.out := rfl
@[simp] theorem raise_sio (ev : Ev) (m : Pnm) : (raise ev m).sio = m.sio := rfl
@[simp] theorem raise_cap (ev : Ev) (m : Pnm) : (raise ev m).cap = m.cap := rfl
@[simp] theorem raise_par (ev : Ev) (m : Pnm) : (raise ev m).par = m.par := rfl

@[simp] theorem snapIf_regs (c : Bool) (src : Nat) (m : Pnm) : (snapIf c src m).regs = m.regs := rfl
@[simp] theorem snapIf_staged (c : Bool) (src : Nat) (m : Pnm) : (snapIf c src m).staged = m.staged := rfl
@[simp] theorem snapIf_latched (c : Bool) (src : Nat) (m : Pnm) : (snapIf c src m).latched = m.latched := rfl
@[simp] theorem snapIf_free (c : Bool) (src : Nat) (m : Pnm) : (snapIf c src m).free = m.free := rfl
@[simp] theorem snapIf_tim (c : Bool) (src : Nat) (m : Pnm) : (snapIf c src m).tim = m.tim := rfl
@[simp] theorem snapIf_glb (c : Bool) (src : Nat) (m : Pnm) : (snapIf c src m).glb = m.glb := rfl
@[simp] theorem snapIf_ladder (c : Bool) (src : Nat) (m : Pnm) : (snapIf c src m).ladder = m.ladder := rfl
@[simp] theorem snapIf_scans (c : Bool) (src : Nat) (m : Pnm) : (snapIf c src m).scans = m.scans := rfl
@[simp] theorem snapIf_hif (c : Bool) (src : Nat) (m : Pnm) : (snapIf c src m).hif = m.hif := rfl
@[simp] theorem snapIf_mac (c : Bool) (src : Nat) (m : Pnm) : (snapIf c src m).mac = m.mac := rfl
@[simp] theorem snapIf_key (c : Bool) (src : Nat) (m : Pnm) : (snapIf c src m).key = m.key := rfl
@[simp] theorem snapIf_svi (c : Bool) (src : Nat) (m : Pnm) : (snapIf c src m).svi = m.svi := rfl
@[simp] theorem snapIf_fpe (c : Bool) (src : Nat) (m : Pnm) : (snapIf c src m).fpe = m.fpe := rfl
@[simp] theorem snapIf_gte (c : Bool) (src : Nat) (m : Pnm) : (snapIf c src m).gte = m.gte := rfl
@[simp] theorem snapIf_cye (c : Bool) (src : Nat) (m : Pnm) : (snapIf c src m).cye = m.cye := rfl
@[simp] theorem snapIf_out (c : Bool) (src : Nat) (m : Pnm) : (snapIf c src m).out = m.out := rfl
@[simp] theorem snapIf_sio (c : Bool) (src : Nat) (m : Pnm) : (snapIf c src m).sio = m.sio := rfl
@[simp] theorem snapIf_cap (c : Bool) (src : Nat) (m : Pnm) : (snapIf c src m).cap = m.cap := rfl
@[simp] theorem snapIf_par (c : Bool) (src : Nat) (m : Pnm) : (snapIf c src m).par = m.par := rfl

@[simp] theorem journal_regs (cls code source : Nat) (p : List Byte) (m : Pnm) : (journal cls code source p m).regs = m.regs := rfl
@[simp] theorem journal_staged (cls code source : Nat) (p : List Byte) (m : Pnm) : (journal cls code source p m).staged = m.staged := rfl
@[simp] theorem journal_latched (cls code source : Nat) (p : List Byte) (m : Pnm) : (journal cls code source p m).latched = m.latched := rfl
@[simp] theorem journal_free (cls code source : Nat) (p : List Byte) (m : Pnm) : (journal cls code source p m).free = m.free := rfl
@[simp] theorem journal_tim (cls code source : Nat) (p : List Byte) (m : Pnm) : (journal cls code source p m).tim = m.tim := rfl
@[simp] theorem journal_glb (cls code source : Nat) (p : List Byte) (m : Pnm) : (journal cls code source p m).glb = m.glb := rfl
@[simp] theorem journal_ladder (cls code source : Nat) (p : List Byte) (m : Pnm) : (journal cls code source p m).ladder = m.ladder := rfl
@[simp] theorem journal_scans (cls code source : Nat) (p : List Byte) (m : Pnm) : (journal cls code source p m).scans = m.scans := rfl
@[simp] theorem journal_hif (cls code source : Nat) (p : List Byte) (m : Pnm) : (journal cls code source p m).hif = m.hif := rfl
@[simp] theorem journal_mac (cls code source : Nat) (p : List Byte) (m : Pnm) : (journal cls code source p m).mac = m.mac := rfl
@[simp] theorem journal_key (cls code source : Nat) (p : List Byte) (m : Pnm) : (journal cls code source p m).key = m.key := rfl
@[simp] theorem journal_svi (cls code source : Nat) (p : List Byte) (m : Pnm) : (journal cls code source p m).svi = m.svi := rfl
@[simp] theorem journal_fpe (cls code source : Nat) (p : List Byte) (m : Pnm) : (journal cls code source p m).fpe = m.fpe := rfl
@[simp] theorem journal_gte (cls code source : Nat) (p : List Byte) (m : Pnm) : (journal cls code source p m).gte = m.gte := rfl
@[simp] theorem journal_cye (cls code source : Nat) (p : List Byte) (m : Pnm) : (journal cls code source p m).cye = m.cye := rfl
@[simp] theorem journal_out (cls code source : Nat) (p : List Byte) (m : Pnm) : (journal cls code source p m).out = m.out := rfl
@[simp] theorem journal_sio (cls code source : Nat) (p : List Byte) (m : Pnm) : (journal cls code source p m).sio = m.sio := rfl
@[simp] theorem journal_cap (cls code source : Nat) (p : List Byte) (m : Pnm) : (journal cls code source p m).cap = m.cap := rfl
@[simp] theorem journal_par (cls code source : Nat) (p : List Byte) (m : Pnm) : (journal cls code source p m).par = m.par := rfl

@[simp] theorem nodeCause_regs (n r st : Nat) (m : Pnm) : (nodeCause n r st m).regs = m.regs := rfl
@[simp] theorem nodeCause_staged (n r st : Nat) (m : Pnm) : (nodeCause n r st m).staged = m.staged := rfl
@[simp] theorem nodeCause_latched (n r st : Nat) (m : Pnm) : (nodeCause n r st m).latched = m.latched := rfl
@[simp] theorem nodeCause_free (n r st : Nat) (m : Pnm) : (nodeCause n r st m).free = m.free := rfl
@[simp] theorem nodeCause_tim (n r st : Nat) (m : Pnm) : (nodeCause n r st m).tim = m.tim := rfl
@[simp] theorem nodeCause_glb (n r st : Nat) (m : Pnm) : (nodeCause n r st m).glb = m.glb := rfl
@[simp] theorem nodeCause_ladder (n r st : Nat) (m : Pnm) : (nodeCause n r st m).ladder = m.ladder := rfl
@[simp] theorem nodeCause_scans (n r st : Nat) (m : Pnm) : (nodeCause n r st m).scans = m.scans := rfl
@[simp] theorem nodeCause_hif (n r st : Nat) (m : Pnm) : (nodeCause n r st m).hif = m.hif := rfl
@[simp] theorem nodeCause_mac (n r st : Nat) (m : Pnm) : (nodeCause n r st m).mac = m.mac := rfl
@[simp] theorem nodeCause_key (n r st : Nat) (m : Pnm) : (nodeCause n r st m).key = m.key := rfl
@[simp] theorem nodeCause_svi (n r st : Nat) (m : Pnm) : (nodeCause n r st m).svi = m.svi := rfl
@[simp] theorem nodeCause_fpe (n r st : Nat) (m : Pnm) : (nodeCause n r st m).fpe = m.fpe := rfl
@[simp] theorem nodeCause_gte (n r st : Nat) (m : Pnm) : (nodeCause n r st m).gte = m.gte := rfl
@[simp] theorem nodeCause_cye (n r st : Nat) (m : Pnm) : (nodeCause n r st m).cye = m.cye := rfl
@[simp] theorem nodeCause_out (n r st : Nat) (m : Pnm) : (nodeCause n r st m).out = m.out := rfl
@[simp] theorem nodeCause_sio (n r st : Nat) (m : Pnm) : (nodeCause n r st m).sio = m.sio := rfl
@[simp] theorem nodeCause_cap (n r st : Nat) (m : Pnm) : (nodeCause n r st m).cap = m.cap := rfl
@[simp] theorem nodeCause_par (n r st : Nat) (m : Pnm) : (nodeCause n r st m).par = m.par := rfl

@[simp] theorem nodeUse_regs (n : Nat) (u : Bool) (m : Pnm) : (nodeUse n u m).regs = m.regs := rfl
@[simp] theorem nodeUse_staged (n : Nat) (u : Bool) (m : Pnm) : (nodeUse n u m).staged = m.staged := rfl
@[simp] theorem nodeUse_latched (n : Nat) (u : Bool) (m : Pnm) : (nodeUse n u m).latched = m.latched := rfl
@[simp] theorem nodeUse_free (n : Nat) (u : Bool) (m : Pnm) : (nodeUse n u m).free = m.free := rfl
@[simp] theorem nodeUse_tim (n : Nat) (u : Bool) (m : Pnm) : (nodeUse n u m).tim = m.tim := rfl
@[simp] theorem nodeUse_glb (n : Nat) (u : Bool) (m : Pnm) : (nodeUse n u m).glb = m.glb := rfl
@[simp] theorem nodeUse_ladder (n : Nat) (u : Bool) (m : Pnm) : (nodeUse n u m).ladder = m.ladder := rfl
@[simp] theorem nodeUse_scans (n : Nat) (u : Bool) (m : Pnm) : (nodeUse n u m).scans = m.scans := rfl
@[simp] theorem nodeUse_hif (n : Nat) (u : Bool) (m : Pnm) : (nodeUse n u m).hif = m.hif := rfl
@[simp] theorem nodeUse_mac (n : Nat) (u : Bool) (m : Pnm) : (nodeUse n u m).mac = m.mac := rfl
@[simp] theorem nodeUse_key (n : Nat) (u : Bool) (m : Pnm) : (nodeUse n u m).key = m.key := rfl
@[simp] theorem nodeUse_svi (n : Nat) (u : Bool) (m : Pnm) : (nodeUse n u m).svi = m.svi := rfl
@[simp] theorem nodeUse_fpe (n : Nat) (u : Bool) (m : Pnm) : (nodeUse n u m).fpe = m.fpe := rfl
@[simp] theorem nodeUse_gte (n : Nat) (u : Bool) (m : Pnm) : (nodeUse n u m).gte = m.gte := rfl
@[simp] theorem nodeUse_cye (n : Nat) (u : Bool) (m : Pnm) : (nodeUse n u m).cye = m.cye := rfl
@[simp] theorem nodeUse_out (n : Nat) (u : Bool) (m : Pnm) : (nodeUse n u m).out = m.out := rfl
@[simp] theorem nodeUse_sio (n : Nat) (u : Bool) (m : Pnm) : (nodeUse n u m).sio = m.sio := rfl
@[simp] theorem nodeUse_cap (n : Nat) (u : Bool) (m : Pnm) : (nodeUse n u m).cap = m.cap := rfl
@[simp] theorem nodeUse_par (n : Nat) (u : Bool) (m : Pnm) : (nodeUse n u m).par = m.par := rfl

@[simp] theorem ladderEnter_regs (step cause : Nat) (m : Pnm) : (ladderEnter step cause m).regs = m.regs := rfl
@[simp] theorem ladderEnter_staged (step cause : Nat) (m : Pnm) : (ladderEnter step cause m).staged = m.staged := rfl
@[simp] theorem ladderEnter_latched (step cause : Nat) (m : Pnm) : (ladderEnter step cause m).latched = m.latched := rfl
@[simp] theorem ladderEnter_free (step cause : Nat) (m : Pnm) : (ladderEnter step cause m).free = m.free := rfl
@[simp] theorem ladderEnter_tim (step cause : Nat) (m : Pnm) : (ladderEnter step cause m).tim = m.tim := rfl
@[simp] theorem ladderEnter_glb (step cause : Nat) (m : Pnm) : (ladderEnter step cause m).glb = m.glb := rfl
@[simp] theorem ladderEnter_scans (step cause : Nat) (m : Pnm) : (ladderEnter step cause m).scans = m.scans := rfl
@[simp] theorem ladderEnter_hif (step cause : Nat) (m : Pnm) : (ladderEnter step cause m).hif = m.hif := rfl
@[simp] theorem ladderEnter_mac (step cause : Nat) (m : Pnm) : (ladderEnter step cause m).mac = m.mac := rfl
@[simp] theorem ladderEnter_key (step cause : Nat) (m : Pnm) : (ladderEnter step cause m).key = m.key := rfl
@[simp] theorem ladderEnter_svi (step cause : Nat) (m : Pnm) : (ladderEnter step cause m).svi = m.svi := rfl
@[simp] theorem ladderEnter_fpe (step cause : Nat) (m : Pnm) : (ladderEnter step cause m).fpe = m.fpe := rfl
@[simp] theorem ladderEnter_gte (step cause : Nat) (m : Pnm) : (ladderEnter step cause m).gte = m.gte := rfl
@[simp] theorem ladderEnter_cye (step cause : Nat) (m : Pnm) : (ladderEnter step cause m).cye = m.cye := rfl
@[simp] theorem ladderEnter_out (step cause : Nat) (m : Pnm) : (ladderEnter step cause m).out = m.out := rfl
@[simp] theorem ladderEnter_sio (step cause : Nat) (m : Pnm) : (ladderEnter step cause m).sio = m.sio := rfl
@[simp] theorem ladderEnter_cap (step cause : Nat) (m : Pnm) : (ladderEnter step cause m).cap = m.cap := rfl
@[simp] theorem ladderEnter_par (step cause : Nat) (m : Pnm) : (ladderEnter step cause m).par = m.par := rfl

@[simp] theorem ladderLeave_regs (step : Nat) (m : Pnm) : (ladderLeave step m).regs = m.regs := rfl
@[simp] theorem ladderLeave_staged (step : Nat) (m : Pnm) : (ladderLeave step m).staged = m.staged := rfl
@[simp] theorem ladderLeave_latched (step : Nat) (m : Pnm) : (ladderLeave step m).latched = m.latched := rfl
@[simp] theorem ladderLeave_free (step : Nat) (m : Pnm) : (ladderLeave step m).free = m.free := rfl
@[simp] theorem ladderLeave_tim (step : Nat) (m : Pnm) : (ladderLeave step m).tim = m.tim := rfl
@[simp] theorem ladderLeave_glb (step : Nat) (m : Pnm) : (ladderLeave step m).glb = m.glb := rfl
@[simp] theorem ladderLeave_scans (step : Nat) (m : Pnm) : (ladderLeave step m).scans = m.scans := rfl
@[simp] theorem ladderLeave_hif (step : Nat) (m : Pnm) : (ladderLeave step m).hif = m.hif := rfl
@[simp] theorem ladderLeave_mac (step : Nat) (m : Pnm) : (ladderLeave step m).mac = m.mac := rfl
@[simp] theorem ladderLeave_key (step : Nat) (m : Pnm) : (ladderLeave step m).key = m.key := rfl
@[simp] theorem ladderLeave_svi (step : Nat) (m : Pnm) : (ladderLeave step m).svi = m.svi := rfl
@[simp] theorem ladderLeave_fpe (step : Nat) (m : Pnm) : (ladderLeave step m).fpe = m.fpe := rfl
@[simp] theorem ladderLeave_gte (step : Nat) (m : Pnm) : (ladderLeave step m).gte = m.gte := rfl
@[simp] theorem ladderLeave_cye (step : Nat) (m : Pnm) : (ladderLeave step m).cye = m.cye := rfl
@[simp] theorem ladderLeave_out (step : Nat) (m : Pnm) : (ladderLeave step m).out = m.out := rfl
@[simp] theorem ladderLeave_sio (step : Nat) (m : Pnm) : (ladderLeave step m).sio = m.sio := rfl
@[simp] theorem ladderLeave_cap (step : Nat) (m : Pnm) : (ladderLeave step m).cap = m.cap := rfl
@[simp] theorem ladderLeave_par (step : Nat) (m : Pnm) : (ladderLeave step m).par = m.par := rfl

@[simp] theorem ladderClear_regs (step cause : Nat) (m : Pnm) : (ladderClear step cause m).regs = m.regs := by
  unfold ladderClear; dsimp only; split
  · rfl
  · split <;> rfl
@[simp] theorem ladderClear_staged (step cause : Nat) (m : Pnm) : (ladderClear step cause m).staged = m.staged := by
  unfold ladderClear; dsimp only; split
  · rfl
  · split <;> rfl
@[simp] theorem ladderClear_latched (step cause : Nat) (m : Pnm) : (ladderClear step cause m).latched = m.latched := by
  unfold ladderClear; dsimp only; split
  · rfl
  · split <;> rfl
@[simp] theorem ladderClear_free (step cause : Nat) (m : Pnm) : (ladderClear step cause m).free = m.free := by
  unfold ladderClear; dsimp only; split
  · rfl
  · split <;> rfl
@[simp] theorem ladderClear_tim (step cause : Nat) (m : Pnm) : (ladderClear step cause m).tim = m.tim := by
  unfold ladderClear; dsimp only; split
  · rfl
  · split <;> rfl
@[simp] theorem ladderClear_glb (step cause : Nat) (m : Pnm) : (ladderClear step cause m).glb = m.glb := by
  unfold ladderClear; dsimp only; split
  · rfl
  · split <;> rfl
@[simp] theorem ladderClear_scans (step cause : Nat) (m : Pnm) : (ladderClear step cause m).scans = m.scans := by
  unfold ladderClear; dsimp only; split
  · rfl
  · split <;> rfl
@[simp] theorem ladderClear_hif (step cause : Nat) (m : Pnm) : (ladderClear step cause m).hif = m.hif := by
  unfold ladderClear; dsimp only; split
  · rfl
  · split <;> rfl
@[simp] theorem ladderClear_mac (step cause : Nat) (m : Pnm) : (ladderClear step cause m).mac = m.mac := by
  unfold ladderClear; dsimp only; split
  · rfl
  · split <;> rfl
@[simp] theorem ladderClear_key (step cause : Nat) (m : Pnm) : (ladderClear step cause m).key = m.key := by
  unfold ladderClear; dsimp only; split
  · rfl
  · split <;> rfl
@[simp] theorem ladderClear_svi (step cause : Nat) (m : Pnm) : (ladderClear step cause m).svi = m.svi := by
  unfold ladderClear; dsimp only; split
  · rfl
  · split <;> rfl
@[simp] theorem ladderClear_fpe (step cause : Nat) (m : Pnm) : (ladderClear step cause m).fpe = m.fpe := by
  unfold ladderClear; dsimp only; split
  · rfl
  · split <;> rfl
@[simp] theorem ladderClear_gte (step cause : Nat) (m : Pnm) : (ladderClear step cause m).gte = m.gte := by
  unfold ladderClear; dsimp only; split
  · rfl
  · split <;> rfl
@[simp] theorem ladderClear_cye (step cause : Nat) (m : Pnm) : (ladderClear step cause m).cye = m.cye := by
  unfold ladderClear; dsimp only; split
  · rfl
  · split <;> rfl
@[simp] theorem ladderClear_out (step cause : Nat) (m : Pnm) : (ladderClear step cause m).out = m.out := by
  unfold ladderClear; dsimp only; split
  · rfl
  · split <;> rfl
@[simp] theorem ladderClear_sio (step cause : Nat) (m : Pnm) : (ladderClear step cause m).sio = m.sio := by
  unfold ladderClear; dsimp only; split
  · rfl
  · split <;> rfl
@[simp] theorem ladderClear_cap (step cause : Nat) (m : Pnm) : (ladderClear step cause m).cap = m.cap := by
  unfold ladderClear; dsimp only; split
  · rfl
  · split <;> rfl
@[simp] theorem ladderClear_par (step cause : Nat) (m : Pnm) : (ladderClear step cause m).par = m.par := by
  unfold ladderClear; dsimp only; split
  · rfl
  · split <;> rfl

@[simp] theorem completeAt_regs (r : CmdRef) (a : Ans) (d : Nat) (m : Pnm) : (completeAt r a d m).regs = m.regs := by
  unfold completeAt; dsimp only; split <;> rfl
@[simp] theorem completeAt_staged (r : CmdRef) (a : Ans) (d : Nat) (m : Pnm) : (completeAt r a d m).staged = m.staged := by
  unfold completeAt; dsimp only; split <;> rfl
@[simp] theorem completeAt_latched (r : CmdRef) (a : Ans) (d : Nat) (m : Pnm) : (completeAt r a d m).latched = m.latched := by
  unfold completeAt; dsimp only; split <;> rfl
@[simp] theorem completeAt_free (r : CmdRef) (a : Ans) (d : Nat) (m : Pnm) : (completeAt r a d m).free = m.free := by
  unfold completeAt; dsimp only; split <;> rfl
@[simp] theorem completeAt_tim (r : CmdRef) (a : Ans) (d : Nat) (m : Pnm) : (completeAt r a d m).tim = m.tim := by
  unfold completeAt; dsimp only; split <;> rfl
@[simp] theorem completeAt_glb (r : CmdRef) (a : Ans) (d : Nat) (m : Pnm) : (completeAt r a d m).glb = m.glb := by
  unfold completeAt; dsimp only; split <;> rfl
@[simp] theorem completeAt_ladder (r : CmdRef) (a : Ans) (d : Nat) (m : Pnm) : (completeAt r a d m).ladder = m.ladder := by
  unfold completeAt; dsimp only; split <;> rfl
@[simp] theorem completeAt_tel (r : CmdRef) (a : Ans) (d : Nat) (m : Pnm) : (completeAt r a d m).tel = m.tel := by
  unfold completeAt; dsimp only; split <;> rfl
@[simp] theorem completeAt_scans (r : CmdRef) (a : Ans) (d : Nat) (m : Pnm) : (completeAt r a d m).scans = m.scans := by
  unfold completeAt; dsimp only; split <;> rfl
@[simp] theorem completeAt_mac (r : CmdRef) (a : Ans) (d : Nat) (m : Pnm) : (completeAt r a d m).mac = m.mac := by
  unfold completeAt; dsimp only; split <;> rfl
@[simp] theorem completeAt_key (r : CmdRef) (a : Ans) (d : Nat) (m : Pnm) : (completeAt r a d m).key = m.key := by
  unfold completeAt; dsimp only; split <;> rfl
@[simp] theorem completeAt_svi (r : CmdRef) (a : Ans) (d : Nat) (m : Pnm) : (completeAt r a d m).svi = m.svi := by
  unfold completeAt; dsimp only; split <;> rfl
@[simp] theorem completeAt_fpe (r : CmdRef) (a : Ans) (d : Nat) (m : Pnm) : (completeAt r a d m).fpe = m.fpe := by
  unfold completeAt; dsimp only; split <;> rfl
@[simp] theorem completeAt_gte (r : CmdRef) (a : Ans) (d : Nat) (m : Pnm) : (completeAt r a d m).gte = m.gte := by
  unfold completeAt; dsimp only; split <;> rfl
@[simp] theorem completeAt_cye (r : CmdRef) (a : Ans) (d : Nat) (m : Pnm) : (completeAt r a d m).cye = m.cye := by
  unfold completeAt; dsimp only; split <;> rfl
@[simp] theorem completeAt_out (r : CmdRef) (a : Ans) (d : Nat) (m : Pnm) : (completeAt r a d m).out = m.out := by
  unfold completeAt; dsimp only; split <;> rfl
@[simp] theorem completeAt_sio (r : CmdRef) (a : Ans) (d : Nat) (m : Pnm) : (completeAt r a d m).sio = m.sio := by
  unfold completeAt; dsimp only; split <;> rfl
@[simp] theorem completeAt_cap (r : CmdRef) (a : Ans) (d : Nat) (m : Pnm) : (completeAt r a d m).cap = m.cap := by
  unfold completeAt; dsimp only; split <;> rfl

@[simp] theorem complete_regs (r : CmdRef) (a : Ans) (m : Pnm) : (complete r a m).regs = m.regs := by
  unfold complete completeAt; dsimp only; split <;> rfl
@[simp] theorem complete_staged (r : CmdRef) (a : Ans) (m : Pnm) : (complete r a m).staged = m.staged := by
  unfold complete completeAt; dsimp only; split <;> rfl
@[simp] theorem complete_latched (r : CmdRef) (a : Ans) (m : Pnm) : (complete r a m).latched = m.latched := by
  unfold complete completeAt; dsimp only; split <;> rfl
@[simp] theorem complete_free (r : CmdRef) (a : Ans) (m : Pnm) : (complete r a m).free = m.free := by
  unfold complete completeAt; dsimp only; split <;> rfl
@[simp] theorem complete_tim (r : CmdRef) (a : Ans) (m : Pnm) : (complete r a m).tim = m.tim := by
  unfold complete completeAt; dsimp only; split <;> rfl
@[simp] theorem complete_glb (r : CmdRef) (a : Ans) (m : Pnm) : (complete r a m).glb = m.glb := by
  unfold complete completeAt; dsimp only; split <;> rfl
@[simp] theorem complete_ladder (r : CmdRef) (a : Ans) (m : Pnm) : (complete r a m).ladder = m.ladder := by
  unfold complete completeAt; dsimp only; split <;> rfl
@[simp] theorem complete_tel (r : CmdRef) (a : Ans) (m : Pnm) : (complete r a m).tel = m.tel := by
  unfold complete completeAt; dsimp only; split <;> rfl
@[simp] theorem complete_scans (r : CmdRef) (a : Ans) (m : Pnm) : (complete r a m).scans = m.scans := by
  unfold complete completeAt; dsimp only; split <;> rfl
@[simp] theorem complete_mac (r : CmdRef) (a : Ans) (m : Pnm) : (complete r a m).mac = m.mac := by
  unfold complete completeAt; dsimp only; split <;> rfl
@[simp] theorem complete_key (r : CmdRef) (a : Ans) (m : Pnm) : (complete r a m).key = m.key := by
  unfold complete completeAt; dsimp only; split <;> rfl
@[simp] theorem complete_svi (r : CmdRef) (a : Ans) (m : Pnm) : (complete r a m).svi = m.svi := by
  unfold complete completeAt; dsimp only; split <;> rfl
@[simp] theorem complete_fpe (r : CmdRef) (a : Ans) (m : Pnm) : (complete r a m).fpe = m.fpe := by
  unfold complete completeAt; dsimp only; split <;> rfl
@[simp] theorem complete_gte (r : CmdRef) (a : Ans) (m : Pnm) : (complete r a m).gte = m.gte := by
  unfold complete completeAt; dsimp only; split <;> rfl
@[simp] theorem complete_cye (r : CmdRef) (a : Ans) (m : Pnm) : (complete r a m).cye = m.cye := by
  unfold complete completeAt; dsimp only; split <;> rfl
@[simp] theorem complete_out (r : CmdRef) (a : Ans) (m : Pnm) : (complete r a m).out = m.out := by
  unfold complete completeAt; dsimp only; split <;> rfl
@[simp] theorem complete_sio (r : CmdRef) (a : Ans) (m : Pnm) : (complete r a m).sio = m.sio := by
  unfold complete completeAt; dsimp only; split <;> rfl
@[simp] theorem complete_cap (r : CmdRef) (a : Ans) (m : Pnm) : (complete r a m).cap = m.cap := by
  unfold complete completeAt; dsimp only; split <;> rfl

end Sys2Proof.Machine
end

