-- ==== Sys2Proof/Laws/Regs.lean ====
section
/-! SUPPORT. Laws of the register file: what a register reads after each operation that stores to it. -/

namespace Sys2Proof.Machine

/-- A register depends on the register file alone. -/
theorem rd_congr {m n : Pnm} (h : n.regs = m.regs) (o : Nat) : rd n o = rd m o := by simp [rd, h]

theorem rd_wr (m : Pnm) (o : Nat) (v : Word) (x : Nat) : rd (wr m o v) x = if x = o then v else rd m x := by
  simp only [rd, wr]; exact NMap.get_set _ _ _ _ _

@[simp] theorem rd_wr_same (m : Pnm) (o : Nat) (v : Word) : rd (wr m o v) o = v := by simp [rd_wr]

theorem rd_wr_ne (m : Pnm) (o : Nat) (v : Word) {x : Nat} (h : x ≠ o) : rd (wr m o v) x = rd m x := by simp [rd_wr, h]

theorem rd_wf (m : Pnm) (o hi lo v x : Nat) :
    rd (wf m o hi lo v) x = if x = o then setBits (rd m o) hi lo v else rd m x := by simp [wf, rd_wr]

theorem rd_sb (m : Pnm) (o i x : Nat) : rd (sb m o i) x = if x = o then setBits (rd m o) i i 1 else rd m x := by
  simp [sb, rd_wf]

theorem rd_cb (m : Pnm) (o i x : Nat) : rd (cb m o i) x = if x = o then setBits (rd m o) i i 0 else rd m x := by
  simp [cb, rd_wf]

theorem rd_inc (m : Pnm) (o n x : Nat) : rd (inc m o n) x = if x = o then wrapAdd (rd m o) n else rd m x := by
  simp [inc, rd_wr]

theorem rd_cfgErr (m : Pnm) (o n x : Nat) :
    rd (cfgErr m o n) x = if x = o then setBits (rd m o) 7 0 n else rd m x := by simp [cfgErr, rd_wf]

@[simp] theorem rd_raiseIf (c : Bool) (ev : Ev) (m : Pnm) (x : Nat) : rd (raiseIf c ev m) x = rd m x := rfl
@[simp] theorem rd_raise (ev : Ev) (m : Pnm) (x : Nat) : rd (raise ev m) x = rd m x := rfl
@[simp] theorem rd_snapIf (c : Bool) (n : Nat) (m : Pnm) (x : Nat) : rd (snapIf c n m) x = rd m x := rfl
@[simp] theorem rd_journal (a b c : Nat) (p : List Byte) (m : Pnm) (x : Nat) : rd (journal a b c p m) x = rd m x := rfl
@[simp] theorem rd_nodeCause (n r st : Nat) (m : Pnm) (x : Nat) : rd (nodeCause n r st m) x = rd m x := rfl
@[simp] theorem rd_nodeUse (n : Nat) (u : Bool) (m : Pnm) (x : Nat) : rd (nodeUse n u m) x = rd m x := rfl
@[simp] theorem rd_emit (m : Pnm) (es : List Emit) (x : Nat) : rd (emit m es) x = rd m x := rfl
@[simp] theorem rd_stage (m : Pnm) (o : Nat) (v : Word) (x : Nat) : rd (stage m o v) x = rd m x := rfl
@[simp] theorem rd_drawFree (m : Pnm) (x : Nat) : rd (drawFree m) x = rd m x := rfl
@[simp] theorem rd_ladderEnter (s c : Nat) (m : Pnm) (x : Nat) : rd (ladderEnter s c m) x = rd m x := rfl
@[simp] theorem rd_ladderLeave (s : Nat) (m : Pnm) (x : Nat) : rd (ladderLeave s m) x = rd m x := rfl
@[simp] theorem rd_ladderClear (s c : Nat) (m : Pnm) (x : Nat) : rd (ladderClear s c m) x = rd m x :=
  rd_congr (ladderClear_regs s c m) x
@[simp] theorem rd_addReplica (f : Nat) (c : Cpl) (m : Pnm) (x : Nat) : rd (addReplica f c m) x = rd m x := rfl
@[simp] theorem rd_completeAt (r : CmdRef) (a : Ans) (d : Nat) (m : Pnm) (x : Nat) : rd (completeAt r a d m) x = rd m x :=
  rd_congr (completeAt_regs r a d m) x
@[simp] theorem rd_complete (r : CmdRef) (a : Ans) (m : Pnm) (x : Nat) : rd (complete r a m) x = rd m x :=
  rd_congr (complete_regs r a m) x

/-- A field that was just written reads as what was written. -/
theorem rf_wf_same (m : Pnm) (o hi lo v : Nat) (h : hi < 32) : rf (wf m o hi lo v) o hi lo = v % 2 ^ (hi + 1 - lo) := by
  simp [rf, rd_wf, bits_setBits_same _ _ _ _ h]

/-- Another field of the same register reads as before. -/
theorem rf_wf_apart (m : Pnm) (o hi lo v hi' lo' : Nat) (h : hi' < lo ∨ hi < lo') :
    rf (wf m o hi lo v) o hi' lo' = rf m o hi' lo' := by simp [rf, rd_wf, bits_setBits_apart _ _ _ _ _ _ h]

theorem rb_sb_same (m : Pnm) (o i : Nat) (h : i < 32) : rb (sb m o i) o i = true := by
  simp [rb, rd_sb, bit_setBits, h]

theorem rb_cb_same (m : Pnm) (o i : Nat) (h : i < 32) : rb (cb m o i) o i = false := by
  simp [rb, rd_cb, bit_setBits, h]

end Sys2Proof.Machine
end

