-- ==== Sys2Proof/Laws/Does.lean ====
section
/-! SUPPORT. How a completion statement is reached: from a command's meaning to the operation that carries it out, and
how frames combine. -/

namespace Sys2Proof.Machine

theorem whenAlive_of_live (f : Pnm → Pnm) {s : State} (h : s.live) : whenAlive f s.m = f s.m := if_pos h
theorem whenWr_of_writable (f : Pnm → Pnm) {s : State} (h : s.writable) : whenWr f s.m = f s.m := if_pos h
theorem whenGlb_of_glbLive (f : Pnm → Pnm) {s : State} (h : s.glbLive) : whenGlb f s.m = f s.m := if_pos h

/-- A module that takes register writes runs. -/
theorem State.writable.live {s : State} (h : s.writable) : s.live := by
  simp only [State.writable, wrOk, Bool.and_eq_true] at h; exact h.1

/-- A module that runs has GLB at work. -/
theorem State.live.glb {s : State} (h : s.live) : s.glbLive := by
  simp only [State.live, alive, decide_eq_true_eq] at h; simp [State.glbLive, glbOn, h]

/-- A command whose meaning is `run f` completes with what `f` makes of the module. -/
theorem does_run {c : Instr} {s : State} {ps : List Part} {os : List Nat} {P : Pnm → Prop} {f : Pnm → Pnm} {n : Pnm}
    (hc : exec c s = run f s) (hn : f s.m = n) (hk : Keeps ps s.m n) (hr : KeepsRegs os s.m n) (hp : P n) :
    Does c s ps os P := ⟨n, by rw [hc, run, hn], hk, hr, hp⟩

theorem does_wr {c : Instr} {s : State} {ps : List Part} {os : List Nat} {P : Pnm → Prop} (f : Pnm → Pnm) {n : Pnm}
    (hw : s.writable) (hc : exec c s = run (whenWr f) s) (hn : f s.m = n) (hk : Keeps ps s.m n)
    (hr : KeepsRegs os s.m n) (hp : P n) : Does c s ps os P :=
  does_run hc ((whenWr_of_writable f hw).trans hn) hk hr hp

theorem does_al {c : Instr} {s : State} {ps : List Part} {os : List Nat} {P : Pnm → Prop} (f : Pnm → Pnm) {n : Pnm}
    (hw : s.live) (hc : exec c s = run (whenAlive f) s) (hn : f s.m = n) (hk : Keeps ps s.m n)
    (hr : KeepsRegs os s.m n) (hp : P n) : Does c s ps os P :=
  does_run hc ((whenAlive_of_live f hw).trans hn) hk hr hp

theorem does_glb {c : Instr} {s : State} {ps : List Part} {os : List Nat} {P : Pnm → Prop} (f : Pnm → Pnm) {n : Pnm}
    (hw : s.glbLive) (hc : exec c s = run (whenGlb f) s) (hn : f s.m = n) (hk : Keeps ps s.m n)
    (hr : KeepsRegs os s.m n) (hp : P n) : Does c s ps os P :=
  does_run hc ((whenGlb_of_glbLive f hw).trans hn) hk hr hp

theorem nothing_run {c : Instr} {s : State} {f : Pnm → Pnm} (hc : exec c s = run f s) (h : f s.m = s.m) :
    DoesNothing c s := by rw [DoesNothing, hc, run, h]

theorem nothing_al {c : Instr} {s : State} (f : Pnm → Pnm) (hc : exec c s = run (whenAlive f) s) (h : f s.m = s.m) :
    DoesNothing c s := by
  refine nothing_run hc ?_
  unfold whenAlive; split
  · exact h
  · rfl

theorem nothing_wr {c : Instr} {s : State} (f : Pnm → Pnm) (hc : exec c s = run (whenWr f) s) (h : f s.m = s.m) :
    DoesNothing c s := by
  refine nothing_run hc ?_
  unfold whenWr; split
  · exact h
  · rfl

theorem nothing_glb {c : Instr} {s : State} (f : Pnm → Pnm) (hc : exec c s = run (whenGlb f) s) (h : f s.m = s.m) :
    DoesNothing c s := by
  refine nothing_run hc ?_
  unfold whenGlb; split
  · exact h
  · rfl

/-! ## Frames combine -/

theorem Part.same_refl (p : Part) (m : Pnm) : p.same m m := by cases p <;> rfl

theorem Part.same_trans {p : Part} {m n k : Pnm} (h1 : p.same m n) (h2 : p.same n k) : p.same m k := by
  cases p <;> exact h2.trans h1

theorem Keeps.refl (ps : List Part) (m : Pnm) : Keeps ps m m := fun p _ => p.same_refl m

theorem Keeps.trans {ps : List Part} {m n k : Pnm} (h1 : Keeps ps m n) (h2 : Keeps ps n k) : Keeps ps m k :=
  fun p hp => Part.same_trans (h1 p hp) (h2 p hp)

theorem Keeps.mono {ps qs : List Part} {m n : Pnm} (h : Keeps ps m n) (hs : ps ⊆ qs) : Keeps qs m n :=
  fun p hp => h p fun h' => hp (hs h')

theorem KeepsRegs.refl (os : List Nat) (m : Pnm) : KeepsRegs os m m := fun _ _ => rfl

theorem KeepsRegs.trans {os : List Nat} {m n k : Pnm} (h1 : KeepsRegs os m n) (h2 : KeepsRegs os n k) :
    KeepsRegs os m k := fun o ho => (h2 o ho).trans (h1 o ho)

theorem KeepsRegs.mono {os ps : List Nat} {m n : Pnm} (h : KeepsRegs os m n) (hs : os ⊆ ps) : KeepsRegs ps m n :=
  fun o ho => h o fun h' => ho (hs h')

/-- Where the register file is kept, every register is. -/
theorem KeepsRegs.of_regs {os : List Nat} {m n : Pnm} (h : n.regs = m.regs) : KeepsRegs os m n :=
  fun o _ => rd_congr h o

theorem keepsRegs_wr {os : List Nat} (m : Pnm) {o : Nat} (v : Word) (h : o ∈ os) : KeepsRegs os m (wr m o v) :=
  fun _ hx => rd_wr_ne m o v fun e => hx (e ▸ h)

theorem keepsRegs_wf {os : List Nat} (m : Pnm) {o : Nat} (hi lo v : Nat) (h : o ∈ os) : KeepsRegs os m (wf m o hi lo v) :=
  keepsRegs_wr m _ h

theorem keepsRegs_sb {os : List Nat} (m : Pnm) {o : Nat} (i : Nat) (h : o ∈ os) : KeepsRegs os m (sb m o i) :=
  keepsRegs_wr m _ h

theorem keepsRegs_cb {os : List Nat} (m : Pnm) {o : Nat} (i : Nat) (h : o ∈ os) : KeepsRegs os m (cb m o i) :=
  keepsRegs_wr m _ h

theorem keepsRegs_inc {os : List Nat} (m : Pnm) {o : Nat} (n : Nat) (h : o ∈ os) : KeepsRegs os m (inc m o n) :=
  keepsRegs_wr m _ h

end Sys2Proof.Machine
end

