-- ==== Sys2Proof/WellFormed.lean ====
section
/-! DEFINITION. Which commands are well formed: the operands that the spec's ranges bound below what their widths could hold.
A command that names an object the module does not have is ill formed; its meaning changes nothing. -/

namespace Sys2Proof

/-- The twelve ports P0 to P11 (R71). -/
def portOk (p : BitVec 4) : Bool := decide (p.toNat < 12)

/-- Function 0 is the physical function, 1 to 256 are the virtual functions (R373). -/
def fnOk (fn : BitVec 9) : Bool := decide (fn.toNat ≤ 256)

/-- The five port pairs of a redundancy protocol (R71). -/
def pairOk (pair : BitVec 3) : Bool := decide (pair.toNat < 5)

/-- Steps 1 to 6 of the degradation ladder (R37). -/
def stepOk (n : BitVec 3) : Bool := decide (1 ≤ n.toNat ∧ n.toNat ≤ 6)

/-- The 267 requesters of the bulk arbiter (R390, VFS table 5). -/
def requesterOk (q : BitVec 9) : Bool := decide (q.toNat ≤ 266)

/-- The writable share words are A, B and C, words 1 to 3 of HIF_SHRf (R379). -/
def shareWordOk (w : BitVec 2) : Bool := decide (w ≠ 0#2)

/-- Speed codes 0 (no link) to 5, and at most 16 lanes (R337). -/
def linkOk (gen : BitVec 3) (width : BitVec 5) : Bool := decide (gen.toNat ≤ 5 ∧ width.toNat ≤ 16)

/-- A timed output has sixteen places, a pair eight (R305, R313). -/
def testOk (tout : Bool) (i : BitVec 4) : Bool := tout || decide (i.toNat < 8)

/-- An access lies inside its BAR: 16 MiB for BAR0 of the PF, 64 KiB for BAR0 of a VF, 16 KiB for BAR2, and it
moves at least one byte and at most the 4 KiB of a PCIe request (R552, R553). -/
def accessOk (bar2 : Bool) (fn : BitVec 9) (off : BitVec 24) (n : Nat) : Bool :=
  let size : Nat := if bar2 then 0x4000 else if fn = 0#9 then 0x1000000 else 0x10000
  decide (0 < n ∧ n ≤ 4096 ∧ off.toNat + n ≤ size)

/-- The command is well formed. -/
def Instr.wf : Instr → Bool
  | .registerWrite fn bar2 off data _ => fnOk fn && accessOk bar2 fn off data.length
  | .multiwordLoRead fn bar2 off len => fnOk fn && accessOk bar2 fn off len.toNat
  | .ladderDwellExpiry n => stepOk n
  | .pdelayReqSend p => portOk p
  | .macPortEnable p _ _ => portOk p
  | .macRetrain p => portOk p
  | .trainTimeout p => portOk p
  | .linkUp p _ _ => portOk p
  | .linkDown p => portOk p
  | .opticPoll p _ _ _ _ _ _ => portOk p
  | .frameRx p _ _ => portOk p
  | .frameTxStart p => portOk p
  | .pfcPauseExpiry p _ => portOk p
  | .pfcXoffRepeat p => portOk p
  | .nodeForgetExpiry pair _ => pairOk pair
  | .supervisionSend pair => pairOk pair
  | .testPulseConfirm tout ix => testOk tout ix
  | .testPulseTimeout tout ix => testOk tout ix
  | .testRetry tout ix _ => testOk tout ix
  | .doorbellReadDone fn _ _ _ => fnOk fn
  | .commandFetchDone fn _ _ _ => fnOk fn
  | .kick fn => fnOk fn
  | .nop fn _ => fnOk fn
  | .hostWrite fn _ _ _ _ => fnOk fn
  | .gateArm fn _ _ _ => fnOk fn
  | .gateUpdate fn _ _ _ _ _ _ _ => fnOk fn
  | .gateCancel fn _ _ => fnOk fn
  | .gateRead fn _ _ _ => fnOk fn
  | .publish fn _ _ _ _ => fnOk fn
  | .lockSelect fn _ _ _ _ => fnOk fn
  | .lockOperate fn _ _ _ => fnOk fn
  | .lockRenew fn _ _ _ => fnOk fn
  | .lockCancel fn _ _ => fnOk fn
  | .captureArm fn _ _ => fnOk fn
  | .captureDisarm fn _ _ => fnOk fn
  | .captureForce fn _ _ => fnOk fn
  | .tableLoad fn _ _ _ => fnOk fn
  | .imageLoad fn _ _ _ => fnOk fn
  | .vfSeqReset fn _ _ => fnOk fn
  | .shareRevoke fn _ _ _ _ => fnOk fn
  | .keyImport fn _ _ _ => fnOk fn
  | .keyRetire fn _ _ _ _ => fnOk fn
  | .selftest fn _ _ _ _ _ _ => fnOk fn
  | .journalRead fn _ _ _ _ _ => fnOk fn
  | .bulkRead fn _ _ _ _ _ => fnOk fn
  | .frameTx fn _ port _ _ _ _ => fnOk fn && portOk port
  | .rxPost fn _ _ _ => fnOk fn
  | .bulkTransferDone q => requesterOk q
  | .hifFnEnable fn _ => fnOk fn
  | .hifFnDisable fn _ => fnOk fn
  | .flr fn => fnOk fn
  | .pcieLinkTrain gen width _ => linkOk gen width
  | .vfEnableSet num => decide (num.toNat ≤ 256)
  | .serviceWrite n _ => fnOk n
  | .shrFlr n => fnOk n
  | .shareWrite f w _ => fnOk f && shareWordOk w
  | .arbStarvation q => requesterOk q
  | .crcScanGo fn _ => fnOk fn
  | .crcVerify fn _ => fnOk fn
  | .crcAbort fn _ => fnOk fn
  | .flrComplete fn => fnOk fn
  | .planeTick .. | .planeClose .. | .timRun .. | .gridStart | .timIncCommit .. | .timStep ..
  | .timSlewWrite .. | .timSelWrite .. | .timLockWrite .. | .syncTimeout .. | .announceTimeout ..
  | .irigLostTimeout | .irigFrameRx .. | .ppsInEdge | .ppsMissingTimeout | .ocxoFault | .holdoverClassStep
  | .delayReqSend .. | .ppsOutPulse | .ppsOutPulseEnd | .timSnap .. | .macPairmodeWrite .. | .sviTblRead ..
  | .sviTblWrite .. | .sviRun | .sviStop | .sviPlaneWrite .. | .streamSilent .. | .ingestOverload
  | .decimReturn | .fpeTblRead .. | .fpeTblWrite .. | .glideGo .. | .glideEnd | .refHoldExpiry ..
  | .gteWindowRead .. | .gteWindowArm .. | .gteWindowUpdate .. | .gteWindowCancel .. | .gateFire ..
  | .toutPulseEnd .. | .peerNoticeTimeout .. | .taskPeriodStart .. | .taskRunComplete .. | .taskOverrun ..
  | .doubledReturn .. | .taskOutputRelease .. | .coreEccError .. | .coreEccCorrected .. | .cyeStart
  | .programStart | .cyeStop | .programStop | .cyeTblRead .. | .cyeTblWrite .. | .hostWriteApply ..
  | .imageVerifyDone | .lfArm | .lfAbort | .lfRevert | .lfDiscard | .lfPreSwitchCheck | .lfSwitch
  | .lfCarryOverDone | .lfPeerTimeout | .publishTarget .. | .gooseRetransmit .. | .subTalExpiry ..
  | .lockLeaseEnd .. | .outTblRead .. | .outTblWrite .. | .sioInputSample .. | .inputDisagreeTimeout ..
  | .inputAgreeTimeout .. | .safetyCycle | .crosslinkHeartbeat | .crosslinkMsgRx .. | .crosslinkSilence ..
  | .chbRateCheck .. | .toutReadbackFault .. | .toutOpenLoad .. | .sioToutReset .. | .demandMinExpiry ..
  | .sioLatchReset .. | .sioLockoutReset .. | .pairReadbackMismatch .. | .feedbackTimeout ..
  | .evalDiscrepancyTimeout .. | .evalWindowTimeout .. | .evalPulseEnd .. | .pairTestPulse ..
  | .toutTestPulse .. | .sioRun | .sioStartTestsDone .. | .sioStop | .sioTblRead .. | .sioTblWrite ..
  | .acceptanceInstant | .vfEnableClear | .arbitrationCycle | .capTblRead .. | .capSegmentWrite ..
  | .segmentClearDone .. | .rearmDone .. | .autoTriggerTimeout .. | .pairEnWrite .. | .parResync
  | .heartbeatSend | .fragmentTimeout | .pathTimeout .. | .peerFailed | .listenTimeout | .demotedTimeout
  | .resyncRetry | .resyncTimeout | .txWatchdog | .healthReportSend | .healthReportTimeout | .keyCommitDone
  | .keyExpiry .. | .mr3Ext | .attGo | .attDone | .lcGo | .lcDestructionDone | .migPrepare .. | .migPrepareDone
  | .migCancel | .keyTblRead .. | .keyTblWrite .. | .jnlFlushTimer | .jnlFlushWrite | .jnlFlushDone ..
  | .opSecondTick | .journalReadDone .. | .freezeTimeout | .crcScanDone .. | .snapTrig | .snapRelease
  | .diaTblRead .. | .diaTblWrite .. | .selftestSlice | .selftestDone .. | .selftestTimeout | .powerOn ..
  | .strapPoll .. | .bootConfirm .. | .trialConfirmTimeout | .fwGo .. | .fwWriteDone .. | .hostReset ..
  | .resetModuleWrite .. | .moduleResetEffect .. | .fwWatchdog | .memoryUe | .maintReq .. | .maintLeave ..
  | .powerFailWarning | .rideThrough | .holdupEnd | .supplyReturn .. | .shutdown .. | .rtcCommit ..
  | .tamperCoverOpen .. | .tamperLoopSense .. | .vbatLow .. | .supplyOvervoltage .. | .slewComplete
  | .ocxoToleranceRegained | .powerRemoved | .backupSupplyLost => true

end Sys2Proof
end

