-- ==== Sys2Proof/Tests/Slice0.lean ====
section
/-! SUPPORT. For each statement a witness that its hypotheses can be met, clause by clause, at the bounds of their ranges;
tests of effects against the spec's examples and tables; and an ill-formed command for each check of WellFormed. -/

open Sys2Proof Sys2Proof.Machine

namespace Sys2Proof.Tests

set_option maxRecDepth 8000
set_option Elab.async false

/-! ## States -/

/-- A module that runs, changed by `f`. -/
def up (f : Pnm → Pnm) : State := ⟨[], [], f { Pnm.init with glb := { Glb.init with phase := .run } }⟩

/-- A module that runs, as it comes out of its start. -/
def idle : State := up id

/-- A module whose TIM is changed by `f`. -/
def upTim (f : Tim → Tim) : State := up fun m => { m with tim := f m.tim }

/-- A module whose GLB is changed by `f`. -/
def upGlb (f : Glb → Glb) : State := up fun m => { m with glb := f m.glb }

/-- The active module of a pair whose peer is standby and takes mirrored commands. -/
def paired (m : Pnm) : Pnm := wf (sb (wf m Reg.PAR_STAT 2 0 2) Reg.PAR_CFG 0) Reg.PAR_PEER 2 0 3

/-! ## Witnesses for the statements about time -/

def timed (ns : Nat) : State := upTim fun t => { t with running := true, mt := ns * nsU, clkA := ns * nsU, gridAt := some (1000000000 * nsU) }
def staged (o : Nat) (v : Word) : State := up fun m => stage m o v

theorem wit_TimeStartsAndGridFollows :
    idle.writable ∧ bit 1#32 0 = true ∧ idle.m.tim.running = false ∧ bit 0#32 0 = false ∧
    (timed 1000000000).live ∧ (timed 1000000000).m.tim.running = true ∧
    (timed 1000000000).m.tim.gridAt = some (1000000000 * nsU) ∧ 1000000000 * nsU % (1000000000 * nsU) = 0 ∧
    1000000000 * nsU ≤ (timed 1000000000).m.tim.mt := by decide +kernel

/-- The limits of 1000 ppm: 1.5984 and 1.6016 ns. -/
theorem wit_IncrementCommitsOrIsRejected :
    let v (lo : Word) := (stagedLo (staged Reg.TIM_INC_A_LO lo).m Reg.TIM_INC_A_LO).toNat + 2 ^ 32 * (1#32).toNat
    (staged Reg.TIM_INC_A_LO 0).writable ∧
    15984 * 2 ^ 32 ≤ 10000 * v 0x9930BE0E#32 ∧ 10000 * v 0x9930BE0E#32 ≤ 16016 * 2 ^ 32 ∧
    10000 * v 0x9930BE0D#32 < 15984 * 2 ^ 32 ∧ 10000 * v 0x9A027525#32 ≤ 16016 * 2 ^ 32 ∧
    16016 * 2 ^ 32 < 10000 * v 0x9A027526#32 := by decide +kernel

/-- A step of the selected clock by the limit of 1 ms, and by one nanosecond more. -/
theorem wit_StepMovesOneClock :
    let far (lo : Word) : Prop :=
      let s := up fun m => stage { m with tim := { m.tim with running := true } } Reg.TIM_STEP_A_LO lo
      let d : Int := sx 64 ((stagedLo s.m Reg.TIM_STEP_A_LO).toNat + 2 ^ 32 * (0#32).toNat) * 2 ^ 32
      let c' : Nat := (((s.m.tim.clkA : Int) + d) % 2 ^ 96).toNat
      s.m.tim.running = true ∧ false = s.m.tim.selB ∧ slewLimit s.m < (sx 96 (c' + 2 ^ 96 - s.m.tim.mt)).natAbs
    idle.writable ∧ ¬ far 1000000#32 ∧ far 1000001#32 := by decide +kernel

theorem wit_SlewSettingsAndSnapshot :
    1 ≤ bits 1#32 16 0 ∧ bits 100000#32 16 0 ≤ 100000 ∧ bits 0x20000#32 16 0 = 0 ∧ 100000 < bits 100001#32 16 0 ∧
    bit 1#32 0 = true ∧ bit 2#32 0 = false := by decide +kernel

/-- A change to clock B that would leave a residual of 1 ms, and of one nanosecond more. -/
theorem wit_SelectionChangesOrIsRefused :
    let off (d : Nat) := upTim fun t => { t with running := true, clkB := d * nsU }
    bit 0#32 0 = idle.m.tim.selB ∧ bit 1#32 0 ≠ (off 0).m.tim.selB ∧ selRefused (off 1000000).m (bit 1#32 0) = false ∧
    selRefused (off 1000001).m (bit 1#32 0) = true := by decide +kernel

theorem wit_LockBitsFollowTheWrite :
    idle.writable ∧ bit 2#32 (b2n false) = false ∧ bit 2#32 (b2n true) = true ∧ srcLost idle.m true = false := by
  decide +kernel

theorem wit_TimeoutsLoseASource :
    let s := upTim fun t => { t with edge := 5, dom1 := { t.dom1 with syncDue := some 5 }, dom2 := { t.dom2 with annDue := some 5 } }
    let l := upTim fun t => { t with dom1 := { t.dom1 with lost := true } }
    let i (f p : Option Nat) : State := up fun m => { (sb m Reg.TIM_SRC_A 0) with
                                          tim := { m.tim with edge := 5, irig := { m.tim.irig with frameDue := f, ppsDue := p } } }
    s.live ∧ s.m.tim.dom1.lost = false ∧ due s.m.tim.dom1.syncDue s.m.tim.edge = true ∧ s.m.tim.dom2.lost = false ∧
    due s.m.tim.dom2.annDue s.m.tim.edge = true ∧ l.m.tim.dom1.lost = true ∧
    rb (i (some 5) none).m Reg.TIM_SRC_A 0 = true ∧ (i (some 5) none).m.tim.irig.lost = false ∧
    due (i (some 5) none).m.tim.irig.frameDue (i (some 5) none).m.tim.edge = true ∧
    due (i none (some 4)).m.tim.irig.ppsDue (i none (some 4)).m.tim.edge = true := by decide +kernel

theorem wit_IrigAndPpsInputs :
    let s := upTim fun t => { t with edge := 7, irig := { t.irig with ppsMissDue := some 7 } }
    s.live ∧ (26#16) ≠ 0 ∧ due s.m.tim.irig.ppsMissDue s.m.tim.edge = true ∧
    due idle.m.tim.irig.ppsMissDue idle.m.tim.edge = false := by decide +kernel

theorem wit_ReportedClassIsTheWorstOfThree :
    let h : Hold := { startMt := 0, long := true, pos := 0 }
    let s (c : Nat) := upTim fun t => { t with hold := some h, cls := c }
    (s 0).live ∧ (s 0).m.tim.hold = some h ∧
    min (declaredClass (s 0).m) (min (classOfD (slewD (s 0).m.tim).natAbs) (holdClass (s 0).m.tim)) = 0 ∧ (s 6).m.tim.cls ≠ 0 := by
  decide +kernel

theorem wit_DelayRequestsOncePerSecond :
    let s := up fun m => sb (sb (sb (wf (sb (wr m (Reg.tport Reg.TIM_PORT_CFG 2) 2) Reg.TIM_DOM1_CFG 10) Reg.TIM_DOM1_CFG 9 8 3)
      (pr Reg.MAC_PORT_CTRL 10) 0) (pr Reg.MAC_PORT_STAT 10) 0) Reg.TIM_DOM2_CFG 10
    let t := up fun m => sb (sb (sb m Reg.TIM_DOM1_CFG 10) (pr Reg.MAC_PORT_CTRL 2) 0) (pr Reg.MAC_PORT_STAT 2) 0
    s.live ∧ rb s.m Reg.TIM_DOM1_CFG 10 = true ∧ rf s.m Reg.TIM_DOM1_CFG 9 8 = 3 ∧
    s.m.tim.delayDue.getD (b2n false) 0 ≤ s.m.tim.edge ∧ portEn s.m 10 = true ∧ linkUp s.m 10 = true ∧
    pdelayOn t.m 2 = true ∧ t.m.tim.pdlyDue.getD 2 0 ≤ t.m.tim.edge ∧ portEn t.m 2 = true ∧ linkUp t.m 2 = true := by
  decide +kernel

theorem wit_PpsOutputRisesAndFalls :
    let s := up fun m => { sb m Reg.TIM_PPS_OUT 0 with tim := { m.tim with running := true, mt := 1000000000 * nsU, ppsLast := some 0 } }
    let h := upTim fun t => { t with ppsOut := true, ppsFall := 0 }
    s.live ∧ ppsDueNow s.m = true ∧ ppsDueNow idle.m = false ∧ h.m.tim.ppsOut = true ∧
    h.m.tim.ppsFall ≤ clkOf h.m (rf h.m Reg.TIM_PPS_OUT 2 1) ∧ idle.m.tim.ppsOut = false := by decide +kernel

/-! ## Witnesses for the statements about ports and frames -/

def port (p : Nat) (f : Port → Port) : State := up fun m => modPort (sb (sb m (pr Reg.MAC_PORT_CTRL p) 0) (pr Reg.MAC_PORT_STAT p) 0) p f
def aFrame : Frame :=
  { dst := 0xFFFFFFFFFFFF, src := 2, fcsOk := true, codeOk := true, len := 64, stag := false, tag := none, hsr := none, rct := none,
    body := .other, raw := List.replicate 60 0 }
def aPost : Bulk :=
  { tag := 1, op := 2, port := 0, pcp := 0, tsReq := false, hostAddr := 0, modAddr := 0, len := 2048, moved := 0, data := [],
    acceptNs := 0, status := 0xFE }
def supFrame : TxFrame :=
  { pcp := 4, len := 64, rct := none, hsr := none, tag := none, ingress := none, body := .supervision false 0 }

/-- MAX_LEN at both ends of its range and beyond each; a SPEED outside the row of P0; the highest port. -/
theorem wit_PortEnablesOrIsRefused :
    let s (p len speed : Nat) := up fun m => wf (wf m (pr Reg.MAC_PORT_CFG p) 27 16 len) (pr Reg.MAC_PORT_CFG p) 2 0 speed
    let ok (p len speed : Nat) := (portSpeeds p).contains (cfgSpeed (s p len speed).m p)
    let len (p l : Nat) := rf (s p l 0).m (pr Reg.MAC_PORT_CFG p) 27 16
    (s 0 64 0).writable ∧ (11#4).toNat < 12 ∧ bit 1#32 0 = true ∧ portEn (s 0 64 0).m 0 = false ∧ ok 0 64 0 = true ∧
    64 ≤ len 0 64 ∧ len 11 2048 ≤ 2048 ∧ ok 11 2048 0 = true ∧ len 0 63 < 64 ∧ 2048 < len 0 2049 ∧ ok 0 64 4 = false ∧
    bit 0#32 0 = false ∧ portEn (port 3 id).m 3 = true ∧ linkUp (port 3 id).m 3 = true := by decide +kernel

theorem wit_TrainingFallsBack :
    let s := port 0 fun x => { x with trial := some 0, trainDue := some 0 }
    s.live ∧ due (getPort s.m 0).trainDue s.m.tim.edge = true ∧ due (getPort idle.m 0).trainDue idle.m.tim.edge = false := by
  decide +kernel

theorem wit_LinksComeAndGo :
    let s := port 10 fun x => { x with trial := some 4 }
    (10#4).toNat < 12 ∧ s.live ∧ (getPort s.m 10).trial = some 4 ∧ 4 < 5 ∧ (getPort idle.m 10).trial = none ∧
    linkUp s.m 10 = true ∧ s.writable ∧ portEn s.m 10 = true := by decide +kernel

theorem wit_OpticPageIsShown :
    let o : Optic := { ident := 3, ddm := true, speeds := [] }
    let s := port 0 fun x => { x with optic := some o }
    s.live ∧ (getPort s.m 0).optic = some o ∧ o.ddm = true ∧ (getPort idle.m 0).optic = none ∧
    bits ((0x00010001#32) &&& ~~~ rd s.m (pr Reg.MAC_PORT_OPT_AW 0)) 15 0 ≠ 0 ∧
    bits ((0x00010001#32) &&& ~~~ rd s.m (pr Reg.MAC_PORT_OPT_AW 0)) 31 16 ≠ 0 := by decide +kernel

theorem wit_FramesReachTheBulkQueue :
    let s : State := up fun m =>
      { (sb (sb (wr (sb m (pr Reg.MAC_PORT_STAT 3) 0) Reg.MAC_PAIRMODE 0) (pr Reg.MAC_PORT_CFG 3) 8) (pr Reg.MAC_PORT_CFG 3) 7) with
        hif := { m.hif with rxPosts := [aPost] } }
    linkUp idle.m 3 = false ∧ s.live ∧ linkUp s.m 3 = true ∧ pairMode s.m 3 = 0 ∧ aFrame.body = .other ∧
    aFrame.stag = false ∧ aFrame.tag = none ∧ rb s.m (pr Reg.MAC_PORT_CFG 3) 8 = true ∧ rb s.m (pr Reg.MAC_PORT_CFG 3) 7 = true ∧
    isGroup aFrame.dst = true ∧ frameChecks s.m 3 aFrame = 0 ∧
    (s.m.mac.ports.foldl (fun a x => a + x.bulkQ.length) 0) < s.m.hif.rxPosts.length ∧
    bulkFill (getPort s.m 3) + aFrame.raw.length ≤ 65536 := by decide +kernel

theorem wit_HighestQueueGoesFirst :
    let s := port 0 fun x => { x with queues := setAt x.queues 4 [supFrame] }
    s.live ∧ linkUp s.m 0 = true ∧ (∃ i < 8, nextTx (getPort s.m 0) = some (i, supFrame)) ∧
    supFrame.body = .supervision false 0 ∧ nextTx (getPort (port 0 id).m 0) = none := by decide +kernel

theorem wit_PauseExpiresAndXoffRepeats :
    let w : RxWait := { port := 0, status := 0, clk := 0, tsNs := 0, tsFrac := 0, vid := 0, pcp := 0, origLen := 1500, data := List.replicate 16385 0 }
    let s := port 0 fun x => { x with held := setAt x.held 7 (some 0), bulkQ := [w], xoffDue := some 0 }
    s.live ∧ due ((getPort s.m 0).held.getD 7 none) s.m.tim.edge = true ∧
    due ((getPort idle.m 0).held.getD 7 none) idle.m.tim.edge = false ∧ due (getPort s.m 0).xoffDue s.m.tim.edge = true ∧
    16384 < bulkFill (getPort s.m 0) ∧ due (getPort idle.m 0).xoffDue idle.m.tim.edge = false := by decide +kernel

/-- Every pair at code 2 but (P8,P9) at 1; a code 3; a change of a pair with an enabled port; HSR for (P8,P9). -/
theorem wit_PairModesNodesAndSupervision :
    let s := up fun m => wr (wf (sb m Reg.MAC_PRP_CFG 0) Reg.MAC_PRP_CFG 15 8 1) Reg.MAC_PAIRMODE 1
    let e : NodeEnt := { pair := 0, src := 7, seqs := [], high := 0, heard := 0 }
    idle.writable ∧ (∀ q < 5, bits 0x1AA#32 (2 * q + 1) (2 * q) ≠ 3) ∧ bits 0x1AA#32 9 8 ≠ 2 ∧ (∀ p < 10, portEn idle.m p = false) ∧
    bits 3#32 1 0 = 3 ∧ bits 0x200#32 9 8 = 2 ∧
    bits 2#32 7 6 ≠ rf (port 7 id).m Reg.MAC_PAIRMODE 7 6 ∧ portEn (port 7 id).m 7 = true ∧
    s.live ∧ pairMode s.m 0 = 1 ∧ rb s.m Reg.MAC_PRP_CFG 0 = true ∧ rf s.m Reg.MAC_PRP_CFG 15 8 ≠ 0 ∧
    s.m.mac.supDue.getD 0 0 ≤ s.m.tim.edge ∧ e.heard = 0 := by decide +kernel

/-! ## Witnesses for the statements about sampled values and filter chains -/

/-- An enabled stream entry of RATE 2 with 16 channels from slot 0. -/
def anEntry : List Word := 0x00102001#32 :: List.replicate 15 0
def upSvi (f : Svi → Svi) : State := up fun m => { m with svi := f m.svi }
def upFpe (f : Fpe → Fpe) : State := up fun m => { m with fpe := f m.fpe }
def gridOn : State := upTim fun t => { t with grid := true }

theorem wit_SviWindow :
    idle.writable ∧ bit 0x80000000#32 12 = false ∧ bit 0x80001000#32 12 = true ∧ bit 0x80001000#32 14 = false ∧
    bit 0x80005000#32 14 = true ∧ gridOn.writable ∧ gridOn.m.tim.grid = true ∧ idle.m.tim.grid = false := by decide +kernel

theorem wit_SviRunsAndStops :
    let r := upSvi fun v => { v with running := true }
    gridOn.writable ∧ gridOn.m.svi.stopReq = false ∧ gridOn.m.svi.running = false ∧ gridOn.m.tim.grid = true ∧
    idle.m.tim.grid = false ∧ (upSvi fun v => { v with stopReq := true }).m.svi.stopReq = true ∧
    r.writable ∧ r.m.svi.stopReq = false ∧ r.m.svi.running = true := by decide +kernel

/-- The hold time at both ends and beyond each; rate codes 5 and 6; a buffer that 40 entries of RATE 6 overfill. -/
theorem wit_PlaneRateIsSetOrRefused :
    let s := upSvi fun v => { v with sub := (List.range 40).map fun i => (i, 0x00106001#32 :: List.replicate 15 0) }
    let fits (s : State) (data : Word) :=
      reserved (wr s.m Reg.SVI_PLANE (data &&& 0x0FFF0007#32)) (bits data 27 16) (gLatch s.m []) ((enabledSubs s.m).map (·.2))
    idle.writable ∧ ¬ (rb idle.m Reg.SVI_CTRL 0 = true ∨ idle.m.svi.running = true ∨ idle.m.cye.running = true) ∧
    bits 0x00140005#32 2 0 < 6 ∧ 20 ≤ bits 0x00140005#32 27 16 ∧ bits 0x0FA00000#32 27 16 ≤ 4000 ∧
    fits idle 0x00140005#32 = true ∧ fits idle 0x0FA00000#32 = true ∧ bits 0x00130000#32 27 16 < 20 ∧
    4000 < bits 0x0FA10000#32 27 16 ∧ 6 ≤ bits 0x00140006#32 2 0 ∧ fits s 0x0FA00000#32 = false ∧
    (upSvi fun v => { v with running := true }).m.svi.running = true := by decide +kernel

theorem wit_SilenceAndOverload :
    let q := upSvi fun v => { v with stat := [(1023, { SvStat.init 0 with state := 2 })], streams := [(1023, { SvStream.init 0 with silRun := 8 })] }
    let l := up fun m => { m with tim := { m.tim with edge := edgesS }, svi := { m.svi with decim := 1, lowSince := some 0 } }
    q.live ∧ (getStat q.m (1023#10).toNat).state = 2 ∧ rf q.m Reg.SVI_SILENT 7 0 ≤ (getStream q.m (1023#10).toNat).silRun ∧
    (getStat idle.m 0).state ≠ 2 ∧ 4 ≤ (upSvi fun v => { v with above := 4 }).m.svi.above ∧ idle.m.svi.above < 4 ∧
    l.m.svi.lowSince = some 0 ∧ 0 + edgesS ≤ l.m.tim.edge ∧
    [7, 6, 5, 4, 3, 2, 1, 0].find? (fun p => l.m.svi.decim.testBit p) = some 0 ∧ idle.m.svi.lowSince = none := by decide +kernel

theorem wit_FpeWindowReadsAndStages :
    let t (c : Word) := bits c 18 16
    let i (c : Word) := bits c 15 0
    (t 0x00011FFF#32 = 1 ∧ i 0x00011FFF#32 < 8192) ∧ t 0x0002FFFF#32 = 2 ∧ (t 0x000000FF#32 = 0 ∧ i 0x000000FF#32 < 256) ∧
    (profWords idle.m 255).length = 8 ∧ (t 0x0003003F#32 = 3 ∧ i 0x0003003F#32 < 64) ∧ (refCfg idle.m 63).length = 8 ∧
    (t 0x0004003F#32 = 4 ∧ i 0x0004003F#32 < 64) ∧ (refWords (getRef idle.m 63).rep).length = 8 ∧
    5 ≤ t 0x00050000#32 ∧ (t 0x00000100#32 = 0 ∧ 256 ≤ i 0x00000100#32) ∧ (t 0x00012000#32 = 1 ∧ 8192 ≤ i 0x00012000#32) ∧
    (t 0x00030040#32 = 3 ∧ 64 ≤ i 0x00030040#32) ∧ idle.writable ∧ idle.m.tim.grid = false ∧ gridOn.writable ∧
    gridOn.m.tim.grid = true := by decide +kernel

theorem wit_GlidesAndReferenceHold :
    let s := upSvi fun v => { v with sub := [(0, anEntry)] }
    let here (s : State) := (mappedSlots s.m).filter fun x => decide (slotProf s.m x.1 = 0)
    let cannot (b : Nat) : Bool := (here s).any fun x => decide (chainReason s.m x.1 b x.2 ≠ 0)
    let g : Glide := { src := 0, dst := 1, log2 := 10, slots := [5], k1 := some 0, ks := 0, j := 2 ^ 10 }
    let r := upFpe fun x => { x with refCfg := [(63, 1#32 :: List.replicate 7 0)], refs := [(63, { RefSt.init 0 with state := 3 })] }
    let late : State := up fun m => { m with fpe := r.m.fpe, tim := { m.tim with mt := 2000000000 * nsU } }
    s.writable ∧ s.m.fpe.glide = none ∧ here s ≠ [] ∧ cannot 1 = false ∧ cannot 16 = true ∧
    (∀ x ∈ here s, slotPh s.m x.1 = true → mOut (profWords s.m 0) (eN x.2) = mOut (profWords s.m 1) (eN x.2)) ∧
    bits 0x000A0100#32 19 16 ≤ 10 ∧ bits 0x000A0100#32 7 0 = 0 ∧ bits 0x000A0100#32 15 8 = 1 ∧
    (upFpe fun x => { x with glide := some g }).m.fpe.glide = some g ∧ g.j = 2 ^ g.log2 ∧ g.k1.isSome = true ∧
    bits 0x0000FF0F#32 7 0 = 15 ∧ bits 0x00000F00#32 15 8 = 15 ∧ bits 0x00000800#32 15 8 = 8 ∧ bits 0x00001000#32 15 8 = 16 ∧
    late.live ∧ fbit (refCfg late.m 63) 0 0 = true ∧ (getRef late.m 63).state = 3 ∧
    closeAt late.m (getRef late.m 63).holdTick + fld (refCfg late.m 63) 3 15 0 * 1000000 * unitNs ≤ nowU late.m ∧
    (getRef idle.m 63).state ≠ 3 := by decide +kernel

/-! ## Witnesses for the statements about gates and the cycle engine -/

def oneGate (g : Gate) (f : Pnm → Pnm) : State := up fun m => f { m with gte := { m.gte with gates := [(1023, g)] } }
def gateIn (st : Nat) : Gate := { Gate.init 0 with state := st }
def withGate (st action : Nat) (f : Pnm → Pnm) : State :=
  oneGate { gateIn st with w := [0#32, loW (65536 * action)] ++ List.replicate 8 0 } f

/-- A gate on an instant, ACTION 6, with the latest instant 1 ns; the bounds of R179: 10 µs before F, and one unit later. -/
theorem wit_GateWindow :
    let words : List Word := [0x00000001#32, 0x00060000#32, 0#32, 0#32, 0#32, 0#32, 1#32, 0#32, 0#32, 0#32]
    let s := up fun m => wrs (wf (sb m Reg.GTE_CTRL 0) (Reg.shr 0 1) 10 0 1) Reg.GTE_TBL_DATA words
    let z := up fun m => wrs m Reg.GTE_TBL_DATA (words.set 1 0x00030000#32)
    let c (f : Nat) := cancels (oneGate { gateIn 3 with f := f } id).m { gateIn 3 with f := f }
    s.writable ∧ gateZero (gateFrom (gteData s.m)) = false ∧ gateWindowCheck s.m 1023 (gateFrom (gteData s.m)) = 0 ∧
    gateZero (gateFrom (gteData z.m)) = true ∧
    gateWindowCheck idle.m 0 (gateFrom (gteData idle.m)) = 5 ∧ gateZero (gateFrom (gteData idle.m)) = false ∧
    (oneGate (gateIn 1) id).writable ∧ (getGate (oneGate (gateIn 1) id).m 1023).open' = true ∧
    updCheck (updWords 15 1000000000 0 0 1 (gateIn 1).w) = 0 ∧ updCheck (updWords 15 1000000001 0 0 1 (gateIn 1).w) ≠ 0 ∧
    (getGate (oneGate (gateIn 3) id).m 1023).open' = false ∧ cancels (oneGate (gateIn 1) id).m (gateIn 1) = true ∧
    c (10000 * nsU) = true ∧ c (10000 * nsU - 1) = false := by decide +kernel

theorem wit_GatesFireByRole :
    let role (st : Nat) (m : Pnm) : Pnm := wf m Reg.PAR_STAT 2 0 st
    let p := up fun m => { m with gte := { m.gte with pulses := [(15, 0)] } }
    let q := upTim fun t => { t with mt := 1000000 * nsU }
    let fires (s : State) := (getGate s.m 1023).output = false ∨ releases s.m = true
    (withGate 3 1 id).live ∧ (getGate (withGate 3 1 id).m 1023).state = 3 ∧ (getGate (withGate 3 1 id).m 1023).f ≤ (withGate 3 1 id).m.tim.mt ∧
    fires (withGate 3 1 id) ∧ ¬ fires (withGate 3 1 (role 3)) ∧ inMaint (withGate 3 1 (role 3)).m = false ∧
    ¬ fires (withGate 3 1 (role 6)) ∧ inMaint (withGate 3 1 (role 6)).m = true ∧
    (getGate (oneGate { gateIn 3 with f := 1 } id).m 1023).state = 3 ∧ (oneGate { gateIn 3 with f := 1 } id).m.tim.mt < 1 ∧
    (getGate (oneGate (gateIn 4) id).m 1023).state = 4 ∧ 0 + 1000000 * nsU ≤ q.m.tim.mt ∧ (getGate idle.m 1023).state ≠ 4 ∧
    p.m.gte.pulses.find? (fun p => decide (p.1 = (15#4).toNat ∧ p.2 ≤ idle.m.tim.mt)) = some (15, 0) ∧ idle.m.gte.pulses = [] := by
  decide +kernel

/-- A task of period 1 with DEADLINE 100 µs and BUDGET 50 µs, and SAFE where asked. -/
def aTask (safe : Bool) : List Word := [loW (1 + 4 * b2n safe), 1#32, 100000#32, 50000#32] ++ List.replicate 6 0
def aProg : Prog := { Prog.empty with rate := 3, hyper := 1, tasks := [aTask true] }
def aRun : Run := { ts := 0, tsNs := 0, dt := 0, dbl := false, ovr := false, img := [], skips := 2 }
def runs (t : TaskSt) (f : Pnm → Pnm) : State :=
  up fun m => f { m with cye := { m.cye with prog := some aProg, running := true, tasks := [(0, t)] } }
def aTv : TaskSt := { TaskSt.init 0 with state := 1 }
def cyeUp (f : Cye → Cye) : State := up fun m => { m with cye := f m.cye }

theorem wit_TasksStartOrSkip :
    (runs aTv id).live ∧ beforeSwitch (runs aTv id).m 0 = true ∧ startsNow (runs aTv id).m 0 = true ∧
    (getTask (runs aTv id).m 0).run = none ∧ startsNow (runs { aTv with run := some aRun } id).m 0 = true ∧
    (getTask (runs { aTv with run := some aRun } id).m 0).run = some aRun ∧ 3 ≤ aRun.skips + 1 ∧
    startsNow (runs { aTv with state := 3 } id).m 0 = false ∧ (liveTasks (runs { aTv with state := 3 } id).m).contains 0 = true ∧
    gridInstant (getTask (runs { aTv with state := 3 } id).m 0).next ≤ nowU idle.m ∧ nowU idle.m < gridInstant 1 := by
  decide +kernel

theorem wit_RunsCompleteOrOverrun :
    let at' (ns : Nat) (r : Run) : State := runs { aTv with run := some r } fun m => { m with tim := { m.tim with mt := ns * nsU } }
    let u (s : State) := gridInstant aRun.ts + runB s.m 0 aRun.dbl
    (at' 50000 aRun).live ∧ (getTask (at' 50000 aRun).m 0).run = some aRun ∧ (at' 0 aRun).m.cye.carry = none ∧ aRun.ovr = false ∧
    nowU (at' 50000 aRun).m ≤ u (at' 50000 aRun) ∧ u (at' 50000 aRun) ≤ nowU (at' 50000 aRun).m ∧
    nowU (at' 49999 aRun).m < u (at' 49999 aRun) ∧ tSafe ((cyeProg (at' 0 aRun).m).task 0) = true ∧
    tHalve ((cyeProg (at' 0 aRun).m).task 0) = false ∧ ({ aRun with ovr := true } : Run).ovr = true := by decide +kernel

theorem wit_OutputsAreReleased :
    let r : Rel := { at' := 0, safe := true, vals := [] }
    let e : List Word := [0x7#32, 5#32, 0#32, 0#32]
    let p : Prog := { aProg with tasks := [(aTask true).set 8 0x00010000#32], outmap := [e] }
    let s := cyeUp fun c => { c with prog := some p, running := true, tasks := [(0, { aTv with rel := [r] })] }
    s.live ∧ s.m.cye.running = true ∧ ((getTask s.m 0).rel.map (·.at')).filter (fun a => decide (a ≤ nowU s.m)) = [0] ∧
    dueRels s.m 0 = [(0, r)] ∧ (∃ v, relItems s.m 0 r = [(0, e, v)]) ∧ eKind e = 7 ∧ eIndex e = 5 ∧
    ((getTask (runs aTv id).m 0).rel.map (·.at')).filter (fun a => decide (a ≤ nowU idle.m)) = [] :=
  ⟨by decide +kernel, by decide +kernel, by decide +kernel, by decide +kernel, ⟨⟨0, 0x4001⟩, by decide +kernel⟩, by decide +kernel,
    by decide +kernel, by decide +kernel⟩

theorem wit_TasksReturnAndCoresFail :
    let s := runs { aTv with state := 2, returnRuns := 64 } fun m => { m with tim := { m.tim with edge := edgesS } }
    s.live ∧ (getTask s.m 0).state = 2 ∧ 64 ≤ (getTask s.m 0).returnRuns ∧ gridInstant (getTask s.m 0).next ≤ nowU s.m ∧
    startIndex s.m 0 (getTask s.m 0).next % 2 = 0 ∧ (getStep s.m 5).since + edgesS ≤ s.m.tim.edge ∧
    (getTask idle.m 0).state ≠ 2 ∧ (15#4).toNat < s.m.cye.cores.length ∧ 0 ∈ liveTasks s.m ∧
    tCore ((cyeProg s.m).task 0) = (0#4).toNat ∧ tCore ((cyeProg s.m).task 0) ≠ (15#4).toNat := by decide +kernel

/-- A program without tasks: its bodies, which only the compiled form gives (log entry 11), are then no condition. -/
def noTask : Prog := { aProg with tasks := [] }

theorem wit_ProgramsStartAndStop :
    let s (p : Prog) (grid : Bool) := up fun m => { m with tim := { m.tim with grid := grid }, cye := { m.cye with staged := some p } }
    let w := cyeUp fun c => { c with startAt := some 0, staged := some aProg }
    let st := cyeUp fun c => { c with prog := some aProg, running := true, stopAt := some 0 }
    (s noTask true).writable ∧ (s noTask true).m.cye.running = false ∧ (s noTask true).m.cye.startAt = none ∧
    startImage (s noTask true).m = some noTask ∧ imageRules (s noTask true).m noTask = none ∧ (s noTask true).m.tim.grid = true ∧
    (s noTask false).m.tim.grid = false ∧ startImage idle.m = none ∧
    imageRules (s { aProg with rate := 5 } true).m { aProg with rate := 5 } = some (2, 0) ∧
    w.live ∧ w.m.cye.startAt = some 0 ∧ startImage w.m = some aProg ∧ gridInstant 0 ≤ nowU w.m ∧ w.writable ∧
    (runs aTv id).m.cye.startAt = none ∧ (runs aTv id).m.cye.running = true ∧ (runs aTv id).m.cye.stopAt = none ∧
    idle.m.cye.running = false ∧ st.m.cye.stopAt = some 0 ∧ gridInstant 0 ≤ nowU st.m := by decide +kernel

/-- The last index of each table and the one beyond it; function 256 and 257. -/
theorem wit_HostWordsAreConfiguredAndWritten :
    let ref : CmdRef := { fn := 0, seq := 1, opcode := 2, acceptNs := 0, kick := false, unmirrored := false, reaccepted := false }
    let h : HostPend := { ref := ref, lock := none, word := 4095, value := 1, q := 0, target := some 0, accept := 0, late := false }
    let s := cyeUp fun c => { c with pend := [h] }
    (511 < cyeSize 0 ∧ 65535 < cyeSize 4 ∧ cyeSize 0 ≤ 512 ∧ cyeSize 5 ≤ 0) ∧ bits 0x00020FFF#32 18 16 = 2 ∧
    bits 0x00020FFF#32 15 0 < 4096 ∧ 4096 ≤ bits 0x00021000#32 15 0 ∧ bits 0x100#32 8 0 ≤ 256 ∧ 256 < bits 0x101#32 8 0 ∧
    (runs aTv id).writable ∧ (runs aTv id).m.cye.running = true ∧ s.live ∧ s.m.cye.running = false ∧
    s.m.cye.pend.filter (fun h => decide (h.word = (4095#12).toNat) && dueAtStart (nowU s.m + 1) h) = [h] := by decide +kernel

def lf (phase : Nat) (f : Cye → Cye) (mt : Nat) : State :=
  up fun m => setPhase phase { m with tim := { m.tim with mt := mt * nsU }, cye := f { m.cye with prog := some noTask, running := true } }
def exchAt (tb : Nat) (asked : Option Nat) : Exch := { tb := tb, map := [], askedAt := asked }
def aRef (op : Nat) : CmdRef := { fn := 0, seq := 1, opcode := op, acceptNs := 0, kick := false, unmirrored := false, reaccepted := false }

/-- The image `[]` is rejected; whether a whole image is staged rests on the signature check, a free function (log entry 8).
ABORT just before its limit, 2 µs before Tb, and at it. -/
theorem wit_ImagesAreStagedAndArmed :
    let l := lf 2 (fun c => { c with loading := some ([], aRef 0x41) }) 0
    let s := lf 3 (fun c => { c with staged := some noTask }) 0
    let r := lf 0 (fun c => { c with retained := some noTask }) 0
    let b := lf 3 (fun c => { c with staged := some { noTask with baseId := 7 } }) 0
    let a (ns : Nat) := lf 4 (fun c => { c with exch := some (exchAt ticksPerSec none) }) ns
    let p (e : Nat) := upTim fun t => { t with edge := e }
    l.live ∧ l.m.cye.loading = some ([], aRef 0x41) ∧ lfPhase l.m = 2 ∧ (match verifyImage l.m [] with | .error e => e.result | .ok _ => 0) = 2 ∧
    idle.m.cye.loading = none ∧ s.writable ∧ (a 0).m.cye.exch.isSome = true ∧ lfPhase (a 0).m = 4 ∧ s.m.cye.exch = none ∧
    lfPhase s.m = 3 ∧ r.m.cye.staged = none ∧ s.m.cye.retained = none ∧ s.m.cye.staged = some noTask ∧
    exchBad s.m noTask noTask.baseId noTask.map = none ∧ r.m.cye.retained = some noTask ∧
    exchBad r.m noTask (cyeProg r.m).progId (inverseMap r.m.cye.lastMap) = none ∧ (exchBad b.m { noTask with baseId := 7 } 7 []).isSome = true ∧
    (exchBad idle.m noTask (cyeProg idle.m).progId []).isSome = true ∧ mirroring s.m = false ∧ mirroring (paired s.m) = true ∧
    nowU (a 999997999).m + 2000 * unitNs < gridInstant ticksPerSec ∧ ¬ nowU (a 999998000).m + 2000 * unitNs < gridInstant ticksPerSec ∧
    lfPhase idle.m ≠ 3 ∧ (exchAt 0 (some 0)).askedAt = some 0 ∧ 0 + 100 * edgesMs ≤ (p (100 * edgesMs)).m.tim.edge ∧
    (p (100 * edgesMs - 1)).m.tim.edge < 0 + 100 * edgesMs := by decide +kernel

/-- An old run in progress at Tb - 2 µs and at Tb; the second and the third postponement. -/
theorem wit_TheSwitchHappensAtTb :
    let c (c : Cye) : Cye := { c with staged := some noTask, exch := some (exchAt ticksPerSec none) }
    let old (ns : Nat) := lf 4 (fun x => { c x with tasks := [(0, { aTv with run := some aRun })] }) ns
    let done (ns : Nat) := lf 4 c ns
    let third (k : Nat) : State := { old 999998000 with m := wf (old 999998000).m Reg.CYE_LF_STAT 5 4 k }
    let carry := cyeUp fun c => { c with carry := some [], old := some noTask }
    (old 0).live ∧ (old 0).m.cye.staged = some noTask ∧ oldRun (old 0).m = true ∧
    switchNear (old 999998000).m 2000 = some (exchAt ticksPerSec none) ∧ switchNear (old 1000000000).m 0 = some (exchAt ticksPerSec none) ∧
    rf (third 1).m Reg.CYE_LF_STAT 5 4 + 1 < 3 ∧ 3 ≤ rf (third 2).m Reg.CYE_LF_STAT 5 4 + 1 ∧ oldRun (done 0).m = false ∧
    switchNear (done 1000000000).m 0 = some (exchAt ticksPerSec none) ∧ (done 0).m.cye.staged = some noTask ∧
    switchNear (done 999999999).m 0 = none ∧ carry.m.cye.carry = some [] ∧ carry.m.cye.old = some noTask ∧
    idle.m.cye.carry = none := by decide +kernel

/-! ## Witnesses for the statements about publication, subscription and locks -/

def outUp (f : Out → Out) : State := up fun m => { m with out := f m.out }

/-- A PCB with one 16-bit member that a host may write, a command that changes it, and a retransmission that is due. -/
theorem wit_PublicationsAndRetransmissions :
    let x : PubItem := { member := 0, quality := 0, value := 7 }
    let h : HeldPub := { ref := aRef 8, lock := none, items := [x], target := 0, late := false }
    let p : PubSt := { PubSt.init 0 with on := true, vals := [(0, 0)], held := [h], nextTx := some 0 }
    let s := outUp fun o => { o with pub := [(1023, p)], pubDesc := [(0, 0x13#32)] }
    s.live ∧ sortBy (fun a b => decide (a.target ≤ b.target)) ((getPub s.m 1023).held.filter fun h => decide (h.target ≤ nowU s.m)) = [h] ∧
    h.items = [x] ∧ pubCounts s.m = true ∧ (getPub s.m 1023).merge ≠ some h.target ∧
    (putMember 1023 x.member.toNat 1 (fun t => hostTo t x.value) x.quality.toNat s.m).2 = true ∧ (getPub s.m 1023).on = true ∧
    due (getPub s.m 1023).nextTx (nowU s.m) = true ∧ (getPub idle.m 1023).on = false := by decide +kernel

theorem wit_SubscriptionsAndLocksRunOut :
    let l : Lock := { Lock.init 255 with state := 1, leaseEnd := 1 }
    let s (ns : Nat) := up fun m =>
      { m with tim := { m.tim with running := true, mt := ns * nsU },
               out := { m.out with subst := [(1023, { SubSt.init 0 with status := 2, deadline := some 0 })], locks := [(255, l)] } }
    (s 0).live ∧ (getSub (s 0).m 1023).status = 2 ∧ due (getSub (s 0).m 1023).deadline (nowU (s 0).m) = true ∧
    (getLock (s 1).m 255).state = 1 ∧ (getLock (s 1).m 255).leaseEnd ≤ nowNs (s 1).m ∧ leaseRuns (s 1).m = true ∧
    nowNs (s 0).m < (getLock (s 0).m 255).leaseEnd ∧ (getLock idle.m 255).state ≠ 1 := by decide +kernel

/-- The last index of a table and the one beyond it; a status table; a table that is not there. -/
theorem wit_OutWindowReadsAndStages :
    let t (c : Word) := bits c 20 17
    let i (c : Word) := bits c 16 0
    idle.writable ∧ i 0x000003FF#32 < outSize (t 0x000003FF#32) ∧ outSize (t 0x00000400#32) ≤ i 0x00000400#32 ∧ t 0x00020000#32 = 1 ∧
    t 0x00000000#32 = 0 ∧ outSize (t 0x001E0000#32) ≤ i 0x001E0000#32 ∧ t 0x001E0000#32 = 15 ∧ gridOn.m.tim.grid = true ∧
    gridOn.writable ∧ idle.m.tim.grid = false := by decide +kernel

/-! ## Witnesses for the statements about safety I/O -/

def sioUp (f : Sio → Sio) (g : Pnm → Pnm) : State := up fun m => g { m with sio := f m.sio }
/-- SIO runs at edge `e`, with entry `x` at index `i` of table `t`. -/
def sioOn (t i : Nat) (x : List Word) (e : Nat) (f : Sio → Sio) : State :=
  sioUp (fun s => f { s with tbl := [(32 * t + i, x)] }) fun m => { sb (sb m Reg.SIO_CTRL 0) Reg.SIO_STAT 0 with tim := { m.tim with edge := e } }
def aPair : PairSt := idle.m.sio.pairs.getD 0 { lockout := false, reason := 0, last := 0, defers := [0, 0], retry := [none, none], done := [0, 0], test := none }
def aTout : ToutSt := idle.m.sio.touts.getD 0 { cye := false, level := false, readback := false, fault := false, openLoad := false, reason := 0, wait := false, defers := 0, retry := none, done := 0, test := none }

/-- The bounds of 2 ms and of 100 ms. -/
theorem wit_InputsAreSampledAndSupervised :
    let s (e : Nat) := sioOn 0 0 [0, 0, 0, 0] e fun s => { s with differ := setAt s.differ 31 (some 0) }
    let f := sioUp (fun s => { s with agree := setAt s.agree 31 (some 0) })
      fun m => { wr m Reg.SIO_IN_FAULT 0x80000000#32 with tim := { m.tim with edge := 100 * edgesMs } }
    (s 0).live ∧ (s 0).m.sio.nextSample ≤ (s 0).m.tim.edge ∧ (sioUp (fun s => { s with nextSample := 1 }) id).m.tim.edge < 1 ∧
    (s 0).m.sio.differ.getD 31 none = some 0 ∧ 0 + 2 * edgesMs < (s (2 * edgesMs + 1)).m.tim.edge ∧ (inFault (s 0).m).testBit 31 = false ∧
    idle.m.sio.differ.getD 31 none = none ∧ f.live ∧ f.m.sio.agree.getD 31 none = some 0 ∧ 0 + 100 * edgesMs ≤ f.m.tim.edge ∧
    (inFault f.m).testBit 31 = true ∧ idle.m.sio.agree.getD 31 none = none := by decide +kernel

theorem wit_SafetyCyclesAndDemands :
    let s := sioOn 0 0 [0, 0, 0, 0] 0 fun s => { s with a := { s.a with dems := setAt s.a.dems 7 { DemSt.init with on := true } }, takeover := 1 }
    let r : State := { s with m := { s.m with tim := { s.m.tim with running := true } } }
    r.live ∧ r.m.tim.running = true ∧ r.m.sio.nextCycle ≤ nowNs r.m / 1000000 ∧ r.m.sio.takeover = 1 ∧ idle.m.tim.running = false ∧
    nowNs idle.m / 1000000 < (sioUp (fun s => { s with nextCycle := 1 }) id).m.sio.nextCycle ∧ s.live ∧
    (s.m.sio.a.dems.getD 7 DemSt.init).on = true ∧ sioRuns s.m = true ∧ (idle.m.sio.a.dems.getD 7 DemSt.init).on = false ∧
    s.writable := by decide +kernel

theorem wit_ChannelsWatchEachOther :
    let s := sioOn 0 0 [0, 0, 0, 0] 5 fun s => { s with toB := [.heartbeat 3], toA := [.heartbeat 3], a := { s.a with silentAt := some 5 } }
    let d := sioUp (fun s => { s with toB := [.demand 3] }) id
    let later := sioUp (fun s => { s with nextBeat := 1, b := { s.b with silentAt := some 1 } }) id
    s.live ∧ s.m.sio.nextBeat ≤ s.m.tim.edge ∧ later.m.tim.edge < later.m.sio.nextBeat ∧ s.m.sio.toB = [.heartbeat 3] ∧
    d.m.sio.toB = [.demand 3] ∧ s.m.sio.toA = [.heartbeat 3] ∧ due s.m.sio.a.silentAt s.m.tim.edge = true ∧
    rb s.m Reg.SIO_CTRL 0 = true ∧ due later.m.sio.b.silentAt later.m.tim.edge = false ∧ s.m.sio.nextRate ≤ s.m.tim.edge ∧
    (100#20).toNat ≤ 100 ∧ 100 < (101#20).toNat ∧ rb s.m Reg.SIO_STAT 1 = false := by decide +kernel

theorem wit_TimedOutputsFaultAndReset :
    let s := sioOn 1 15 [0x19#32, 0#32, 0#32, 0#32] 0 id
    s.m.sio.touts[15]? = some aTout ∧ s.live ∧ fbit (sioEntry s.m 1 15) 0 0 = true ∧ fbit (sioEntry s.m 1 15) 0 3 = true ∧
    aTout.test = none ∧ sioRuns s.m = true ∧ aTout.fault = false ∧ fbit (sioEntry idle.m 1 15) 0 3 = false ∧
    fbit (sioEntry s.m 1 15) 0 4 = true ∧ aTout.level = false ∧ aTout.openLoad = false ∧
    ({ aTout with level := true } : ToutSt).level = true ∧ s.writable := by decide +kernel

theorem wit_PairsLockOut :
    let s := sioOn 2 7 [1#32, 0#32, 0#32, 0#32] 0 id
    let f := sioOn 0 31 [0x1C#32, 1#32, 0#32, 0#32] edgesMs fun s => { s with fbSince := setAt s.fbSince 31 (some 0) }
    let l (reason : Nat) : PairSt := { aPair with lockout := true, reason := reason }
    let k (reason : Nat) := sioUp (fun s => { s with pairs := setAt s.pairs 7 (l reason) }) id
    s.live ∧ s.m.sio.pairs[7]? = some aPair ∧ sioRuns s.m = true ∧ fbit (sioEntry s.m 2 7) 0 0 = true ∧ aPair.test = none ∧
    aPair.lockout = false ∧ sioRuns idle.m = false ∧ fld (sioEntry f.m 0 31) 0 4 2 = 7 ∧ f.m.sio.pairs[7]? = some aPair ∧
    sioRuns f.m = true ∧ f.m.sio.fbSince.getD 31 none = some 0 ∧ 0 + fld (sioEntry f.m 0 31) 1 9 0 * edgesMs ≤ f.m.tim.edge ∧
    f.m.sio.fbBad.testBit 31 = false ∧ idle.m.sio.fbSince.getD 31 none = none ∧ (k 2).writable ∧ (k 2).m.sio.pairs[7]? = some (l 2) ∧
    bit 0x8000#32 (8 + 7) = true ∧ (l 2).test = none ∧ (0x80#8).toNat.testBit 7 = true ∧ (l 1).reason = 1 ∧ (l 5).reason = 5 ∧
    (∀ i < 32, fbDiffers (k 3).m i = true → fld (sioEntry (k 3).m 0 i) 0 4 2 ≠ 7) := by decide +kernel

theorem wit_EvaluationsRunOut :
    let s (v : EvSt) := sioOn 3 7 [1#32, 0#32, 5#32, 0#32] (5 * edgesMs + 1) fun s => { s with a := { s.a with evals := setAt s.a.evals 7 v } }
    let d : EvSt := { EvSt.init with disc := some 0 }
    let w : EvSt := { EvSt.init with step := 1 }
    let p : EvSt := { EvSt.init with pulse := some 0 }
    (s d).live ∧ sioRuns (s d).m = true ∧ (s d).m.sio.a.evals[7]? = some d ∧
    0 + fld (sioEntry (s d).m 3 7) 2 15 0 * edgesMs < (s d).m.tim.edge ∧ d.react = false ∧ EvSt.init.disc = none ∧
    (s w).m.sio.a.evals[7]? = some w ∧ w.selAt + fld (sioEntry (s w).m 3 7) 2 15 0 * edgesMs ≤ (s w).m.tim.edge ∧ EvSt.init.step ≠ 1 ∧
    due p.pulse (s p).m.tim.edge = true ∧ due EvSt.init.pulse (s p).m.tim.edge = false := by decide +kernel

/-- Channel B of pair 7, which is tested at 937.5 ms, and output 15, tested at 968.75 ms of each second. -/
theorem wit_TestPulses :
    let at' (t i : Nat) (x : Word) (ns : Nat) (f : Sio → Sio) : State :=
      { sioOn t i [x, 0, 0, 0] (300 * edgesUs) f with
        m := { (sioOn t i [x, 0, 0, 0] (300 * edgesUs) f).m with
               tim := { (sioOn t i [x, 0, 0, 0] (300 * edgesUs) f).m.tim with running := true, mt := ns * nsU } } }
    let p (x : PairSt) := at' 2 7 0x21#32 937500000 fun s => { s with pairs := setAt s.pairs 7 x }
    let o (x : ToutSt) := at' 1 15 0x5#32 968750000 fun s => { s with touts := setAt s.touts 15 x }
    let test (ch : Nat) (reset : Bool) : PairSt := { aPair with test := some { ch := ch, start := 0, reset := reset } }
    let on : ToutSt := { aTout with level := true }
    (p aPair).live ∧ (p aPair).m.sio.pairs[7]? = some aPair ∧ pairTestable (p aPair).m 7 = true ∧ (p aPair).m.tim.running = true ∧
    7 * 62500000 + b2n true * 500000000 ≤ nowNs (p aPair).m % 1000000000 ∧ aPair.done.getD (b2n true) 0 ≠ nowNs (p aPair).m / 1000000000 + 1 ∧
    ({ aPair with done := [1, 1] } : PairSt).done.getD 0 0 = nowNs (p aPair).m / 1000000000 + 1 ∧
    (test 0 false).test = some { ch := 0, start := 0, reset := false } ∧ 0 + 300 * edgesUs ≤ (p aPair).m.tim.edge ∧
    (p (test 0 false)).m.sio.pairs[7]? = some (test 0 false) ∧ (p (test 0 true)).m.sio.pairs[7]? = some (test 0 true) ∧
    (p (test 1 true)).m.sio.pairs[7]? = some (test 1 true) ∧
    due (({ aPair with retry := [none, some 0] } : PairSt).retry.getD (b2n true) none) (p aPair).m.tim.edge = true ∧
    (o on).m.sio.touts[15]? = some on ∧ toutTestable (o on).m 15 = true ∧ 31250000 + 15 * 62500000 ≤ nowNs (o on).m % 1000000000 ∧
    on.done ≠ nowNs (o on).m / 1000000000 + 1 ∧ edgeNear (o on).m 15 = false ∧
    ({ on with test := some 0 } : ToutSt).test = some 0 ∧ 0 + 20 * edgesUs ≤ (o on).m.tim.edge ∧
    due ({ aTout with retry := some 0 } : ToutSt).retry (o aTout).m.tim.edge = true ∧ aTout.test = none ∧ toutTestable (o aTout).m 15 = false := by
  decide +kernel

/-- A gate edge near a timed output. -/
theorem wit_TestPulsesDefer :
    let w : List Word := [0#32, 0x00010000#32, 0#32, 15#32] ++ List.replicate 6 0
    let s := sioOn 1 15 [0x5#32, 0, 0, 0] 0 fun s => { s with touts := setAt s.touts 15 { aTout with level := true } }
    let g (m : Pnm) : Pnm :=
      { m with tim := { m.tim with running := true, mt := 968750000 * nsU },
               gte := { m.gte with gates := [(0, { gateIn 3 with w := w, f := 968750000 * nsU })] } }
    edgeNear (g (sb s.m Reg.GTE_TOUT_CLAIM 15)) 15 = true ∧ toutTestable (g (sb s.m Reg.GTE_TOUT_CLAIM 15)) 15 = true := by
  decide +kernel

theorem wit_SafetyRunsStopsAndIsConfigured :
    let s (io ready : Bool) (crc : Nat) := up fun m =>
      wr (wf (wf m Reg.SIO_CTRL 1 1 (b2n io)) Reg.SIO_STAT 2 2 (b2n ready)) Reg.SIO_CFG_CRC (loW crc)
    let right := sioCrc idle.m
    let st := sioUp (fun s => { s with starting := true, tbl := [(71, [0x21#32, 0, 0, 0])] }) id
    let stopped := sioOn 0 0 [0, 0, 0, 0] 0 id
    (s true true right).writable ∧ rb (s true true right).m Reg.SIO_CTRL 0 = false ∧ rb (s true true right).m Reg.SIO_CTRL 1 = true ∧
    rb (s true true right).m Reg.SIO_STAT 2 = true ∧ sioCrc (s true true right).m = (rd (s true true right).m Reg.SIO_CFG_CRC).toNat ∧
    rb (s false true right).m Reg.SIO_CTRL 1 = false ∧ rb (s true false right).m Reg.SIO_STAT 2 = false ∧
    sioCrc (s true true (right + 1)).m ≠ (rd (s true true (right + 1)).m Reg.SIO_CFG_CRC).toNat ∧ st.live ∧ st.m.sio.starting = true ∧
    fbit (sioEntry st.m 2 7) 0 0 = true ∧ fbit (sioEntry st.m 2 7) 0 5 = true ∧ (0x80#8).toNat.testBit 7 = true ∧
    idle.m.sio.starting = false ∧ stopped.writable ∧ rb stopped.m Reg.SIO_CTRL 0 = true ∧
    (31 < sioSize 0 ∧ sioSize 3 ≤ 8 ∧ bits 0x0004001F#32 18 16 < 5 ∧ 5 ≤ bits 0x00050000#32 18 16) ∧
    fbit [0#32, 0, 0, 0] 0 0 = false ∧ fbit [1#32, 0, 0, 0] 0 0 = true ∧ sioCheck idle.m 3 0 [1#32, 0, 0, 0] ≠ 0 ∧
    sioCheck idle.m 1 15 [1#32, 0, 0, 0] = 0 := by decide +kernel

/-! ## Witnesses for the statements about commands, rings and functions -/

/-- The rings of function f: command, completion and event ring of 16 entries, all on. -/
def rings (f : Nat) (m : Pnm) : Pnm :=
  sb (wr (wr (wr (wr m (ringReg f 0 8) 4) (ringReg f 1 8) 4) (ringReg f 3 8) 4) (ringReg f 4 8) 4) (Reg.fn f 0) 0

/-- A module whose function f takes commands. -/
def fnUp (f : Nat) (g : Pnm → Pnm) : State :=
  up fun m => g (rings f { m with hif := { m.hif with vfEnable := true, numVf := 256, vfs := [(256, .inService)] } })

def hdr (seq : BitVec 32) (target : DWord) (late : Bool) : CmdHdr := { seq := seq, lateOk := late, target := target, dmaOk := true, kick := false }

/-- The premises of `Runs`. -/
def accepts (f : Nat) (h : CmdHdr) (op : Op) (s : State) : Bool := decide (Decides f h op s ∧ firstChecks s.m f h op = 0)

/-- The last VF, the first SEQ above its mark; statuses that take the mark and that do not. -/
theorem wit_CommandsAreDecided :
    let s := fnUp 256 id
    let h := hdr 1 0 false
    commandOf (.nop 256 h) = some (256, h, .nop) ∧ fnOn idle.m 256 = false ∧ accepts 256 h .nop s ∧
    Decides 256 (hdr 0 0 false) .nop s ∧ firstChecks s.m 256 (hdr 0 0 false) .nop = 0x10 ∧ consumes 0x10 = false ∧
    firstChecks s.m 256 (hdr 2 0 false) .nop = 0x11 ∧ firstChecks s.m 256 { h with dmaOk := false } .nop = 0x15 ∧
    Decides 256 { h with dmaOk := false } .nop s ∧ s.m.hif.cplDue = [] ∧ ringOn s.m 256 3 = true := by decide +kernel

def anyGate : List Word := [0x00000001#32, 0x00060000#32, 0#32, 0#32, 0#32, 0#32, 1#32, 0#32, 0#32, 0#32]

/-- The last host word, written at its target, late and before it. -/
theorem wit_HostWrites :
    let word (running : Bool) := fnUp 256 fun m =>
      { m with tim := { m.tim with running := true, mt := 1 * nsU },
               cye := { m.cye with running := running, words := [(4095, { HostWord.init 4095 with owner := 256, en := true })] } }
    let w (t : DWord) (late : Bool) (r : Bool) := accepts 256 (hdr 1 t late) (.hostWrite 4095 0 7) (word r)
    w 0 false false ∧ w 1 true false ∧ nowU (word false).m = 1 * unitNs ∧ w 2 false false ∧ w 0 false true ∧
    (word false).m.cye.running = false ∧ (word true).m.cye.running = true ∧ (getWord (word true).m 4095).en = true ∧
    (getWord (word true).m 4095).owner = 256 ∧ (word true).m.cye.pend = [] ∧ (getWord (word false).m 4095).en = true ∧
    (getWord (word false).m 4095).owner = 256 ∧ (word false).m.cye.pend = [] := by decide +kernel

/-- Gate 1023 of the PF, and the gate of VF 256, mapped and not. -/
theorem wit_GateCommands :
    let gates (f : Nat) (map : List (Nat × Nat × Nat)) (g : Gate) := fnUp f fun m =>
      wf (sb { m with gte := { m.gte with map := map, gates := [(1023, g)] } } Reg.GTE_CTRL 0) (Reg.shr f 1) 10 0 1
    let ended : Gate := { gateIn 8 with owner := 256 }
    let a (f : Nat) (l : BitVec 10) (s : State) := accepts f (hdr 1 0 false) (.gateArm anyGate l) s
    let room (f l : Nat) (s : State) := gateUse s.m f < gateShare s.m f ∧ (f = 0 ∨ l < gateShare s.m f)
    let vf := gates 256 [(256, 0, 1023)] ended
    let new := gates 256 [] ended
    let pf := gates 0 [] (gateIn 8)
    let upd := Op.gateUpdate 0 15 1000000000 0 0 1
    let u (st : Nat) := gates 256 [(256, 0, 1023)] { gateIn st with owner := 256 }
    let op (o : Op) (st : Nat) := accepts 256 (hdr 1 0 false) o (u st)
    gateZero (gateFrom anyGate) = false ∧ gateFieldCheck pf.m (gateFrom anyGate) = 0 ∧ a 0 1023 pf ∧ room 0 1023 pf ∧
    pfMay pf.m 1023 = true ∧ (getGate pf.m 1023).active = false ∧ rb pf.m Reg.GTE_CTRL 0 = true ∧ a 256 0 vf ∧ room 256 0 vf ∧
    mappedIdx vf.m 256 0 = some 1023 ∧ (getGate vf.m 1023).active = false ∧ gateFieldCheck vf.m (gateFrom anyGate) = 0 ∧
    a 256 0 new ∧ room 256 0 new ∧ mappedIdx new.m 256 0 = none ∧ gateAlloc new.m ≠ none ∧
    gateOf (u 1).m 256 0 = some 1023 ∧ (getGate (u 1).m 1023).open' = true ∧ updCheck (updWords 15 1000000000 0 0 1 (gateIn 1).w) = 0 ∧
    op upd 1 ∧ (getGate (u 3).m 1023).open' = false ∧ op upd 3 ∧ op (.gateCancel 0) 1 ∧
    cancels (u 1).m (getGate (u 1).m 1023) = true ∧ cancels (u 8).m (getGate (u 8).m 1023) = false ∧ op (.gateCancel 0) 8 ∧
    op (.gateRead 0 64) 8 ∧ (64#64).toNat % 64 = 0 := by decide +kernel

def pubUp (held : Nat) : State := fnUp 256 fun m =>
  { m with out := { m.out with
      pcb := [(1023, [0x1#32, 0x01000000#32] ++ List.replicate 14 0)], pubDesc := [(0, 0x13#32)],
      pub := [(1023, { PubSt.init 0 with on := true, vals := [(0, 0)],
                                         held := List.replicate held { ref := aRef 8, lock := none, items := [], target := unitNs, late := false } })] } }

/-- The whole list length, the last PCB, targets of now and of 10 s ahead, and the eighth place of its held commands. -/
theorem wit_PublishCommands :
    let x : PubItem := { member := 0, quality := 0, value := 7 }
    let s := pubUp 7
    let p (t : DWord) := accepts 256 (hdr 1 t false) (.publish 256 1023 [x]) s
    (256#9 ≠ 0#9) ∧ x.member.toNat < pMembers (pcbEntry s.m 1023) ∧ dWriter (pDesc s.m (pcbEntry s.m 1023) 0) = 1 ∧
    pEn (pcbEntry s.m 1023) = true ∧ pOwner (pcbEntry s.m 1023) = 256 ∧ p 10000000000 ∧ 10000000000 * unitNs ≤ nowU s.m + 10 * unitS ∧
    nowU s.m < 1 * unitNs ∧ (getPub s.m 1023).held.length = 7 ∧ p 0 ∧ pubCounts s.m = true ∧
    (getPub s.m 1023).merge ≠ some (nowU s.m) ∧ (putMember 1023 0 1 (fun t => hostTo t 7) 0 s.m).2 = true := by decide +kernel

def lockUp (l : List (Nat × Lock)) : State := fnUp 256 fun m =>
  wf { m with out := { m.out with locks := l },
              cye := { m.cye with words := [(4095, { HostWord.init 4095 with owner := 256, en := true })] } } (Reg.shr 256 1) 24 16 1

/-- Leases of 10 ms and 600,000 ms; the last lock, free, the function's own, and another's. -/
theorem wit_LockCommands :
    let mine (owner : Nat) : Lock := { Lock.init 0 with state := 1, owner := owner, obj := 5, leaseEnd := 1 }
    let others := (List.range 255).map fun k => (k, { mine 0 with obj := 6 + k })
    let free := lockUp others
    let own := lockUp [(255, mine 256)]
    let alien := lockUp [(255, mine 0)]
    let h := hdr 1 0 false
    let e : Emb := { op := .hostWrite 4095 0 7, lateOk := false, target := 1 }
    badLease 10 = false ∧ badLease 600000 = false ∧ lockOf free.m 5 = none ∧ freeLock free.m = some 255 ∧
    lockUse free.m 256 < lockShare free.m 256 ∧ accepts 256 h (.lockSelect 5 10 true) free ∧ lockOf own.m 5 = some 255 ∧
    (getLock own.m 255).owner = 256 ∧ (getLock own.m 255).state = 1 ∧ accepts 256 h (.lockSelect 5 600000 false) own ∧
    accepts 256 h (.lockRenew 5 10) own ∧ lockOf alien.m 5 = some 255 ∧ (getLock alien.m 255).owner ≠ 256 ∧
    accepts 256 h (.lockSelect 5 10 true) alien ∧ accepts 256 h (.lockRenew 5 10) alien ∧ accepts 256 h (.lockCancel 5) own ∧
    accepts 256 h (.lockCancel 5) alien ∧ accepts 256 h (.lockOperate 5 e) own ∧ (getWord own.m 4095).en = true ∧
    (getWord own.m 4095).owner = 256 ∧ own.m.cye.pend = [] ∧ nowU own.m < 1 * unitNs ∧ accepts 256 h (.lockOperate 6 e) own ∧
    lockOf own.m 6 = none ∧ accepts 256 h (.lockCancel 6) own := by decide +kernel

def seg0 : Seg := { base := 0, en := true, size := 3, grant := 0, last := 511, clearing := none }
def capUp (caps : List (Nat × Cap)) : State := fnUp 0 fun m =>
  sb { m with svi := { m.svi with sub := [(1023, 0x00010001#32 :: List.replicate 15 0)] },
              cap := { m.cap with segs := [(65535, seg0)], caps := caps } } Reg.CAP_CTRL 0
def anyArm : CapArm :=
  { streams := [1023], streamCount := 1, mode := 0, chain := false, fullPol := false, trigMask := 0x10000#18, recSamples := 1,
    pos := 0, firstSeg := 65535, segCount := 1, autoTmoMs := 0 }

/-- The last stream and the last segment; a capture armed and triggered, in the last context. -/
theorem wit_CaptureCommandsRun :
    let c (st : Nat) : Cap := { Cap.init 31 with state := st, mask := 2 ^ 16, seg0 := 65535, segN := 1,
                                                 cur := { Rec.init with segFirst := 65535, span := 1 } }
    let h := hdr 1 0 false
    (armCheck 0 anyArm (capUp []).m).1 = 0 ∧ accepts 0 h (.captureArm anyArm) (capUp []) ∧
    (armCheck 0 { anyArm with segCount := 2 } (capUp []).m).1 ≠ 0 ∧ accepts 0 h (.captureArm { anyArm with segCount := 2 }) (capUp []) ∧
    (getCap (capUp [(31, c 1)]).m 31).state = 1 ∧ (getCap (capUp [(31, c 1)]).m 31).owner = 0 ∧
    accepts 0 h (.captureDisarm 31) (capUp [(31, c 1)]) ∧ accepts 0 h (.captureDisarm 31) (capUp [(31, c 2)]) ∧
    (getCap (capUp [(31, c 2)]).m 31).state = 2 ∧ (getCap (capUp []).m 31).state = 0 ∧ accepts 0 h (.captureForce 31) (capUp []) ∧
    accepts 0 h (.captureDisarm 31) (capUp []) ∧ (getCap (capUp [(31, c 1)]).m 31).mask.testBit 16 = true ∧
    accepts 0 h (.captureForce 31) (capUp [(31, c 1)]) := by decide +kernel

/-- A container of one entry: its kind, the first index, and the entry; its signature is not one that is checked here. -/
def container (kind first : Nat) (e : List Word) : List Byte :=
  let l := leBytes 4 0x54425A4D ++ [1, 0, BitVec.ofNat 8 kind, 0] ++ leBytes 4 244 ++ leBytes 4 1 ++ leBytes 4 first ++
    List.replicate 44 0 ++ bytesOf e ++ List.replicate 112 0
  l ++ leBytes 4 (crc32c l)

/-- The import of a wrapping key in the clear, into slot 255 (KEY table 6). -/
def importBytes : List Byte :=
  leBytes 4 0x4B425A4D ++ [1, 0, 64, 0] ++ leBytes 4 0x01FF00FF ++ leBytes 4 0x01FF0056 ++ List.replicate 24 0 ++ [32] ++
    List.replicate 23 0 ++ List.replicate 48 0

/-- Whether a container passes its checks rests on its signature alone, which is a free function (log entry 8). -/
theorem wit_ManagementCommandsRun_subscriptions (h : imageSigned (fnUp 0 id).m (container 1 1023 (List.replicate 16 0)) = true) :
    containerBad (fnUp 0 id).m (container 1 1023 (List.replicate 16 0)) = 0 ∧
    containerEntries (container 1 1023 (List.replicate 16 0)) = [(1023, List.replicate 16 0)] ∧
    ∀ k, subsBad [(1023, List.replicate 16 0)] k = none := by
  refine ⟨?_, by decide +kernel, fun k => rfl⟩
  unfold containerBad
  rw [h]
  decide +kernel

theorem wit_ManagementCommandsRun :
    let h := hdr 1 0 false
    let s := fnUp 0 fun m => { m with tim := { m.tim with grid := true } }
    let c1 := container 1 1023 (List.replicate 16 0)
    let lf (n : Nat) := fnUp 0 (setPhase n)
    let vf := fnUp 0 fun m => { m with hif := { m.hif with vfs := [(256, .disabled)] } }
    let pos : KeyPos := { KeyPos.none with present := true }
    let key (p0 : KeyPos) := fnUp 0 fun m =>
      { m with key := { m.key with lc := 1, slots := [(511, { KeySlot.init 0 with state := 1, p0 := p0 })] } }
    let maint := fnUp 0 fun m => wf { m with key := { m.key with lc := 1 } } Reg.PAR_STAT 2 0 6
    let dia (l : List SelfTest) := fnUp 0 fun m => { m with tel := { m.tel with dia := { m.tel.dia with queue := l } } }
    let t (st : Option Nat) : SelfTest :=
      { ref := aRef 0x47, kind := 1, index := 0, firstSeg := 0, segCount := 0, tmoS := 1, slices := 0, left := 0, started := st }
    accepts 0 h (.tableLoad 244 c1) s ∧ s.m.svi.load = none ∧ bytesAt c1 0 244 = c1 ∧ leAt c1 6 1 = 1 ∧ s.m.tim.grid = true ∧
    leAt (container 2 1023 (anyGate ++ List.replicate 6 0)) 6 1 = 2 ∧
    accepts 0 h (.imageLoad 1 []) (lf 0) ∧ lfPhase (lf 0).m = 0 ∧ accepts 0 h (.imageLoad 1 []) (lf 3) ∧ lfPhase (lf 3).m = 3 ∧
    accepts 0 h (.vfSeqReset 256) vf ∧ vfState vf.m 256 = .disabled ∧ accepts 0 h (.shareRevoke 256 4 false) vf ∧
    useOf vf.m 256 3 ≤ shareOf vf.m 256 3 ∧
    accepts 0 h (.keyImport 112 importBytes) maint ∧ rf maint.m Reg.KEY_MIG_STAT 1 0 = 0 ∧ (importCheck maint.m 112 importBytes).1 = 0 ∧
    (getSlot (key pos).m 511).state = 1 ∧ accepts 0 h (.keyRetire 511 2) (key pos) ∧ (getSlot (key pos).m 511).p0.present = true ∧
    accepts 0 h (.keyRetire 511 3) (key pos) ∧ KeyPos.none.present = false ∧
    accepts 0 h (.selftest 2 15 0 0 3600) (dia []) ∧ accepts 0 h (.selftest 1 0 0 0 1) (dia [t (some 0)]) ∧
    accepts 0 h (.selftest 1 0 0 0 1) (dia [t none]) ∧ (t (some 0)).started.isSome = true ∧ (dia []).m.tel.dia.queue = [] ∧
    accepts 0 h (.journalRead 64 4096 false 0) s ∧ accepts 0 h (.journalRead 0 67108864 true 1) s ∧ 67108864 ≤ 64 * 2 ^ 20 := by
  decide +kernel

/-- Indices at their limits; a read outstanding; a kick 10 µs after the last one, and one edge later; rings whose registers pass
the checks, and rings without sizes. -/
theorem wit_RingsAreEnabledAndServed :
    let d (c : BitVec 32) : Doorbell := { cmdProd := c, bulkProd := 16, planeProd := 0, cplCons := 0, evtCons := 0, mirCons := 0 }
    let s (f : Hif → Hif) := fnUp 256 fun m => { m with hif := f m.hif }
    let polled := s fun h => { h with dbWait := [256] }
    let kicked := s fun h => { h with kickWait := [256] }
    let fetching := s fun h => { h with fns := [(256, { FnState.init 256 with inFetch := 1 })] }
    let kick (e : Nat) := fnUp 256 fun m =>
      sb (sb { m with tim := { m.tim with edge := e },
                      hif := { m.hif with fns := [(256, { FnState.init 256 with kickEdge := 1 })] } } (Reg.fn 256 0) 1) Reg.HIF_CTRL 0
    let off (f : Pnm → Pnm) := fnUp 256 fun m => f (wr m (Reg.fn 256 0) 0)
    polled.live ∧ fnOn polled.m 256 = true ∧ 256 ∈ polled.m.hif.dbWait ∧ beyond polled.m 256 0 16 = false ∧ beyond polled.m 256 0 17 = true ∧
    (∀ r < 6, ringOn polled.m 256 r = true → beyond polled.m 256 r ((dbFields (d 16)).getD r 0) = false) ∧ 256 ∈ kicked.m.hif.kickWait ∧
    (∀ r < 6, ringOn kicked.m 256 r = true → beyond kicked.m 256 r ((dbFields (d 0)).getD r 0) = false) ∧
    ¬ (256 ∈ (s id).m.hif.dbWait ∨ 256 ∈ (s id).m.hif.kickWait) ∧ fnOn idle.m 256 = false ∧
    (getFn (s id).m 256).inFetch = 0 ∧ (getFn fetching.m 256).inFetch ≠ 0 ∧ mirroring fetching.m = false ∧
    (hdr 1 0 false).kick = false ∧ (getFn fetching.m 256).cmds = [] ∧
    (kick 0).writable ∧ rb (kick 0).m (Reg.fn 256 0) 1 = true ∧ rb (kick 0).m Reg.HIF_CTRL 0 = true ∧ hifFetches (kick 0).m = true ∧
    (getFn (kick (2 + 10 * edgesUs)).m 256).kickEdge + 10 * edgesUs < (kick (2 + 10 * edgesUs)).m.tim.edge ∧
    ¬ ((getFn (kick (1 + 10 * edgesUs)).m 256).kickEdge = 0 ∨
      (getFn (kick (1 + 10 * edgesUs)).m 256).kickEdge + 10 * edgesUs < (kick (1 + 10 * edgesUs)).m.tim.edge) ∧
    (off id).writable ∧ vfState (off id).m 256 = .inService ∧ fnOn (off id).m 256 = false ∧ enableCheck (off id).m 256 = 0 ∧
    (getFn (off id).m 256).backlog = [] ∧ enableCheck (off fun m => wr m (ringReg 256 0 8) 0).m 256 ≠ 0 ∧
    fnOn (off fun m => wr m (ringReg 256 0 8) 0).m 256 = false ∧ rb (kick 0).m (Reg.fn 256 0) 1 = true ∧
    fnOn (kick 0).m 256 = true ∧ vfState (kick 0).m 256 = .inService ∧ vfState idle.m 256 ≠ .inService := by decide +kernel

theorem wit_TheAcceptanceInstantDecides :
    let x : Fetched := { hdr := hdr 1 0 false, op := .nop, ready := true, sent := false, acked := false }
    let s (a : Nat) (st : List (Nat × Nat × Nat × Nat × Nat)) := up fun m =>
      { m with tim := { m.tim with edge := 2 * edgesUs }, hif := { m.hif with accAt := some a, staged := st } }
    let c := fnUp 0 fun m => { m with hif := { m.hif with accAt := some 0, vfs := [], fns := [(0, { FnState.init 0 with cmds := [x] })] } }
    (s 1 []).live ∧ nowU (s 1 []).m < 1 ∧ 0 ≤ nowU (s 0 []).m ∧ (s 0 []).m.hif.svcReq = [] ∧ (s 0 []).m.glb.maintReq = none ∧
    (s 0 []).m.par.commits = [] ∧ (s 0 []).m.par.tx = none ∧ pairState (s 0 []).m = 0 ∧ (s 0 []).m.out.locks = [] ∧
    (Lock.init 0).state ≠ 1 ∧ (s 0 []).m.hif.fns = [] ∧ fnOn (s 0 []).m 0 = false ∧ (s 0 []).m.regs = [] ∧
    (s 0 [(256, 3, 64, 0, 0)]).m.hif.staged = [(256, 3, 64, 0, 0)] ∧
    0 + 2 * edgesUs ≤ (s 0 [(256, 3, 64, 0, 0)]).m.tim.edge ∧ c.live ∧ c.m.hif.cplDue = [] ∧ vfList c.m = [] ∧ c.m.hif.staged = [] ∧
    accepts 0 (hdr 1 0 false) .nop c ∧ (getFn c.m 0).cmds = [x] := by decide +kernel

/-- The largest bulk read, the shortest and the longest frame, the receive buffers of 64 and 4,096 bytes; the last requesters. -/
theorem wit_BulkTransfersAreArbitrated :
    let p (f : Nat) (x : FnState) (g : Pnm → Pnm) := fnUp f fun m =>
      g { m with hif := { m.hif with fns := [(f, x)] }, cap := { m.cap with segs := [(0, { seg0 with size := 4095, grant := f })] } }
    let ask : FnState := { FnState.init 0 with bulkIdx := 1 }
    let v := p 256 ask id
    let z := p 0 ask fun m => sb (wf m (Reg.port Reg.MAC_PORT_CFG 10) 27 16 1522) (pr Reg.MAC_PORT_CTRL 10) 0
    let fly (q n : Nat) := up fun m => { m with hif := { m.hif with inFlight := [(q, 0, n)] } }
    let b : Bulk := { tag := 0, op := 1, port := 0, pcp := 0, tsReq := false, hostAddr := 0, modAddr := 0, len := 4096, moved := 0,
                      data := [], acceptNs := 0, status := 0 }
    let rd' (len n : Nat) := p 256 { ask with bulks := [{ b with len := len }] } fun m => { m with hif := { m.hif with inFlight := [(256, 0, n)] } }
    let jr : JRead := { ref := aRef 0x48, addr := 0, len := 4096, birth := false, start := 0, missed := false, count := 0, left := 4096,
                        freezeDue := none, early := none }
    let j := up fun m => { m with hif := { m.hif with inFlight := [(266, 0, 4096)] }, tel := { m.tel with jnl := { m.tel.jnl with reads := [jr] } } }
    let arb (q at' : Nat) := up fun m =>
      { m with tim := { m.tim with edge := 40 }, hif := { m.hif with arbAt := at', arb := [(q, { ArbReq.init q with pending := 1 })] } }
    let full := up fun m => { m with tim := { m.tim with edge := 40 }, hif := { m.hif with inFlight := List.replicate 16 (256, 0, 1) } }
    let old (q e : Nat) (st : Bool) := up fun m =>
      { m with tim := { m.tim with edge := e }, hif := { m.hif with arb := [(q, { ArbReq.init q with since := some 0, starved := st })] } }
    v.live ∧ (getFn v.m 256).bulks = [] ∧ ringOn v.m 256 1 = true ∧ (getFn v.m 256).modIdx.getD 1 0 < (getFn v.m 256).bulkIdx ∧
    mayRead v.m 256 0 (64 * 2 ^ 20) = true ∧ mayRead v.m 256 (64 * 2 ^ 20) 1 = false ∧
    ¬ (ringOn (fnUp 256 id).m 256 1 = true ∧ (getFn (fnUp 256 id).m 256).modIdx.getD 1 0 < (getFn (fnUp 256 id).m 256).bulkIdx) ∧
    (getFn z.m 0).bulks = [] ∧ ringOn z.m 0 1 = true ∧ (getFn z.m 0).modIdx.getD 1 0 < (getFn z.m 0).bulkIdx ∧
    rf z.m (Reg.port Reg.MAC_PORT_CFG 10) 27 16 - 4 = 1518 ∧ portEn z.m 10 = true ∧
    (∀ y ∈ idle.m.hif.inFlight, y.1 ≠ 266) ∧ (fly 257 1).glbLive ∧ lfPhase (fly 257 1).m ≠ 1 ∧
    lfPhase { (fly 257 1).m with regs := (setPhase 1 idle.m).regs } = 1 ∧ (getArb (fly 257 1).m 257).pending = 0 ∧
    (fly 265 1).m.hif.inFlight = [(265, 0, 1)] ∧ j.m.hif.inFlight = [(266, 0, 4096)] ∧ j.m.tel.jnl.reads = [jr] ∧
    (getFn (rd' 4096 4096).m 256).bulks = [b] ∧ b.len ≤ b.moved + 4096 ∧ b.moved + 4096 < 4097 ∧
    (getFn (rd' 4097 4096).m 256).bulks = [{ b with len := 4097 }] ∧ mayRead (rd' 4097 4096).m 256 4096 1 = true ∧
    (arb 266 1).m.tim.edge / 40 ≤ (arb 266 1).m.hif.arbAt ∧ (arb 266 0).m.hif.arbAt < (arb 266 0).m.tim.edge / 40 ∧
    arbPending (arb 266 0).m 266 = true ∧ (∀ q < 267, q ≠ 266 → arbPending (arb 266 0).m q = false) ∧
    (∀ q < 267, arbPending full.m q = false) ∧ 16 ≤ full.m.hif.inFlight.length ∧ (arb 266 0).m.hif.inFlight.length < 16 ∧
    rf idle.m (Reg.HIF_ARB_CFG + 8 * 266) 31 16 = 1000 ∧ (getArb (old 266 625000 false).m 266).since = some 0 ∧
    0 + 1000 * edgesUs ≤ (old 266 625000 false).m.tim.edge ∧ ¬ 0 + 1000 * edgesUs ≤ (old 266 624999 false).m.tim.edge ∧
    (getArb (old 266 625000 true).m 266).starved = true := by decide +kernel

theorem wit_FunctionsComeAndGo :
    let s (st : VfState) := up fun m => { m with hif := { m.hif with vfEnable := true, numVf := 256, vfs := [(256, st)] } }
    let busy := up fun m => { m with hif := { m.hif with fns := [(256, { FnState.init 0 with flrBusy := true })] } }
    idle.live ∧ idle.m.hif.vfEnable = false ∧ (s .disabled).m.hif.vfEnable = true ∧ (s .disabled).m.hif.numVf ≤ 256 ∧ (s .disabled).writable ∧
    vfState (s .disabled).m 256 ≠ .absent ∧ vfState idle.m 256 = .absent ∧ 256 < (257#9).toNat ∧
    shareCheck idle.m 256 1 0x01000401#32 = 1 ∧ shareCheck idle.m 256 1 0x01000400#32 = 0 ∧ shareCheck idle.m 256 2 64#32 = 0 ∧ shareCheck idle.m 256 3 0x10001#32 = 1 ∧
    vfState (s .inService).m 256 = .inService ∧ vfState (s .disabled).m 256 = .disabled ∧ (getFn busy.m 256).flrBusy = true ∧
    (getFn idle.m 256).flrBusy = false ∧ idle.glbLive := by decide +kernel
def gateEntry : List Word := anyGate ++ List.replicate 6 0

def gatePf : State := fnUp 0 fun m => wf (sb m Reg.GTE_CTRL 0) (Reg.shr 0 1) 10 0 1
/-- The one gate of a container is taken in every state that differs from `gatePf` in the mark of a function at most. -/
theorem wit_ManagementCommandsRun_gates (k : Pnm) (h : k.gte = gatePf.m.gte) (hr : ∀ o, o ≠ Reg.HIF_ACCEPTED → rd k o = rd gatePf.m o) :
    (gateLoad 1023 [gateEntry] k).2 = none := by
  have e1 : gateFieldCheck k (gateFrom (gateEntry)) = 0 := by
    have hm : (gateFrom (gateEntry)).mode = true := by decide
    have ha : (gateFrom (gateEntry)).action = 6 := by decide
    have hg : ¬ argTop 6 < (gateFrom (gateEntry)).arg := by decide
    have hc : ¬ 1000000000 < (gateFrom (gateEntry)).comp := by decide
    have hl : ¬ (gateFrom (gateEntry)).latest ≤ (gateFrom (gateEntry)).earliest := by decide
    simp [gateFieldCheck, ha, hm, hg, hc, hl]
  have e2 : rb k Reg.GTE_CTRL 0 = true := by
    unfold rb; rw [hr _ (by decide)]; decide
  have e3 : pfMay k 1023 = true := by
    unfold pfMay inProg isMapped progBase progCount getGate rf; rw [h, hr _ (by decide)]; decide
  have e4 : (getGate k 1023).active = false := by unfold getGate; rw [h]; decide
  have e5 : ¬ gateShare k 0 ≤ gateUse k 0 := by unfold gateShare gateUse rf; rw [h, hr _ (by decide)]; decide
  have z : gateZero (gateFrom (gateEntry)) = false := by decide
  simp [gateLoad, gateWindowCheck, e1, e2, e3, e4, e5, z]

/-! ## Witnesses for the statements about keys -/

def keyUp (f : Key → Key) : State := up fun m => { m with key := f m.key }
def aSlot (st : Nat) : KeySlot := { KeySlot.init 0 with state := st }

/-- Slot 511; NOT_AFTER one ns past, and not yet past. -/
theorem wit_KeyUpdatesCommitAndExpire :
    let u (r : Option CmdRef) : KeyUpd := { slot := 511, new := aSlot 1, ref := r }
    let s (st : Nat) (r : Option CmdRef) := keyUp fun k => { k with slots := [(511, aSlot st)], updates := [u r] }
    let p : KeyPos := { KeyPos.none with present := true, notAfter := 1 }
    let x (ns : Nat) := up fun m =>
      { m with tim := { m.tim with running := true, mt := ns * nsU }, key := { m.key with slots := [(511, { aSlot 1 with p0 := p })] } }
    (s 0 none).live ∧ (s 0 (some (aRef 0x45))).m.key.updates = [u (some (aRef 0x45))] ∧ (u (some (aRef 0x45))).ref.isSome = true ∧
    (getSlot (s 1 none).m 511).state = 1 ∧ (getSlot (s 2 none).m 511).state ≠ 1 ∧ (u none).ref = none ∧ idle.m.key.updates = [] ∧
    (x 2).m.tim.running = true ∧ (getSlot (x 2).m 511).state = 1 ∧ (getSlot (x 2).m 511).p0 = p ∧ p.notAfter < nowNs (x 2).m ∧
    ¬ p.notAfter < nowNs (x 1).m ∧ usable (x 2).m false (getSlot (x 2).m 511) = [] ∧ 511 ∉ (x 2).m.key.expired ∧
    idle.m.tim.running = false := by decide +kernel

theorem wit_MeasurementExtensionAndTheKeyWindow :
    let s := up fun m => wr m Reg.KEY_MR3_COUNT 0xFFFFFFFF#32
    let maint := up fun m => wf m Reg.PAR_STAT 2 0 6
    let t (c : Word) := bits c 18 16
    let i (c : Word) := bits c 8 0
    idle.writable ∧ rd idle.m Reg.KEY_MR3_COUNT ≠ 0xFFFFFFFF#32 ∧ rd s.m Reg.KEY_MR3_COUNT = 0xFFFFFFFF#32 ∧
    idle.m.key.mr[3]? = some (List.replicate 48 0) ∧ t 0x000401FF#32 < 5 ∧ 5 ≤ t 0x00050000#32 ∧ t 0x00040002#32 = 4 ∧
    i 0x00040002#32 ≤ 2 ∧ 2 < i 0x00040003#32 ∧ inMaint maint.m = true ∧ maint.writable ∧ inMaint idle.m = false ∧ t 0#32 ≠ 4 := by
  decide +kernel

/-- Transitions with and without what they need. Whether a token is signed, and whether the variant is a -K module, are free
(log entries 3 and 8): a zero seed is the seed of a module that is none, another that of one that is. -/
theorem wit_StatementsAndTheLifeCycle :
    let att := keyUp fun k => { k with att := some [] }
    let own := keyUp fun k => { k with rootOk := true, lc := 2 }
    let lc (magic dest : Nat) (role : Nat) (seed : Word) := up fun m =>
      wr (wf { m with key := { m.key with lc := 1, table4 := setAt m.key.table4 32 seed } } Reg.PAR_STAT 2 0 role) Reg.KEY_LC_REQ
        (loW (magic * 65536 + dest))
    let q (s : State) := rf s.m Reg.KEY_LC_REQ 2 0
    let seed (s : State) := bytesAt (table4Bytes s.m) 128 32
    let er := keyUp fun k => { k with erase := some 4 }
    idle.writable ∧ idle.m.key.att = none ∧ idkPresent own.m = true ∧ own.m.key.att = none ∧ att.m.key.att = some [] ∧
    idkPresent idle.m = false ∧ inMaint (lc 0x4C43 2 0 0).m = false ∧ inMaint (lc 0x4C43 2 6 0).m = true ∧ (lc 0x4C43 2 6 0).writable ∧
    rf (lc 0x4C42 2 6 0).m Reg.KEY_LC_REQ 31 16 ≠ 0x4C43 ∧ rf (lc 0x4C43 2 6 0).m Reg.KEY_LC_REQ 31 16 = 0x4C43 ∧
    q (lc 0x4C43 1 6 0) = 1 ∧ q (lc 0x4C43 2 6 0) = 2 ∧ q (lc 0x4C43 3 6 0) = 3 ∧ q (lc 0x4C43 4 6 0) = 4 ∧ (lc 0x4C43 4 6 0).m.key.lc = 1 ∧
    seed (lc 0x4C43 2 6 0) = List.replicate 32 0 ∧ seed (lc 0x4C43 2 6 1) ≠ List.replicate 32 0 ∧ er.m.key.erase = some 4 ∧
    idle.m.key.erase = none := by decide +kernel

theorem wit_MigrationIsPreparedAndCancelled :
    let s (phase : Nat) (ok : Bool) := up fun m =>
      wf { m with glb := { m.glb with slots := [none, some { Bundle.delivered with verifies := ok }] },
                  key := { m.key with migBoot := true, slots := [(511, { aSlot 1 with migratable := true })] } } Reg.KEY_MIG_STAT 1 0 phase
    let slot (x : State) := x.m.glb.slots.getD (b2n x.m.key.migBoot) none
    (s 0 true).writable ∧ rf (s 0 true).m Reg.KEY_MIG_STAT 1 0 = 0 ∧ rf (s 1 true).m Reg.KEY_MIG_STAT 1 0 = 1 ∧
    rf (s 2 true).m Reg.KEY_MIG_STAT 1 0 = 2 ∧ slot (s 1 true) = some { Bundle.delivered with verifies := true } ∧
    slot (s 1 false) = some { Bundle.delivered with verifies := false } ∧ migSlots (s 1 true).m = [511] := by decide +kernel

/-! ## Witnesses for the statements about captures -/

def segState (x : Seg) (w0 w1 : Word) : State := up fun m =>
  wrs (wr { m with cap := { m.cap with segs := [(65535, x)] } } (Reg.shr 256 3) 1) Reg.CAP_TBL_DATA [w0, w1]

/-- The last segment, granted to VF 256, returned, given back, given anew and given back to its last holder; a bad grantee. -/
theorem wit_SegmentsAreGranted :
    let x (g last : Nat) (c : Option Nat) : Seg := { seg0 with size := 0, grant := g, last := last, clearing := c }
    let fld' (s : State) := segCheck s.m 65535 (bits (rd s.m Reg.CAP_TBL_DATA) 20 0) (bits (rd s.m (Reg.CAP_TBL_DATA + 4)) 15 0)
      (bits (rd s.m (Reg.CAP_TBL_DATA + 4)) 24 16) (bit (rd s.m Reg.CAP_TBL_DATA) 31)
    let on := 0x80000000#32
    let i (c : Word) := bits c 15 0
    (segState (x 511 511 none) on 0x01000000#32).writable ∧ fld' (segState (x 511 511 none) on 0x01000000#32) = 0 ∧
    fld' (segState (x 511 256 none) on 0x01000000#32) = 0 ∧ fld' (segState (x 256 256 none) on 0x01FF0000#32) = 0 ∧
    fld' (segState (x 256 256 none) on 0x01000000#32) = 0 ∧ fld' (segState (x 511 511 (some 256)) on 0x01000000#32) = 0 ∧
    fld' (segState (x 511 511 none) on 0x01010000#32) = 10 ∧ i 0x0000FFFF#32 = 65535 ∧ bits 0x0000FFFF#32 18 16 = 0 ∧
    i 0x0000FFFF#32 < capSize 0 ∧ i 0x0003000F#32 < capSize 3 ∧ capSize 3 ≤ i 0x00030010#32 ∧ capSize 4 ≤ i 0x00040000#32 ∧
    0 < bits 0x00030000#32 18 16 ∧ bits 0x00030000#32 18 16 ≤ 3 := by decide +kernel

theorem wit_RecordsArePlacedAndTriggered :
    let s (c : Cap) := capUp [(31, c)]
    let c : Cap := { Cap.init 31 with state := 3, seg0 := 65535, segN := 1, cur := { Rec.init with segFirst := 65535, span := 1 } }
    let clr := up fun m => { m with cap := { m.cap with segs := [(65535, { seg0 with clearing := some 256 })] } }
    let auto (t : Nat) : Cap := { c with state := 1, auto := some t }
    clr.live ∧ (getSeg clr.m 65535).clearing = some 256 ∧ (getSeg idle.m 65535).clearing = none ∧ (getCap (s c).m 31).state = 3 ∧
    capPick (s c).m c 65536 = none ∧ capPick (s { c with full := true }).m { c with full := true } 65536 = some (65535, 1) ∧ c.held = none ∧
    ({ c with held := some (1, 2) } : Cap).held = some (1, 2) ∧ (getCap idle.m 31).state ≠ 3 ∧ (auto 0).state = 1 ∧
    (getCap (s (auto 0)).m 31).auto = some 0 ∧ 0 ≤ (s (auto 0)).m.tim.mt ∧ (getCap idle.m 31).auto = none := by decide +kernel

/-! ## Witnesses for the statements about the pair -/

def par (st : Nat) (f : Par → Par) (g : Pnm → Pnm) : State := up fun m => g (wf { m with par := f m.par } Reg.PAR_STAT 2 0 st)

/-- A configuration that passes every check. -/
def pairCfg (m : Pnm) : Pnm :=
  let m1 := { m with key := { m.key with slots := [(511, { KeySlot.init 0 with engine := 3 })] } }
  let m2 := wr (wr (wr m1 Reg.PAR_ID 0x01FF0001#32) Reg.PAR_NET_ADDR_LO 2) Reg.PAR_HB_DMAC_LO 1
  wf (wr m2 Reg.PAR_PB 0x200#32) (Reg.port Reg.MAC_PORT_CFG 9) 27 16 2000

/-- The peer heard just within 1 s, and 1 s ago; every state that a clause names. -/
theorem wit_PairingIsEnabledAndRequested :
    let on (st e : Nat) := par st (fun p => { p with lastHb := some 0 }) fun m =>
      sb { m with tim := { m.tim with edge := e } } Reg.PAR_CTRL 0
    let retry (r : Bool) := par 4 (fun p => { p with retryDue := some 0 }) fun m =>
      wf { m with cye := { m.cye with running := r }, svi := { m.svi with running := r } } Reg.PAR_STAT 11 10 3
    (par 0 id pairCfg).writable ∧ rb idle.m Reg.PAR_CTRL 0 = bit 0#32 0 ∧ bit 1#32 0 = true ∧ parCheck (par 0 id pairCfg).m = 0 ∧
    pairState (par 0 id pairCfg).m = 0 ∧ parCheck (par 6 id pairCfg).m = 0 ∧ pairState (par 6 id pairCfg).m ≠ 0 ∧ parCheck idle.m ≠ 0 ∧
    rb (on 2 0).m Reg.PAR_CTRL 0 = true ∧ (on 2 (edgesS - 1)).m.par.lastHb = some 0 ∧ (on 2 (edgesS - 1)).m.tim.edge < 0 + edgesS ∧
    ¬ (on 2 edgesS).m.tim.edge < 0 + edgesS ∧ pairState (on 2 edgesS).m ≠ 6 ∧ pairState (on 6 edgesS).m = 6 ∧
    pairState (par 5 id id).m = 5 ∧ pairState idle.m ≠ 5 ∧ (retry true).live ∧ pairState (retry true).m = 4 ∧
    due (retry true).m.par.retryDue (retry true).m.tim.edge = true ∧ mayRequest (retry true).m = true ∧
    mayRequest (retry false).m = false ∧ pairState idle.m ≠ 4 := by decide +kernel

theorem wit_HeartbeatsReportsAndTheirLimits :
    let s (st : Nat) (f : Par → Par) (e : Nat) := par st f fun m =>
      sb { m with tim := { m.tim with edge := e, running := true } } Reg.PAR_CFG 1
    let w := s 2 (fun p => { p with lastTx := some 0 }) (300 * edgesUs)
    let tx : ResyncTx := { reqAt := 0, snap := true, snapAt := 0, tasks := [], total := 0, after := 0 }
    let t := s 2 (fun p => { p with tx := some tx }) (2 * edgesS)
    let r := s 3 (fun p => { p with reportNext := some 0 }) 0
    let late := s 2 (fun p => { p with reportDue := some 0 }) 0
    let f := s 2 (fun p => { p with frags := [{ path := false, typ := 1, next := 1, body := [], endsAt := 1 }] }) 1
    (s 1 id 0).live ∧ (s 1 id 0).writable ∧ (s 1 id 0).m.tim.running = true ∧ pairSends (s 1 id 0).m = true ∧
    (s 1 id 0).m.par.nextBl ≤ nowNs (s 1 id 0).m / 100000 ∧ pairSends (s 6 id 0).m = false ∧ w.m.par.lastTx = some 0 ∧
    pairState w.m = 2 ∧ 0 + 300 * edgesUs ≤ w.m.tim.edge ∧ idle.m.par.lastTx = none ∧ f.m.par.frags.length = 1 ∧
    (f.m.par.frags.filter fun x => decide (x.endsAt ≤ f.m.tim.edge)).length = 1 ∧ t.m.par.tx = some tx ∧ tx.snap = true ∧
    tx.snapAt + 2 * edgesS ≤ t.m.tim.edge ∧ idle.m.par.tx = none ∧ pairState r.m = 3 ∧ rb r.m Reg.PAR_CFG 1 = true ∧
    due r.m.par.reportNext r.m.tim.edge = true ∧ rb (wf r.m Reg.PAR_CFG 1 1 0) Reg.PAR_CFG 1 = false ∧ pairState late.m = 2 ∧
    rb late.m Reg.PAR_CFG 1 = true ∧ due late.m.par.reportDue late.m.tim.edge = true := by decide +kernel

theorem wit_PathsPeersAndRoles :
    let s (st : Nat) (f : Par → Par) := par st f fun m => sb m Reg.PAR_CFG 2
    let p := s 2 fun p => { p with dueBl := some 0, duePb := some 1 }
    let fail (st : Nat) (e : Bool) := s st fun p => { p with failDue := some 0, evidence := e }
    let l := s 1 fun p => { p with listenDue := some 0 }
    let d := s 5 fun p => { p with demotedDue := some 0 }
    p.live ∧ due (if false then p.m.par.duePb else p.m.par.dueBl) p.m.tim.edge = true ∧
    due (if true then p.m.par.duePb else p.m.par.dueBl) p.m.tim.edge = false ∧ due (fail 3 false).m.par.failDue (fail 3 false).m.tim.edge = true ∧
    pairState (fail 3 false).m = 3 ∧ (fail 3 false).m.par.stored = [] ∧ pairState (fail 4 false).m = 4 ∧ pairState (fail 2 true).m = 2 ∧
    (fail 2 true).m.par.evidence = true ∧ (fail 2 false).m.par.evidence = false ∧ due idle.m.par.failDue idle.m.tim.edge = false ∧
    pairState l.m = 1 ∧ due l.m.par.listenDue l.m.tim.edge = true ∧ rb l.m Reg.PAR_CFG 2 = true ∧ pairState idle.m ≠ 1 ∧ pairState d.m = 5 ∧
    due d.m.par.demotedDue d.m.tim.edge = true ∧ pairState idle.m ≠ 5 := by decide +kernel

/-! ## Witnesses for the statements about the journal, scans and diagnostics -/

def jnl (f : Jnl → Jnl) (e : Nat) : State := up fun m => { m with tel := { m.tel with jnl := f m.tel.jnl }, tim := { m.tim with edge := e } }
def aRec (n : Nat) : JRec :=
  { cls := 1, code := 1, source := 0, payload := List.replicate n 0, count := 1, opSec := 0, opUs := 0, pcyc := 1, modNs := 0,
    lastSec := 0, lastUs := 0, rseq := 1 }
def aRead (birth : Bool) (left : Nat) (fr early : Option Nat) : JRead :=
  { ref := aRef 0x48, addr := 0, len := 4096, birth := birth, start := 0, missed := false, count := 0, left := left, freezeDue := fr,
    early := early }

/-- A record that is appended brings back none that the ring no longer holds. -/
theorem zoneAppend_rseq (r : JRec) (j : Jnl) (n : Nat) (hn : j.nextRseq ≠ n) (h : ∀ p ∈ j.ring, p.2.rseq ≠ n) :
    ∀ p ∈ (zoneAppend r j).ring, p.2.rseq ≠ n := by
  intro p hp
  unfold zoneAppend ringAppend at hp
  simp only at hp
  repeat' split at hp
  all_goals
    simp only [List.mem_append, List.mem_filter, List.mem_singleton] at hp
  all_goals
    first
    | exact h p hp
    | (rcases hp with ⟨⟨hp, -⟩, -⟩ | hp <;> first | exact h p hp | (subst hp; exact hn))
    | (rcases hp with ⟨hp, -⟩ | hp <;> first | exact h p hp | (subst hp; exact hn))

/-- A flush of one record that would take the ring's record 1, which a readout freezes. -/
def frozen : State :=
  jnl (fun j => { j with buf := [aRec 0], flushing := some 1, birthFull := true, nextRseq := 2, ring := [(0, aRec 0)],
                         reads := [aRead false 1 none none] }) 0

theorem frozen_waits : flushWaits frozen.m = true := by
  let j1 := zoneAppend (aRec 0) frozen.m.tel.jnl
  have h1 : ∀ p ∈ j1.ring, p.2.rseq ≠ 1 := by decide
  have h2 : j1.nextRseq ≠ 1 := by decide
  have h : ∀ r, ∀ p ∈ (zoneAppend r j1).ring, p.2.rseq ≠ 1 := fun r => zoneAppend_rseq r j1 1 h2 h1
  have hk : ∀ p ∈ (flushBuf frozen.m 1 frozen.m.tel.jnl).ring, p.2.rseq ≠ 1 := fun p hp => h _ p hp
  have hf : ((flushBuf frozen.m 1 frozen.m.tel.jnl).ring.any fun q => decide (q.2.rseq = 1)) = false := by
    simpa using hk
  show ([(0, aRec 0)].any fun p => decide (0 ≤ p.2.rseq) &&
    !((flushBuf frozen.m 1 frozen.m.tel.jnl).ring.any fun q => decide (q.2.rseq = p.2.rseq))) = true
  show ((true && !((flushBuf frozen.m 1 frozen.m.tel.jnl).ring.any fun q => decide (q.2.rseq = 1))) || false) = true
  rw [hf]
  rfl

/-- A deadline at its edge; an operating second at its end. -/
theorem wit_JournalFlushesAndSeals :
    let s (k : Option Nat) := jnl (fun j => { j with buf := [aRec 0], flushing := k, flushDue := some 1 }) 1
    (s none).glbLive ∧ (s none).writable ∧ due (s none).m.tel.jnl.flushDue (s none).m.tim.edge = true ∧
    due idle.m.tel.jnl.flushDue idle.m.tim.edge = false ∧ (s none).m.tel.jnl.buf ≠ [] ∧ idle.m.tel.jnl.buf = [] ∧
    (s (some 1)).m.tel.jnl.flushing = some 1 ∧ flushWaits (s (some 1)).m = false ∧ idle.m.tel.jnl.flushing = none ∧
    (jnl id edgesS).m.tel.jnl.opEdge + edgesS ≤ (jnl id edgesS).m.tim.edge ∧
    (jnl id (edgesS - 1)).m.tim.edge < (jnl id (edgesS - 1)).m.tel.jnl.opEdge + edgesS := by decide +kernel

theorem wit_ReadoutsCopyTheRecords :
    let s (r : JRead) (buf : List JRec) := jnl (fun j => { j with reads := [r], buf := buf, ring := [(0, aRec 0)] }) 1
    let fr := s (aRead false 1 (some 1) none) []
    (s (aRead false 0 none none) []).live ∧ (s (aRead false 0 none none) []).m.tel.jnl.reads = [aRead false 0 none none] ∧
    (aRead true 1 none none).left ≠ 0 ∧ idle.m.tel.jnl.reads = [] ∧ (aRead false 1 (some 1) none).birth = false ∧
    (aRead false 1 (some 1) none).early = none ∧ due (aRead false 1 (some 1) none).freezeDue fr.m.tim.edge = true ∧
    due (aRead false 1 (some 2) none).freezeDue fr.m.tim.edge = false ∧ 196608 ≤ 192 * (aRec (1024 - 56)).size ∧
    recBytes fr.m.tel.jnl.buf < 196608 := by decide +kernel

/-- The last channel, of VF 256; scans that end, that run, of no length, of a place that may not be read; POLY 3. -/
theorem wit_ScansRunEndAndJudge :
    let ch (cfg addr len : Word) (x : List Scan) := up fun m =>
      wrs { m with scans := x, cap := { m.cap with segs := [(0, { seg0 with grant := 256 })] } } (Reg.ch 7 4) [cfg, addr, 0, len]
    let may (s : State) (a n : Nat) := mayRead s.m 256 a n
    let x (left : Nat) : Scan := { ch := 7, fn := 256, space := false, addr := 0, len := 4, poly := 0, left := left }
    let s := ch 0x01000000#32 0 65536 []
    s.writable ∧ ownsCh s.m 256 7 = true ∧ ownsCh idle.m 256 7 = false ∧ (256#9 ≠ 0#9) ∧ scanOf (ch 0 0 0 [x 1]).m 7 = some (x 1) ∧
    bit (rd (ch 0x01000010#32 0 4 []).m (Reg.ch 7 4)) 4 = true ∧ bit (rd s.m (Reg.ch 7 4)) 4 = false ∧
    bits (rd s.m (Reg.ch 7 4)) 24 16 = 256 ∧ (rd s.m (Reg.ch 7 0x10)).toNat = 65536 ∧ may s 0 65536 = true ∧ may s 0 65537 = false ∧
    (rd (ch 0 0 0 []).m (Reg.ch 7 0x10)).toNat = 0 ∧ (rd (ch 0 0 0 []).m (Reg.ch 7 8)).toNat + 2 ^ 27 ≤ 2 ^ 27 ∧
    scanOf (ch 0 0 0 [x 0]).m 7 = some (x 0) ∧ (x 0).left = 0 ∧ (x 1).left ≠ 0 ∧ scanOf s.m 7 = none ∧
    bits (rd (ch 3 0 0 []).m (Reg.ch 7 4)) 1 0 ≠ 0 ∧ bits (rd s.m (Reg.ch 7 4)) 1 0 = 0 := by decide +kernel

def dia (f : Dia → Dia) (g : Pnm → Pnm) : State := up fun m => g { m with tel := { m.tel with dia := f m.tel.dia } }

/-- Nodes 0, 1, 1279, 1280 and 2047; a node that would become its own parent; TYPE 5 and 3 of 0. -/
theorem wit_SnapshotsAndTheNodeWindow :
    let i (c : Word) := bits c 10 0
    let bad (w : Word) := 5 ≤ bits w 6 4 ∨ (bits w 6 4 = 3 ∧ bits w 15 8 = 0)
    let d := idle.m.tel.dia
    idle.writable ∧ d.locked = false ∧ ¬ d.snapEdge = some idle.m.tim.edge ∧ (dia (fun d => { d with locked := true }) id).m.tel.dia.locked = true ∧
    (dia (fun d => { d with snapEdge := some 0 }) id).m.tel.dia.snapEdge = some 0 ∧ idle.m.tim.edge = 0 ∧ bits 0x00020000#32 18 16 < 3 ∧
    3 ≤ bits 0x00030000#32 18 16 ∧ 0 < bits 0x00010000#32 18 16 ∧ bits 0x000007FF#32 18 16 = 0 ∧ i 0x00000001#32 = 1 ∧ i 0x000004FF#32 < 1280 ∧
    i 0x000004FF#32 = 1279 ∧ 1280 ≤ i 0x00000500#32 ∧ i 0x000007FF#32 = 2047 ∧ above d 1280 2048 (bits 0x05000000#32 26 16) = true ∧
    above d 0 2048 (bits 0x07FF0000#32 26 16) = false ∧ above d 1280 2048 (bits 0x00010000#32 26 16) = false ∧ bad 0x00000050#32 ∧
    bad 0x00000030#32 ∧ ¬ bad 0x00000140#32 ∧ above d 0 2048 (bits 0x00000000#32 26 16) = true := by decide +kernel

theorem wit_SelfTestsRunInSlices :
    let t (kind slices left : Nat) (st : Option Nat) : SelfTest :=
      { ref := aRef 0x47, kind := kind, index := 15, firstSeg := 0, segCount := 1, tmoS := 1, slices := slices, left := left, started := st }
    let s (x : SelfTest) (e : Nat) := dia (fun d => { d with queue := [x] }) fun m => { m with tim := { m.tim with edge := e } }
    let cyc (n : Nat) (st : Nat) := dia (fun d => { d with cycleSlices := n }) fun m => sb (wf m Reg.PAR_STAT 2 0 st) Reg.PAR_CFG 1
    let c := cycleTest (cyc 0 3).m.tel.dia.cyclePos
    (s (t 1 4095 0 (some 0)) 0).live ∧ (s (t 1 4095 0 (some 0)) 0).m.tel.dia.queue = [t 1 4095 0 (some 0)] ∧
    sliceMay (s (t 1 4095 0 (some 0)) 0).m 1 15 = true ∧ (t 1 4095 0 (some 0)).slices < testSlices 1 ∧ ¬ 4096 < testSlices 1 ∧
    (t 2 512 0 (some 0)).started.isSome = true ∧ testSlices 2 ≤ (t 2 512 0 (some 0)).slices ∧ (t 5 0 0 (some 0)).left = 0 ∧
    testSlices 5 ≤ (t 5 0 0 (some 0)).slices ∧ idle.m.cye.cores[15]?.isSome = true ∧ idle.m.fpe.lanes[3]?.isSome = true ∧
    Memory.wf idle.mem = true ∧ (t 4 0 1 (some 0)).left ≠ 0 ∧ (t 1 0 0 none).started = none ∧
    0 + (t 1 0 0 (some 0)).tmoS * edgesS ≤ (s (t 1 0 0 (some 0)) edgesS).m.tim.edge ∧
    ¬ 0 + (t 1 0 0 (some 0)).tmoS * edgesS ≤ (s (t 1 0 0 (some 0)) (edgesS - 1)).m.tim.edge ∧ idle.m.tel.dia.queue = [] ∧
    cycleRuns (cyc 0 3).m = true ∧ sliceMay (cyc 0 3).m c.1 c.2 = true ∧ (cyc 4095 3).m.tel.dia.cycleSlices < testSlices c.1 ∧
    (cyc 4096 3).m.tel.dia.cycleSlices = testSlices c.1 ∧ cycleRuns (cyc 0 2).m = false := by decide +kernel

/-! ## Witnesses for the statements about starts, resets, power and maintenance -/

def glb (p : Phase) (f : Glb → Glb) (g : Pnm → Pnm) : State := up fun m => g { m with glb := f { m.glb with phase := p } }

/-- Every phase, with a slot that verifies and with none. -/
theorem wit_StartsBootAVerifiedSlot :
    let req (shut : Bool) := glb .run (fun g => { g with resetReq := some 3, resetShut := shut }) id
    (glb .off id id).m.glb.phase = .off ∧ idle.m.glb.phase ≠ .off ∧ (glb .held id id).m.glb.phase = .held ∧ idle.m.glb.phase ≠ .held ∧
    (glb .shut id id).m.glb.phase = .shut ∧ (req false).glbLive ∧ (req false).m.glb.resetReq = some 3 ∧ (req false).m.glb.resetShut = false ∧
    (req true).m.glb.resetShut = true ∧ idle.glbLive ∧ idle.m.glb.resetReq = none ∧ slotOk idle.m false = true ∧
    slotOk (glb .run (fun g => { g with slots := [none, none] }) id).m false = false ∧
    slotOk (glb .run (fun g => { g with slots := [none, none] }) id).m true = false := by decide +kernel

theorem wit_ResetsAreRequested :
    let pf := glb .run (fun g => { g with pfEdge := some 0 }) id
    let req := glb .run (fun g => { g with resetReq := some 3 }) id
    let trial := glb .run (fun g => { g with confirmDue := some 0 }) id
    let iso := glb .run id fun m => sb m Reg.GLB_CFG 0
    idle.glbLive ∧ idle.m.glb.pfEdge = none ∧ idle.m.glb.resetReq = none ∧ pf.m.glb.pfEdge.isSome = true ∧ req.m.glb.resetReq.isSome = true ∧
    bit 0x52530001#32 0 = true ∧ bits 0x52530001#32 31 16 = 0x5253 ∧ bits 0x53440001#32 31 16 = 0x5344 ∧ bit 0x53440000#32 0 = false ∧
    trial.live ∧ due trial.m.glb.confirmDue trial.m.tim.edge = true ∧ due idle.m.glb.confirmDue idle.m.tim.edge = false ∧
    ¬ (rb idle.m Reg.GLB_CFG 0 = true) ∧ iso.glbLive ∧ iso.m.glb.phase = .run ∧ rb iso.m Reg.GLB_CFG 0 = true ∧ iso.m.glb.resetReq = none ∧
    (getGate (oneGate (gateIn 3) id).m 1023).state = 3 := by decide +kernel

/-- The warning plus 19 ms, and one edge before. -/
theorem wit_PowerFailsRidesThroughOrEnds :
    let pf (e : Nat) := glb .run (fun g => { g with pfEdge := some 0 }) fun m => { m with tim := { m.tim with edge := e } }
    idle.glbLive ∧ idle.m.glb.pfEdge = none ∧ (pf 0).m.glb.pfEdge.isSome = true ∧ (pf (19 * edgesMs - 1)).m.tim.edge < 0 + 19 * edgesMs ∧
    0 + 19 * edgesMs ≤ (pf (19 * edgesMs)).m.tim.edge ∧ (pf (19 * edgesMs)).glbLive ∧ idle.m.glb.phase ≠ .off ∧
    (glb .off id id).m.glb.phase = .off := by decide +kernel

/-- An empty bundle fails its length check; whether one is signed is free (log entry 8). -/
theorem wit_BootWordsAndFirmware :
    let seen := glb .run (fun g => { g with strapSeen := true }) id
    let now : Straps := { idle.m.glb.straps with slotId := 15 }
    let conf := glb .run (fun g => { g with confirmDue := some 0 }) id
    let fw (trial : Bool) (mig len : Nat) (w : Option (Bool × Nat × Nat)) :=
      glb .run (fun g => { g with fwWrite := w }) fun m =>
        wr (wf (wf m Reg.GLB_STAT 2 2 (b2n trial)) Reg.KEY_MIG_STAT 1 0 mig) Reg.GLB_FW_LEN (loW len)
    let s (w : Option (Bool × Nat × Nat)) := fw false 0 0xFFFFFFFF w
    idle.glbLive ∧ now ≠ idle.m.glb.straps ∧ idle.m.glb.strapSeen = false ∧ seen.m.glb.strapSeen = true ∧ bit 1#32 0 = true ∧
    conf.m.glb.confirmDue.isSome = true ∧ idle.m.glb.confirmDue = none ∧ (s none).m.glb.phase ≠ .recovery ∧
    bit 0x01#32 4 = rb (s none).m Reg.GLB_STAT 3 ∧ bit 0x11#32 4 ≠ rb (s none).m Reg.GLB_STAT 3 ∧
    rb (fw true 0 1 none).m Reg.GLB_STAT 2 = true ∧ rf (fw false 2 1 none).m Reg.KEY_MIG_STAT 1 0 ≠ 0 ∧
    rb (s none).m Reg.GLB_STAT 2 = false ∧ rf (s none).m Reg.KEY_MIG_STAT 1 0 = 0 ∧ (s (some (true, 0, 1))).m.glb.fwWrite.isSome = true ∧
    (s none).m.glb.fwWrite = none ∧ (rd (fw false 0 0 none).m Reg.GLB_FW_LEN).toNat = 0 ∧ (rd (s none).m Reg.GLB_FW_LEN).toNat ≠ 0 ∧
    (s (some (true, 0, 1))).m.glb.fwWrite = some (true, 0, 1) ∧ (getArb (s (some (true, 0, 1))).m 257).pending = 0 ∧
    flying (s (some (true, 0, 1))).m 257 = 0 ∧ bundleResult [] 1 true = 2 := by decide +kernel

theorem wit_MaintenanceBackupAndSupply :
    let strap (b : Bool) := glb .run (fun g => { g with straps := { g.straps with maint := b }, loopReads := 1, ovAux := true }) id
    idle.glbLive ∧ bit 0x4D540001#32 0 = true ∧ bits 0x4D540001#32 31 16 = 0x4D54 ∧ bits 0x4D530001#32 31 16 ≠ 0x4D54 ∧
    bit 0x4D540002#32 1 = true ∧ bit 0x4D540002#32 0 = false ∧ (strap false).m.glb.straps.maint = false ∧ (strap true).m.glb.straps.maint = true ∧
    1 ≤ (strap true).m.glb.loopReads ∧ idle.m.glb.loopReads = 0 ∧ 0 < (2499#12).toNat ∧ (2499#12).toNat < 2500 ∧ ¬ (2500#12).toNat < 2500 ∧
    rb idle.m Reg.GLB_BKP_STAT 26 = false ∧ rb (sb idle.m Reg.GLB_BKP_STAT 26) Reg.GLB_BKP_STAT 26 = true ∧
    (if true then (strap true).m.glb.ovAux else (strap true).m.glb.ovCard) = true ∧
    (if false then (strap true).m.glb.ovAux else (strap true).m.glb.ovCard) = false := by decide +kernel

/-! ## Witnesses for the statements about the whole machine, registers and the plane tick -/

theorem wit_TheWholeMachine :
    ({ idle with pending := [.planeTick 0] } : State).pending = [.planeTick 0] ∧ idle.pending = [] ∧ idle.m.glb.phase ≠ .off ∧
    State.reset.m.glb.phase = .off ∧ idle.m.tim.running = false ∧ (upTim fun t => { t with running := true }).m.tim.running = true ∧
    State.reset.Inv ∧ ¬ State.reset.glbLive := by decide +kernel

/-- An event of class 2 that a full pending set lacks one place for; an equal one that waits; a sealed journal. -/
theorem wit_EventsReachTheRingsAndTheJournal :
    let ev : Ev := { src := 1, code := 0x30, cls := 2, items := [1] }
    let q : PendEvt := { code := 0x31, cls := 2, items := [1], count := 1, firstNs := 0, lastNs := 0 }
    let s (l : List PendEvt) := fnUp 0 fun m => { m with tel := { m.tel with evts := [(0, { EvtFn.init 0 with pend := l })] } }
    let equal (p : PendEvt) : Bool := decide (p.code = ev.code ∧ p.items = [1] ∧ ev.code ≠ 0)
    let jnl' := fnUp 0 fun m => { m with tel := { m.tel with jnl := { m.tel.jnl with pfSealed := true } } }
    ¬ (rb (s []).m Reg.DIA_SNAP_CFG 1 = true) ∧ evtRingOn (s []).m 0 = true ∧ 0 ∉ ev.fns ∧
    (getEvt (s (List.replicate 255 q)).m 0).pend.length = 255 ∧ (getEvt (s (List.replicate 255 q)).m 0).pend.any equal = false ∧
    (getEvt (s [{ q with code := 0x30 }]).m 0).pend.any equal = true ∧ evtRingOn idle.m 0 = false ∧ jnl'.m.tel.jnl.pfSealed = true ∧
    (s []).m.tel.jnl.pfSealed = false ∧ findRec (s []).m.tel.jnl.buf 0 ev.code ev.src (some [1, 0]) = none ∧
    (s []).m.tel.jnl.drops.all (· = 0) = true ∧ 16 * max 4 (cdiv (56 + 2) 16) + 32768 ≤ sharedFree (s []).m.tel.jnl.buf ∧
    (0x30 ≠ 0x20) := by decide +kernel

/-- PULSE_US of 500,000 and above it; the last bytes of a word; a VF that is not there; offsets at the end of the map. -/
theorem wit_RegisterWritesTakeEffect :
    idle.writable ∧ idle.glbLive ∧ (BitVec.ofNat 24 Reg.CRC_FLAGS).toNat = Reg.CRC_FLAGS ∧ (BitVec.ofNat 24 Reg.SVI_GM_ID2_LO).toNat + 4 = Reg.SVI_GM_ID2_LO + 4 ∧
    bits 500000#32 18 0 ≤ 500000 ∧ 500000 < bits 500001#32 18 0 ∧ (3#24).toNat % 4 + ([] : List Byte).length < 4 ∧
    fnExists idle.m 256 = false ∧ 0x100000 ≤ (0x100000#24).toNat ∧ 0x10000 ≤ (0x10000#24).toNat ∧
    ¬ (glb .run (fun g => { g with resetReq := some 3 }) id).writable := by decide +kernel

theorem wit_ReadsLatchTheHigherWords :
    idle.live ∧ higherWords Reg.TIM_IRIG_TS_LO = [Reg.TIM_IRIG_TS_LO + 4, Reg.TIM_IRIG_TS_LO + 8] ∧ higherWords (Reg.TIM_IRIG_TS_LO + 8) = [] ∧
    isHigher (Reg.TIM_IRIG_TS_LO + 8) = true ∧ Reg.TIM_IRIG_TS_LO % 4 = 0 ∧ higherWords Reg.TIM_CTRL = [] ∧ isHigher Reg.TIM_CTRL = false ∧
    ¬ State.reset.glbLive := by decide +kernel

theorem wit_PlaneTicksAndCloses :
    let tick (f : Svi → Svi) := up fun m => { m with tim := { m.tim with running := true, grid := true }, svi := f m.svi }
    let run (ns : Nat) := up fun m => { m with tim := { m.tim with running := true, grid := true, mt := ns * nsU }, svi := { m.svi with running := true } }
    let pass := tick fun x => { x with passes := [(0, 0)] }
    tickDue (tick id).m = true ∧ (tick fun x => { x with stopReq := true, restart := true }).m.svi.restart = true ∧
    tickDue (tick fun x => { x with nextTick := 1 }).m = false ∧ (run 1000000000).live ∧
    (run 1000000000).m.svi.passes.find? (fun p => decide (p.2 ≤ nowU (run 1000000000).m)) = none ∧
    closeAt (run 1000000000).m (run 1000000000).m.svi.nextClose ≤ nowU (run 1000000000).m ∧
    pass.m.svi.passes.find? (fun p => decide (p.2 ≤ nowU pass.m)) = some (0, 0) ∧ idle.m.svi.running = false ∧
    nowU (run 0).m < closeAt (run 0).m (run 0).m.svi.nextClose := by decide +kernel

/-- Step 6, 1 s after its entry, and one edge before. -/
theorem wit_LadderStepsEndAfterTheirDwell :
    let s (e : Nat) (t : List Nat) := up fun m =>
      { m with tim := { m.tim with edge := e }, ladder := { m.ladder with steps := setAt m.ladder.steps 5 { on := true, since := 0, trig := t, marked := [0] } } }
    (s edgesS []).live ∧ (getStep (s edgesS []).m 6).on = true ∧ (getStep (s edgesS []).m 6).trig = [] ∧
    (getStep (s edgesS []).m 6).since + edgesS ≤ (s edgesS []).m.tim.edge ∧ (getStep idle.m 6).on = false ∧
    (getStep (s edgesS [1]).m 6).trig ≠ [] ∧ (s (edgesS - 1) []).m.tim.edge < (getStep (s (edgesS - 1) []).m 6).since + edgesS := by
  decide +kernel

/-! ## Effects: expected values from the spec's examples and tables -/

/-- A property of the module after one command. -/
def after (c : Instr) (s : State) (p : Pnm → Bool) : Bool := match exec c s with | .next t => p t.m | _ => false

/-- CRC table 1: the check values, over the ASCII bytes of 123456789. -/
theorem test_crc_check_values :
    let l := (List.range 9).map fun i => BitVec.ofNat 8 (0x31 + i)
    crcOf 0 l = 0xE3069283 ∧ crcOf 1 l = 0xCBF43926 ∧ crcOf 2 l = 0x29B1 ∧ crcOf 3 l = 0xDF := by decide +kernel

def arbState (last : Nat) (a : List (Nat × ArbReq)) : State := up fun m =>
  let x : Bulk := { tag := 0, op := 2, port := 0, pcp := 0, tsReq := false, hostAddr := 0, modAddr := 0, len := 1000, moved := 0,
                    data := [], acceptNs := 0, status := 0xFF }
  let b (n : Nat) : FnState := { FnState.init 0 with bulks := List.replicate n x }
  let fns := [(5, b (if last = 5 then 0 else 1)), (9, b 1)]
  let m1 : Pnm := { m with tim := { m.tim with edge := 40 }, hif := { m.hif with arb := a, arbLast := last, fns := fns } }
  wf (wf (wf m1 (Reg.HIF_ARB_CFG + 8 * 5) 2 0 4) (Reg.HIF_ARB_CFG + 8 * 9) 2 0 2) (Reg.HIF_ARB_CFG + 8 * 258) 2 0 2

/-- VFS table 6, cycles c0 and c3. -/
theorem test_arbitration_cycles :
    let p (q b9 w9 b258 w258 : Nat) (m : Pnm) : Bool := decide (m.hif.arbLast = q ∧ (getArb m 9).backoff = b9 ∧ (getArb m 9).wait = w9 ∧
      (getArb m 258).backoff = b258 ∧ (getArb m 258).wait = w258)
    let q258 (b : Nat) : ArbReq := { ArbReq.init 0 with backoff := b, pending := 100000 }
    after .arbitrationCycle (arbState 266 [(258, q258 1)]) (p 5 2 2 2 2) = true ∧
    after .arbitrationCycle (arbState 5 [(9, { ArbReq.init 0 with backoff := 2 }), (258, q258 2)]) (p 9 1 0 4 4) = true := by decide +kernel

/-- Chapter 00, the example of zero and _M1: SEQ 1042 with a length of zero takes the mark; the mark's own SEQ is stale. -/
theorem test_zero_len_takes_the_mark :
    let s (acc : BitVec 32) := fnUp 256 fun m => { m with hif := { m.hif with fns := [(256, { FnState.init 256 with accSeq := acc })] } }
    after (.publish 256 (hdr 1042 0 false) 0 0 []) (s 1041) (fun m => decide ((getFn m 256).accSeq = 1042)) = true ∧
    firstChecks (s 1041).m 256 (hdr 1042 0 false) (.publish 0 0 []) = 0 ∧ firstChecks (s 1043).m 256 (hdr 1043 0 false) .nop = 0x10 := by
  decide +kernel

def octets (hi lo : Word) (l : NMap (Option Word)) : State := up fun m =>
  { wr (wr m 0x23500 lo) 0x23504 hi with latched := l }

/-- Chapter 18, the example of a counter and an increment, steps 1, 3 and 5. -/
theorem test_lo_read_latches :
    after (.multiwordLoRead 0 false 0x23500 4) (octets 1 0xFFFFFFF0 [])
      (fun m => decide (m.tel.out = [.regRead 0 [0xF0, 0xFF, 0xFF, 0xFF]] ∧ NMap.get (fun _ => none) m.latched 0x23504 = some 1)) = true := by
  decide +kernel
theorem test_hi_read_is_the_latched_word :
    after (.multiwordLoRead 0 false 0x23504 4) (octets 2 0x100 [(0x23504, some 1)])
      (fun m => decide (m.tel.out = [.regRead 0 [1, 0, 0, 0]])) = true := by decide +kernel
theorem test_increment_commits_whole :
    after (.registerWrite 0 false 0x10010 [0x00, 0xA0, 0x99, 0x99, 1, 0, 0, 0] { optic := none, back := 0, cleared := 0 }) idle
      (fun m => decide (incOf m false = 0x19999A000 ∧ incOf m true = 0x19999999A)) = true := by decide +kernel

/-- Chapter 09, the example of a curve: the message at 511 ms is number 9, and lives 1024 ms. -/
theorem test_retransmission_at_511_ms :
    let s := up fun m =>
      { m with tim := { m.tim with running := true, mt := 511000000 * nsU },
               out := { m.out with pcb := [(3, [1#32] ++ List.replicate 15 0)],
                                   curve := [(0, [0x202003E8#32, 1000#32] ++ List.replicate 14 0)],
                                   pub := [(3, { PubSt.init 3 with on := true, stNum := 1, sqNum := 8, interval := 256000, vals := [(0, 0)],
                                                                   nextTx := some (511000000 * unitNs) })] } }
    after (.gooseRetransmit 3) s (fun m => decide ((getPub m 3).sqNum = 9 ∧ pubTal (curveOf m 0) (getPub m 3).interval = 1024)) = true := by
  decide +kernel

/-- Chapter 01, the example of the default plane rate: C(k) lies 458.333 µs after T(k). -/
theorem test_close_at_458_us :
    let s := up fun m => { m with svi := { m.svi with gTicks := 240 } }
    closeAt s.m 0 * 3 = 1375000 * unitNs := by decide +kernel

/-- Chapter 13, the example of a trigger held during re-arm: W, ROW_LEN, DATA_OFS, S and the load. -/
theorem test_record_size :
    let l := (List.range 4).map fun i => streamInfo i [0x00084001#32]
    rowW l = 192 ∧ rowLen l = 200 ∧ dataOfs l = 192 ∧ recSize l 1728 = 345792 ∧ cdiv (recSize l 1728) 16384 = 22 ∧ capLoad l = 2880000 := by
  decide +kernel

/-- R43: from the reset value of an increment, clock A gains 1.6 ns in one edge; an unpowered module stands. -/
theorem test_an_idle_step_is_one_edge :
    (match step idle with | .next t => decide (t.m.tim.edge = 1 ∧ t.m.tim.clkA = 0x19999999A) | _ => false) = true ∧
    (match step State.reset with | .next t => decide (t = State.reset) | _ => false) = true := by decide +kernel

/-- R10, R556: a flag is cleared by writing 1. -/
theorem test_a_flag_is_cleared_by_one :
    after (.registerWrite 0 false (BitVec.ofNat 24 Reg.SVI_FLAGS) [1, 0, 0, 0] { optic := none, back := 0, cleared := 0 })
      (up fun m => wr m Reg.SVI_FLAGS 3) (fun m => decide (rd m Reg.SVI_FLAGS = 2)) = true := by decide +kernel

/-- R179: a gate that waits is cancelled. -/
theorem test_gate_cancel :
    after (.gteWindowCancel 0x000003FF#32) (oneGate (gateIn 1) id) (fun m => decide ((getGate m 1023).state = 9)) = true := by decide +kernel

/-- R298: SELECT of a free object takes lock 0 for its lease. -/
theorem test_lock_select :
    after (.lockSelect 256 (hdr 1 0 false) 5 10 false) (lockUp []) (fun m =>
      decide ((getLock m 0).state = 1 ∧ (getLock m 0).obj = 5 ∧ (getLock m 0).owner = 256 ∧ (getLock m 0).leaseEnd = 10000000)) = true := by
  decide +kernel

/-- R37: the sixth step of the ladder ends 1 s after its trigger has gone. -/
theorem test_ladder_step_ends :
    after (.ladderDwellExpiry 6)
      (up fun m => { m with tim := { m.tim with edge := edgesS },
                            ladder := { m.ladder with steps := setAt m.ladder.steps 5 { on := true, since := 0, trig := [], marked := [] } } })
      (fun m => !stepOn m 6) = true := by decide +kernel

/-- The block has no bits in its command table: no word spells a command. -/
theorem test_no_word_is_a_command : decodeTableWord 32 0 = none ∧ idle.withFetchWord 32 0 = idle := by decide +kernel

/-! ## Ill-formed commands -/

theorem test_ill_formed_commands :
    (Instr.linkDown 12).wf = false ∧ (Instr.linkDown 11).wf = true ∧ (Instr.kick 257).wf = false ∧ (Instr.kick 256).wf = true ∧
    (Instr.supervisionSend 5).wf = false ∧ (Instr.supervisionSend 4).wf = true ∧ (Instr.ladderDwellExpiry 0).wf = false ∧
    (Instr.ladderDwellExpiry 7).wf = false ∧ (Instr.arbStarvation 267).wf = false ∧ (Instr.arbStarvation 266).wf = true ∧
    (Instr.shareWrite 0 0 0).wf = false ∧ (Instr.shareWrite 0 1 0).wf = true ∧ (Instr.pcieLinkTrain 6 16 false).wf = false ∧
    (Instr.pcieLinkTrain 5 17 false).wf = false ∧ (Instr.testPulseConfirm false 8).wf = false ∧
    (Instr.testPulseConfirm true 15).wf = true ∧ (Instr.multiwordLoRead 0 true 0x3FFC 5).wf = false ∧
    (Instr.multiwordLoRead 0 true 0x3FFC 4).wf = true ∧ (Instr.multiwordLoRead 1 false 0x10000 4).wf = false ∧
    (Instr.vfEnableSet 257).wf = false := by decide +kernel

end Sys2Proof.Tests
end

section
/-! PROOFS. Register writes by the host (R10, R554 to R559, R561): from the bytes of a write to the words that it covers,
from a word to the operation of its register, and what the operation keeps. -/

namespace Sys2Proof

/-! ## Bytes and words -/

theorem ofLe_leBytes (n v : Nat) : ofLe (leBytes n v) = v % 256 ^ n := by
  induction n generalizing v with
  | zero => simp [leBytes, ofLe, Nat.mod_one]
  | succ n ih =>
    rw [leBytes, ofLe, ih, Nat.pow_succ', Nat.mod_mul, BitVec.toNat_ofNat]

@[simp] theorem leBytes_length (n v : Nat) : (leBytes n v).length = n := by
  induction n generalizing v with
  | zero => rfl
  | succ n ih => rw [leBytes, List.length_cons, ih]

/-- The bytes that stand between two others in a byte string. -/
theorem leAt_append (x y z : List Byte) : leAt (x ++ (y ++ z)) x.length y.length = ofLe y := by
  simp [leAt, bytesAt]

/-- A word is read back from its own bytes, wherever they stand. -/
theorem loW_leAt_leBytes (x z : List Byte) (w : Word) : loW (leAt (x ++ (leBytes 4 w.toNat ++ z)) x.length 4) = w := by
  have h := leAt_append x (leBytes 4 w.toNat) z
  rw [leBytes_length] at h
  rw [h, ofLe_leBytes, Nat.mod_eq_of_lt (show w.toNat < 256 ^ 4 from w.isLt), loW, BitVec.ofNat_toNat, BitVec.setWidth_eq]

/-- A field taken from one word under a mask, and the rest from another. -/
theorem select_and_mask (x d k : Word) : ((x &&& ~~~k) ||| (d &&& k)) &&& k = d &&& k := by
  ext i hi
  cases h : k[i] <;> simp [h]

theorem bits_low_half (w : Word) : bits w 15 0 = (w &&& 0x0000FFFF#32).toNat := by
  rw [BitVec.toNat_and]
  simpa [bits, bitsN] using (Nat.and_two_pow_sub_one_eq_mod w.toNat 16).symm

namespace Machine

/-! ## From a write to its words (R555, R556) -/

/-- The words of an aligned write, in ascending order. -/
theorem hostWriteBytes_aligned (a : AtWrite) (f : Nat) (bar2 : Bool) {o : Nat} (ho : o % 4 = 0) (data : List Byte) (s : PM) :
    hostWriteBytes a f bar2 o data s = (List.range (data.length / 4)).foldl
      (fun x i => writeWord a f bar2 (o + 4 * i) (loW (leAt data (4 * i) 4)) x) s := by
  have hfirst : cdiv o 4 * 4 = o := by unfold cdiv; omega
  have hk : ((o + data.length) / 4 * 4 - o) / 4 = data.length / 4 := by omega
  simp only [hostWriteBytes, hfirst, hk, Nat.add_sub_cancel_left]

theorem hostWriteBytes_word (a : AtWrite) (f : Nat) (bar2 : Bool) {o : Nat} (ho : o % 4 = 0) (v : Word) (s : PM) :
    hostWriteBytes a f bar2 o (leBytes 4 v.toNat) s = writeWord a f bar2 o v s := by
  have hv := loW_leAt_leBytes [] [] v
  rw [List.append_nil, List.nil_append, List.length_nil] at hv
  simp [hostWriteBytes_aligned a f bar2 ho, List.range_succ, hv]

theorem hostWriteBytes_two_words (a : AtWrite) (f : Nat) (bar2 : Bool) {o : Nat} (ho : o % 4 = 0) (v w : Word) (s : PM) :
    hostWriteBytes a f bar2 o (leBytes 4 v.toNat ++ leBytes 4 w.toNat) s =
      writeWord a f bar2 (o + 4) w (writeWord a f bar2 o v s) := by
  have hv := loW_leAt_leBytes [] (leBytes 4 w.toNat) v
  have hw := loW_leAt_leBytes (leBytes 4 v.toNat) [] w
  rw [List.nil_append, List.length_nil] at hv
  rw [List.append_nil, leBytes_length] at hw
  simp [hostWriteBytes_aligned a f bar2 ho, List.range_succ, hv, hw]

/-- A write that covers no word whole changes nothing. -/
theorem hostWriteBytes_narrow (a : AtWrite) (f : Nat) (bar2 : Bool) {o : Nat} {data : List Byte}
    (h : o % 4 + data.length < 4) (s : PM) : hostWriteBytes a f bar2 o data s = s := by
  have hk : ((o + data.length) / 4 * 4 - cdiv o 4 * 4) / 4 = 0 := by unfold cdiv; omega
  simp only [hostWriteBytes, hk, List.range_zero, List.foldl_nil]

theorem foldl_of_fixed {α β : Type} {f : α → β → α} {x : α} (h : ∀ b, f x b = x) (l : List β) : l.foldl f x = x := by
  induction l with
  | nil => rfl
  | cons b t ih => rw [List.foldl_cons, h, ih]

/-- A write of words that are all ignored changes nothing. -/
theorem hostWriteBytes_of_ignored (a : AtWrite) (f : Nat) (bar2 : Bool) (o : Nat) (data : List Byte) (s : PM)
    (h : ∀ x : Nat, o ≤ x → ∀ d : Word, writeWord a f bar2 x d s = s) : hostWriteBytes a f bar2 o data s = s := by
  have hfirst : o ≤ cdiv o 4 * 4 := by unfold cdiv; omega
  exact foldl_of_fixed (fun i => h _ (Nat.le_add_right_of_le hfirst) _) _

/-! ## From a word to the operation of its register (R552, R554, R561) -/

theorem writeWord_absent (a : AtWrite) {f : Nat} (bar2 : Bool) (o : Nat) (d : Word) {s : PM}
    (h : fnExists s.1 f = false) : writeWord a f bar2 o d s = s := by simp [writeWord, h]

/-- BAR0 of the physical function, which is always there. -/
theorem writeWord_pf (a : AtWrite) (o : Nat) (d : Word) (s : PM) : writeWord a 0 false o d s = writePf a o d s := by
  simp [writeWord, fnExists, vfState]

theorem onM_whenWr_of_writable (f : Pnm → Pnm) {s : PM} (h : wrOk s.1 = true) : onM (whenWr f) s = (f s.1, s.2) := by
  simp [onM, whenWr, h]

theorem onM_whenWr_of_not_writable (f : Pnm → Pnm) {s : PM} (h : ¬ wrOk s.1 = true) : onM (whenWr f) s = s := by
  simp [onM, whenWr, h]

/-- No block lies at 0x100000 or above. -/
theorem writePf_reserved (a : AtWrite) {o : Nat} (h : 0x100000 ≤ o) (d : Word) (s : PM) : writePf a o d s = s := by
  obtain ⟨k, hblock⟩ : ∃ k, o / 0x10000 = k + 16 := Nat.exists_eq_add_of_le' (by omega)
  have hsvi : o ≠ Reg.SVI_CTRL := by unfold Reg.SVI_CTRL; omega
  have hch : ¬ (Reg.CRC_CH ≤ o ∧ o < Reg.CRC_CH + 512) := by unfold Reg.CRC_CH; omega
  simp [writePf, hblock, hsvi, hch, onM, whenWr]

/-- Outside GLB nothing is written before BOOT_DONE, nor between a reset request and its effect. -/
theorem writePf_not_writable (a : AtWrite) {o : Nat} (h : 0x10000 ≤ o) (d : Word) {s : PM} (hw : ¬ wrOk s.1 = true) :
    writePf a o d s = s := by
  have hb : o / 0x10000 ≠ 0 := by omega
  unfold writePf
  rw [if_neg hb]
  by_cases hsvi : o = Reg.SVI_CTRL
  · rw [if_pos hsvi, if_pos (by simpa using hw)]
  · rw [if_neg hsvi]
    exact onM_whenWr_of_not_writable _ hw

/-- The flags registers outside GLB whose flags the register file holds, with their flags (R9). -/
def flagMasks : List (Nat × Word) :=
  [(Reg.TIM_FLAGS, 0x3F), (Reg.SVI_FLAGS, 0xF), (Reg.FPE_FLAGS, 0x1F), (Reg.GTE_FLAGS, 7), (Reg.CYE_FLAGS, 0x7F),
   (Reg.OUT_FLAGS, 0xF), (Reg.SIO_FLAGS, 0x1F), (Reg.HIF_FLAGS, 7), (Reg.HIF_VF_FLAGS, 7), (Reg.CAP_FLAGS, 7),
   (Reg.PAR_FLAGS, 0x3F), (Reg.KEY_FLAGS, 0x3F), (Reg.CRC_FLAGS, 1)]

theorem flagMasks_aligned : ∀ p ∈ flagMasks, p.1 % 4 = 0 := by decide

theorem w1cMask_of_mem_flagMasks : ∀ p ∈ flagMasks, w1cMask p.1 = p.2 := by decide

theorem flagMasks_not_telemetry : ∀ p ∈ flagMasks, p.1 ≠ Reg.JNL_FLAGS ∧ p.1 ≠ Reg.DIA_FLAGS := by decide

/-- Every block clears its flags in the same way. -/
theorem writePf_flags (a : AtWrite) {p : Nat × Word} (hp : p ∈ flagMasks) (v : Word) (s : PM) :
    writePf a p.1 v s = onM (whenWr (w1cWrite p.1 v)) s := by
  simp only [flagMasks, List.mem_cons, List.not_mem_nil, or_false] at hp
  rcases hp with rfl | rfl | rfl | rfl | rfl | rfl | rfl | rfl | rfl | rfl | rfl | rfl | rfl <;> rfl

theorem w1cWrite_register {o : Nat} (h : o ≠ Reg.JNL_FLAGS ∧ o ≠ Reg.DIA_FLAGS) (v : Word) (m : Pnm) :
    w1cWrite o v m = wr m o (rd m o &&& ~~~ (v &&& w1cMask o)) := by simp [w1cWrite, h.1, h.2]

/-- The _LO words of SVI_GM_ID1 and SVI_GM_ID2. -/
def gmIdLos : List Nat := [Reg.SVI_GM_ID1_LO, Reg.SVI_GM_ID2_LO]

theorem gmIdLos_aligned : ∀ lo ∈ gmIdLos, lo % 4 = 0 := by decide

theorem writePf_gmId_lo (a : AtWrite) {lo : Nat} (h : lo ∈ gmIdLos) (v : Word) (s : PM) :
    writePf a lo v s = onM (whenWr fun m => stage m lo v) s := by
  simp only [gmIdLos, List.mem_cons, List.not_mem_nil, or_false] at h
  rcases h with rfl | rfl <;> rfl

theorem writePf_gmId_hi (a : AtWrite) {lo : Nat} (h : lo ∈ gmIdLos) (v : Word) (s : PM) :
    writePf a (lo + 4) v s = onM (whenWr (pairCommit lo (lo + 4) 0xFFFFFFFF#32 v)) s := by
  simp only [gmIdLos, List.mem_cons, List.not_mem_nil, or_false] at h
  rcases h with rfl | rfl <;> rfl

/-! ## What the operations keep, and what they leave (R9, R558) -/

theorem keeps_wr {ps : List Part} (h : .regs ∈ ps) (m : Pnm) (o : Nat) (v : Word) : Keeps ps m (wr m o v) := by
  intro p hp
  cases p with
  | regs => exact absurd h hp
  | _ => rfl

theorem keeps_stage {ps : List Part} (h : .staged ∈ ps) (m : Pnm) (o : Nat) (v : Word) : Keeps ps m (stage m o v) := by
  intro p hp
  cases p with
  | staged => exact absurd h hp
  | _ => rfl

/-- A change of the journal, the diagnosis or anything else that the telemetry part holds. -/
theorem keeps_tel (m : Pnm) (t : Tel) : Keeps [.tel] m { m with tel := t } := by
  intro p hp
  cases p with
  | tel => exact absurd (List.mem_singleton.mpr rfl) hp
  | _ => rfl

theorem keeps_pairCommit {ps : List Part} (h : .regs ∈ ps) (m : Pnm) (lo hi : Nat) (k v : Word) :
    Keeps ps m (pairCommit lo hi k v m) := (keeps_wr h m _ _).trans (keeps_wr h _ _ _)

theorem keepsRegs_pairCommit (m : Pnm) (lo hi : Nat) (k v : Word) : KeepsRegs [lo, hi] m (pairCommit lo hi k v m) :=
  (keepsRegs_wr m _ (by simp)).trans (keepsRegs_wr _ _ (by simp))

theorem keepsRegs_stage (os : List Nat) (m : Pnm) (o : Nat) (v : Word) : KeepsRegs os m (stage m o v) := .of_regs rfl

theorem rd_pairCommit_lo (m : Pnm) {lo hi : Nat} (h : lo ≠ hi) (k v : Word) :
    rd (pairCommit lo hi k v m) lo = stagedLo m lo := by rw [pairCommit, rd_wr_ne _ _ _ h, rd_wr_same]

theorem rd_pairCommit_hi (m : Pnm) (lo hi : Nat) (v : Word) : rd (pairCommit lo hi 0xFFFFFFFF#32 v m) hi = v := by
  rw [pairCommit, rd_wr_same]; exact BitVec.and_allOnes

@[simp] theorem stagedLo_stage_same (m : Pnm) (lo : Nat) (v : Word) : stagedLo (stage m lo v) lo = v := by
  simp [stagedLo, stage]

theorem stagedLo_stage_ne (m : Pnm) {lo o : Nat} (h : o ≠ lo) (v : Word) : stagedLo (stage m lo v) o = stagedLo m o := by
  rw [stagedLo, stagedLo, rd_stage, stage, NMap.get_set_ne _ _ _ _ _ h]

/-- Where a _LO word is staged, a commit leaves it staged. -/
theorem stagedLo_pairCommit_stage (m : Pnm) (lo hi : Nat) (k v w : Word) :
    stagedLo (pairCommit lo hi k w (stage m lo v)) lo = v := by
  simp [stagedLo, pairCommit, stage]

/-! ## Completion of a register write -/

/-- What a write command makes of the module is what the write of its bytes makes of it. -/
theorem does_registerWrite {s : State} {fn : BitVec 9} {bar2 : Bool} {off : BitVec 24} {data : List Byte} {a : AtWrite}
    {ps : List Part} {os : List Nat} {P : Pnm → Prop} {n : Pnm}
    (hc : hostWriteBytes a fn.toNat bar2 off.toNat data (s.m, s.mem) = (n, s.mem))
    (hk : Keeps ps s.m n) (hr : KeepsRegs os s.m n) (hp : P n) : Does (.registerWrite fn bar2 off data a) s ps os P :=
  ⟨n, by change runMem _ s = _; rw [runMem, hc], hk, hr, hp⟩

theorem nothing_registerWrite {s : State} {fn : BitVec 9} {bar2 : Bool} {off : BitVec 24} {data : List Byte} {a : AtWrite}
    (hc : hostWriteBytes a fn.toNat bar2 off.toNat data (s.m, s.mem) = (s.m, s.mem)) :
    DoesNothing (.registerWrite fn bar2 off data a) s := by change runMem _ s = _; rw [runMem, hc]

/-- A four-byte write of the register at `o` of the physical function. -/
theorem does_writeReg {s : State} {off : BitVec 24} {o : Nat} {v : Word} {a : AtWrite} {ps : List Part} {os : List Nat}
    {P : Pnm → Prop} {n : Pnm} (ho : off.toNat = o) (h4 : o % 4 = 0) (hc : writePf a o v (s.m, s.mem) = (n, s.mem))
    (hk : Keeps ps s.m n) (hr : KeepsRegs os s.m n) (hp : P n) :
    Does (.registerWrite 0 false off (leBytes 4 v.toNat) a) s ps os P :=
  does_registerWrite (by rw [ho, hostWriteBytes_word _ _ _ h4]; exact (writeWord_pf ..).trans hc) hk hr hp

/-- A write to the physical function at `off` or above, of words that are all ignored. -/
theorem nothing_of_writePf {s : State} {off : BitVec 24} {data : List Byte} {a : AtWrite}
    (h : ∀ x : Nat, off.toNat ≤ x → ∀ d : Word, writePf a x d (s.m, s.mem) = (s.m, s.mem)) :
    DoesNothing (.registerWrite 0 false off data a) s :=
  nothing_registerWrite (hostWriteBytes_of_ignored _ _ _ _ _ _ fun x hx d => (writeWord_pf ..).trans (h x hx d))

/-! ## The kinds of registers -/

section
variable {s : State} {off : BitVec 24} (v : Word) (a : AtWrite)

theorem write_clears_flags {p : Nat × Word} (hp : p ∈ flagMasks) (ho : off.toNat = p.1) (hw : s.writable) :
    Does (.registerWrite 0 false off (leBytes 4 v.toNat) a) s [.regs] [p.1] fun n =>
      rd n p.1 = rd s.m p.1 &&& ~~~ (v &&& p.2) := by
  have hc : writePf a p.1 v (s.m, s.mem) = (wr s.m p.1 (rd s.m p.1 &&& ~~~ (v &&& p.2)), s.mem) := by
    rw [writePf_flags a hp, onM_whenWr_of_writable _ hw, w1cWrite_register (flagMasks_not_telemetry p hp),
      w1cMask_of_mem_flagMasks p hp]
  exact does_writeReg ho (flagMasks_aligned p hp) hc (keeps_wr (by simp) _ _ _) (keepsRegs_wr _ _ (by simp))
    (rd_wr_same _ _ _)

theorem write_clears_glb_flags (ho : off.toNat = Reg.GLB_FLAGS) (hg : s.glbLive) :
    Does (.registerWrite 0 false off (leBytes 4 v.toNat) a) s [.regs] [Reg.GLB_FLAGS] fun n =>
      rd n Reg.GLB_FLAGS = rd s.m Reg.GLB_FLAGS &&& ~~~ (v &&& 0x1F) := by
  have hc : writePf a Reg.GLB_FLAGS v (s.m, s.mem) = (w1cWrite Reg.GLB_FLAGS v s.m, s.mem) :=
    congrArg (·, s.mem) (whenGlb_of_glbLive (w1cWrite Reg.GLB_FLAGS v) hg)
  exact does_writeReg ho rfl hc (keeps_wr (by simp) _ _ _) (keepsRegs_wr _ _ (by simp)) (rd_wr_same _ _ _)

theorem write_clears_jnl_flags (ho : off.toNat = Reg.JNL_FLAGS) (hw : s.writable) :
    Does (.registerWrite 0 false off (leBytes 4 v.toNat) a) s [.tel] [] fun n =>
      n.tel = { s.m.tel with jnl := { s.m.tel.jnl with flags := s.m.tel.jnl.flags &&& ~~~ (v &&& 0x1F) } } :=
  does_writeReg ho rfl (onM_whenWr_of_writable (w1cWrite Reg.JNL_FLAGS v) hw) (keeps_tel _ _) (.of_regs rfl) rfl

theorem write_clears_dia_flags (ho : off.toNat = Reg.DIA_FLAGS) (hw : s.writable) :
    Does (.registerWrite 0 false off (leBytes 4 v.toNat) a) s [.tel] [] fun n =>
      n.tel = { s.m.tel with dia := { s.m.tel.dia with flags := s.m.tel.dia.flags &&& ~~~ (v &&& 0xF) } } :=
  does_writeReg ho rfl (onM_whenWr_of_writable (w1cWrite Reg.DIA_FLAGS v) hw) (keeps_tel _ _) (.of_regs rfl) rfl

theorem write_stages_gmId_lo {lo : Nat} (hlo : lo ∈ gmIdLos) (ho : off.toNat = lo) (hw : s.writable) :
    Does (.registerWrite 0 false off (leBytes 4 v.toNat) a) s [.staged] [] fun n =>
      stagedLo n lo = v ∧ ∀ o : Nat, o ≠ lo → stagedLo n o = stagedLo s.m o :=
  does_writeReg ho (gmIdLos_aligned lo hlo) ((writePf_gmId_lo a hlo v _).trans (onM_whenWr_of_writable _ hw))
    (keeps_stage (by simp) _ _ _) (keepsRegs_stage _ _ _ _)
    ⟨stagedLo_stage_same _ _ _, fun _ h => stagedLo_stage_ne _ h _⟩

theorem write_commits_gmId_hi {lo : Nat} (hlo : lo ∈ gmIdLos) (ho : off.toNat = lo + 4) (hw : s.writable) :
    Does (.registerWrite 0 false off (leBytes 4 v.toNat) a) s [.regs] [lo, lo + 4] fun n =>
      rd n lo = stagedLo s.m lo ∧ rd n (lo + 4) = v := by
  have h4 : (lo + 4) % 4 = 0 := by rw [Nat.add_mod_right]; exact gmIdLos_aligned lo hlo
  exact does_writeReg ho h4 ((writePf_gmId_hi a hlo v _).trans (onM_whenWr_of_writable _ hw))
    (keeps_pairCommit (by simp) _ _ _ _ _) (keepsRegs_pairCommit _ _ _ _ _)
    ⟨rd_pairCommit_lo _ (by omega) _ _, rd_pairCommit_hi _ _ _ _⟩

/-- An eight-byte write stages its lower word, and commits it with its upper word. -/
theorem write_commits_gmId_pair {lo : Nat} (hlo : lo ∈ gmIdLos) (ho : off.toNat = lo) (hw : s.writable) (w : Word) :
    Does (.registerWrite 0 false off (leBytes 4 v.toNat ++ leBytes 4 w.toNat) a) s [.regs, .staged] [lo, lo + 4] fun n =>
      rd n lo = v ∧ rd n (lo + 4) = w ∧ stagedLo n lo = v := by
  have hc : hostWriteBytes a 0 false off.toNat (leBytes 4 v.toNat ++ leBytes 4 w.toNat) (s.m, s.mem) =
      (pairCommit lo (lo + 4) 0xFFFFFFFF#32 w (stage s.m lo v), s.mem) := by
    rw [ho, hostWriteBytes_two_words _ _ _ (gmIdLos_aligned lo hlo), writeWord_pf, writeWord_pf, writePf_gmId_lo a hlo,
      onM_whenWr_of_writable _ hw, writePf_gmId_hi a hlo, onM_whenWr_of_writable _ hw]
  have hlow : rd (pairCommit lo (lo + 4) 0xFFFFFFFF#32 w (stage s.m lo v)) lo = v :=
    (rd_pairCommit_lo _ (by omega) _ _).trans (stagedLo_stage_same _ _ _)
  exact does_registerWrite hc ((keeps_stage (by simp) _ _ _).trans (keeps_pairCommit (by simp) _ _ _ _ _))
    ((keepsRegs_stage _ _ _ _).trans (keepsRegs_pairCommit _ _ _ _ _))
    ⟨hlow, rd_pairCommit_hi _ _ _ _, stagedLo_pairCommit_stage _ _ _ _ _ _⟩

theorem write_stores_ppsWidth (ho : off.toNat = Reg.TIM_PPS_WIDTH) (hw : s.writable) (hv : bits v 18 0 ≤ 500000) :
    Does (.registerWrite 0 false off (leBytes 4 v.toNat) a) s [.regs] [Reg.TIM_PPS_WIDTH] fun n =>
      rd n Reg.TIM_PPS_WIDTH = BitVec.ofNat 32 (bits v 18 0) := by
  have hc : writePf a Reg.TIM_PPS_WIDTH v (s.m, s.mem) =
      (wr s.m Reg.TIM_PPS_WIDTH (BitVec.ofNat 32 (bits v 18 0)), s.mem) :=
    (onM_whenWr_of_writable (timPpsWidthWrite v) hw).trans (congrArg (·, s.mem) (if_pos hv))
  exact does_writeReg ho rfl hc (keeps_wr (by simp) _ _ _) (keepsRegs_wr _ _ (by simp)) (rd_wr_same _ _ _)

theorem write_ignores_long_ppsWidth (ho : off.toNat = Reg.TIM_PPS_WIDTH) (hv : 500000 < bits v 18 0) :
    DoesNothing (.registerWrite 0 false off (leBytes 4 v.toNat) a) s := by
  have hkeep : timPpsWidthWrite v s.m = s.m := if_neg (Nat.not_le.mpr hv)
  have hc : whenWr (timPpsWidthWrite v) s.m = s.m := by rw [whenWr, hkeep, ite_self]
  refine nothing_registerWrite ?_
  rw [ho, hostWriteBytes_word _ _ _ rfl]
  exact (writeWord_pf ..).trans (congrArg (·, s.mem) hc)

theorem write_stores_utcOfs (ho : off.toNat = Reg.TIM_UTC_OFS) (hw : s.writable) :
    Does (.registerWrite 0 false off (leBytes 4 v.toNat) a) s [.regs] [Reg.TIM_UTC_OFS] fun n =>
      bits (rd n Reg.TIM_UTC_OFS) 15 0 = bits v 15 0 := by
  have hc : writePf a Reg.TIM_UTC_OFS v (s.m, s.mem) = (plainWrite Reg.TIM_UTC_OFS v s.m, s.mem) :=
    onM_whenWr_of_writable (plainWrite Reg.TIM_UTC_OFS v) hw
  refine does_writeReg ho rfl hc (keeps_wr (by simp) _ _ _) (keepsRegs_wr _ _ (by simp)) ?_
  rw [bits_low_half, bits_low_half]
  exact congrArg BitVec.toNat ((congrArg (· &&& 0x0000FFFF#32) (rd_wr_same _ _ _)).trans (select_and_mask _ _ _))

end

/-- Settles O8: it holds. A write is cut into the words that it covers whole; each word reaches the operation of its
register, and every operation names what it changes. -/
theorem registerWritesTakeEffect : Obligations.RegisterWritesTakeEffect := by
  intro s off v a
  dsimp only
  refine ⟨fun p hp ho hw => write_clears_flags v a hp ho hw, write_clears_glb_flags v a, write_clears_jnl_flags v a,
    write_clears_dia_flags v a, fun lo hlo hw => ⟨fun ho => write_stages_gmId_lo v a hlo ho hw,
      fun ho => write_commits_gmId_hi v a hlo ho hw, fun ho w => write_commits_gmId_pair v a hlo ho hw w⟩,
    write_stores_ppsWidth v a, write_ignores_long_ppsWidth v a, write_stores_utcOfs v a,
    ?narrow, ?absent, ?reserved, ?request⟩
  case narrow => exact fun fn bar2 data h => nothing_registerWrite (hostWriteBytes_narrow _ _ _ h _)
  case absent =>
    exact fun fn bar2 data h =>
      nothing_registerWrite (hostWriteBytes_of_ignored _ _ _ _ _ _ fun x _ d => writeWord_absent _ _ _ _ h)
  case reserved => exact fun h data => nothing_of_writePf fun x hx d => writePf_reserved a (Nat.le_trans h hx) d _
  case request => exact fun h hw data => nothing_of_writePf fun x hx d => writePf_not_writable a (Nat.le_trans h hx) d hw

end Machine
end Sys2Proof
end

section
/-! PROOFS. Frames at a port (R76, R77, R81, R83 to R85): what each operation of MAC on the way keeps and leaves, the path of
a frame of class OTHER to the bulk queue, the start of a queued frame, and pause. -/

namespace Sys2Proof
namespace Machine

/-! ## The registers of a port -/

theorem pr_mem_pagePort {b : Nat} (p i : Nat) (hb : b = 0x20000 + 4 * i) (hi : i < 1024) : pr b p ∈ pagePort p :=
  List.mem_map.mpr ⟨i, List.mem_range.mpr hi, by simp only [pr, Reg.port, hb]; omega⟩

theorem pr_add (b p k : Nat) : pr b p + k = pr (b + k) p := by simp only [pr, Reg.port]; omega

theorem cntReg_mem_pagePort (p : Nat) {i : Nat} (hi : i < 32) : cntReg p i ∈ pagePort p :=
  pr_mem_pagePort p (256 + i) (by simp only [Reg.MAC_PORT_CNT]; omega) (by omega)

theorem pr_ne (p : Nat) {b c : Nat} (h : b ≠ c) : pr b p ≠ pr c p := by simp only [pr, Reg.port]; omega

theorem cntReg_ne (p : Nat) {i j : Nat} (h : i ≠ j) : cntReg p i ≠ cntReg p j := pr_ne p (by omega)

/-! ## Elements of a list -/

theorem map_modAt {α β : Type} {f : α → α} {g : α → β} {h : β → β} (e : ∀ a, g (f a) = h (g a)) (l : List α) (i : Nat) :
    (modAt l i f).map g = modAt (l.map g) i h := by
  cases hi : l[i]? with
  | none => simp [modAt, hi]
  | some a => simp [modAt, hi, List.map_set, e]

theorem modAt_id {α : Type} (l : List α) (i : Nat) : modAt l i id = l := by
  cases hi : l[i]? with
  | none => simp [modAt, hi]
  | some a =>
    obtain ⟨hlt, ha⟩ := List.getElem?_eq_some_iff.mp hi
    simp only [modAt, hi, id, ← ha]
    exact List.set_getElem_self hlt

theorem map_modAt_of_kept {α β : Type} {f : α → α} {g : α → β} (e : ∀ a, g (f a) = g a) (l : List α) (i : Nat) :
    (modAt l i f).map g = l.map g := (map_modAt (h := id) e l i).trans (modAt_id _ _)

/-! ## What the operations keep, and what they leave -/

theorem keeps_mac {ps : List Part} (h : .mac ∈ ps) (m : Pnm) (x : Mac) : Keeps ps m { m with mac := x } := by
  intro p hp
  cases p with
  | mac => exact absurd h hp
  | _ => rfl

theorem keeps_modPort {ps : List Part} (h : .mac ∈ ps) (m : Pnm) (p : Nat) (f : Port → Port) : Keeps ps m (modPort m p f) :=
  keeps_mac h m _

theorem keepsRegs_modPort (os : List Nat) (m : Pnm) (p : Nat) (f : Port → Port) : KeepsRegs os m (modPort m p f) :=
  .of_regs rfl

theorem keeps_emit {ps : List Part} (h : .tel ∈ ps) (m : Pnm) (es : List Emit) : Keeps ps m (emit m es) :=
  (keeps_tel m _).mono (List.cons_subset.mpr ⟨h, List.nil_subset _⟩)

theorem keeps_cnt {ps : List Part} (hr : .regs ∈ ps) (ht : .tel ∈ ps) (p i : Nat) (m : Pnm) : Keeps ps m (cnt p i m) :=
  (keeps_wr hr m _ _).trans ((keeps_tel _ _).mono (List.cons_subset.mpr ⟨ht, List.nil_subset _⟩))

theorem keepsRegs_cnt {os : List Nat} {p i : Nat} (h : cntReg p i ∈ os) (m : Pnm) : KeepsRegs os m (cnt p i m) :=
  (keepsRegs_wr m _ h).trans (.of_regs rfl)

theorem rd_cnt_same (p i : Nat) (m : Pnm) : rd (cnt p i m) (cntReg p i) = rd m (cntReg p i) + 1 := rd_wr_same _ _ _

theorem rd_cnt_ne (p : Nat) {i j : Nat} (h : j ≠ i) (m : Pnm) : rd (cnt p i m) (cntReg p j) = rd m (cntReg p j) :=
  rd_wr_ne _ _ _ (cntReg_ne p h)

/-- The registers of a port below its counters are its configuration and state. -/
theorem rd_cnt_pr (p i : Nat) (m : Pnm) {b : Nat} (hb : b < Reg.MAC_PORT_CNT) : rd (cnt p i m) (pr b p) = rd m (pr b p) :=
  rd_wr_ne _ _ _ (pr_ne p (by omega))

theorem keeps_octets {ps : List Part} (hr : .regs ∈ ps) (lo n : Nat) (m : Pnm) : Keeps ps m (octets lo n m) :=
  (keeps_wr hr m _ _).trans (keeps_wr hr _ _ _)

theorem keepsRegs_octets {os : List Nat} {lo : Nat} (h : lo ∈ os) (h4 : lo + 4 ∈ os) (n : Nat) (m : Pnm) :
    KeepsRegs os m (octets lo n m) := (keepsRegs_wr m _ h).trans (keepsRegs_wr _ _ h4)

theorem rd_octets_pr_below (p n : Nat) (m : Pnm) {b c : Nat} (h : c < b) :
    rd (octets (pr b p) n m) (pr c p) = rd m (pr c p) := by
  refine keepsRegs_octets (os := [pr b p, pr b p + 4]) (by simp) (by simp) n m _ ?_
  simp only [pr_add, List.mem_cons, List.not_mem_nil, or_false, not_or]
  exact ⟨pr_ne p (by omega), pr_ne p (by omega)⟩

/-- The octet counters lie above the 32 counters of frames. -/
theorem rd_octets_cntReg (p n : Nat) (m : Pnm) {b i : Nat} (hb : Reg.MAC_RX_OCTETS_LO ≤ b) (hi : i < 32) :
    rd (octets (pr b p) n m) (cntReg p i) = rd m (cntReg p i) :=
  rd_octets_pr_below p n m (by simp only [Reg.MAC_PORT_CNT, Reg.MAC_RX_OCTETS_LO] at hb ⊢; omega)

/-- A PFC frame is sent, and the port notes it (R85). -/
theorem keeps_sendPfc_modPort (p quanta : Nat) (g : Port → Port) (m : Pnm) :
    Keeps [.regs, .mac, .tel] m (modPort (sendPfc p quanta m) p g) :=
  ((keeps_emit (by simp) m _).trans (keeps_cnt (by simp) (by simp) _ _ _)).trans (keeps_modPort (by simp) _ _ _)

theorem keepsRegs_sendPfc_modPort (p quanta : Nat) (g : Port → Port) (m : Pnm) :
    KeepsRegs [cntReg p 28] m (modPort (sendPfc p quanta m) p g) :=
  (keepsRegs_cnt (List.mem_singleton.mpr rfl) (emit m _)).trans (keepsRegs_modPort _ _ _ _)

/-! ## Reception up to the class (R76, R77) -/

/-- The module after a good frame of `len` octets was counted at port p (R76). -/
def counted (p len : Nat) (m : Pnm) : Pnm := octets (pr Reg.MAC_RX_OCTETS_LO p) len (cnt p 0 m)

/-- The counters of good frames and their octets. -/
def countedRegs (p : Nat) : List Nat := [cntReg p 0, pr Reg.MAC_RX_OCTETS_LO p, pr Reg.MAC_RX_OCTETS_LO p + 4]

theorem countedRegs_subset_pagePort (p : Nat) : countedRegs p ⊆ pagePort p := by
  intro o ho
  simp only [countedRegs, List.mem_cons, List.not_mem_nil, or_false] at ho
  rcases ho with rfl | rfl | rfl
  · exact cntReg_mem_pagePort p (by decide)
  · exact pr_mem_pagePort p 320 rfl (by decide)
  · rw [pr_add]; exact pr_mem_pagePort p 321 rfl (by decide)

theorem keeps_counted {ps : List Part} (hr : .regs ∈ ps) (ht : .tel ∈ ps) (p len : Nat) (m : Pnm) :
    Keeps ps m (counted p len m) := (keeps_cnt hr ht _ _ _).trans (keeps_octets hr _ _ _)

theorem keepsRegs_counted (p len : Nat) (m : Pnm) : KeepsRegs (countedRegs p) m (counted p len m) :=
  (keepsRegs_cnt (by simp [countedRegs]) m).trans (keepsRegs_octets (by simp [countedRegs]) (by simp [countedRegs]) _ _)

theorem rd_counted_same (p len : Nat) (m : Pnm) : rd (counted p len m) (cntReg p 0) = rd m (cntReg p 0) + 1 :=
  (rd_octets_cntReg p _ _ (Nat.le_refl _) (by decide)).trans (rd_cnt_same _ _ _)

theorem rd_counted_pr (p len : Nat) (m : Pnm) {b : Nat} (hb : b < Reg.MAC_PORT_CNT) :
    rd (counted p len m) (pr b p) = rd m (pr b p) :=
  (rd_octets_pr_below p _ _ (Nat.lt_trans hb (by decide))).trans (rd_cnt_pr _ _ _ hb)

theorem rd_counted_cntReg (p len : Nat) (m : Pnm) {i : Nat} (h0 : i ≠ 0) (hi : i < 32) :
    rd (counted p len m) (cntReg p i) = rd m (cntReg p i) :=
  (rd_octets_cntReg p _ _ (Nat.le_refl _) hi).trans (rd_cnt_ne _ h0 _)

theorem pairMode_counted {p : Nat} (hp : p < 12) (len : Nat) (m : Pnm) : pairMode (counted p len m) p = pairMode m p := by
  have hpm : rd (counted p len m) Reg.MAC_PAIRMODE = rd m Reg.MAC_PAIRMODE := by
    refine keepsRegs_counted p len m _ ?_
    simp only [countedRegs, cntReg, pr, Reg.port, Reg.MAC_PORT_CNT, Reg.MAC_RX_OCTETS_LO, Reg.MAC_PAIRMODE, List.mem_cons,
      List.not_mem_nil, or_false]
    omega
  simp only [pairMode, rf, hpm]

theorem macRx_of_good {p : Nat} {f : Frame} {m : Pnm} (h : frameChecks m p f = 0) :
    macRx p f m = goodRx p f (counted p f.len m) := if_neg (not_not_intro h)

/-- An untagged frame of class OTHER with a group destination. -/
structure GroupOther (f : Frame) : Prop where
  body : f.body = .other
  stag : f.stag = false
  tag : f.tag = none
  dst : isGroup f.dst = true

theorem GroupOther.classify {f : Frame} (h : GroupOther f) {p : Nat} (hp : p ≠ 11) (st : Nat) (m : Pnm) :
    classify p f st m = { m := m, cls := some 0, status := st } := by
  simp [Machine.classify, h.dst, h.body, classOf, hp, countClass, pfcConflict, h.tag]

theorem GroupOther.tagRx {f : Frame} (h : GroupOther f) {p : Nat} {m : Pnm} (hv : rb m (pr Reg.MAC_PORT_CFG p) 8 = true)
    (hp : p ≠ 11) (st : Nat) : tagRx p f st m = { m := m, cls := some 0, status := st } := by
  have hvlan : vlanOk m p f = true := by simp [vlanOk, h.tag, hv]
  simp [Machine.tagRx, h.stag, hvlan, h.classify hp]

/-- At an independent port no redundancy is removed. -/
theorem GroupOther.goodRx {f : Frame} (h : GroupOther f) {p : Nat} {m : Pnm} (hmode : pairMode m p = 0)
    (hv : rb m (pr Reg.MAC_PORT_CFG p) 8 = true) (hp : p ≠ 11) :
    goodRx p f m = { m := m, cls := some 0, status := 0 } := by
  simp [Machine.goodRx, h.body, hmode, h.stag, h.tagRx hv hp, b2n]

/-! ## The bulk queue (R81, R85) -/

theorem otherRx_of_delivered {p : Nat} {m : Pnm} (h : rb m (pr Reg.MAC_PORT_CFG p) 7 = true) (f : Frame) (st : Nat) :
    otherRx p f st m = toPf p f st 0 (rxStamp m p 0 f.len) (cnt p 9 m) := if_pos h

/-- A queue that grows above 48 KiB may send XOFF; nothing else happens. -/
theorem pfcXoff_cases (p : Nat) (m : Pnm) :
    pfcXoff p m = m ∨ ∃ d, pfcXoff p m = modPort (sendPfc p 0xFFFF m) p fun y => { y with xoffDue := d } := by
  simp only [pfcXoff]
  split
  · exact .inr ⟨_, rfl⟩
  · exact .inl rfl

theorem keeps_pfcXoff (p : Nat) (m : Pnm) : Keeps [.regs, .mac, .tel] m (pfcXoff p m) := by
  rcases pfcXoff_cases p m with h | ⟨d, h⟩ <;> rw [h]
  · exact .refl _ _
  · exact keeps_sendPfc_modPort _ _ _ _

theorem keepsRegs_pfcXoff (p : Nat) (m : Pnm) : KeepsRegs [cntReg p 28] m (pfcXoff p m) := by
  rcases pfcXoff_cases p m with h | ⟨d, h⟩ <;> rw [h]
  · exact .refl _ _
  · exact keepsRegs_sendPfc_modPort _ _ _ _

theorem bulkQs_pfcXoff (p : Nat) (m : Pnm) : (pfcXoff p m).mac.ports.map (·.bulkQ) = m.mac.ports.map (·.bulkQ) := by
  rcases pfcXoff_cases p m with h | ⟨d, h⟩ <;> rw [h]
  exact map_modAt_of_kept (f := fun y : Port => { y with xoffDue := d }) (fun _ => rfl) m.mac.ports p

/-- With a posted buffer that no frame waits for, and room, a frame waits in the bulk queue. -/
theorem toPf_waits {p : Nat} {f : Frame} {m : Pnm} (st clk ts : Nat)
    (hpost : m.mac.ports.foldl (fun a x => a + x.bulkQ.length) 0 < m.hif.rxPosts.length)
    (hroom : bulkFill (getPort m p) + f.raw.length ≤ 65536) :
    Keeps [.regs, .mac, .tel] m (toPf p f st clk ts m) ∧ KeepsRegs [cntReg p 28] m (toPf p f st clk ts m) ∧
    ∃ w : RxWait, w.port = p ∧ w.origLen = f.len ∧ w.data = f.raw.take (rf m (pr Reg.MAC_PORT_CFG p) 27 16) ∧
      (toPf p f st clk ts m).mac.ports.map (·.bulkQ) = modAt (m.mac.ports.map (·.bulkQ)) p (· ++ [w]) := by
  have htake : (f.raw.take (rf m (pr Reg.MAC_PORT_CFG p) 27 16)).length ≤ f.raw.length := List.length_take_le' _ _
  obtain ⟨w, hport, hlen, hdata, hw⟩ : ∃ w : RxWait, w.port = p ∧ w.origLen = f.len ∧
      w.data = f.raw.take (rf m (pr Reg.MAC_PORT_CFG p) 27 16) ∧
      toPf p f st clk ts m = pfcXoff p (modPort m p fun x => { x with bulkQ := x.bulkQ ++ [w] }) :=
    ⟨_, rfl, rfl, rfl, if_pos ⟨hpost, by omega⟩⟩
  rw [hw]
  refine ⟨(keeps_modPort (by simp) _ _ _).trans (keeps_pfcXoff _ _),
    (keepsRegs_modPort _ _ _ _).trans (keepsRegs_pfcXoff _ _), w, hport, hlen, hdata, ?_⟩
  rw [bulkQs_pfcXoff]
  exact map_modAt (f := fun x : Port => { x with bulkQ := x.bulkQ ++ [w] }) (g := Port.bulkQ) (h := (· ++ [w]))
    (fun _ => rfl) m.mac.ports p

/-! ## FRAME_RX -/

theorem frameRx_of_no_link {s : PM} {p : Nat} (h : linkUp s.1 p = false) (b : Bool) (f : Frame) : frameRx p b f s = s := by
  simp [frameRx, h]

theorem nothing_frameRx_of_no_link {s : State} {p : BitVec 4} (h : linkUp s.m p.toNat = false) (b : Bool) (f : Frame) :
    DoesNothing (.frameRx p b f) s := by
  change runMem _ s = _
  rw [runMem, whenAliveM, frameRx_of_no_link h, ite_self]

/-- A reception that leaves the capture region alone. -/
theorem does_frameRx {s : State} {p : BitVec 4} {b : Bool} {f : Frame} {ps : List Part} {os : List Nat} {P : Pnm → Prop}
    {n : Pnm} (hl : s.live) (hn : frameRx p.toNat b f (s.m, s.mem) = (n, s.mem)) (hk : Keeps ps s.m n)
    (hr : KeepsRegs os s.m n) (hp : P n) : Does (.frameRx p b f) s ps os P :=
  ⟨n, by change runMem _ s = _; rw [runMem, whenAliveM, if_pos hl, hn], hk, hr, hp⟩

/-- A good frame of class OTHER at an independent port that delivers such frames is counted and goes to the PF. -/
theorem GroupOther.frameRx {f : Frame} (h : GroupOther f) {p : Nat} {m : Pnm} {mem : Memory} (b : Bool)
    (hl : alive m = true) (hp : p < 11) (hlink : linkUp m p = true) (hmode : pairMode m p = 0)
    (hv : rb m (pr Reg.MAC_PORT_CFG p) 8 = true) (hd : rb m (pr Reg.MAC_PORT_CFG p) 7 = true) (hc : frameChecks m p f = 0) :
    frameRx p b f (m, mem) =
      (toPf p f 0 0 (rxStamp (counted p f.len m) p 0 f.len) (cnt p 9 (counted p f.len m)), mem) := by
  have hcfg : rd (counted p f.len m) (pr Reg.MAC_PORT_CFG p) = rd m (pr Reg.MAC_PORT_CFG p) := rd_counted_pr _ _ _ (by decide)
  have hmac : macRx p f m = { m := counted p f.len m, cls := some 0, status := 0 } := by
    rw [macRx_of_good hc]
    exact h.goodRx ((pairMode_counted (by omega) _ _).trans hmode) (by rwa [rb, hcfg]) (by omega)
  have hother := otherRx_of_delivered (m := counted p f.len m) (by rwa [rb, hcfg]) f 0
  simp [Machine.frameRx, hl, hlink, hmac, handOn, hother, show p < 12 by omega]

theorem frameRx_reaches_bulk_queue {s : State} {p : BitVec 4} {f : Frame} (b : Bool) (h : GroupOther f) (hl : s.live)
    (hp : p.toNat < 11) (hlink : linkUp s.m p.toNat = true) (hmode : pairMode s.m p.toNat = 0)
    (hv : rb s.m (pr Reg.MAC_PORT_CFG p.toNat) 8 = true) (hd : rb s.m (pr Reg.MAC_PORT_CFG p.toNat) 7 = true)
    (hc : frameChecks s.m p.toNat f = 0)
    (hpost : s.m.mac.ports.foldl (fun a x => a + x.bulkQ.length) 0 < s.m.hif.rxPosts.length)
    (hroom : bulkFill (getPort s.m p.toNat) + f.raw.length ≤ 65536) :
    Does (.frameRx p b f) s [.regs, .mac, .tel] (pagePort p.toNat) fun n =>
      rd n (cntReg p.toNat 0) = rd s.m (cntReg p.toNat 0) + 1 ∧ rd n (cntReg p.toNat 9) = rd s.m (cntReg p.toNat 9) + 1 ∧
      ∃ w : RxWait, w.port = p.toNat ∧ w.origLen = f.len ∧
        w.data = f.raw.take (rf s.m (pr Reg.MAC_PORT_CFG p.toNat) 27 16) ∧
        n.mac.ports.map (·.bulkQ) = modAt (s.m.mac.ports.map (·.bulkQ)) p.toNat (· ++ [w]) := by
  obtain ⟨hkeep, hregs, w, hport, hlen, hdata, hqueue⟩ := toPf_waits (p := p.toNat) (f := f)
    (m := cnt p.toNat 9 (counted p.toNat f.len s.m)) 0 0 (rxStamp (counted p.toNat f.len s.m) p.toNat 0 f.len) hpost hroom
  have hcfg : rd (cnt p.toNat 9 (counted p.toNat f.len s.m)) (pr Reg.MAC_PORT_CFG p.toNat) =
      rd s.m (pr Reg.MAC_PORT_CFG p.toNat) := (rd_cnt_pr _ _ _ (by decide)).trans (rd_counted_pr _ _ _ (by decide))
  refine does_frameRx hl (h.frameRx b hl hp hlink hmode hv hd hc) ?keeps ?regs ⟨?good, ?other, w, hport, hlen, ?_, hqueue⟩
  case keeps => exact ((keeps_counted (by simp) (by simp) _ _ _).trans (keeps_cnt (by simp) (by simp) _ _ _)).trans hkeep
  case regs =>
    exact (((keepsRegs_counted _ _ _).mono (countedRegs_subset_pagePort _)).trans
      (keepsRegs_cnt (cntReg_mem_pagePort _ (by decide)) _)).trans
      (hregs.mono (List.cons_subset.mpr ⟨cntReg_mem_pagePort _ (by decide), List.nil_subset _⟩))
  case good => rw [hregs _ (by simpa using cntReg_ne _ (by decide)), rd_cnt_ne _ (by decide), rd_counted_same]
  case other =>
    rw [hregs _ (by simpa using cntReg_ne _ (by decide)), rd_cnt_same, rd_counted_cntReg _ _ _ (by decide) (by decide)]
  · rw [hdata, rf, hcfg]; rfl

/-! ## FRAME_TX_START (R83) -/

/-- A frame that no clock is taken for leaves its queue and goes out. -/
theorem frameStart_of_plain {p i : Nat} {f : TxFrame} {m : Pnm} (hn : nextTx (getPort m p) = some (i, f))
    (hb : (∃ g, f.body = .goose g) ∨ (∃ l, f.body = .pair l) ∨ (∃ h q, f.body = .supervision h q)) :
    frameStart p m = (txOut p f (modPort m p fun x => { x with queues := modAt x.queues i List.tail }), none) := by
  rcases hb with ⟨g, hb⟩ | ⟨l, hb⟩ | ⟨h, q, hb⟩ <;> simp only [frameStart, hn, hb]

theorem keeps_txOut (p : Nat) (f : TxFrame) (m : Pnm) : Keeps [.regs, .mac, .tel] m (txOut p f m) :=
  ((keeps_cnt (by simp) (by simp) _ _ _).trans (keeps_octets (by simp) _ _ _)).trans (keeps_emit (by simp) _ _)

theorem keepsRegs_txOut (p : Nat) (f : TxFrame) (m : Pnm) : KeepsRegs (pagePort p) m (txOut p f m) := by
  have hlo : pr Reg.MAC_TX_OCTETS_LO p ∈ pagePort p := pr_mem_pagePort p 322 rfl (by decide)
  have hhi : pr Reg.MAC_TX_OCTETS_LO p + 4 ∈ pagePort p := by
    rw [pr_add]; exact pr_mem_pagePort p 323 rfl (by decide)
  exact ((keepsRegs_cnt (cntReg_mem_pagePort _ (by decide)) m).trans (keepsRegs_octets hlo hhi _ _)).trans (.of_regs rfl)

theorem rd_txOut_frames (p : Nat) (f : TxFrame) (m : Pnm) : rd (txOut p f m) (cntReg p 27) = rd m (cntReg p 27) + 1 :=
  (rd_octets_cntReg p f.len _ (by decide) (by decide)).trans (rd_cnt_same _ _ _)

theorem out_txOut (p : Nat) (f : TxFrame) (m : Pnm) : (txOut p f m).tel.out.getLast? = some (.tx p f) := by
  simp [txOut, emit]

theorem frameTxStart_sends {s : State} {p : BitVec 4} (hl : s.live) (hp : p.toNat < 12) (hlink : linkUp s.m p.toNat = true)
    {i : Nat} {f : TxFrame} (hn : nextTx (getPort s.m p.toNat) = some (i, f))
    (hb : (∃ g, f.body = .goose g) ∨ (∃ l, f.body = .pair l) ∨ (∃ h q, f.body = .supervision h q)) :
    Does (.frameTxStart p) s [.regs, .mac, .tel] (pagePort p.toNat) fun n =>
      n.mac = { s.m.mac with ports := modAt s.m.mac.ports p.toNat fun x =>
        { x with queues := modAt x.queues i List.tail } } ∧
      rd n (cntReg p.toNat 27) = rd s.m (cntReg p.toNat 27) + 1 ∧
      n.tel.out.getLast? = some (.tx p.toNat f) := by
  have hstart : frameTxStart p.toNat s.m =
      txOut p.toNat f (modPort s.m p.toNat fun x => { x with queues := modAt x.queues i List.tail }) := by
    simp only [frameTxStart, hl, hp, hlink, decide_true, Bool.and_self, if_true, frameStart_of_plain hn hb]
  exact does_al (frameTxStart p.toNat) hl rfl hstart ((keeps_modPort (by simp) _ _ _).trans (keeps_txOut _ _ _))
    ((keepsRegs_modPort _ _ _ _).trans (keepsRegs_txOut _ _ _)) ⟨rfl, rd_txOut_frames _ _ _, out_txOut _ _ _⟩

theorem nothing_frameTxStart {s : State} {p : BitVec 4} (hn : nextTx (getPort s.m p.toNat) = none) :
    DoesNothing (.frameTxStart p) s := by
  have hstart : frameStart p.toNat s.m = (s.m, none) := by simp only [frameStart, hn]
  exact nothing_al (frameTxStart p.toNat) rfl (by simp [frameTxStart, hstart])

/-! ## Pause (R84, R85) -/

theorem onPort_of_lt {p : Nat} (hp : p < 12) (f : Pnm → Pnm) (m : Pnm) : onPort p f m = f m := if_pos hp

theorem onPort_fixed {p : Nat} {f : Pnm → Pnm} {m : Pnm} (h : f m = m) : onPort p f m = m := by rw [onPort, h, ite_self]

theorem pauseExpiry_releases {s : State} {p : BitVec 4} {k : BitVec 3} (hl : s.live) (hp : p.toNat < 12)
    (hd : due ((getPort s.m p.toNat).held.getD k.toNat none) s.m.tim.edge = true) :
    Does (.pfcPauseExpiry p k) s [.mac] [] fun n =>
      n.mac = { s.m.mac with ports := modAt s.m.mac.ports p.toNat fun x => { x with held := setAt x.held k.toNat none } } :=
  does_al (onPort p.toNat (pauseExpiry p.toNat k.toNat)) hl rfl ((onPort_of_lt hp _ _).trans (if_pos hd))
    (keeps_modPort (by simp) _ _ _) (keepsRegs_modPort _ _ _ _) rfl

theorem nothing_pauseExpiry {s : State} {p : BitVec 4} {k : BitVec 3}
    (hd : due ((getPort s.m p.toNat).held.getD k.toNat none) s.m.tim.edge = false) :
    DoesNothing (.pfcPauseExpiry p k) s :=
  nothing_al (onPort p.toNat (pauseExpiry p.toNat k.toNat)) rfl (onPort_fixed (if_neg (ne_true_of_eq_false hd)))

theorem xoffRepeat_sends {s : State} {p : BitVec 4} (hl : s.live) (hp : p.toNat < 12)
    (hd : due (getPort s.m p.toNat).xoffDue s.m.tim.edge = true) (hfill : 16384 < bulkFill (getPort s.m p.toNat)) :
    Does (.pfcXoffRepeat p) s [.regs, .mac, .tel] [cntReg p.toNat 28] fun n =>
      rd n (cntReg p.toNat 28) = rd s.m (cntReg p.toNat 28) + 1 ∧
      n.mac = { s.m.mac with ports := modAt s.m.mac.ports p.toNat fun x =>
        { x with xoffDue := some (s.m.tim.edge + halfQuanta (getPort s.m p.toNat).mbps) } } :=
  does_al (onPort p.toNat (xoffRepeat p.toNat)) hl rfl ((onPort_of_lt hp _ _).trans ((if_pos hd).trans (if_pos hfill)))
    (keeps_sendPfc_modPort _ _ _ _) (keepsRegs_sendPfc_modPort _ _ _ _) ⟨rd_cnt_same _ 28 (emit s.m _), rfl⟩

theorem nothing_xoffRepeat {s : State} {p : BitVec 4} (hd : due (getPort s.m p.toNat).xoffDue s.m.tim.edge = false) :
    DoesNothing (.pfcXoffRepeat p) s :=
  nothing_al (onPort p.toNat (xoffRepeat p.toNat)) rfl (onPort_fixed (if_neg (ne_true_of_eq_false hd)))

/-- Settles O18: it holds. A frame that passes every check of reception reaches the bulk queue over counters alone; a frame
that starts, a release and a repeated XOFF each change their port once. -/
theorem framesAreQueuedSentAndPaused : Obligations.FramesAreQueuedSentAndPaused := by
  refine ⟨fun s p b f => ⟨fun h => nothing_frameRx_of_no_link h b f, ?receive⟩,
    fun s p hl hp hlink => ⟨fun i f hn hb => frameTxStart_sends hl hp hlink hn hb, nothing_frameTxStart⟩,
    fun s p k hl hp => ⟨pauseExpiry_releases hl hp, nothing_pauseExpiry, xoffRepeat_sends hl hp, nothing_xoffRepeat⟩⟩
  case receive =>
    intro hl hp hlink hmode hbody hstag htag hv hd hdst hc hpost hroom
    exact frameRx_reaches_bulk_queue b ⟨hbody, hstag, htag, hdst⟩ hl hp hlink hmode hv hd hc hpost hroom

end Machine
end Sys2Proof
end

section
/-! PROOFS. The subscription window (R105, R130, R131, R577): what each operation of SVI keeps and leaves, the words that a
read returns, and the commit of staged entries. -/

namespace Sys2Proof
namespace Machine

/-! ## What the operations of SVI keep -/

theorem keeps_svi {ps : List Part} (h : .svi ∈ ps) (m : Pnm) (v : Svi) : Keeps ps m { m with svi := v } := by
  intro p hp
  cases p with
  | svi => exact absurd h hp
  | _ => rfl

theorem keeps_fpe {ps : List Part} (h : .fpe ∈ ps) (m : Pnm) (f : Fpe) : Keeps ps m { m with fpe := f } := by
  intro p hp
  cases p with
  | fpe => exact absurd h hp
  | _ => rfl

theorem keeps_tel_of_mem {ps : List Part} (h : .tel ∈ ps) (m : Pnm) (t : Tel) : Keeps ps m { m with tel := t } :=
  (keeps_tel m t).mono (List.cons_subset.mpr ⟨h, List.nil_subset _⟩)

theorem keeps_svi_fpe {ps : List Part} (hv : .svi ∈ ps) (hf : .fpe ∈ ps) (m : Pnm) (v : Svi) (f : Fpe) :
    Keeps ps m { m with svi := v, fpe := f } :=
  (keeps_svi hv m v).trans (keeps_fpe hf _ f)

/-- A refusal by SVI sets CFG_REJECT and names the check and the entry (R104). -/
theorem keeps_sviErr {ps : List Part} (h : .regs ∈ ps) (field entry : Nat) (m : Pnm) : Keeps ps m (sviErr field entry m) :=
  ((keeps_wr h m _ _).trans (keeps_wr h _ _ _)).trans (keeps_wr h _ _ _)

theorem keepsRegs_sviErr {os : List Nat} (hf : Reg.SVI_FLAGS ∈ os) (he : Reg.SVI_CFG_ERR ∈ os) (field entry : Nat)
    (m : Pnm) : KeepsRegs os m (sviErr field entry m) :=
  ((keepsRegs_sb m _ hf).trans (keepsRegs_wf _ _ _ _ he)).trans (keepsRegs_wf _ _ _ _ he)

theorem rb_sviErr_reject (field entry : Nat) (m : Pnm) : rb (sviErr field entry m) Reg.SVI_FLAGS 0 = true := by
  have hflags : rd (sviErr field entry m) Reg.SVI_FLAGS = rd (sb m Reg.SVI_FLAGS 0) Reg.SVI_FLAGS :=
    (rd_wr_ne _ _ _ (by decide)).trans (rd_wr_ne _ _ _ (by decide))
  rw [rb, hflags]
  exact rb_sb_same m _ 0 (by decide)

theorem rf_sviErr_field {field : Nat} (h : field < 256) (entry : Nat) (m : Pnm) :
    rf (sviErr field entry m) Reg.SVI_CFG_ERR 7 0 = field := by
  rw [sviErr, rf_wf_apart _ _ _ _ _ _ _ (by decide), cfgErr, rf_wf_same _ _ _ _ _ (by decide)]
  exact Nat.mod_eq_of_lt h

/-! ## Words in a row -/

theorem rowAt_succ (o n : Nat) : rowAt o (n + 1) = o :: rowAt (o + 4) n := by
  simp [rowAt, List.range_succ_eq_map, Nat.mul_add, Nat.add_assoc, Nat.add_comm, Function.comp_def]

theorem rowAt_subset (o : Nat) {n k : Nat} (h : n ≤ k) : rowAt o n ⊆ rowAt o k :=
  List.map_subset _ (List.range_subset.mpr h)

theorem keeps_wrs {ps : List Part} (h : .regs ∈ ps) (m : Pnm) (o : Nat) (l : List Word) : Keeps ps m (wrs m o l) := by
  induction l generalizing m o with
  | nil => exact .refl _ _
  | cons w t ih => exact (keeps_wr h m o w).trans (ih _ _)

theorem keepsRegs_wrs (m : Pnm) (o : Nat) (l : List Word) : KeepsRegs (rowAt o l.length) m (wrs m o l) := by
  induction l generalizing m o with
  | nil => exact .refl _ _
  | cons w t ih =>
    rw [List.length_cons, rowAt_succ]
    exact (keepsRegs_wr m w (by simp)).trans ((ih _ _).mono (List.subset_cons_self _ _))

/-- Words stored in a row are read back in their order. -/
theorem rd_wrs (m : Pnm) (o : Nat) {l : List Word} {k : Nat} (h : k < l.length) :
    rd (wrs m o l) (o + 4 * k) = l.getD k 0 := by
  induction l generalizing m o k with
  | nil => exact absurd h (Nat.not_lt_zero k)
  | cons w t ih =>
    cases k with
    | zero =>
      have hbelow : o ∉ rowAt (o + 4) t.length := by simp only [rowAt, List.mem_map, not_exists]; omega
      exact (keepsRegs_wrs _ _ t _ hbelow).trans (rd_wr_same m o w)
    | succ k =>
      have hnext : o + 4 * (k + 1) = o + 4 + 4 * k := by omega
      rw [wrs, hnext, ih _ _ (Nat.lt_of_succ_lt_succ h), List.getD_cons_succ]

/-! ## The fields of a GO -/

theorem setBit_bits_apart (w : Word) {i : Nat} (b : Bool) {hi lo : Nat} (h : hi < i ∨ i < lo) :
    bits (setBit w i b) hi lo = bits w hi lo := bits_setBits_apart _ _ _ _ _ _ h

theorem setBit_bit_ne (w : Word) {i j : Nat} (b : Bool) (h : j ≠ i) : bit (setBit w i b) j = bit w j := by
  rw [setBit, bit_setBits, if_neg (by omega)]

/-! ## Stream status -/

@[simp] theorem getStat_putStat_same (m : Pnm) (i : Nat) (x : SvStat) : getStat (putStat i x m) i = x :=
  NMap.get_set_same _ _ _ _

theorem getStat_putStat_ne (m : Pnm) {i j : Nat} (x : SvStat) (h : j ≠ i) : getStat (putStat i x m) j = getStat m j :=
  NMap.get_set_ne _ _ _ _ _ h

theorem getStat_congr {m n : Pnm} (h : n.svi = m.svi) (j : Nat) : getStat n j = getStat m j := by rw [getStat, getStat, h]

/-! ## A GO that reads (R130, R131) -/

/-- The module after a GO put words into the window. -/
def windowWith (cmd : Word) (l : List Word) (m : Pnm) : Pnm :=
  wrs (storeCmd Reg.SVI_TBL_CMD 0x000053FF#32 cmd m) Reg.SVI_TBL_DATA l

theorem keeps_windowWith {ps : List Part} (h : .regs ∈ ps) (cmd : Word) (l : List Word) (m : Pnm) :
    Keeps ps m (windowWith cmd l m) := (keeps_wr h m _ _).trans (keeps_wrs h _ _ _)

theorem keepsRegs_windowWith {n : Nat} (cmd : Word) {l : List Word} (h : l.length ≤ n) (m : Pnm) :
    KeepsRegs (Reg.SVI_TBL_CMD :: rowAt Reg.SVI_TBL_DATA n) m (windowWith cmd l m) :=
  (keepsRegs_wr m _ (by simp)).trans
    ((keepsRegs_wrs _ _ l).mono (List.Subset.trans (rowAt_subset _ h) (List.subset_cons_self _ _)))

@[simp] theorem svi_windowWith (cmd : Word) (l : List Word) (m : Pnm) : (windowWith cmd l m).svi = m.svi :=
  keeps_windowWith (List.mem_singleton.mpr rfl) cmd l m .svi (by simp)

section
variable {s : State} {cmd : Word}

theorem sviTblRead_entry (h : bit cmd 12 = false) (m : Pnm) :
    sviTblRead (setBit cmd 13 false) m = windowWith (setBit cmd 13 false) (subEntry m (bits cmd 9 0)) m := by
  simp [sviTblRead, windowWith, setBit_bit_ne, setBit_bits_apart, h]

theorem sviTblRead_status (h : bit cmd 12 = true) (m : Pnm) :
    sviTblRead (setBit cmd 13 false) m =
      if bit cmd 14 then
        putStat (bits cmd 9 0) { getStat m (bits cmd 9 0) with dMin := none, dMax := none }
          (windowWith (setBit cmd 13 false) (statWords m (bits cmd 9 0)) m)
      else windowWith (setBit cmd 13 false) (statWords m (bits cmd 9 0)) m := by
  simp [sviTblRead, windowWith, setBit_bit_ne, setBit_bits_apart, h]

theorem sviTblRead_returns_entry (hw : s.writable) (h : bit cmd 12 = false) {n : Nat}
    (hn : (subEntry s.m (bits cmd 9 0)).length ≤ n) :
    Does (.sviTblRead cmd) s [.regs] (Reg.SVI_TBL_CMD :: rowAt Reg.SVI_TBL_DATA n) fun t =>
      ∀ k < (subEntry s.m (bits cmd 9 0)).length,
        rd t (Reg.SVI_TBL_DATA + 4 * k) = (subEntry s.m (bits cmd 9 0)).getD k 0 :=
  does_wr (sviTblRead (setBit cmd 13 false)) hw rfl (sviTblRead_entry h s.m) (keeps_windowWith (by simp) _ _ _)
    (keepsRegs_windowWith _ hn _) fun _ hk => rd_wrs _ _ hk

theorem sviTblRead_returns_status (hw : s.writable) (h : bit cmd 12 = true) {n : Nat}
    (hn : (statWords s.m (bits cmd 9 0)).length ≤ n) :
    Does (.sviTblRead cmd) s [.regs, .svi] (Reg.SVI_TBL_CMD :: rowAt Reg.SVI_TBL_DATA n) fun t =>
      (∀ k < (statWords s.m (bits cmd 9 0)).length,
        rd t (Reg.SVI_TBL_DATA + 4 * k) = (statWords s.m (bits cmd 9 0)).getD k 0) ∧
      (bit cmd 14 = false → t.svi = s.m.svi) ∧
      (bit cmd 14 = true → t.svi = { s.m.svi with stat := t.svi.stat } ∧
        getStat t (bits cmd 9 0) = { getStat s.m (bits cmd 9 0) with dMin := none, dMax := none } ∧
        ∀ j, j ≠ bits cmd 9 0 → getStat t j = getStat s.m j) := by
  have hread := sviTblRead_status h s.m
  have hkeep := keeps_windowWith (ps := [.regs, .svi]) (by simp) (setBit cmd 13 false) (statWords s.m (bits cmd 9 0)) s.m
  have hregs := keepsRegs_windowWith (setBit cmd 13 false) hn s.m
  cases hclear : bit cmd 14 with
  | false =>
    rw [hclear, if_neg Bool.false_ne_true] at hread
    exact does_wr _ hw rfl hread hkeep hregs ⟨fun _ hk => rd_wrs _ _ hk, fun _ => svi_windowWith _ _ _, nofun⟩
  | true =>
    rw [hclear, if_pos rfl] at hread
    refine does_wr _ hw rfl hread (hkeep.trans (keeps_svi (by simp) _ _)) (hregs.trans (.of_regs rfl))
      ⟨fun _ hk => rd_wrs _ _ hk, nofun, fun _ => ⟨?_, getStat_putStat_same _ _ _, fun j hj => ?_⟩⟩
    · simp [putStat]
    · exact (getStat_putStat_ne _ _ hj).trans (getStat_congr (svi_windowWith _ _ _) j)

end

/-! ## Storing an entry (R104, R105, R108, R132) -/

/-- Storing an entry reaches SVI and the chains of the entry's slots. -/
theorem subStore_svi_fpe (i : Nat) (e : List Word) (m : Pnm) : ∃ v f, subStore i e m = { m with svi := v, fpe := f } := by
  simp only [subStore]
  split
  · exact ⟨_, _, rfl⟩
  · split <;> exact ⟨_, _, rfl⟩

theorem subCommit_svi_fpe (i : Nat) (w : List Word) (m : Pnm) :
    ∃ v f, (subCommit i w m).1 = { m with svi := v, fpe := f } := by
  simp only [subCommit]
  split
  · exact subStore_svi_fpe _ _ _
  · split
    · exact ⟨_, _, rfl⟩
    · split <;> exact subStore_svi_fpe _ _ _

/-! ## The check of the chains (R147) -/

theorem foldl_raise {α : Type} (ev : α → Ev) (l : List α) (m : Pnm) :
    ∃ t, l.foldl (fun x a => raise (ev a) x) m = { m with tel := t } := by
  induction l generalizing m with
  | nil => exact ⟨_, rfl⟩
  | cons a l ih =>
    obtain ⟨t, ht⟩ := ih (raise (ev a) m)
    exact ⟨t, ht⟩

/-- The module after the check found the chains `bad`, and raised its events. -/
def chainsChecked (t : Tel) (bad : NMap Nat) (m : Pnm) : Pnm :=
  let first := bad.headD (0, 0)
  wr (wr { m with fpe := { m.fpe with bad := bad }, tel := t } Reg.FPE_CHAIN_ERR (loW (first.1 + 65536 * first.2)))
    Reg.FPE_CHAIN_ERR_COUNT (loW bad.length)

/-- The check stores which chains cannot run; where there are any, it sets FPE's flag as well. -/
theorem checkChains_cases (m : Pnm) :
    ∃ t bad, checkChains m = chainsChecked t bad m ∨ checkChains m = sb (chainsChecked t bad m) Reg.FPE_FLAGS 2 := by
  simp only [checkChains]
  generalize sortBy _ _ = bad
  obtain ⟨t, ht⟩ := foldl_raise (fun p : Nat × Nat => { src := 4, code := 0x4C, cls := 2, items := [p.1, p.2] })
    (bad.filter fun p => decide (NMap.get (fun _ => 0) m.fpe.bad p.1 ≠ p.2)) { m with fpe := { m.fpe with bad := bad } }
  rw [ht]
  refine ⟨t, bad, ?_⟩
  split
  · exact .inl rfl
  · exact .inr rfl

/-- The registers in which the check of the chains names what it found. -/
def chainRegs : List Nat := [Reg.FPE_CHAIN_ERR, Reg.FPE_CHAIN_ERR_COUNT, Reg.FPE_FLAGS]

theorem chainsChecked_frame (t : Tel) (bad : NMap Nat) (m : Pnm) :
    Keeps [.regs, .tel, .fpe] m (chainsChecked t bad m) ∧ KeepsRegs chainRegs m (chainsChecked t bad m) :=
  ⟨(((keeps_fpe (by simp) m { m.fpe with bad := bad }).trans (keeps_tel_of_mem (by simp) _ t)).trans
      (keeps_wr (by simp) _ _ _)).trans (keeps_wr (by simp) _ _ _),
    ((KeepsRegs.of_regs (n := { m with fpe := { m.fpe with bad := bad }, tel := t }) rfl).trans
      (keepsRegs_wr _ _ (by simp [chainRegs]))).trans (keepsRegs_wr _ _ (by simp [chainRegs]))⟩

theorem checkChains_frame (m : Pnm) :
    Keeps [.regs, .tel, .fpe] m (checkChains m) ∧ KeepsRegs chainRegs m (checkChains m) ∧
    (checkChains m).fpe = { m.fpe with bad := (checkChains m).fpe.bad } := by
  obtain ⟨t, bad, h⟩ := checkChains_cases m
  obtain ⟨hkeep, hregs⟩ := chainsChecked_frame t bad m
  rcases h with h | h <;> rw [h]
  · exact ⟨hkeep, hregs, rfl⟩
  · exact ⟨hkeep.trans (keeps_wr (by simp) _ _ _), hregs.trans (keepsRegs_sb _ _ (by simp [chainRegs])), rfl⟩

/-! ## Committing what waits (R105, R577) -/

/-- One staged entry commits, or is refused and named. -/
def subCommitNext (m : Pnm) (p : Nat × List Word) : Pnm :=
  if (subCommit p.1 p.2 m).2 = 0 then (subCommit p.1 p.2 m).1
  else sviErr (subCommit p.1 p.2 m).2 p.1 (sb (subCommit p.1 p.2 m).1 Reg.SVI_TBL_STAT 1)

/-- The registers in which the window names a refused entry. -/
def refusalRegs : List Nat := [Reg.SVI_TBL_STAT, Reg.SVI_FLAGS, Reg.SVI_CFG_ERR]

theorem subCommitNext_frame (m : Pnm) (p : Nat × List Word) :
    Keeps [.regs, .svi, .fpe] m (subCommitNext m p) ∧ KeepsRegs refusalRegs m (subCommitNext m p) := by
  obtain ⟨v, f, h⟩ := subCommit_svi_fpe p.1 p.2 m
  have hkeep : Keeps [.regs, .svi, .fpe] m (subCommit p.1 p.2 m).1 := h ▸ keeps_svi_fpe (by simp) (by simp) m v f
  have hregs : KeepsRegs refusalRegs m (subCommit p.1 p.2 m).1 := h ▸ .of_regs rfl
  unfold subCommitNext
  split
  · exact ⟨hkeep, hregs⟩
  · exact ⟨(hkeep.trans (keeps_wr (by simp) _ _ _)).trans (keeps_sviErr (by simp) _ _ _),
      (hregs.trans (keepsRegs_sb _ _ (by simp [refusalRegs]))).trans
        (keepsRegs_sviErr (by simp [refusalRegs]) (by simp [refusalRegs]) _ _ _)⟩

theorem subCommitAll_of_waiting {m : Pnm} (h : m.svi.pend ≠ []) :
    subCommitAll m =
      (let n := m.svi.pend.foldl subCommitNext m
       checkChains (cb { n with svi := { n.svi with pend := [] } } Reg.SVI_TBL_STAT 0)) := if_neg h

/-- A commit takes every waiting entry, clears PENDING and checks the chains. -/
theorem subCommitAll_frame {m : Pnm} (h : m.svi.pend ≠ []) :
    Keeps [.regs, .tel, .svi, .fpe] m (subCommitAll m) ∧ KeepsRegs (refusalRegs ++ chainRegs) m (subCommitAll m) ∧
    rb (subCommitAll m) Reg.SVI_TBL_STAT 0 = false ∧ (subCommitAll m).svi.pend = [] := by
  rw [subCommitAll_of_waiting h]
  dsimp only
  have hkeep : Keeps [.regs, .svi, .fpe] m (m.svi.pend.foldl subCommitNext m) :=
    List.foldlRecOn _ _ (.refl _ _) fun n hn p _ => hn.trans (subCommitNext_frame n p).1
  have hregs : KeepsRegs refusalRegs m (m.svi.pend.foldl subCommitNext m) :=
    List.foldlRecOn _ _ (.refl _ _) fun n hn p _ => hn.trans (subCommitNext_frame n p).2
  generalize m.svi.pend.foldl subCommitNext m = n at hkeep hregs
  generalize hd : { n with svi := { n.svi with pend := [] } } = d
  have hkd : Keeps [.regs, .svi, .fpe] n d := hd ▸ keeps_svi (by simp) n _
  have hrd : KeepsRegs refusalRegs n d := hd ▸ .of_regs rfl
  have hpend : d.svi.pend = [] := hd ▸ rfl
  obtain ⟨hck, hcr, -⟩ := checkChains_frame (cb d Reg.SVI_TBL_STAT 0)
  have hsvi : (checkChains (cb d Reg.SVI_TBL_STAT 0)).svi = d.svi := hck .svi (by simp)
  have hstat := hcr Reg.SVI_TBL_STAT (by decide)
  refine ⟨?_, ?_, ?_, ?_⟩
  · exact (((hkeep.trans hkd).trans (keeps_wr (by simp) _ _ _)).mono (by simp)).trans (hck.mono (by simp))
  · exact (((hregs.trans hrd).trans (keepsRegs_cb _ _ (by simp [refusalRegs]))).mono
      (List.subset_append_left _ _)).trans (hcr.mono (List.subset_append_right _ _))
  · rw [rb, hstat]; exact rb_cb_same d _ 0 (by decide)
  · rw [hsvi, hpend]

/-! ## A GO that writes (R105, R130, R577) -/

section
variable {s : State} {cmd : Word}

/-- The module after a GO staged the window's words behind those that wait. -/
def stagedGo (cmd : Word) (m : Pnm) : Pnm :=
  let m1 := storeCmd Reg.SVI_TBL_CMD 0x000073FF#32 (setBit cmd 13 true) m
  sb { m1 with svi := { m.svi with
       pend := m.svi.pend ++ [(bits cmd 9 0, (List.range 16).map fun k => rd m (Reg.SVI_TBL_DATA + 4 * k))] } }
    Reg.SVI_TBL_STAT 0

theorem sviTblWrite_refused (h : bit cmd 12 = true) (m : Pnm) :
    sviTblWrite (setBit cmd 13 true) m =
      sb (storeCmd Reg.SVI_TBL_CMD 0x000073FF#32 (setBit cmd 13 true) m) Reg.SVI_TBL_STAT 1 := by
  simp [sviTblWrite, setBit_bit_ne, h]

theorem sviTblWrite_staged (h : bit cmd 12 = false) (m : Pnm) :
    sviTblWrite (setBit cmd 13 true) m = if m.tim.grid then stagedGo cmd m else subCommitAll (stagedGo cmd m) := by
  simp [sviTblWrite, stagedGo, storeCmd, setBit_bit_ne, setBit_bits_apart, h]

theorem keeps_stagedGo {ps : List Part} (hr : .regs ∈ ps) (hv : .svi ∈ ps) (m : Pnm) : Keeps ps m (stagedGo cmd m) :=
  ((keeps_wr hr m _ _).trans (keeps_svi hv _ _)).trans (keeps_wr hr _ _ _)

theorem keepsRegs_stagedGo {os : List Nat} (hc : Reg.SVI_TBL_CMD ∈ os) (hs : Reg.SVI_TBL_STAT ∈ os) (m : Pnm) :
    KeepsRegs os m (stagedGo cmd m) :=
  ((keepsRegs_wr m _ hc).trans (.of_regs rfl)).trans (keepsRegs_sb _ _ hs)

theorem sviTblWrite_refuses_status (hw : s.writable) (h : bit cmd 12 = true) :
    Does (.sviTblWrite cmd) s [.regs] [Reg.SVI_TBL_CMD, Reg.SVI_TBL_STAT] fun n => rb n Reg.SVI_TBL_STAT 1 = true :=
  does_wr _ hw rfl (sviTblWrite_refused h s.m) ((keeps_wr (by simp) s.m _ _).trans (keeps_wr (by simp) _ _ _))
    ((keepsRegs_wr s.m _ (by simp)).trans (keepsRegs_sb _ _ (by simp))) (rb_sb_same _ _ _ (by decide))

theorem sviTblWrite_stages (hw : s.writable) (h : bit cmd 12 = false) (hg : s.m.tim.grid = true) :
    Does (.sviTblWrite cmd) s [.regs, .svi] [Reg.SVI_TBL_CMD, Reg.SVI_TBL_STAT] fun n =>
      rb n Reg.SVI_TBL_STAT 0 = true ∧
      n.svi = { s.m.svi with
                pend := s.m.svi.pend ++
                  [(bits cmd 9 0, (List.range 16).map fun k => rd s.m (Reg.SVI_TBL_DATA + 4 * k))] } :=
  does_wr _ hw rfl ((sviTblWrite_staged h s.m).trans (if_pos hg)) (keeps_stagedGo (by simp) (by simp) _)
    (keepsRegs_stagedGo (by simp) (by simp) _) ⟨rb_sb_same _ _ _ (by decide), rfl⟩

theorem sviTblWrite_commits (hw : s.writable) (h : bit cmd 12 = false) (hg : s.m.tim.grid = false) :
    Does (.sviTblWrite cmd) s [.regs, .tel, .svi, .fpe]
      [Reg.SVI_TBL_CMD, Reg.SVI_TBL_STAT, Reg.SVI_FLAGS, Reg.SVI_CFG_ERR, Reg.FPE_CHAIN_ERR, Reg.FPE_CHAIN_ERR_COUNT,
       Reg.FPE_FLAGS] fun n => rb n Reg.SVI_TBL_STAT 0 = false ∧ n.svi.pend = [] := by
  have hwaits : (stagedGo cmd s.m).svi.pend ≠ [] := List.append_ne_nil_of_right_ne_nil _ (List.cons_ne_nil _ _)
  obtain ⟨hkeep, hregs, hstat, hpend⟩ := subCommitAll_frame hwaits
  exact does_wr _ hw rfl ((sviTblWrite_staged h s.m).trans (if_neg (ne_true_of_eq_false hg)))
    ((keeps_stagedGo (by simp) (by simp) _).trans hkeep)
    ((keepsRegs_stagedGo (by simp) (by simp) _).trans (hregs.mono (List.subset_cons_self _ _))) ⟨hstat, hpend⟩

end

/-- Settles O20: it holds. A read stores words in a row after the command; a write waits behind the others, and a commit
empties the list whatever each entry's check answers. -/
theorem sviWindowReadsAndStages : Obligations.SviWindowReadsAndStages := by
  refine ⟨fun s cmd hw => ?reads, fun s cmd hw => ?writes⟩
  case reads =>
    exact ⟨fun h => sviTblRead_returns_entry hw h (Nat.le_max_left _ _),
      fun h => sviTblRead_returns_status hw h (Nat.le_max_right _ _)⟩
  case writes => exact ⟨sviTblWrite_refuses_status hw, sviTblWrite_stages hw, sviTblWrite_commits hw⟩

end Machine
end Sys2Proof
end

section
/-! PROOFS. Disarming captures (R406, R408, R410, R417): what the end of a capture, its record's closing and its record's
removal keep, and that a disarming of every capture leaves none armed. -/

namespace Sys2Proof

/-- A key that does not read as its default is listed. -/
theorem NMap.mem_of_get_ne {α : Type} {d : Nat → α} {m : NMap α} {k : Nat} (h : NMap.get d m k ≠ d k) :
    (k, NMap.get d m k) ∈ m := by
  induction m with
  | nil => exact absurd rfl h
  | cons p t ih =>
    obtain ⟨j, a⟩ := p
    by_cases e : j = k
    · simp [NMap.get, e]
    · simp only [NMap.get, if_neg e] at h ⊢
      exact List.mem_cons_of_mem _ (ih h)

namespace Machine

theorem keeps_cap {ps : List Part} (h : .cap ∈ ps) (m : Pnm) (c : CapSt) : Keeps ps m { m with cap := c } := by
  intro p hp
  cases p with
  | cap => exact absurd h hp
  | _ => rfl

theorem keeps_raise {ps : List Part} (h : .tel ∈ ps) (ev : Ev) (m : Pnm) : Keeps ps m (raise ev m) :=
  keeps_tel_of_mem h m _

theorem keeps_putCap {ps : List Part} (h : .cap ∈ ps) (k : Nat) (x : Cap) (m : Pnm) : Keeps ps m (putCap k x m) :=
  keeps_cap h m _

@[simp] theorem getCap_putCap_same (k : Nat) (x : Cap) (m : Pnm) : getCap (putCap k x m) k = x := NMap.get_set_same _ _ _ _

theorem getCap_putCap_ne {k j : Nat} (h : j ≠ k) (x : Cap) (m : Pnm) : getCap (putCap k x m) j = getCap m j :=
  NMap.get_set_ne _ _ _ _ _ h

/-- A capture that is not FREE is among those armed. -/
theorem mem_armed {m : Pnm} {k : Nat} (h : (getCap m k).state ≠ 0) : (k, getCap m k) ∈ armed m :=
  List.mem_filter.mpr ⟨NMap.mem_of_get_ne fun e => h (congrArg Cap.state e), decide_eq_true h⟩

/-- Bytes of a record are written inside the segments that it was given (R409). -/
theorem read_writeSegs_of_outside {l : List (Nat × Nat)} (off : Nat) (bs : List Byte) (mem : Memory) {a : Nat}
    (h : ∀ p ∈ l, a < p.1 ∨ p.1 + p.2 ≤ a) : Memory.read (writeSegs l off bs mem) a = Memory.read mem a := by
  induction l generalizing off bs mem with
  | nil => rfl
  | cons p t ih =>
    obtain ⟨b, n⟩ := p
    obtain ⟨hp, ht⟩ := List.forall_mem_cons.mp h
    simp only [writeSegs]
    split
    · exact ih _ _ _ ht
    · have hlen : (bs.take (n - off)).length ≤ n - off := List.length_take_le _ _
      rw [ih _ _ _ ht, Memory.read_writeBytes_of_outside _ _ _ _ (by dsimp only at hp; omega)]

/-! ## What a disarming keeps -/

/-- From `s` to `t`, captures may end and their current records may close or go; no segment changes, no capture starts. -/
structure Disarms (s t : PM) : Prop where
  keeps : Keeps [.regs, .tel, .cap] s.1 t.1
  regs : KeepsRegs [Reg.CAP_FLAGS, Reg.CAP_RECORDS] s.1 t.1
  segs : t.1.cap.segs = s.1.cap.segs
  caps : ∀ k, (getCap t.1 k).state ≠ 0 → (getCap s.1 k).state ≠ 0 ∧ (getCap t.1 k).cur = (getCap s.1 k).cur
  bytes : ∀ a, ¬ inArmed s.1 a → Memory.read t.2 a = Memory.read s.2 a

theorem inSegs_congr {m n : Pnm} (h : n.cap.segs = m.cap.segs) (i k a : Nat) : inSegs n i k a ↔ inSegs m i k a := by
  simp only [inSegs, getSeg, h]

theorem Disarms.inArmed {s t : PM} (h : Disarms s t) {a : Nat} (ha : inArmed t.1 a) : inArmed s.1 a := by
  obtain ⟨k, hk, hseg⟩ := ha
  obtain ⟨hs, hcur⟩ := h.caps k hk
  exact ⟨k, hs, by rwa [← hcur, ← inSegs_congr h.segs]⟩

theorem Disarms.refl (s : PM) : Disarms s s := ⟨.refl _ _, .refl _ _, rfl, fun _ h => ⟨h, rfl⟩, fun _ _ => rfl⟩

theorem Disarms.trans {s t u : PM} (h : Disarms s t) (h' : Disarms t u) : Disarms s u where
  keeps := h.keeps.trans h'.keeps
  regs := h.regs.trans h'.regs
  segs := h'.segs.trans h.segs
  caps k hk := by
    obtain ⟨ht, hcur'⟩ := h'.caps k hk
    obtain ⟨hs, hcur⟩ := h.caps k ht
    exact ⟨hs, hcur'.trans hcur⟩
  bytes a ha := (h'.bytes a fun ht => ha (h.inArmed ht)).trans (h.bytes a ha)

/-! ## The end of a capture -/

theorem getCap_capEnd_same (k why : Nat) (m : Pnm) :
    getCap (capEnd k why m) k = { getCap m k with state := 0, lastEnd := why, auto := none, held := none } :=
  getCap_putCap_same k _ m

theorem getCap_capEnd_ne {k j : Nat} (h : j ≠ k) (why : Nat) (m : Pnm) : getCap (capEnd k why m) j = getCap m j :=
  getCap_putCap_ne h _ m

theorem getCap_capEnd_state (k why : Nat) (m : Pnm) : (getCap (capEnd k why m) k).state = 0 := by rw [getCap_capEnd_same]

theorem capEnd_disarms (k why : Nat) (s : PM) : Disarms s (onM (capEnd k why) s) where
  keeps := (keeps_putCap (by simp) k _ s.1).trans (keeps_raise (by simp) _ _)
  regs := .of_regs rfl
  segs := rfl
  caps j hj := by
    have hne : j ≠ k := by
      rintro rfl
      exact hj (getCap_capEnd_state j why s.1)
    have hkept : getCap (onM (capEnd k why) s).1 j = getCap s.1 j := getCap_capEnd_ne hne why s.1
    exact ⟨hkept ▸ hj, congrArg Cap.cur hkept⟩
  bytes _ _ := rfl

/-! ## The current record closes or goes -/

/-- The segments of the current record of an armed capture hold bytes that a disarming may reach. -/
theorem outside_of_not_inArmed {m : Pnm} {k a : Nat} (hk : (getCap m k).state ≠ 0) (ha : ¬ inArmed m a) {j : Nat}
    (h1 : (getCap m k).cur.segFirst ≤ j) (h2 : j < (getCap m k).cur.segFirst + max 1 (getCap m k).cur.span) :
    a < (getSeg m j).addr ∨ (getSeg m j).addr + (getSeg m j).bytes ≤ a :=
  Decidable.byContradiction fun hin => ha ⟨k, hk, j, h1, h2, by omega⟩

theorem getCap_capClose_same (k : Nat) (trunc : Bool) (s : PM) :
    getCap (capClose k trunc s).1 k = { getCap s.1 k with records := (getCap s.1 k).records + 1 } :=
  getCap_putCap_same k _ _

theorem getCap_capClose_ne {k j : Nat} (h : j ≠ k) (trunc : Bool) (s : PM) :
    getCap (capClose k trunc s).1 j = getCap s.1 j := getCap_putCap_ne h _ _

theorem capClose_disarms {k : Nat} {s : PM} (trunc : Bool) (hk : (getCap s.1 k).state ≠ 0) :
    Disarms s (capClose k trunc s) where
  keeps :=
    (((keeps_wr (by simp) _ _ _).trans (keeps_wr (by simp) _ _ _)).trans (keeps_putCap (by simp) _ _ _)).trans
      (keeps_raise (by simp) _ _)
  regs := ((keepsRegs_inc s.1 1 (by simp)).trans (keepsRegs_sb _ 1 (by simp))).trans (.of_regs rfl)
  segs := rfl
  caps j hj := by
    by_cases e : j = k
    · subst e
      exact ⟨hk, by rw [getCap_capClose_same]⟩
    · have hkept : getCap (capClose k trunc s).1 j = getCap s.1 j := getCap_capClose_ne e trunc s
      exact ⟨hkept ▸ hj, congrArg Cap.cur hkept⟩
  bytes a ha := by
    refine read_writeSegs_of_outside _ _ _ fun p hp => ?_
    obtain ⟨j, hj, rfl⟩ := List.mem_map.mp hp
    obtain ⟨h1, h2⟩ := List.mem_range'_1.mp hj
    exact outside_of_not_inArmed hk ha h1 (by omega)

theorem dropRecs_disarms {k : Nat} {s : PM} (hk : (getCap s.1 k).state ≠ 0) :
    Disarms s (dropRecs (fun q => decide (q.1 = (getCap s.1 k).cur.segFirst)) s) where
  keeps := keeps_cap (by simp) _ _
  regs := .of_regs rfl
  segs := rfl
  caps _ hj := ⟨hj, rfl⟩
  bytes a ha := by
    refine List.foldlRecOn _ _ (motive := fun mem => Memory.read mem a = Memory.read s.2 a) rfl fun mem hmem r hr => ?_
    have hfirst : r.1 = (getCap s.1 k).cur.segFirst := of_decide_eq_true (List.mem_filter.mp hr).2
    have hout := outside_of_not_inArmed hk ha (Nat.le_of_eq hfirst.symm) (by omega)
    have hroom : 16384 ≤ (getSeg s.1 r.1).bytes := Nat.le_mul_of_pos_left _ (Nat.succ_pos _)
    rw [Memory.read_writeBytes_of_outside _ _ _ _ (by rw [leBytes_length]; omega), hmem]

theorem capDisarm_disarms (k why : Nat) (s : PM) :
    Disarms s (capDisarm k why s).1 ∧ (getCap (capDisarm k why s).1.1 k).state = 0 := by
  unfold capDisarm
  dsimp only
  split
  next =>
    exact ⟨(capClose_disarms true (by omega)).trans (capEnd_disarms _ _ _), getCap_capEnd_state _ _ _⟩
  next =>
    split
    next =>
      exact ⟨(dropRecs_disarms (by omega)).trans (capEnd_disarms _ _ _), getCap_capEnd_state _ _ _⟩
    next => exact ⟨capEnd_disarms _ _ _, getCap_capEnd_state _ _ _⟩

/-! ## Every capture -/

theorem foldl_capDisarm_disarms (why : Nat) (l : List (Nat × Cap)) (s : PM) :
    Disarms s (l.foldl (fun x p => (capDisarm p.1 why x).1) s) ∧
    ∀ p ∈ l, (getCap (l.foldl (fun x p => (capDisarm p.1 why x).1) s).1 p.1).state = 0 := by
  induction l generalizing s with
  | nil => exact ⟨.refl s, nofun⟩
  | cons p t ih =>
    obtain ⟨hp, hfree⟩ := capDisarm_disarms p.1 why s
    obtain ⟨ht, hrest⟩ := ih (capDisarm p.1 why s).1
    exact ⟨hp.trans ht, List.forall_mem_cons.mpr
      ⟨Decidable.byContradiction fun hstill => (ht.caps p.1 hstill).1 hfree, hrest⟩⟩

/-- A disarming of every capture leaves every context FREE. -/
theorem disarmAll_disarms (why : Nat) (s : PM) :
    Disarms s (disarmAll (fun _ => true) why s) ∧ ∀ k, (getCap (disarmAll (fun _ => true) why s).1 k).state = 0 := by
  have hall : (armed s.1).filter (fun _ => true) = armed s.1 := List.filter_eq_self.mpr fun _ _ => rfl
  obtain ⟨hdis, hfree⟩ := foldl_capDisarm_disarms why (armed s.1) s
  rw [disarmAll, hall]
  exact ⟨hdis, fun k => Decidable.byContradiction fun hstill => hstill (hfree _ (mem_armed (hdis.caps k hstill).1))⟩

end Machine
end Sys2Proof
end

section
/-! PROOFS. Sampled values at work (R112, R115 to R117, R119, R128): the start and the stop of SVI, the plane rate and hold
time, silent streams, and decimation under overload. -/

namespace Sys2Proof
namespace Machine

/-! ## The ladder (R37 to R39) -/

theorem keeps_ladder_tel {ps : List Part} (hl : .ladder ∈ ps) (ht : .tel ∈ ps) (m : Pnm) (l : Ladder) (t : Tel) :
    Keeps ps m { m with ladder := l, tel := t } := by
  intro p hp
  cases p with
  | ladder => exact absurd hl hp
  | tel => exact absurd ht hp
  | _ => rfl

theorem ladderClear_ladder_tel (step cause : Nat) (m : Pnm) :
    ∃ l t, ladderClear step cause m = { m with ladder := l, tel := t } := by
  unfold ladderClear
  dsimp only
  split
  · exact ⟨_, _, rfl⟩
  · split <;> exact ⟨_, _, rfl⟩

theorem keeps_ladderEnter {ps : List Part} (hl : .ladder ∈ ps) (ht : .tel ∈ ps) (step cause : Nat) (m : Pnm) :
    Keeps ps m (ladderEnter step cause m) := keeps_ladder_tel hl ht m _ _

theorem keeps_ladderClear {ps : List Part} (hl : .ladder ∈ ps) (ht : .tel ∈ ps) (step cause : Nat) (m : Pnm) :
    Keeps ps m (ladderClear step cause m) := by
  obtain ⟨l, t, h⟩ := ladderClear_ladder_tel step cause m
  exact h ▸ keeps_ladder_tel hl ht m l t

/-- What becomes of a step of the ladder when one of its triggers goes (R37, R39). -/
def clearedStep (step cause edge : Nat) (s : Step) : Step :=
  let tr := s.trig.filter (· ≠ cause)
  if s.on && tr.isEmpty && (!stepDwells step || decide (s.since + edgesS ≤ edge)) then
    { on := false, since := 0, trig := [], marked := [] }
  else if s.on && !tr.isEmpty then { s with trig := tr, marked := s.marked.filter (· ≠ cause) }
  else { s with trig := tr }

theorem ladderClear_ladder_eq (step cause : Nat) (m : Pnm) :
    (ladderClear step cause m).ladder =
      { m.ladder with
        steps := setAt m.ladder.steps (step - 1) (clearedStep step cause m.tim.edge (getStep m step)) } := by
  simp only [ladderClear, clearedStep]
  split
  · rfl
  · split <;> rfl

/-- Step 6 follows the delivery budget on the ladder alone (R338). -/
theorem step6_cases (m : Pnm) : step6 m = m ∨ step6 m = ladderEnter 6 0 m ∨ step6 m = ladderClear 6 0 m := by
  simp only [step6]
  split
  · exact .inl rfl
  · split
    · exact .inr (.inl rfl)
    · exact .inr (.inr rfl)

theorem keeps_step6 {ps : List Part} (hl : .ladder ∈ ps) (ht : .tel ∈ ps) (m : Pnm) : Keeps ps m (step6 m) := by
  rcases step6_cases m with h | h | h <;> rw [h]
  · exact .refl _ _
  · exact keeps_ladderEnter hl ht _ _ _
  · exact keeps_ladderClear hl ht _ _ _

@[simp] theorem step6_regs (m : Pnm) : (step6 m).regs = m.regs :=
  keeps_step6 (ps := [.ladder, .tel]) (by simp) (by simp) m .regs (by simp)

@[simp] theorem step6_svi (m : Pnm) : (step6 m).svi = m.svi :=
  keeps_step6 (ps := [.ladder, .tel]) (by simp) (by simp) m .svi (by simp)

/-! ## RUN = 1 (R112, R115) -/

/-- A stream waits for its first sample. -/
def markWaiting (a : NMap SvStat) (p : Nat × List Word) : NMap SvStat :=
  NMap.set SvStat.init a p.1 { NMap.get SvStat.init a p.1 with state := 1 }

theorem state_foldl_markWaiting {k : Nat} (l : List (Nat × List Word)) {a : NMap SvStat}
    (h : (NMap.get SvStat.init a k).state = 1) : (NMap.get SvStat.init (l.foldl markWaiting a) k).state = 1 := by
  refine List.foldlRecOn l markWaiting (motive := fun b => (NMap.get SvStat.init b k).state = 1) h fun b hb p _ => ?_
  rw [markWaiting, NMap.get_set]
  split
  · rfl
  · exact hb

theorem foldl_markWaiting_waits {l : List (Nat × List Word)} {p : Nat × List Word} (hp : p ∈ l) (a : NMap SvStat) :
    (NMap.get SvStat.init (l.foldl markWaiting a) p.1).state = 1 := by
  induction l generalizing a with
  | nil => exact absurd hp List.not_mem_nil
  | cons q t ih =>
    rcases List.mem_cons.mp hp with rfl | ht
    · exact state_foldl_markWaiting t (by rw [markWaiting, NMap.get_set_same])
    · exact ih ht _

/-- The module that a start hands to the check of its chains. -/
theorem sviStart_checks (k0 : Nat) (m : Pnm) : ∃ n, sviStart k0 m = checkChains n ∧
    Keeps [.regs, .svi, .fpe] m n ∧ KeepsRegs [Reg.SVI_CTRL, Reg.SVI_STAT, Reg.SVI_GDELAY, Reg.FPE_STAT] m n ∧
    rb n Reg.SVI_CTRL 0 = true ∧ rb n Reg.SVI_STAT 0 = true ∧
    n.svi = { m.svi with running := true, stopReq := false, restart := false, k0 := k0, gTicks := gLatch m [],
                         nextClose := k0, planes := [], streams := [],
                         stat := (enabledSubs m).foldl markWaiting m.svi.stat, highSaid := false } ∧
    n.fpe = { m.fpe with chains := [], ph := [], planes := [] } := by
  refine ⟨_, rfl, ?_, ?_, ?_, ?_, rfl, rfl⟩
  · exact ((((keeps_svi_fpe (by simp) (by simp) m _ _).trans (keeps_wr (by simp) _ _ _)).trans
      (keeps_wr (by simp) _ _ _)).trans (keeps_wr (by simp) _ _ _)).trans (keeps_wr (by simp) _ _ _)
  · exact ((((KeepsRegs.of_regs rfl).trans (keepsRegs_sb _ _ (by simp))).trans (keepsRegs_sb _ _ (by simp))).trans
      (keepsRegs_wr _ _ (by simp))).trans (keepsRegs_wf _ _ _ _ (by simp))
  · rw [rb, rd_wf, if_neg (by decide), rd_wr_ne _ _ _ (by decide)]
    exact rb_sb_same _ _ _ (by decide)
  · rw [rb, rd_wf, if_neg (by decide), rd_wr_ne _ _ _ (by decide), rd_sb, if_neg (by decide)]
    exact rb_sb_same _ _ _ (by decide)

section
variable {s : State}

theorem sviRun_starts (hw : s.writable) (hstop : s.m.svi.stopReq = false) (hrun : s.m.svi.running = false)
    (hg : s.m.tim.grid = true) :
    Does .sviRun s [.regs, .tel, .svi, .fpe]
      [Reg.SVI_CTRL, Reg.SVI_STAT, Reg.SVI_GDELAY, Reg.FPE_STAT, Reg.FPE_CHAIN_ERR, Reg.FPE_CHAIN_ERR_COUNT,
       Reg.FPE_FLAGS] fun n =>
      n.svi.running = true ∧ rb n Reg.SVI_CTRL 0 = true ∧ rb n Reg.SVI_STAT 0 = true ∧
      n.svi.k0 = s.m.svi.nextTick ∧ n.svi.gTicks = gLatch s.m [] ∧ n.svi.planes = [] ∧ n.svi.streams = [] ∧
      n.svi.sub = s.m.svi.sub ∧ n.fpe.chains = [] ∧ n.fpe.ph = [] ∧ n.fpe.prof = s.m.fpe.prof ∧
      n.fpe.smap = s.m.fpe.smap ∧ ∀ p ∈ enabledSubs s.m, (getStat n p.1).state = 1 := by
  obtain ⟨n, hn, hkeep, hregs, hctrl, hstat, hsvi, hfpe⟩ := sviStart_checks s.m.svi.nextTick s.m
  obtain ⟨hck, hcr, hcf⟩ := checkChains_frame n
  have hrunning : sviRun s.m = checkChains n := by simp [sviRun, hstop, hrun, hg, hn]
  have hv := (hck .svi (by simp)).trans hsvi
  have hf := hcf.trans (congrArg (fun f : Fpe => { f with bad := (checkChains n).fpe.bad }) hfpe)
  refine does_wr _ hw rfl hrunning ((hkeep.mono (by simp)).trans (hck.mono (by simp)))
    ((hregs.mono (by simp)).trans (hcr.mono (by simp [chainRegs])))
    ⟨congrArg Svi.running hv, ?ctrl, ?stat, congrArg Svi.k0 hv, congrArg Svi.gTicks hv, congrArg Svi.planes hv,
      congrArg Svi.streams hv, by rw [hv], congrArg Fpe.chains hf, congrArg Fpe.ph hf, by rw [hf], by rw [hf],
      fun p hp => ?waits⟩
  case ctrl => rw [rb, hcr _ (by decide)]; exact hctrl
  case stat => rw [rb, hcr _ (by decide)]; exact hstat
  case waits => rw [getStat, hv]; exact foldl_markWaiting_waits hp _

theorem sviRun_refused (hw : s.writable) (hstop : s.m.svi.stopReq = false) (hrun : s.m.svi.running = false)
    (hg : s.m.tim.grid = false) :
    Does .sviRun s [.regs] [Reg.SVI_FLAGS, Reg.SVI_CFG_ERR] fun n =>
      rb n Reg.SVI_FLAGS 0 = true ∧ rf n Reg.SVI_CFG_ERR 7 0 = 21 := by
  have hrefused : sviRun s.m = sviErr 21 0 s.m := by simp [sviRun, hstop, hrun, hg]
  exact does_wr _ hw rfl hrefused (keeps_sviErr (by simp) _ _ _) (keepsRegs_sviErr (by simp) (by simp) _ _ _)
    ⟨rb_sviErr_reject _ _ _, rf_sviErr_field (by decide) _ _⟩

theorem sviRun_asks_for_restart (hw : s.writable) (hstop : s.m.svi.stopReq = true) :
    Does .sviRun s [.regs, .svi] [Reg.SVI_CTRL] fun n =>
      rb n Reg.SVI_CTRL 0 = true ∧ n.svi = { s.m.svi with restart := true } :=
  does_wr _ hw rfl (if_pos hstop)
    ((keeps_svi (by simp) s.m { s.m.svi with restart := true }).trans (keeps_wr (by simp) _ _ _))
    ((KeepsRegs.of_regs rfl).trans (keepsRegs_sb { s.m with svi := { s.m.svi with restart := true } } 0 (by simp)))
    ⟨rb_sb_same _ _ _ (by decide), rfl⟩

theorem nothing_sviRun (hstop : s.m.svi.stopReq = false) (hrun : s.m.svi.running = true) : DoesNothing .sviRun s :=
  nothing_wr sviRun rfl (by simp [sviRun, hstop, hrun])

/-! ## RUN = 0 (R115, R408) -/

/-- A register write whose meaning reaches the capture region. -/
theorem doesMem_wr {c : Instr} {ps : List Part} {os : List Nat} {hit : Nat → Prop} {P : Pnm → Memory → Prop} {f : PM → PM}
    (hw : s.writable) (hc : exec c s = runMem (whenWrM f) s) (hk : Keeps ps s.m (f (s.m, s.mem)).1)
    (hr : KeepsRegs os s.m (f (s.m, s.mem)).1)
    (hb : ∀ a, ¬ hit a → Memory.read (f (s.m, s.mem)).2 a = Memory.read s.mem a)
    (hp : P (f (s.m, s.mem)).1 (f (s.m, s.mem)).2) : DoesMem c s ps os hit P :=
  have hf : whenWrM f (s.m, s.mem) = f (s.m, s.mem) := if_pos hw
  ⟨_, _, by rw [hc, runMem, hf], hk, hr, hb, hp⟩

theorem sviStop_disarms (hw : s.writable) (hrun : s.m.svi.running = true) :
    DoesMem .sviStop s [.regs, .tel, .svi, .cap] [Reg.SVI_CTRL, Reg.CAP_FLAGS, Reg.CAP_RECORDS] (inArmed s.m) fun n _ =>
      rb n Reg.SVI_CTRL 0 = false ∧ n.svi = { s.m.svi with stopReq := true, restart := false } ∧
      ∀ k, (getCap n k).state = 0 := by
  have hstop : sviStop s.m =
      cb { s.m with svi := { s.m.svi with stopReq := true, restart := false } } Reg.SVI_CTRL 0 := if_pos hrun
  have hkeep : Keeps [.regs, .svi] s.m (sviStop s.m) := hstop ▸ (keeps_svi (by simp) _ _).trans (keeps_wr (by simp) _ _ _)
  have hregs : KeepsRegs [Reg.SVI_CTRL] s.m (sviStop s.m) :=
    hstop ▸ (KeepsRegs.of_regs rfl).trans (keepsRegs_cb _ _ (by simp))
  have hctrl : rb (sviStop s.m) Reg.SVI_CTRL 0 = false := by rw [hstop]; exact rb_cb_same _ _ _ (by decide)
  have hsvi : (sviStop s.m).svi = { s.m.svi with stopReq := true, restart := false } := by rw [hstop]; rfl
  have harmed : ∀ a, inArmed (sviStop s.m) a → inArmed s.m a := by rw [hstop]; exact fun _ h => h
  obtain ⟨hdis, hfree⟩ := disarmAll_disarms 5 (onM sviStop (s.m, s.mem))
  exact doesMem_wr (f := fun x => disarmAll (fun _ => true) 5 (onM sviStop x)) hw rfl
    ((hkeep.mono (by simp)).trans (hdis.keeps.mono (by simp))) ((hregs.mono (by simp)).trans (hdis.regs.mono (by simp)))
    (fun a ha => hdis.bytes a (mt (harmed a) ha))
    ⟨(congrArg (bit · 0) (hdis.regs _ (by decide))).trans hctrl, (hdis.keeps .svi (by simp)).trans hsvi, hfree⟩

/-! ## SVI_PLANE (R115, R119) -/

variable {data : Word}

theorem sviPlaneWrite_refused (hw : s.writable) {field : Nat} (hf : field < 256)
    (h : sviPlaneWrite data s.m = sviErr field 0 s.m) :
    Does (.sviPlaneWrite data) s [.regs, .ladder, .tel] [Reg.SVI_FLAGS, Reg.SVI_CFG_ERR] fun n =>
      rb n Reg.SVI_FLAGS 0 = true ∧ rf n Reg.SVI_CFG_ERR 7 0 = field :=
  have hrd := rd_congr (step6_regs (sviErr field 0 s.m))
  does_wr (fun m => step6 (sviPlaneWrite data m)) hw rfl (congrArg step6 h)
    ((keeps_sviErr (by simp) _ _ _).trans (keeps_step6 (by simp) (by simp) _))
    ((keepsRegs_sviErr (by simp) (by simp) _ _ _).trans (.of_regs (step6_regs _)))
    ⟨(congrArg (bit · 0) (hrd _)).trans (rb_sviErr_reject _ _ _),
      (congrArg (bits · 7 0) (hrd _)).trans (rf_sviErr_field hf _ _)⟩

/-- A write of SVI_PLANE that no check refuses. -/
def planeSet (data : Word) (m : Pnm) : Pnm :=
  { wr m Reg.SVI_PLANE (data &&& 0x0FFF0007#32) with
    svi := { m.svi with nextTick :=
      if m.tim.grid = true ∧ bits data 2 0 ≠ rf m Reg.SVI_PLANE 2 0 then nextTickAfter m (planeP (bits data 2 0))
      else m.svi.nextTick } }

theorem sviPlaneWrite_taken {m : Pnm} (hb : ¬ (rb m Reg.SVI_CTRL 0 = true ∨ m.svi.running = true ∨ m.cye.running = true))
    (hcode : bits data 2 0 < 6) (hlo : 20 ≤ bits data 27 16) (hhi : bits data 27 16 ≤ 4000)
    (hfits : reserved (wr m Reg.SVI_PLANE (data &&& 0x0FFF0007#32)) (bits data 27 16) (gLatch m [])
      ((enabledSubs m).map (·.2)) = true) : sviPlaneWrite data m = planeSet data m := by
  simp only [sviPlaneWrite, if_neg hb, if_neg (Nat.not_le.mpr hcode), hfits, Bool.true_eq_false, if_false,
    if_neg (show ¬ (bits data 27 16 < 20 ∨ 4000 < bits data 27 16) by omega), planeSet]
  split <;> rfl

theorem sviPlaneWrite_sets (hw : s.writable) (h : sviPlaneWrite data s.m = planeSet data s.m) :
    Does (.sviPlaneWrite data) s [.regs, .svi, .ladder, .tel] [Reg.SVI_PLANE] fun n =>
      rd n Reg.SVI_PLANE = data &&& 0x0FFF0007#32 ∧ n.svi = { s.m.svi with nextTick := n.svi.nextTick } ∧
      n.svi.nextTick = (if s.m.tim.grid = true ∧ bits data 2 0 ≠ rf s.m Reg.SVI_PLANE 2 0
        then nextTickAfter s.m (planeP (bits data 2 0)) else s.m.svi.nextTick) :=
  does_wr (fun m => step6 (sviPlaneWrite data m)) hw rfl (congrArg step6 h)
    (((keeps_wr (by simp) s.m _ _).trans (keeps_svi (by simp) _ _)).trans
      (keeps_step6 (by simp) (by simp) (planeSet data s.m)))
    (((keepsRegs_wr s.m _ (by simp)).trans (.of_regs rfl)).trans (.of_regs (step6_regs (planeSet data s.m))))
    ⟨(rd_congr (step6_regs _) _).trans (rd_wr_same s.m _ _), by rw [step6_svi]; rfl, by rw [step6_svi]; rfl⟩

/-! ## Silent streams (R117) -/

theorem streamSilent_silences (hl : s.live) {ix : BitVec 10} (hst : (getStat s.m ix.toNat).state = 2)
    (hrun : rf s.m Reg.SVI_SILENT 7 0 ≤ (getStream s.m ix.toNat).silRun) :
    Does (.streamSilent ix) s [.tel, .svi] [] fun n =>
      n.svi = { s.m.svi with stat := n.svi.stat } ∧ getStat n ix.toNat = { getStat s.m ix.toNat with state := 3 } ∧
      (∀ j, j ≠ ix.toNat → getStat n j = getStat s.m j) ∧
      Raised { src := 3, code := 0x40, cls := 2, items := [ix.toNat, 1] } s.m n :=
  does_al (streamSilent ix.toNat) hl rfl (if_pos ⟨hst, hrun⟩)
    ((keeps_svi (by simp) s.m _).trans (keeps_raise (by simp) _ _)) (.of_regs rfl)
    ⟨rfl, getStat_putStat_same s.m _ _, fun _ hj => getStat_putStat_ne s.m _ hj,
      putStat ix.toNat { getStat s.m ix.toNat with state := 3 } s.m, rfl, rfl⟩

theorem nothing_streamSilent {ix : BitVec 10}
    (h : (getStat s.m ix.toNat).state ≠ 2 ∨ (getStream s.m ix.toNat).silRun < rf s.m Reg.SVI_SILENT 7 0) :
    DoesNothing (.streamSilent ix) s :=
  nothing_al (streamSilent ix.toNat) rfl (if_neg (by omega))

/-! ## Overload (R128) -/

/-- The decimated priorities after the next one joins them. -/
def decimNext (m : Pnm) : Nat :=
  match (prioList m).find? (fun p => !m.svi.decim.testBit p) with
  | some p => Nat.lor m.svi.decim (2 ^ p)
  | none => m.svi.decim

theorem ingestOverload_of_above {m : Pnm} (h : 4 ≤ m.svi.above) :
    ingestOverload m = ladderEnter 2 0 { m with svi := { m.svi with above := 0, decim := decimNext m } } := by
  simp only [ingestOverload, if_pos h, decimNext]
  cases (prioList m).find? fun p => !m.svi.decim.testBit p <;> rfl

theorem ingestOverload_decimates (hl : s.live) (h : 4 ≤ s.m.svi.above) :
    Does .ingestOverload s [.ladder, .tel, .svi] [] fun n =>
      n.ladder = (ladderEnter 2 0 s.m).ladder ∧ n.svi = { s.m.svi with above := 0, decim := n.svi.decim } ∧
      n.svi.decim = decimNext s.m :=
  does_al _ hl rfl (ingestOverload_of_above h)
    ((keeps_svi (by simp) s.m _).trans (keeps_ladderEnter (by simp) (by simp) _ _ _)) (.of_regs rfl) ⟨rfl, rfl, rfl⟩

theorem nothing_ingestOverload (h : s.m.svi.above < 4) : DoesNothing .ingestOverload s :=
  nothing_al _ rfl (if_neg (Nat.not_le.mpr h))

theorem decimReturn_returns (hl : s.live) {t p : Nat} (ht : s.m.svi.lowSince = some t) (hs : t + edgesS ≤ s.m.tim.edge)
    (hp : [7, 6, 5, 4, 3, 2, 1, 0].find? (fun p => s.m.svi.decim.testBit p) = some p) :
    Does .decimReturn s [.ladder, .tel, .svi] [] fun n =>
      n.svi = { s.m.svi with decim := s.m.svi.decim - 2 ^ p, lowSince := some s.m.tim.edge } ∧
      n.ladder = (if s.m.svi.decim = 2 ^ p then (ladderClear 2 0 s.m).ladder else s.m.ladder) := by
  have hle : 2 ^ p ≤ s.m.svi.decim := Nat.ge_two_pow_of_testBit (List.find?_some hp)
  have hret : decimReturn s.m =
      (let n := { s.m with svi := { s.m.svi with decim := s.m.svi.decim - 2 ^ p, lowSince := some s.m.tim.edge } }
       if s.m.svi.decim - 2 ^ p = 0 then ladderClear 2 0 n else n) := by
    simp only [decimReturn, ht, hp, if_pos hs]
  by_cases hlast : s.m.svi.decim = 2 ^ p
  · refine does_al _ hl rfl (hret.trans (if_pos (by omega)))
      ((keeps_svi (by simp) s.m _).trans (keeps_ladderClear (by simp) (by simp) _ _ _))
      (.of_regs (ladderClear_regs _ _ _))
      ⟨ladderClear_svi _ _ _, ?_⟩
    rw [if_pos hlast, ladderClear_ladder_eq, ladderClear_ladder_eq]
    rfl
  · exact does_al _ hl rfl (hret.trans (if_neg (by omega))) (keeps_svi (by simp) s.m _) (.of_regs rfl)
      ⟨rfl, (if_neg hlast).symm⟩

theorem nothing_decimReturn (h : s.m.svi.lowSince = none) : DoesNothing .decimReturn s :=
  nothing_al _ rfl (by simp only [decimReturn, h])

end

/-- Settles O21: it holds. Each command has one branch per clause; the check of the chains, the disarming of captures and
the ladder change nothing else of SVI. -/
theorem sampledValuesRunStopAndOverload : Obligations.SampledValuesRunStopAndOverload := by
  refine ⟨fun s hw => ⟨sviRun_starts hw, sviRun_refused hw, sviRun_asks_for_restart hw, nothing_sviRun, sviStop_disarms hw⟩,
    fun s data hw => ?plane,
    fun s hl => ⟨fun ix => streamSilent_silences hl, fun ix => nothing_streamSilent, ingestOverload_decimates hl,
      nothing_ingestOverload, fun t p => decimReturn_returns hl, nothing_decimReturn⟩⟩
  case plane =>
    refine ⟨fun hb hc hlo hhi hfits => sviPlaneWrite_sets hw (sviPlaneWrite_taken hb hc hlo hhi hfits), fun hb => ?busy,
      fun hb hc => ?rate, fun hb hc hh => ?hold, fun hb hc hlo hhi hfits => ?buffer⟩
    case busy => exact sviPlaneWrite_refused hw (by decide) (if_pos hb)
    case rate => exact sviPlaneWrite_refused hw (by decide) ((if_neg hb).trans (if_pos hc))
    case hold =>
      exact sviPlaneWrite_refused hw (by decide) ((if_neg hb).trans ((if_neg (Nat.not_le.mpr hc)).trans (if_pos hh)))
    case buffer =>
      exact sviPlaneWrite_refused hw (by decide) ((if_neg hb).trans ((if_neg (Nat.not_le.mpr hc)).trans
        ((if_neg (by omega)).trans (if_pos hfits))))

end Machine
end Sys2Proof
end

section
/-! PROOFS. The phasor window (R168, R577): how FPE refuses, the words that a read returns, and the commit of staged
entries. -/

namespace Sys2Proof
namespace Machine

/-! ## Refusals by FPE (R141, R168) -/

section
variable {ps : List Part} {os : List Nat}

/-- A refusal by FPE sets CFG_REJECT and names the check and the index. -/
theorem keeps_fpeErr (h : .regs ∈ ps) (field index : Nat) (m : Pnm) : Keeps ps m (fpeErr field index m) :=
  ((keeps_wr h m _ _).trans (keeps_wr h _ _ _)).trans (keeps_wr h _ _ _)

theorem keepsRegs_fpeErr (hf : Reg.FPE_FLAGS ∈ os) (he : Reg.FPE_CFG_ERR ∈ os) (field index : Nat) (m : Pnm) :
    KeepsRegs os m (fpeErr field index m) :=
  ((keepsRegs_sb m _ hf).trans (keepsRegs_wf _ _ _ _ he)).trans (keepsRegs_wf _ _ _ _ he)

theorem rb_fpeErr_reject (field index : Nat) (m : Pnm) : rb (fpeErr field index m) Reg.FPE_FLAGS 0 = true := by
  have hflags : rd (fpeErr field index m) Reg.FPE_FLAGS = rd (sb m Reg.FPE_FLAGS 0) Reg.FPE_FLAGS :=
    (rd_wr_ne _ _ _ (by decide)).trans (rd_wr_ne _ _ _ (by decide))
  rw [rb, hflags]
  exact rb_sb_same m _ 0 (by decide)

theorem rf_fpeErr_field {field : Nat} (h : field < 256) (index : Nat) (m : Pnm) :
    rf (fpeErr field index m) Reg.FPE_CFG_ERR 7 0 = field := by
  rw [fpeErr, rf_wf_apart _ _ _ _ _ _ _ (by decide), cfgErr, rf_wf_same _ _ _ _ _ (by decide)]
  exact Nat.mod_eq_of_lt h

end

section
variable {s : State} {cmd : Word}

/-! ## A GO that reads (R168) -/

/-- A command that stores its GO and puts words into the window behind it changes these registers alone. -/
theorem does_windowRead {c : Instr} {f : Pnm → Pnm} {reg data : Nat} {mask go : Word} {l : List Word} (hw : s.writable)
    (hc : exec c s = run (whenWr f) s) (hf : f s.m = wrs (storeCmd reg mask go s.m) data l) :
    Does c s [.regs] (reg :: rowAt data l.length) fun n => ∀ k < l.length, rd n (data + 4 * k) = l.getD k 0 :=
  does_wr f hw hc hf ((keeps_wr (by simp) s.m _ _).trans (keeps_wrs (by simp) _ _ _))
    ((keepsRegs_wr s.m _ (by simp)).trans ((keepsRegs_wrs _ _ l).mono (List.subset_cons_self _ _)))
    fun _ hk => rd_wrs _ _ hk

/-- A slot-map entry or a coefficient is one word of the window. -/
theorem fpeTblRead_returns_word (hw : s.writable) {v : Word}
    (hr : fpeTblRead (setBit cmd 20 false) s.m =
      wrs (storeCmd Reg.FPE_TBL_CMD 0x0007FFFF#32 (setBit cmd 20 false) s.m) Reg.FPE_TBL_DATA [v]) :
    Does (.fpeTblRead cmd) s [.regs] [Reg.FPE_TBL_CMD, Reg.FPE_TBL_DATA] fun n => rd n Reg.FPE_TBL_DATA = v := by
  obtain ⟨n, hn, hkeep, hregs, hword⟩ := does_windowRead (c := .fpeTblRead cmd) hw rfl hr
  exact ⟨n, hn, hkeep, hregs, hword 0 Nat.one_pos⟩

theorem fpeTblRead_returns_slot (hw : s.writable) (ht : bits cmd 18 16 = 1) (hi : bits cmd 15 0 < 8192) :
    Does (.fpeTblRead cmd) s [.regs] [Reg.FPE_TBL_CMD, Reg.FPE_TBL_DATA] fun n =>
      rd n Reg.FPE_TBL_DATA = NMap.get (fun _ => 0) s.m.fpe.smap (bits cmd 15 0) :=
  fpeTblRead_returns_word hw (by simp [fpeTblRead, setBit_bits_apart, ht, hi])

theorem fpeTblRead_returns_coefficient (hw : s.writable) (ht : bits cmd 18 16 = 2) :
    Does (.fpeTblRead cmd) s [.regs] [Reg.FPE_TBL_CMD, Reg.FPE_TBL_DATA] fun n =>
      rd n Reg.FPE_TBL_DATA = NMap.get (fun _ => 0) s.m.fpe.coef (bits cmd 15 0) :=
  fpeTblRead_returns_word hw (by simp [fpeTblRead, setBit_bits_apart, ht])

/-- The tables whose entries fill the window's eight words. -/
theorem fpeTblRead_of_eight {m : Pnm} {w : List Word} (h8 : w.length = 8)
    (h : (bits cmd 18 16 = 0 ∧ bits cmd 15 0 < 256 ∧ w = profWords m (bits cmd 15 0)) ∨
      (bits cmd 18 16 = 3 ∧ bits cmd 15 0 < 64 ∧ w = refCfg m (bits cmd 15 0)) ∨
      (bits cmd 18 16 = 4 ∧ bits cmd 15 0 < 64 ∧ w = refWords (getRef m (bits cmd 15 0)).rep)) :
    fpeTblRead (setBit cmd 20 false) m =
      wrs (storeCmd Reg.FPE_TBL_CMD 0x0007FFFF#32 (setBit cmd 20 false) m) Reg.FPE_TBL_DATA w := by
  rcases h with ⟨ht, hi, rfl⟩ | ⟨ht, hi, rfl⟩ | ⟨ht, hi, rfl⟩ <;>
    simp [fpeTblRead, setBit_bits_apart, ht, hi, h8]

theorem fpeTblRead_returns_eight (hw : s.writable) {w : List Word} (h8 : w.length = 8)
    (h : (bits cmd 18 16 = 0 ∧ bits cmd 15 0 < 256 ∧ w = profWords s.m (bits cmd 15 0)) ∨
      (bits cmd 18 16 = 3 ∧ bits cmd 15 0 < 64 ∧ w = refCfg s.m (bits cmd 15 0)) ∨
      (bits cmd 18 16 = 4 ∧ bits cmd 15 0 < 64 ∧ w = refWords (getRef s.m (bits cmd 15 0)).rep)) :
    Does (.fpeTblRead cmd) s [.regs] (Reg.FPE_TBL_CMD :: rowAt Reg.FPE_TBL_DATA 8) fun n =>
      ∀ k < 8, rd n (Reg.FPE_TBL_DATA + 4 * k) = w.getD k 0 :=
  h8 ▸ does_windowRead hw rfl (fpeTblRead_of_eight h8 h)

/-! ## Committing what waits (R143 to R147, R159, R168) -/

/-- A reference's configuration reaches FPE, and the events where the reference changes state. -/
theorem refCommit_fpe_tel (r : Nat) (w : List Word) (m : Pnm) :
    ∃ f t, (refCommit r w m).1 = { m with fpe := f, tel := t } := by
  unfold refCommit
  extract_lets
  repeat' split
  all_goals exact ⟨_, _, rfl⟩

theorem fpeCommit_fpe_tel (t i : Nat) (w : List Word) (m : Pnm) :
    ∃ f e, (fpeCommit t i w m).1 = { m with fpe := f, tel := e } := by
  unfold fpeCommit
  extract_lets
  by_cases hprof : t = 0
  · rw [if_pos hprof]; (repeat' split) <;> exact ⟨_, _, rfl⟩
  rw [if_neg hprof]
  by_cases hslot : t = 1
  · rw [if_pos hslot]; (repeat' split) <;> exact ⟨_, _, rfl⟩
  rw [if_neg hslot]
  by_cases hcoef : t = 2
  · rw [if_pos hcoef]; (repeat' split) <;> exact ⟨_, _, rfl⟩
  · rw [if_neg hcoef]; exact refCommit_fpe_tel i w m

/-- One staged entry commits, or is refused and named. -/
def fpeCommitNext (m : Pnm) (p : Nat × Nat × List Word) : Pnm :=
  if (fpeCommit p.1 p.2.1 p.2.2 m).2 = 0 then (fpeCommit p.1 p.2.1 p.2.2 m).1
  else fpeErr (fpeCommit p.1 p.2.1 p.2.2 m).2 p.2.1 (sb (fpeCommit p.1 p.2.1 p.2.2 m).1 Reg.FPE_TBL_STAT 1)

/-- The registers in which the window names a refused entry. -/
def fpeRefusalRegs : List Nat := [Reg.FPE_TBL_STAT, Reg.FPE_FLAGS, Reg.FPE_CFG_ERR]

theorem fpeCommitNext_frame (m : Pnm) (p : Nat × Nat × List Word) :
    Keeps [.regs, .tel, .fpe] m (fpeCommitNext m p) ∧ KeepsRegs fpeRefusalRegs m (fpeCommitNext m p) := by
  obtain ⟨f, t, h⟩ := fpeCommit_fpe_tel p.1 p.2.1 p.2.2 m
  have hkeep : Keeps [.regs, .tel, .fpe] m (fpeCommit p.1 p.2.1 p.2.2 m).1 :=
    h ▸ (keeps_fpe (by simp) m f).trans (keeps_tel_of_mem (by simp) _ t)
  have hregs : KeepsRegs fpeRefusalRegs m (fpeCommit p.1 p.2.1 p.2.2 m).1 := h ▸ .of_regs rfl
  unfold fpeCommitNext
  split
  · exact ⟨hkeep, hregs⟩
  · exact ⟨(hkeep.trans (keeps_wr (by simp) _ _ _)).trans (keeps_fpeErr (by simp) _ _ _),
      (hregs.trans (keepsRegs_sb _ _ (by simp [fpeRefusalRegs]))).trans
        (keepsRegs_fpeErr (by simp [fpeRefusalRegs]) (by simp [fpeRefusalRegs]) _ _ _)⟩

theorem fpeCommitAll_of_waiting {m : Pnm} (h : m.fpe.pend ≠ []) :
    fpeCommitAll m =
      (let n := m.fpe.pend.foldl fpeCommitNext m
       checkChains (cb { n with fpe := { n.fpe with pend := [] } } Reg.FPE_TBL_STAT 0)) := if_neg h

/-- A commit takes every waiting entry, clears PENDING and checks the chains. -/
theorem fpeCommitAll_frame {m : Pnm} (h : m.fpe.pend ≠ []) :
    Keeps [.regs, .tel, .fpe] m (fpeCommitAll m) ∧ KeepsRegs (fpeRefusalRegs ++ chainRegs) m (fpeCommitAll m) ∧
    rb (fpeCommitAll m) Reg.FPE_TBL_STAT 0 = false ∧ (fpeCommitAll m).fpe.pend = [] := by
  rw [fpeCommitAll_of_waiting h]
  dsimp only
  have hkeep : Keeps [.regs, .tel, .fpe] m (m.fpe.pend.foldl fpeCommitNext m) :=
    List.foldlRecOn _ _ (.refl _ _) fun n hn p _ => hn.trans (fpeCommitNext_frame n p).1
  have hregs : KeepsRegs fpeRefusalRegs m (m.fpe.pend.foldl fpeCommitNext m) :=
    List.foldlRecOn _ _ (.refl _ _) fun n hn p _ => hn.trans (fpeCommitNext_frame n p).2
  generalize m.fpe.pend.foldl fpeCommitNext m = n at hkeep hregs
  have hd := keeps_fpe (ps := [.regs, .tel, .fpe]) (by simp) n { n.fpe with pend := [] }
  have hdregs : KeepsRegs fpeRefusalRegs n { n with fpe := { n.fpe with pend := [] } } := .of_regs rfl
  generalize hdef : { n with fpe := { n.fpe with pend := [] } } = d at hd hdregs
  have hpend : d.fpe.pend = [] := hdef ▸ rfl
  obtain ⟨hck, hcr, hcf⟩ := checkChains_frame (cb d Reg.FPE_TBL_STAT 0)
  refine ⟨?_, ?_, ?_, ?_⟩
  · exact ((hkeep.trans hd).trans (keeps_wr (by simp) _ _ _)).trans hck
  · exact (((hregs.trans hdregs).trans (keepsRegs_cb _ _ (by simp [fpeRefusalRegs]))).mono
      (List.subset_append_left _ _)).trans (hcr.mono (List.subset_append_right _ _))
  · rw [rb, hcr Reg.FPE_TBL_STAT (by decide)]
    exact rb_cb_same d _ 0 (by decide)
  · rw [hcf]; exact hpend

/-! ## A GO that writes (R168, R577) -/

/-- The tables and indices that the window does not have. -/
abbrev fpeAbsent (cmd : Word) : Prop :=
  5 ≤ bits cmd 18 16 ∨ (bits cmd 18 16 = 0 ∧ 256 ≤ bits cmd 15 0) ∨ (bits cmd 18 16 = 1 ∧ 8192 ≤ bits cmd 15 0) ∨
    (bits cmd 18 16 = 3 ∧ 64 ≤ bits cmd 15 0)

/-- The module after a GO with WRITE 1 stored its command. -/
def fpeWriteGo (cmd : Word) (m : Pnm) : Pnm := storeCmd Reg.FPE_TBL_CMD 0x0017FFFF#32 (setBit cmd 20 true) m

/-- The module after a GO staged the window's words behind those that wait. -/
def fpeStagedGo (cmd : Word) (m : Pnm) : Pnm :=
  sb { fpeWriteGo cmd m with fpe := { m.fpe with
       pend := m.fpe.pend ++
         [(bits cmd 18 16, bits cmd 15 0, (List.range 8).map fun k => rd m (Reg.FPE_TBL_DATA + 4 * k))] } }
    Reg.FPE_TBL_STAT 0

theorem fpeTblWrite_cases (cmd : Word) (m : Pnm) :
    fpeTblWrite (setBit cmd 20 true) m =
      if bits cmd 18 16 = 4 then fpeErr 19 (bits cmd 15 0) (sb (fpeWriteGo cmd m) Reg.FPE_TBL_STAT 1)
      else if fpeAbsent cmd then sb (sb (fpeWriteGo cmd m) Reg.FPE_TBL_STAT 1) Reg.FPE_FLAGS 0
      else if m.tim.grid then fpeStagedGo cmd m else fpeCommitAll (fpeStagedGo cmd m) := by
  have hi : bits (setBit cmd 20 true) 15 0 = bits cmd 15 0 := setBit_bits_apart _ _ (by decide)
  have ht : bits (setBit cmd 20 true) 18 16 = bits cmd 18 16 := setBit_bits_apart _ _ (by decide)
  simp only [fpeTblWrite, hi, ht]
  rfl

theorem keeps_fpeStagedGo {ps : List Part} (hr : .regs ∈ ps) (hf : .fpe ∈ ps) (m : Pnm) : Keeps ps m (fpeStagedGo cmd m) :=
  ((keeps_wr hr m _ _).trans (keeps_fpe hf _ _)).trans (keeps_wr hr _ _ _)

theorem keepsRegs_fpeStagedGo {os : List Nat} (hc : Reg.FPE_TBL_CMD ∈ os) (hs : Reg.FPE_TBL_STAT ∈ os) (m : Pnm) :
    KeepsRegs os m (fpeStagedGo cmd m) :=
  ((keepsRegs_wr m _ hc).trans (.of_regs rfl)).trans (keepsRegs_sb _ _ hs)

theorem fpeTblWrite_refuses_states (hw : s.writable) (ht : bits cmd 18 16 = 4) :
    Does (.fpeTblWrite cmd) s [.regs] [Reg.FPE_TBL_CMD, Reg.FPE_TBL_STAT, Reg.FPE_FLAGS, Reg.FPE_CFG_ERR] fun n =>
      rb n Reg.FPE_TBL_STAT 1 = true ∧ rf n Reg.FPE_CFG_ERR 7 0 = 19 := by
  refine does_wr _ hw rfl ((fpeTblWrite_cases cmd s.m).trans (if_pos ht))
    (((keeps_wr (by simp) s.m _ _).trans (keeps_wr (by simp) _ _ _)).trans (keeps_fpeErr (by simp) _ _ _))
    (((keepsRegs_wr s.m _ (by simp)).trans (keepsRegs_sb _ _ (by simp))).trans
      (keepsRegs_fpeErr (by simp) (by simp) _ _ _))
    ⟨?_, rf_fpeErr_field (by decide) _ _⟩
  have hstat := keepsRegs_fpeErr (os := [Reg.FPE_FLAGS, Reg.FPE_CFG_ERR]) (by simp) (by simp) 19 (bits cmd 15 0)
    (sb (fpeWriteGo cmd s.m) Reg.FPE_TBL_STAT 1) Reg.FPE_TBL_STAT (by decide)
  rw [rb, hstat]
  exact rb_sb_same _ _ 1 (by decide)

theorem fpeTblWrite_refuses_absent (hw : s.writable) (h : fpeAbsent cmd) :
    Does (.fpeTblWrite cmd) s [.regs] [Reg.FPE_TBL_CMD, Reg.FPE_TBL_STAT, Reg.FPE_FLAGS] fun n =>
      rb n Reg.FPE_TBL_STAT 1 = true ∧ rb n Reg.FPE_FLAGS 0 = true := by
  have ht : bits cmd 18 16 ≠ 4 := by omega
  refine does_wr _ hw rfl ((fpeTblWrite_cases cmd s.m).trans ((if_neg ht).trans (if_pos h)))
    (((keeps_wr (by simp) s.m _ _).trans (keeps_wr (by simp) _ _ _)).trans (keeps_wr (by simp) _ _ _))
    (((keepsRegs_wr s.m _ (by simp)).trans (keepsRegs_sb _ _ (by simp))).trans (keepsRegs_sb _ _ (by simp)))
    ⟨?_, rb_sb_same _ _ 0 (by decide)⟩
  rw [rb, sb, wf, rd_wr_ne _ _ _ (by decide)]
  exact rb_sb_same _ _ 1 (by decide)

theorem fpeTblWrite_stages (hw : s.writable) (ht : bits cmd 18 16 ≠ 4) (h : ¬ fpeAbsent cmd) (hg : s.m.tim.grid = true) :
    Does (.fpeTblWrite cmd) s [.regs, .fpe] [Reg.FPE_TBL_CMD, Reg.FPE_TBL_STAT] fun n =>
      rb n Reg.FPE_TBL_STAT 0 = true ∧
      n.fpe = { s.m.fpe with
                pend := s.m.fpe.pend ++
                  [(bits cmd 18 16, bits cmd 15 0, (List.range 8).map fun k => rd s.m (Reg.FPE_TBL_DATA + 4 * k))] } :=
  does_wr _ hw rfl ((fpeTblWrite_cases cmd s.m).trans ((if_neg ht).trans ((if_neg h).trans (if_pos hg))))
    (keeps_fpeStagedGo (by simp) (by simp) _) (keepsRegs_fpeStagedGo (by simp) (by simp) _)
    ⟨rb_sb_same _ _ 0 (by decide), rfl⟩

theorem fpeTblWrite_commits (hw : s.writable) (ht : bits cmd 18 16 ≠ 4) (h : ¬ fpeAbsent cmd) (hg : s.m.tim.grid = false) :
    Does (.fpeTblWrite cmd) s [.regs, .tel, .fpe]
      [Reg.FPE_TBL_CMD, Reg.FPE_TBL_STAT, Reg.FPE_FLAGS, Reg.FPE_CFG_ERR, Reg.FPE_CHAIN_ERR, Reg.FPE_CHAIN_ERR_COUNT]
      fun n => rb n Reg.FPE_TBL_STAT 0 = false ∧ n.fpe.pend = [] := by
  have hwaits : (fpeStagedGo cmd s.m).fpe.pend ≠ [] := List.append_ne_nil_of_right_ne_nil _ (List.cons_ne_nil _ _)
  obtain ⟨hkeep, hregs, hstat, hpend⟩ := fpeCommitAll_frame hwaits
  exact does_wr _ hw rfl
    ((fpeTblWrite_cases cmd s.m).trans ((if_neg ht).trans ((if_neg h).trans (if_neg (ne_true_of_eq_false hg)))))
    ((keeps_fpeStagedGo (by simp) (by simp) _).trans hkeep)
    ((keepsRegs_fpeStagedGo (by simp) (by simp) _).trans (hregs.mono (by decide))) ⟨hstat, hpend⟩

end

end Machine
end Sys2Proof
end

section
/-! PROOFS. Glides and the hold of references (R148, R149, R161): the refusals and the start of a Glide, the slot map at its
end, and the loss of a reference. -/

namespace Sys2Proof
namespace Machine

section
variable {s : State}

/-! ## GO of a Glide (R148) -/

section
variable {data : Word}

/-- The mapped slots that name profile FROM. -/
abbrev glideHere (data : Word) (m : Pnm) : List (Nat × List Word) :=
  (mappedSlots m).filter fun x => decide (slotProf m x.1 = bits data 7 0)

/-- The Glide that a GO asks for, before its first plane tick. -/
def glideNew (data : Word) (m : Pnm) : Glide :=
  { src := bits data 7 0, dst := bits data 15 8, log2 := bits data 19 16, slots := slotsOf m (bits data 7 0), k1 := none,
    ks := 0, j := 0 }

/-- The module after a GO that no check refuses. -/
def glideStarted (data : Word) (m : Pnm) : Pnm :=
  sb { wr m Reg.FPE_GLIDE (data &&& 0xFFFFF#32) with fpe := { m.fpe with glide := some (glideNew data m) } } Reg.FPE_STAT 2

/-- The checks of the slots and of the length, which follow those of the two profiles. -/
def glideSlotChecks (data : Word) (m : Pnm) : Pnm :=
  let b := bits data 15 8
  let go := wr m Reg.FPE_GLIDE (data &&& 0xFFFFF#32)
  if ∃ x ∈ glideHere data m, chainReason m x.1 b x.2 ≠ 0 then fpeErr 17 b go
  else if ∃ x ∈ glideHere data m, slotPh m x.1 = true ∧
      mOut (profWords m (bits data 7 0)) (eN x.2) ≠ mOut (profWords m b) (eN x.2) then fpeErr 16 b go
  else if 10 < bits data 19 16 then sb go Reg.FPE_FLAGS 0
  else glideStarted data m

theorem glideGo_cases (data : Word) (m : Pnm) :
    glideGo data m =
      (let b := bits data 15 8
       let go := wr m Reg.FPE_GLIDE (data &&& 0xFFFFF#32)
       if m.fpe.glide.isSome then fpeErr 14 b go
       else if bits data 7 0 = b then fpeErr 15 b go
       else if 8 ≤ b ∧ b < 16 then fpeErr 20 b go
       else glideSlotChecks data m) := by
  simp only [glideGo, glideSlotChecks, List.any_eq_true, Bool.and_eq_true, decide_eq_true_eq]
  rfl

theorem glideGo_refused (hw : s.writable) {field : Nat} (hf : field < 256)
    (h : glideGo data s.m = fpeErr field (bits data 15 8) (wr s.m Reg.FPE_GLIDE (data &&& 0xFFFFF#32))) :
    Does (.glideGo data) s [.regs] [Reg.FPE_GLIDE, Reg.FPE_FLAGS, Reg.FPE_CFG_ERR] fun n =>
      rb n Reg.FPE_FLAGS 0 = true ∧ rf n Reg.FPE_CFG_ERR 7 0 = field :=
  does_wr _ hw rfl h ((keeps_wr (by simp) s.m _ _).trans (keeps_fpeErr (by simp) _ _ _))
    ((keepsRegs_wr s.m _ (by simp)).trans (keepsRegs_fpeErr (by simp) (by simp) _ _ _))
    ⟨rb_fpeErr_reject _ _ _, rf_fpeErr_field hf _ _⟩

theorem glideGo_refused_running (hw : s.writable) (hg : s.m.fpe.glide.isSome = true) :
    Does (.glideGo data) s [.regs] [Reg.FPE_GLIDE, Reg.FPE_FLAGS, Reg.FPE_CFG_ERR] fun n =>
      rb n Reg.FPE_FLAGS 0 = true ∧ rf n Reg.FPE_CFG_ERR 7 0 = 14 :=
  glideGo_refused hw (by decide) ((glideGo_cases data s.m).trans (if_pos hg))

theorem glideGo_of_free {m : Pnm} (hg : m.fpe.glide = none) (hab : bits data 7 0 ≠ bits data 15 8)
    (hb : bits data 15 8 < 8 ∨ 16 ≤ bits data 15 8) : glideGo data m = glideSlotChecks data m :=
  (glideGo_cases data m).trans
    ((if_neg (Option.not_isSome_iff_eq_none.mpr hg)).trans ((if_neg hab).trans (if_neg (by omega))))

theorem glideGo_refused_same (hw : s.writable) (hg : s.m.fpe.glide = none) (hab : bits data 7 0 = bits data 15 8) :
    Does (.glideGo data) s [.regs] [Reg.FPE_GLIDE, Reg.FPE_FLAGS, Reg.FPE_CFG_ERR] fun n =>
      rb n Reg.FPE_FLAGS 0 = true ∧ rf n Reg.FPE_CFG_ERR 7 0 = 15 :=
  glideGo_refused hw (by decide)
    ((glideGo_cases data s.m).trans ((if_neg (Option.not_isSome_iff_eq_none.mpr hg)).trans (if_pos hab)))

theorem glideGo_refused_reserved (hw : s.writable) (hg : s.m.fpe.glide = none) (hab : bits data 7 0 ≠ bits data 15 8)
    (hlo : 8 ≤ bits data 15 8) (hhi : bits data 15 8 < 16) :
    Does (.glideGo data) s [.regs] [Reg.FPE_GLIDE, Reg.FPE_FLAGS, Reg.FPE_CFG_ERR] fun n =>
      rb n Reg.FPE_FLAGS 0 = true ∧ rf n Reg.FPE_CFG_ERR 7 0 = 20 :=
  glideGo_refused hw (by decide) ((glideGo_cases data s.m).trans
    ((if_neg (Option.not_isSome_iff_eq_none.mpr hg)).trans ((if_neg hab).trans (if_pos ⟨hlo, hhi⟩))))

theorem glideGo_refused_chain (hw : s.writable) (hg : s.m.fpe.glide = none) (hab : bits data 7 0 ≠ bits data 15 8)
    (hb : bits data 15 8 < 8 ∨ 16 ≤ bits data 15 8)
    (hc : ∃ x ∈ glideHere data s.m, chainReason s.m x.1 (bits data 15 8) x.2 ≠ 0) :
    Does (.glideGo data) s [.regs] [Reg.FPE_GLIDE, Reg.FPE_FLAGS, Reg.FPE_CFG_ERR] fun n =>
      rb n Reg.FPE_FLAGS 0 = true ∧ rf n Reg.FPE_CFG_ERR 7 0 = 17 :=
  glideGo_refused hw (by decide) ((glideGo_of_free hg hab hb).trans (if_pos hc))

theorem glideGo_starts (hw : s.writable) (hg : s.m.fpe.glide = none) (hab : bits data 7 0 ≠ bits data 15 8)
    (hb : bits data 15 8 < 8 ∨ 16 ≤ bits data 15 8)
    (hc : ¬ ∃ x ∈ glideHere data s.m, chainReason s.m x.1 (bits data 15 8) x.2 ≠ 0)
    (hr : ∀ x ∈ glideHere data s.m, slotPh s.m x.1 = true →
      mOut (profWords s.m (bits data 7 0)) (eN x.2) = mOut (profWords s.m (bits data 15 8)) (eN x.2))
    (hlog : bits data 19 16 ≤ 10) :
    Does (.glideGo data) s [.regs, .fpe] [Reg.FPE_GLIDE, Reg.FPE_STAT] fun n =>
      rb n Reg.FPE_STAT 2 = true ∧ n.fpe = { s.m.fpe with glide := some (glideNew data s.m) } :=
  does_wr _ hw rfl
    ((glideGo_of_free hg hab hb).trans ((if_neg hc).trans
      ((if_neg fun ⟨x, hx, hph, hne⟩ => hne (hr x hx hph)).trans (if_neg (Nat.not_lt.mpr hlog)))))
    (((keeps_wr (by simp) s.m _ _).trans (keeps_fpe (by simp) _ _)).trans (keeps_wr (by simp) _ _ _))
    (((keepsRegs_wr s.m _ (by simp)).trans (.of_regs rfl)).trans (keepsRegs_sb _ _ (by simp)))
    ⟨rb_sb_same _ _ 2 (by decide), rfl⟩

end

/-! ## The end of a Glide (R149) -/

/-- The slot map after slot `x` names profile `p`; the slot's other fields stay. -/
def nameProfile (p : Nat) (a : NMap Word) (x : Nat) : NMap Word :=
  NMap.set (fun _ => 0) a x (setBits (NMap.get (fun _ => 0) a x) 7 0 p)

theorem get_foldl_nameProfile_of_not_mem (p : Nat) {l : List Nat} {x : Nat} (h : x ∉ l) (a : NMap Word) :
    NMap.get (fun _ => 0) (l.foldl (nameProfile p) a) x = NMap.get (fun _ => 0) a x := by
  induction l generalizing a with
  | nil => rfl
  | cons y t ih =>
    obtain ⟨hy, ht⟩ := not_or.mp (mt List.mem_cons.mpr h)
    exact (ih ht _).trans (NMap.get_set_ne _ _ _ _ _ hy)

theorem prof_foldl_nameProfile_of_mem (p : Nat) {l : List Nat} {x : Nat} (h : x ∈ l) (a : NMap Word) :
    bits (NMap.get (fun _ => 0) (l.foldl (nameProfile p) a) x) 7 0 = p % 256 := by
  induction l generalizing a with
  | nil => exact absurd h List.not_mem_nil
  | cons y t ih =>
    rw [List.foldl_cons]
    by_cases ht : x ∈ t
    · exact ih ht _
    · obtain rfl : x = y := (List.mem_cons.mp h).resolve_right ht
      rw [get_foldl_nameProfile_of_not_mem p ht, nameProfile, NMap.get_set_same]
      exact bits_setBits_same _ _ _ _ (by decide)

/-- The module after a Glide's last fade step, before its event. -/
def glideDone (g : Glide) (m : Pnm) : Pnm :=
  sb (cb { m with fpe := { m.fpe with
           glide := none, smap := g.slots.foldl (nameProfile g.dst) m.fpe.smap,
           bad := m.fpe.bad.filter fun p => !g.slots.contains p.1 } } Reg.FPE_STAT 2) Reg.FPE_FLAGS 4

theorem glideEnd_at_last_step {m : Pnm} {g : Glide} (hg : m.fpe.glide = some g) (hj : g.j = 2 ^ g.log2)
    (hk : g.k1.isSome = true) :
    glideEnd m = raise { src := 4, code := 0x4A, cls := 3, items := [g.src, g.dst] } (glideDone g m) := by
  simp only [glideEnd, hg, if_pos (And.intro hj hk)]
  rfl

theorem glideEnd_ends (hl : s.live) {g : Glide} (hg : s.m.fpe.glide = some g) (hj : g.j = 2 ^ g.log2)
    (hk : g.k1.isSome = true) :
    Does .glideEnd s [.regs, .tel, .fpe] [Reg.FPE_STAT, Reg.FPE_FLAGS] fun n =>
      n.fpe = { s.m.fpe with glide := none, smap := n.fpe.smap, bad := n.fpe.bad } ∧
      (∀ x ∈ g.slots, slotProf n x = g.dst % 256) ∧
      (∀ x, x ∉ g.slots → NMap.get (fun _ => 0) n.fpe.smap x = NMap.get (fun _ => 0) s.m.fpe.smap x) ∧
      rb n Reg.FPE_STAT 2 = false ∧ rb n Reg.FPE_FLAGS 4 = true ∧
      Raised { src := 4, code := 0x4A, cls := 3, items := [g.src, g.dst] } s.m n := by
  refine does_al _ hl rfl (glideEnd_at_last_step hg hj hk)
    ((((keeps_fpe (by simp) s.m _).trans (keeps_wr (by simp) _ _ _)).trans (keeps_wr (by simp) _ _ _)).trans
      (keeps_raise (by simp) _ _))
    ((((KeepsRegs.of_regs rfl).trans (keepsRegs_cb _ _ (by simp))).trans (keepsRegs_sb _ _ (by simp))).trans (.of_regs rfl))
    ⟨rfl, fun x hx => prof_foldl_nameProfile_of_mem _ hx _, fun x hx => get_foldl_nameProfile_of_not_mem _ hx _, ?_,
      rb_sb_same _ _ 4 (by decide), glideDone g s.m, rfl, rfl⟩
  rw [rb, rd_raise, glideDone, sb, wf, rd_wr_ne _ _ _ (by decide)]
  exact rb_cb_same _ _ 2 (by decide)

theorem nothing_glideEnd (hg : s.m.fpe.glide = none) : DoesNothing .glideEnd s :=
  nothing_al _ rfl (by simp only [glideEnd, hg])

/-! ## A reference that holds (R161) -/

theorem getRef_refMove_same (r st T : Nat) (x : RefSt) (m : Pnm) :
    getRef (refMove r st T x m) r = { x with state := st, seq := planeSeq m T } := NMap.get_set_same _ _ _ _

theorem getRef_refMove_ne {r y : Nat} (h : y ≠ r) (st T : Nat) (x : RefSt) (m : Pnm) :
    getRef (refMove r st T x m) y = getRef m y := NMap.get_set_ne _ _ _ _ _ h

section
variable {r : BitVec 6}

theorem refLost_of_enabled {m : Pnm} {i : Nat} (hen : fbit (refCfg m i) 0 0 = true) (hst : (getRef m i).state ≠ 4) (T : Nat) :
    ∃ x, refLost T m i = refMove i 4 T x m := ⟨_, if_pos ⟨hen, hst⟩⟩

theorem refHoldExpiry_loses (hl : s.live) (hen : fbit (refCfg s.m r.toNat) 0 0 = true)
    (hst : (getRef s.m r.toNat).state = 3)
    (hdue : closeAt s.m (getRef s.m r.toNat).holdTick + fld (refCfg s.m r.toNat) 3 15 0 * 1000000 * unitNs ≤ nowU s.m) :
    Does (.refHoldExpiry r) s [.tel, .fpe] [] fun n =>
      n.fpe = { s.m.fpe with refs := n.fpe.refs } ∧ (getRef n r.toNat).state = 4 ∧
      (∀ x, x ≠ r.toNat → getRef n x = getRef s.m x) ∧
      Raised { src := 4, code := 0x48, cls := 2, items := [r.toNat, 4] } s.m n := by
  obtain ⟨x, hx⟩ := refLost_of_enabled hen (by omega)
    ((getRef s.m r.toNat).holdTick + fld (refCfg s.m r.toNat) 3 15 0 * 1152)
  refine does_al _ hl rfl ((if_pos ⟨hst, hdue⟩).trans hx)
    ((keeps_fpe (by simp) s.m _).trans (keeps_raise (by simp) _ _)) (.of_regs rfl)
    ⟨rfl, congrArg RefSt.state (getRef_refMove_same _ _ _ _ _), fun y hy => getRef_refMove_ne hy _ _ _ _, ?_⟩
  exact ⟨{ s.m with fpe := (refMove r.toNat 4 _ x s.m).fpe }, rfl, rfl⟩

theorem nothing_refHoldExpiry (h : (getRef s.m r.toNat).state ≠ 3) : DoesNothing (.refHoldExpiry r) s :=
  nothing_al (refHoldExpiry r.toNat) rfl (if_neg fun hdue => h hdue.1)

end
end

/-- Settles O22: it holds. The window answers by table; GO of a Glide takes the first check that fails; the end of a Glide
writes the profile of its slots alone, and the end of a hold moves one reference. -/
theorem phasorWindowGlidesAndReferences : Obligations.PhasorWindowGlidesAndReferences := by
  refine ⟨fun s cmd hw => ?window, fun s => ⟨fun data hw => ?go, fun g hl => glideEnd_ends hl, nothing_glideEnd,
    fun r hl => refHoldExpiry_loses hl, fun r => nothing_refHoldExpiry⟩⟩
  case window =>
    exact ⟨fpeTblRead_returns_slot hw, fpeTblRead_returns_coefficient hw, fun w h8 => fpeTblRead_returns_eight hw h8,
      fpeTblWrite_refuses_states hw, fpeTblWrite_refuses_absent hw, fpeTblWrite_stages hw, fpeTblWrite_commits hw⟩
  case go =>
    exact ⟨glideGo_starts hw, glideGo_refused_running hw, glideGo_refused_same hw, glideGo_refused_reserved hw,
      glideGo_refused_chain hw⟩

end Machine
end Sys2Proof
end

section
/-! PROOFS. What the releases of a program keep (R213, R214, R235 to R238): every sink of an output reaches its own part of
the module and its own flags and counters, and none reaches the program or the states of its blocks. -/

namespace Sys2Proof
namespace Machine
namespace Leapfrog

/-! ## Frames of an operation -/

/-- From `m` to `n` at most the parts `ps` and the registers `os` change; the program and its block instances stay. -/
structure Touches (ps : List Part) (os : List Nat) (m n : Pnm) : Prop where
  parts : Keeps ps m n
  regs : KeepsRegs os m n
  prog : n.cye.prog = m.cye.prog
  insts : n.cye.insts = m.cye.insts

section
variable {ps qs : List Part} {os rs : List Nat} {m n k : Pnm}

theorem Touches.refl (ps : List Part) (os : List Nat) (m : Pnm) : Touches ps os m m := ⟨.refl _ _, .refl _ _, rfl, rfl⟩

theorem Touches.trans (h : Touches ps os m n) (h' : Touches ps os n k) : Touches ps os m k :=
  ⟨h.parts.trans h'.parts, h.regs.trans h'.regs, h'.prog.trans h.prog, h'.insts.trans h.insts⟩

theorem Touches.mono (h : Touches ps os m n) (hp : ps ⊆ qs) (ho : os ⊆ rs) : Touches qs rs m n :=
  ⟨h.parts.mono hp, h.regs.mono ho, h.prog, h.insts⟩

theorem Touches.ite {c : Prop} [Decidable c] (ht : Touches ps os m n) (he : Touches ps os m k) :
    Touches ps os m (if c then n else k) := by
  split
  · exact ht
  · exact he

theorem Touches.foldl {α : Type} {f : Pnm → α → Pnm} {l : List α} (h : ∀ a ∈ l, ∀ m, Touches ps os m (f m a)) (m : Pnm) :
    Touches ps os m (l.foldl f m) :=
  List.foldlRecOn l f (motive := Touches ps os m) (.refl _ _ _) fun k hk a ha => hk.trans (h a ha k)

/-- Where the cycle engine's part is not among those that change, the program stays. -/
theorem Touches.of_keeps (hp : Keeps ps m n) (hr : KeepsRegs os m n) (hc : .cye ∉ ps := by decide) : Touches ps os m n :=
  have hcye : n.cye = m.cye := hp .cye hc
  ⟨hp, hr, congrArg Cye.prog hcye, congrArg Cye.insts hcye⟩

theorem touches_wr (m : Pnm) {o : Nat} (v : Word) (hp : .regs ∈ ps := by simp) (ho : o ∈ os := by simp) :
    Touches ps os m (wr m o v) := ⟨keeps_wr hp m o v, keepsRegs_wr m v ho, rfl, rfl⟩

theorem touches_tel (m : Pnm) (t : Tel) (h : .tel ∈ ps := by simp) : Touches ps os m { m with tel := t } :=
  ⟨keeps_tel_of_mem h m t, .of_regs rfl, rfl, rfl⟩

theorem touches_mac (m : Pnm) (x : Mac) (h : .mac ∈ ps := by simp) : Touches ps os m { m with mac := x } :=
  ⟨keeps_mac h m x, .of_regs rfl, rfl, rfl⟩

theorem touches_cap (m : Pnm) (x : CapSt) (h : .cap ∈ ps := by simp) : Touches ps os m { m with cap := x } :=
  ⟨keeps_cap h m x, .of_regs rfl, rfl, rfl⟩

theorem keeps_hif (h : .hif ∈ ps) (m : Pnm) (x : Hif) : Keeps ps m { m with hif := x } := by
  intro p hp
  cases p with
  | hif => exact absurd h hp
  | _ => rfl

theorem keeps_gte (h : .gte ∈ ps) (m : Pnm) (x : Gte) : Keeps ps m { m with gte := x } := by
  intro p hp
  cases p with
  | gte => exact absurd h hp
  | _ => rfl

theorem keeps_cye (h : .cye ∈ ps) (m : Pnm) (x : Cye) : Keeps ps m { m with cye := x } := by
  intro p hp
  cases p with
  | cye => exact absurd h hp
  | _ => rfl

theorem keeps_out (h : .out ∈ ps) (m : Pnm) (x : Out) : Keeps ps m { m with out := x } := by
  intro p hp
  cases p with
  | out => exact absurd h hp
  | _ => rfl

theorem keeps_sio (h : .sio ∈ ps) (m : Pnm) (x : Sio) : Keeps ps m { m with sio := x } := by
  intro p hp
  cases p with
  | sio => exact absurd h hp
  | _ => rfl

theorem keeps_par (h : .par ∈ ps) (m : Pnm) (x : Par) : Keeps ps m { m with par := x } := by
  intro p hp
  cases p with
  | par => exact absurd h hp
  | _ => rfl

theorem keeps_key (h : .key ∈ ps) (m : Pnm) (x : Key) : Keeps ps m { m with key := x } := by
  intro p hp
  cases p with
  | key => exact absurd h hp
  | _ => rfl

theorem touches_hif (m : Pnm) (x : Hif) (h : .hif ∈ ps := by simp) : Touches ps os m { m with hif := x } :=
  ⟨keeps_hif h m x, .of_regs rfl, rfl, rfl⟩

theorem touches_gte (m : Pnm) (x : Gte) (h : .gte ∈ ps := by simp) : Touches ps os m { m with gte := x } :=
  ⟨keeps_gte h m x, .of_regs rfl, rfl, rfl⟩

theorem touches_cye (m : Pnm) (x : Cye) (hp : x.prog = m.cye.prog) (hi : x.insts = m.cye.insts)
    (h : .cye ∈ ps := by simp) : Touches ps os m { m with cye := x } :=
  ⟨keeps_cye h m x, .of_regs rfl, hp, hi⟩

theorem touches_out (m : Pnm) (x : Out) (h : .out ∈ ps := by simp) : Touches ps os m { m with out := x } :=
  ⟨keeps_out h m x, .of_regs rfl, rfl, rfl⟩

theorem touches_sio (m : Pnm) (x : Sio) (h : .sio ∈ ps := by simp) : Touches ps os m { m with sio := x } :=
  ⟨keeps_sio h m x, .of_regs rfl, rfl, rfl⟩

theorem touches_par (m : Pnm) (x : Par) (h : .par ∈ ps := by simp) : Touches ps os m { m with par := x } :=
  ⟨keeps_par h m x, .of_regs rfl, rfl, rfl⟩

theorem touches_raise (ev : Ev) (m : Pnm) (h : .tel ∈ ps := by simp) : Touches ps os m (raise ev m) := touches_tel m _ h

theorem touches_emit (m : Pnm) (es : List Emit) (h : .tel ∈ ps := by simp) : Touches ps os m (emit m es) :=
  touches_tel m _ h

theorem touches_complete (r : CmdRef) (a : Ans) (m : Pnm) (hh : .hif ∈ ps := by simp) (hp : .par ∈ ps := by simp) :
    Touches ps os m (complete r a m) := by
  unfold complete completeAt
  dsimp only
  split
  · exact (touches_hif m _ hh).trans (touches_par _ _ hp)
  · exact touches_hif m _ hh

end

/-! ## Frames sent (R83, R89, R433 to R441) -/

/-- What sending a frame reaches. -/
def sendParts : List Part := [.regs, .tel, .mac, .par]

theorem touches_enqueue {p : Nat} (hp : p < 16) (f : TxFrame) (m : Pnm) : Touches sendParts dropCnts m (enqueue p f m) := by
  have hcnt : cntReg p 29 ∈ dropCnts := List.mem_map.mpr ⟨p, List.mem_range.mpr hp, rfl⟩
  unfold enqueue
  split
  · exact touches_mac m _ (by decide)
  · exact .of_keeps (keeps_cnt (by decide) (by decide) p 29 m) (keepsRegs_cnt hcnt m)

theorem pairMode_of_single {p : Nat} (h : 9 < p) (m : Pnm) : pairMode m p = 0 := if_neg (by omega)

theorem touches_originate {p : Nat} (hp : p < 16) (f : TxFrame) (m : Pnm) :
    Touches sendParts dropCnts m (originate p f m) := by
  unfold originate
  dsimp only
  split
  next => exact touches_enqueue hp f m
  next hmode =>
    have hpair : p ≤ 9 := Nat.not_lt.mp fun h => hmode (pairMode_of_single h m)
    split
    · exact ((touches_mac m _ (by decide)).trans (touches_enqueue (by omega) _ _)).trans (touches_enqueue (by omega) _ _)
    · exact ((touches_mac m _ (by decide)).trans (touches_enqueue (by omega) _ _)).trans (touches_enqueue (by omega) _ _)

theorem touches_pairFrame {port : Nat} (hp : port < 16) (path : Bool) (typ frag : Nat) (more : Bool) (body : List Byte)
    (m : Pnm) : Touches sendParts dropCnts m (pairFrame path port typ frag more body m) := by
  unfold pairFrame
  dsimp only
  split
  · exact .refl _ _ _
  · exact ((touches_par m _ (by decide)).trans (touches_tel _ _ (by decide))).trans (touches_originate hp _ _)

theorem pathPorts_lt {m : Pnm} {path : Bool} {p : Nat} (h : p ∈ pathPorts m path) : p < 16 := by
  cases path with
  | false => simp_all [pathPorts]
  | true =>
    have := List.mem_range.mp (List.mem_filter.mp h).1
    omega

theorem touches_pairPart (path : Bool) (typ frag : Nat) (more : Bool) (body : List Byte) (m : Pnm) :
    Touches sendParts dropCnts m (pairPart path typ frag more body m) :=
  .foldl (fun _ hp k => touches_pairFrame (pathPorts_lt hp) path typ frag more body k) m

theorem touches_pairParts (path : Bool) (typ fuel frag : Nat) (body : List Byte) (m : Pnm) :
    Touches sendParts dropCnts m (pairParts path typ fuel frag body m) := by
  induction fuel generalizing frag body m with
  | zero => exact .refl _ _ _
  | succ fuel ih =>
    unfold pairParts
    split
    · exact touches_pairPart ..
    · exact (touches_pairPart ..).trans (ih ..)

theorem touches_pairSend (path : Bool) (typ : Nat) (body : List Byte) (m : Pnm) :
    Touches sendParts dropCnts m (pairSend path typ body m) := touches_pairParts ..

theorem touches_pairSendBoth (typ : Nat) (body : List Byte) (m : Pnm) :
    Touches sendParts dropCnts m (pairSendBoth typ body m) := by
  have hfirst : Touches sendParts dropCnts m
      (if pathUp m false || !pathUp m true then pairSend false typ body m else m) := by
    split
    · exact touches_pairSend ..
    · exact .refl _ _ _
  unfold pairSendBoth
  dsimp only
  split
  · exact hfirst.trans (touches_pairSend ..)
  · exact hfirst

/-! ## Publication (R282 to R289) -/

/-- What a publication reaches. -/
def pubParts : List Part := .out :: sendParts

/-- The registers that a publication may write. -/
def pubRegs : List Nat := Reg.OUT_FLAGS :: Reg.OUT_PUB_SENT :: dropCnts

theorem touches_putPub (i : Nat) (x : PubSt) (m : Pnm) : Touches pubParts pubRegs m (putPub i x m) :=
  touches_out m _ (by decide)

theorem touches_pubEnqueue (g : GooseTx) (mask : Nat) (m : Pnm) :
    Touches sendParts dropCnts m (pubEnqueue g mask m) := by
  refine .foldl (fun p hp k => touches_originate ?_ _ k) m
  have := List.mem_range.mp (List.mem_filter.mp hp).1
  omega

theorem Touches.of_send {m n : Pnm} (h : Touches sendParts dropCnts m n) : Touches pubParts pubRegs m n :=
  h.mono (List.subset_cons_self _ _) (List.subset_cons_of_subset _ (List.subset_cons_self _ _))

theorem touches_outFlag (i : Nat) (m : Pnm) : Touches pubParts pubRegs m (sb m Reg.OUT_FLAGS i) :=
  touches_wr m _ (by decide) List.mem_cons_self

/-- A message enters the queues of its ports and is counted. -/
theorem touches_pubSent (g : GooseTx) (mask i : Nat) (x : PubSt) (m : Pnm) :
    Touches pubParts pubRegs m (inc (pubEnqueue g mask (putPub i x m)) Reg.OUT_PUB_SENT) :=
  ((touches_putPub ..).trans (touches_pubEnqueue ..).of_send).trans
    (touches_wr _ _ (by decide) (List.mem_cons_of_mem _ List.mem_cons_self))

theorem touches_pubSend (i : Nat) (m : Pnm) : Touches pubParts pubRegs m (pubSend i m) := by
  unfold pubSend
  dsimp only
  split
  next =>
    exact ((touches_outFlag 2 m).trans (touches_putPub ..)).trans (touches_tel _ _ (by decide))
  next =>
    split
    next =>
      split
      · exact (touches_pubSent ..).trans (touches_pairSendBoth ..).of_send
      · exact touches_pubSent ..
    next => exact touches_putPub ..

theorem touches_stateChange (i at' : Nat) (m : Pnm) : Touches pubParts pubRegs m (stateChange i at' m) := by
  unfold stateChange
  split
  · exact (touches_putPub ..).trans (touches_pubSend ..)
  · exact .refl _ _ _

theorem touches_mergeChange (i at' : Nat) (m : Pnm) : Touches pubParts pubRegs m (mergeChange i at' m) := by
  unfold mergeChange
  split
  · exact touches_mac m _ (by decide)
  · exact (touches_stateChange ..).trans (touches_putPub ..)

theorem touches_putMember (i j writer : Nat) (x : Nat → Int × Nat) (q : Nat) (m : Pnm) :
    Touches pubParts pubRegs m (putMember i j writer x q m).1 := by
  unfold putMember
  dsimp only
  split
  · exact .refl _ _ _
  · split
    · exact (touches_outFlag 1 m).trans (touches_raise _ _ (by decide))
    · exact touches_putPub ..

theorem touches_progPublish (i at' : Nat) (items : List (Nat × Nat × TV)) (m : Pnm) :
    Touches pubParts pubRegs m (progPublish i at' items m) := by
  unfold progPublish
  dsimp only
  generalize hr : items.foldl _ (m, false) = r
  have hmembers : Touches pubParts pubRegs m r.1 :=
    hr ▸ List.foldlRecOn items _ (motive := fun (a : Pnm × Bool) => Touches pubParts pubRegs m a.1) (.refl _ _ _)
      fun a ha p _ => ha.trans (touches_putMember ..)
  split
  · exact hmembers.trans (touches_mergeChange ..)
  · exact hmembers

theorem touches_pubTakeover (at' : Nat) (m : Pnm) : Touches pubParts pubRegs m (pubTakeover at' m) :=
  .foldl (fun _ _ k => touches_stateChange _ at' k) m

/-! ## Timed outputs and pairs (R313, R316, R327, R332) -/

/-- What driving an output reaches. -/
def driveParts : List Part := [.regs, .tel, .sio]

theorem touches_sio_drive (m : Pnm) (x : Sio) : Touches driveParts [Reg.SIO_FLAGS] m { m with sio := x } :=
  touches_sio m x (by decide)

theorem touches_deferEvent (n i ch : Nat) (m : Pnm) : Touches driveParts [Reg.SIO_FLAGS] m (deferEvent n i ch m) := by
  unfold deferEvent
  split
  · exact (touches_wr m _ (by decide)).trans (touches_raise _ _ (by decide))
  · exact .refl _ _ _

theorem touches_toutDefer (t : Nat) (m : Pnm) : Touches driveParts [Reg.SIO_FLAGS] m (toutDefer t m) :=
  (touches_sio_drive m _).trans (touches_deferEvent ..)

theorem touches_pairDefer (p : Nat) (m : Pnm) : Touches driveParts [Reg.SIO_FLAGS] m (pairDefer p m) := by
  unfold pairDefer
  dsimp only
  split
  · exact .refl _ _ _
  · exact (touches_sio_drive m _).trans (touches_deferEvent ..)

theorem touches_applyTouts (ns frac : Nat) (m : Pnm) : Touches driveParts [Reg.SIO_FLAGS] m (applyTouts ns frac m) := by
  refine .foldl (fun t _ y => ?_) m
  dsimp only
  split
  · exact .refl _ _ _
  · refine Touches.trans ?_ ((touches_sio_drive _ _).trans (touches_tel _ _ (by decide)))
    split
    · exact touches_toutDefer t y
    · exact .refl _ _ _

theorem touches_applyPairs (m : Pnm) : Touches driveParts [Reg.SIO_FLAGS] m (applyPairs m) :=
  ((touches_sio_drive m _).trans (touches_tel _ _ (by decide))).trans (touches_sio_drive _ _)

theorem touches_sioApply (m : Pnm) : Touches driveParts [Reg.SIO_FLAGS] m (sioApply m) :=
  (touches_applyTouts ..).trans (touches_applyPairs _)

theorem touches_demEvents (old : List DemSt) (m : Pnm) : Touches driveParts [Reg.SIO_FLAGS] m (demEvents old m) := by
  refine .foldl (fun p _ x => ?_) m
  dsimp only
  split
  · exact .refl _ _ _
  · exact (touches_pairDefer p x).trans (touches_raise _ _ (by decide))

theorem touches_demands (both : Bool) (m : Pnm) : Touches driveParts [Reg.SIO_FLAGS] m (demands both m) := by
  unfold demands
  split
  · exact ((touches_sio_drive m _).trans (touches_demEvents ..)).trans (touches_applyPairs _)
  · exact .refl _ _ _

theorem touches_pairRelease (p : Nat) (v : TV) (m : Pnm) : Touches driveParts [Reg.SIO_FLAGS] m (pairRelease p v m) :=
  ((touches_sio_drive m _).trans (touches_sio_drive _ _)).trans (touches_demands false _)

theorem touches_toutRelease (t : Nat) (on : Bool) (ns frac : Nat) (m : Pnm) :
    Touches driveParts [Reg.SIO_FLAGS] m (toutRelease t on ns frac m) :=
  (touches_sio_drive m _).trans (touches_applyTouts ..)

/-! ## Trigger inputs (R413) -/

/-- What a trigger reaches. -/
def triggerParts : List Part := [.regs, .tel, .cap]

/-- The registers that a trigger may write. -/
def triggerRegs : List Nat := [Reg.CAP_FLAGS, Reg.CAP_TIN_UNUSED]

theorem touches_putCap (k : Nat) (x : Cap) (m : Pnm) : Touches triggerParts triggerRegs m (putCap k x m) :=
  touches_cap m _ (by decide)

theorem touches_capTrigger (k ts mask : Nat) (m : Pnm) : Touches triggerParts triggerRegs m (capTrigger k ts mask m).1 := by
  unfold capTrigger
  dsimp only
  split
  next => exact (touches_putCap ..).trans (touches_raise _ _ (by decide))
  next =>
    split
    next =>
      split
      · exact touches_putCap ..
      · split
        · exact .refl _ _ _
        · exact touches_putCap ..
    next =>
      split
      next =>
        split
        next => exact touches_putCap ..
        next =>
          split
          · exact touches_putCap ..
          · split
            · exact .refl _ _ _
            · exact touches_putCap ..
      next => exact .refl _ _ _

theorem touches_inputTrigger (i ts : Nat) (m : Pnm) : Touches triggerParts triggerRegs m (inputTrigger i ts m) := by
  unfold inputTrigger
  dsimp only
  split
  · exact (((touches_tel m _ (by decide)).trans (touches_cap _ _ (by decide))).trans
      (touches_wr _ _ (by decide) (by decide))).trans (touches_wr _ _ (by decide) (by decide))
  · exact ((touches_tel m _ (by decide)).trans (touches_cap _ _ (by decide))).trans
      (.foldl (fun _ _ _ => touches_capTrigger ..) _)

/-! ## Gates (R175 to R181, R197) -/

/-- What a gate's arming or its end reaches. -/
def gateParts : List Part := [.regs, .tel, .gte]

/-- The registers that the end of a gate may write. -/
def gateRegs : List Nat := [Reg.GTE_FIRED, Reg.GTE_FLAGS, Reg.GTE_MISSED]

theorem touches_putGate (i : Nat) (g : Gate) (m : Pnm) : Touches gateParts gateRegs m (putGate i g m) :=
  touches_gte m _ (by decide)

theorem touches_unmapEnded (i : Nat) (m : Pnm) : Touches gateParts gateRegs m (unmapEnded i m) := by
  unfold unmapEnded
  dsimp only
  split
  · exact touches_gte m _ (by decide)
  · exact .refl _ _ _

theorem touches_gateEnd (i st : Nat) (m : Pnm) : Touches gateParts gateRegs m (gateEnd i st m) := by
  have hfired : Touches gateParts gateRegs m (inc (putGate i { getGate m i with state := st } m) Reg.GTE_FIRED) :=
    (touches_putGate ..).trans (touches_wr _ _ (by decide) (by decide))
  have hmissed : Touches gateParts gateRegs m
      (sb (inc (putGate i { getGate m i with state := st } m) Reg.GTE_MISSED) Reg.GTE_FLAGS 2) :=
    ((touches_putGate ..).trans (touches_wr _ _ (by decide) (by decide))).trans (touches_wr _ _ (by decide) (by decide))
  have hconflict : Touches gateParts gateRegs m (sb (putGate i { getGate m i with state := st } m) Reg.GTE_FLAGS 1) :=
    (touches_putGate ..).trans (touches_wr _ _ (by decide) (by decide))
  exact ((Touches.ite hfired (.ite hmissed (.ite hconflict (touches_putGate ..)))).trans
    (touches_raise _ _ (by decide))).trans (touches_unmapEnded i _)

theorem touches_gateCancelAt (i : Nat) (byProg : Bool) (m : Pnm) :
    Touches gateParts gateRegs m (gateCancelAt i byProg m) := by
  unfold gateCancelAt
  dsimp only
  split
  · exact (touches_putGate ..).trans (touches_gateEnd ..)
  · exact .refl _ _ _

theorem touches_gateProgArm (n : Nat) (w : List Word) (m : Pnm) : Touches gateParts gateRegs m (gateProgArm n w m).1 := by
  unfold gateProgArm
  dsimp only
  split
  · exact .refl _ _ _
  · exact touches_putGate ..

/-! ## Releases -/

/-- What a release reaches lies within the parts and registers of a release. -/
theorem Touches.released {ps : List Part} {os : List Nat} {m n : Pnm} (h : Touches ps os m n)
    (hp : ps ⊆ releaseParts := by decide) (ho : os ⊆ releaseRegs := by decide) : Touches releaseParts releaseRegs m n :=
  h.mono hp ho

theorem touches_modFn (f : Nat) (g : FnState → FnState) (m : Pnm) : Touches [.tel, .hif, .cye] [] m (modFn f g m) :=
  touches_hif m _

theorem touches_ringPut (f r : Nat) (w : List Word) (m : Pnm) : Touches [.tel, .hif, .cye] [] m (ringPut f r w m) := by
  unfold ringPut
  dsimp only
  exact (touches_emit m _).trans (touches_modFn ..)

theorem touches_putOw (w : Nat) (x : OutWord) (m : Pnm) : Touches [.tel, .hif, .cye] [] m (putOw w x m) :=
  touches_cye m _ rfl rfl

/-- A release to a host output word (R360). -/
theorem touches_hostOut (w value q at' task : Nat) (m : Pnm) :
    Touches [.tel, .hif, .cye] [] m (hostOut w value q at' task m) := by
  unfold hostOut
  dsimp only
  split
  next =>
    split
    next =>
      split
      · exact (touches_putOw ..).trans (touches_modFn ..)
      · exact ((touches_putOw ..).trans (touches_ringPut ..)).trans (touches_modFn ..)
    next => exact touches_putOw ..
  next => exact touches_putOw ..

theorem touches_putTask (t : Nat) (x : TaskSt) (m : Pnm) : Touches releaseParts releaseRegs m (putTask t x m) :=
  touches_cye m _ rfl rfl (by decide)

theorem touches_gateRequest (t j n op : Nat) (v : Int) (m : Pnm) :
    Touches releaseParts releaseRegs m (gateRequest t j n op v m) := by
  unfold gateRequest
  dsimp only
  split
  next => exact .refl _ _ _
  next =>
    split
    next => exact (touches_putTask ..).trans (touches_gateProgArm ..).released
    next =>
      split
      next => exact touches_putTask ..
      next =>
        split
        next =>
          split
          · exact touches_putTask ..
          · exact (touches_putTask ..).trans (touches_putGate ..).released
        next => exact (touches_putTask ..).trans (touches_gateCancelAt ..).released

theorem touches_releaseOne (t at' : Nat) (safe : Bool) (m : Pnm) (x : Nat × List Word × TV) :
    Touches releaseParts releaseRegs m (releaseOne t at' safe m x) := by
  unfold releaseOne
  dsimp only
  split
  next => exact .ite (touches_toutRelease ..).released (.refl _ _ _)
  next =>
    split
    next => exact .ite (touches_pairRelease ..).released (.refl _ _ _)
    next =>
      split
      next => exact .ite (.refl _ _ _) (touches_gateRequest ..)
      next =>
        split
        next => exact .ite (touches_inputTrigger ..).released (.refl _ _ _)
        next =>
          split
          next => exact (touches_hostOut ..).released
          next => exact .ite (touches_cye m _ rfl rfl (by decide)) (.refl _ _ _)

theorem touches_releaseList (t at' : Nat) (safe : Bool) (xs : List (Nat × List Word × TV)) (m : Pnm) :
    Touches releaseParts releaseRegs m (releaseList t at' safe xs m) := by
  have heach : Touches releaseParts releaseRegs m (xs.foldl (releaseOne t at' safe) m) :=
    .foldl (fun x _ k => touches_releaseOne t at' safe k x) m
  unfold releaseList
  exact .ite (heach.trans (.foldl (fun _ _ _ => (touches_progPublish ..).released) _)) heach

/-- The first output instant after a takeover (R289, R332). -/
theorem touches_afterTakeover (at' : Nat) (m : Pnm) : Touches releaseParts releaseRegs m (afterTakeover at' m) := by
  have hdriven : Touches releaseParts releaseRegs m
      (if m.sio.takeover = 2 then sioApply { m with sio := { m.sio with takeover := 1 } } else m) :=
    .ite ((touches_sio m _ (by decide)).trans (touches_sioApply _).released) (.refl _ _ _)
  unfold afterTakeover
  exact .ite (hdriven.trans (touches_pubTakeover ..).released) hdriven

theorem touches_releaseDue (u : Nat) (m : Pnm) : Touches releaseParts releaseRegs m (releaseDue u m) :=
  (Touches.foldl (fun _ _ _ => touches_putTask ..) m).trans
    (.foldl (fun _ _ _ => (touches_releaseList ..).trans (touches_afterTakeover ..)) _)

/-! ## What precedes a latch (R208, R213) -/

/-- The registers that the releases of an instant, held configurations and host writes may write. -/
def latchRegs : List Nat := Reg.CYE_TBL_STAT :: releaseRegs

theorem touches_putWord (w : Nat) (x : HostWord) (m : Pnm) : Touches releaseParts latchRegs m (putWord w x m) :=
  touches_cye m _ rfl rfl (by decide)

theorem touches_applyCfgs (m : Pnm) : Touches releaseParts latchRegs m (applyCfgs m) := by
  have hheld : Touches releaseParts latchRegs m { m with cye := { m.cye with cfgPend := [] } } :=
    touches_cye m _ rfl rfl (by decide)
  unfold applyCfgs
  split
  · exact .refl _ _ _
  · exact (hheld.trans (.foldl (fun _ _ k => touches_putWord _ _ k) _)).trans
      (touches_wr _ _ (by decide) List.mem_cons_self)

theorem touches_applied (w : Nat) (x : HostWord) (r : CmdRef) (a : Ans) (m : Pnm) :
    Touches releaseParts latchRegs m (complete r a (putWord w x m)) :=
  (touches_putWord w x m).trans (touches_complete r a _ (by decide) (by decide))

theorem touches_lockDone (k : Nat) (m : Pnm) : Touches releaseParts latchRegs m (lockDone k m) := by
  unfold lockDone
  exact .ite (touches_out m _ (by decide)) (.refl _ _ _)

theorem touches_applyHost (h : HostPend) (at' : Nat) (m : Pnm) : Touches releaseParts latchRegs m (applyHost h at' m) := by
  unfold applyHost
  dsimp only
  split
  · exact (touches_applied ..).trans (touches_lockDone ..)
  · exact touches_applied ..

theorem touches_applyHosts (sel : HostPend → Bool) (at' : Nat) (m : Pnm) :
    Touches releaseParts latchRegs m (applyHosts sel at' m) := by
  have htaken : Touches releaseParts latchRegs m
      { m with cye := { m.cye with pend := m.cye.pend.filter fun h => !sel h } } := touches_cye m _ rfl rfl (by decide)
  exact htaken.trans (.foldl (fun h _ k => touches_applyHost h at' k) _)

theorem touches_beforeLatch (u : Nat) (m : Pnm) : Touches releaseParts latchRegs m (beforeLatch u m) :=
  (((touches_releaseDue u m).mono (List.Subset.refl _) (List.subset_cons_self _ _)).trans (touches_applyCfgs _)).trans
    (touches_applyHosts ..)

end Leapfrog
end Machine
end Sys2Proof
end

section
/-! PROOFS. Staging, arming and disarming an exchange (R258, R269, R272, R273, R275). -/

namespace Sys2Proof
namespace Machine
namespace Leapfrog

/-! ## PHASE and RESULT -/

theorem lfPhase_setPhase {p : Nat} (h : p < 8) (m : Pnm) : lfPhase (setPhase p m) = p :=
  (rf_wf_same m _ 2 0 p (by decide)).trans (Nat.mod_eq_of_lt h)

theorem rf_congr {m n : Pnm} {o : Nat} (h : rd n o = rd m o) (hi lo : Nat) : rf n o hi lo = rf m o hi lo := by
  rw [rf, h, rf]

theorem rd_lfEvent (result flag : Nat) (m : Pnm) (o : Nat) : rd (lfEvent result flag m) o = rd m o := rfl

/-- Event 0x5F after changes that raised nothing (R277). -/
theorem raised_lfEvent {m k : Pnm} (h : k.tel = m.tel) (result flag : Nat) :
    Raised { src := 6, code := 0x5F, cls := 2, items := [result, flag] } m (lfEvent result flag k) := ⟨k, h, rfl⟩

theorem rd_stat_lfRefuse (result index : Nat) (m : Pnm) :
    rd (lfRefuse result index m) Reg.CYE_LF_STAT = rd (wf m Reg.CYE_LF_STAT 15 8 result) Reg.CYE_LF_STAT :=
  rd_wr_ne _ _ _ (by decide)

theorem lfPhase_lfRefuse (result index : Nat) (m : Pnm) : lfPhase (lfRefuse result index m) = lfPhase m :=
  (rf_congr (rd_stat_lfRefuse result index m) 2 0).trans (rf_wf_apart _ _ _ _ _ _ _ (by decide))

theorem result_lfRefuse (result index : Nat) (m : Pnm) :
    rf (lfRefuse result index m) Reg.CYE_LF_STAT 15 8 = result % 256 :=
  (rf_congr (rd_stat_lfRefuse result index m) 15 8).trans (rf_wf_same _ _ _ _ _ (by decide))

theorem keeps_lfRefuse {ps : List Part} (hr : .regs ∈ ps) (ht : .tel ∈ ps) (result index : Nat) (m : Pnm) :
    Keeps ps m (lfRefuse result index m) := ((keeps_wr hr m _ _).trans (keeps_wr hr _ _ _)).trans (keeps_raise ht _ _)

theorem keepsRegs_lfRefuse {os : List Nat} (hs : Reg.CYE_LF_STAT ∈ os) (he : Reg.CYE_LF_ERR ∈ os) (result index : Nat)
    (m : Pnm) : KeepsRegs os m (lfRefuse result index m) :=
  ((keepsRegs_wf m _ _ _ hs).trans (keepsRegs_wr _ _ he)).trans (.of_regs rfl)

theorem keeps_setPhase {ps : List Part} (h : .regs ∈ ps) (p : Nat) (m : Pnm) : Keeps ps m (setPhase p m) := keeps_wr h m _ _

theorem keepsRegs_setPhase {os : List Nat} (h : Reg.CYE_LF_STAT ∈ os) (p : Nat) (m : Pnm) : KeepsRegs os m (setPhase p m) :=
  keepsRegs_wf m _ _ _ h

/-- What a refusal of the exchange reaches. -/
abbrev refusalParts : List Part := [.regs, .tel, .cye]

/-- The registers that a refusal of the exchange writes. -/
abbrev lfRefusalRegs : List Nat := [Reg.CYE_LF_STAT, Reg.CYE_LF_ERR]

section
variable {s : State}

/-- Command `c` ends in a refusal: RESULT is shown, event 0x5F is raised (R277), and `P` holds of the next state. -/
abbrev Refused (c : Instr) (s : State) (result : Nat) (P : Pnm → Prop) : Prop :=
  Does c s refusalParts lfRefusalRegs fun n =>
    rf n Reg.CYE_LF_STAT 15 8 = result % 256 ∧
    Raised { src := 6, code := 0x5F, cls := 2, items := [result, 0] } s.m n ∧ P n

theorem refused_of_lfRefuse {c : Instr} {f : Pnm → Pnm} {k : Pnm} {result index : Nat} {P : Pnm → Prop}
    (hc : exec c s = run f s) (hf : f s.m = lfRefuse result index k) (hk : Keeps refusalParts s.m k)
    (hr : KeepsRegs lfRefusalRegs s.m k) (ht : k.tel = s.m.tel) (hp : P (lfRefuse result index k)) :
    Refused c s result P :=
  does_run hc hf (hk.trans (keeps_lfRefuse (by simp) (by simp) _ _ _))
    (hr.trans (keepsRegs_lfRefuse (by simp) (by simp) _ _ _))
    ⟨result_lfRefuse _ _ _,
      raised_lfEvent (k := wr (wf k Reg.CYE_LF_STAT 15 8 result) Reg.CYE_LF_ERR (loW index)) ht result 0, hp⟩

/-- A refusal that leaves the exchange as it is. -/
theorem refused_in_place {c : Instr} {f : Pnm → Pnm} {result index : Nat} (hw : s.writable)
    (hc : exec c s = run (whenWr f) s) (hf : f s.m = lfRefuse result index s.m) :
    Refused c s result fun n => n.cye = s.m.cye :=
  refused_of_lfRefuse hc ((whenWr_of_writable f hw).trans hf) (.refl _ _) (.refl _ _) rfl rfl

/-! ## The end of a verification (R258) -/

theorem imageVerifyDone_stages (hl : s.live) {image : List Byte} {ref : CmdRef}
    (hload : s.m.cye.loading = some (image, ref)) (hph : lfPhase s.m = 2) {p : Prog} (hv : verifyImage s.m image = .ok p) :
    Does .imageVerifyDone s [.regs, .hif, .cye, .par] [Reg.CYE_LF_STAT] fun n =>
      lfPhase n = 3 ∧ rf n Reg.CYE_LF_STAT 15 8 = 1 ∧ n.cye = { s.m.cye with loading := none, staged := some p } := by
  have hdone : imageVerifyDone s.m = complete ref (ansR 0 1 0) (wf (setPhase 3
      { s.m with cye := { s.m.cye with loading := none, staged := some p } }) Reg.CYE_LF_STAT 15 8 1) := by
    simp only [imageVerifyDone, hload, hph, hv, ne_eq, not_true_eq_false, if_false]
  refine does_al _ hl rfl hdone
    ((((keeps_cye (by simp) s.m _).trans (keeps_setPhase (by simp) _ _)).trans (keeps_wr (by simp) _ _ _)).trans
      (touches_complete (os := []) _ _ _).parts)
    ((((KeepsRegs.of_regs rfl).trans (keepsRegs_setPhase (by simp) _ _)).trans (keepsRegs_wf _ _ _ _ (by simp))).trans
      (.of_regs (complete_regs _ _ _))) ⟨?phase, ?result, complete_cye _ _ _⟩
  case phase =>
    exact (rf_congr (rd_complete _ _ _ _) 2 0).trans
      ((rf_wf_apart _ _ _ _ _ _ _ (by decide)).trans (lfPhase_setPhase (by decide) _))
  case result => exact (rf_congr (rd_complete _ _ _ _) 15 8).trans (rf_wf_same _ _ _ _ _ (by decide))

/-- Step 6 of the checks names the rule that failed (R258). -/
def ruleNamed (c : Option (Nat × Nat)) (m : Pnm) : Pnm :=
  match c with
  | some x => cyeErr x.1 x.2 m
  | none => m

theorem ruleNamed_frame (c : Option (Nat × Nat)) (m : Pnm) :
    Keeps [.regs] m (ruleNamed c m) ∧ KeepsRegs [Reg.CYE_FLAGS, Reg.CYE_CFG_ERR] m (ruleNamed c m) := by
  cases c with
  | none => exact ⟨.refl _ _, .refl _ _⟩
  | some x =>
    exact ⟨((keeps_wr (by simp) m _ _).trans (keeps_wr (by simp) _ _ _)).trans (keeps_wr (by simp) _ _ _),
      ((keepsRegs_sb m _ (by simp)).trans (keepsRegs_wf _ _ _ _ (by simp))).trans (keepsRegs_wf _ _ _ _ (by simp))⟩

theorem imageVerifyDone_rejects (hl : s.live) {image : List Byte} {ref : CmdRef}
    (hload : s.m.cye.loading = some (image, ref)) (hph : lfPhase s.m = 2) {e : ImgBad} (hv : verifyImage s.m image = .error e) :
    Does .imageVerifyDone s [.regs, .tel, .hif, .cye, .par]
      [Reg.CYE_LF_STAT, Reg.CYE_LF_ERR, Reg.CYE_FLAGS, Reg.CYE_CFG_ERR] fun n =>
      lfPhase n = 0 ∧ rf n Reg.CYE_LF_STAT 15 8 = e.result % 256 ∧ n.cye = { s.m.cye with loading := none } := by
  have hdone : imageVerifyDone s.m = complete ref (ansR 0x1E e.result 0) (lfRefuse e.result e.index
      (setPhase 0 (ruleNamed e.cye { s.m with cye := { s.m.cye with loading := none } }))) := by
    simp only [imageVerifyDone, hload, hph, hv, ne_eq, not_true_eq_false, if_false]
    rfl
  obtain ⟨hparts, hregs⟩ := ruleNamed_frame e.cye { s.m with cye := { s.m.cye with loading := none } }
  refine does_al _ hl rfl hdone
    (((((keeps_cye (by simp) s.m _).trans (hparts.mono (by simp))).trans (keeps_setPhase (by simp) _ _)).trans
      (keeps_lfRefuse (by simp) (by simp) _ _ _)).trans (touches_complete (os := []) _ _ _).parts)
    (((((KeepsRegs.of_regs rfl).trans (hregs.mono (by simp))).trans (keepsRegs_setPhase (by simp) _ _)).trans
      (keepsRegs_lfRefuse (by simp) (by simp) _ _ _)).trans (.of_regs (complete_regs _ _ _)))
    ⟨?phase, ?result, (complete_cye _ _ _).trans (hparts .cye (by simp))⟩
  case phase =>
    exact (rf_congr (rd_complete _ _ _ _) 2 0).trans
      ((lfPhase_lfRefuse _ _ _).trans (lfPhase_setPhase (by decide) _))
  case result => exact (rf_congr (rd_complete _ _ _ _) 15 8).trans (result_lfRefuse _ _ _)

theorem nothing_imageVerifyDone (h : s.m.cye.loading = none) : DoesNothing .imageVerifyDone s :=
  nothing_al _ rfl (by simp only [imageVerifyDone, h])

/-! ## ARM and REVERT (R269, R273) -/

/-- The cycle engine with an exchange to `p` in hand. -/
def exchangeTo (p : Prog) (map : List MapEnt) (rev : Bool) (asked : Option Nat) (m : Pnm) : Cye :=
  { m.cye with
    exch := some { tb := switchTick m p (lfReq m), map := map, askedAt := asked }, staged := some p,
    retained := if rev then none else m.cye.retained }

/-- The exchange in hand, with its Tb shown and no postponement counted. -/
def exchangeShown (p : Prog) (map : List MapEnt) (rev : Bool) (asked : Option Nat) (m : Pnm) : Pnm :=
  wf (showTb (switchTick m p (lfReq m)) { m with cye := exchangeTo p map rev asked m }) Reg.CYE_LF_STAT 5 4 0

theorem armTo_of_bad {m : Pnm} {p : Prog} {base : Nat} {map : List MapEnt} {e : ImgBad} (h : exchBad m p base map = some e)
    (rev : Bool) : armTo p base map rev m = lfRefuse e.result e.index m := by
  simp only [armTo, h]

theorem armTo_alone {m : Pnm} {p : Prog} {base : Nat} {map : List MapEnt} (h : exchBad m p base map = none)
    (hm : mirroring m = false) (rev : Bool) :
    armTo p base map rev m = setPhase 4 (exchangeShown p map rev none m) := by
  simp only [armTo, h, hm, Bool.false_eq_true, if_false, exchangeShown, exchangeTo]

theorem armTo_proposes {m : Pnm} {p : Prog} {base : Nat} {map : List MapEnt} (h : exchBad m p base map = none)
    (hm : mirroring m = true) (rev : Bool) :
    armTo p base map rev m = pairSend false 7 (proposeBody p (switchTick m p (lfReq m)))
      (setPhase 3 (exchangeShown p map rev (some m.tim.edge) m)) := by
  simp only [armTo, h, hm, if_true, exchangeShown, exchangeTo]

theorem keeps_showTb {ps : List Part} (h : .regs ∈ ps) (tb : Nat) (m : Pnm) : Keeps ps m (showTb tb m) :=
  (keeps_wr h m _ _).trans (keeps_wr h _ _ _)

theorem keepsRegs_showTb {os : List Nat} (hlo : Reg.CYE_LF_TB_LO ∈ os) (hhi : Reg.CYE_LF_TB_HI ∈ os) (tb : Nat) (m : Pnm) :
    KeepsRegs os m (showTb tb m) := (keepsRegs_wr m _ hlo).trans (keepsRegs_wr _ _ hhi)

theorem tel_showTb (tb : Nat) (m : Pnm) : (showTb tb m).tel = m.tel := (wr_tel ..).trans (wr_tel ..)

theorem rd_showTb_lo (tb : Nat) (m : Pnm) : rd (showTb tb m) Reg.CYE_LF_TB_LO = loW (uNs (gridInstant tb)) :=
  (rd_wr_ne _ _ _ (by decide)).trans (rd_wr_same _ _ _)

theorem rd_showTb_hi (tb : Nat) (m : Pnm) : rd (showTb tb m) Reg.CYE_LF_TB_HI = hiW (uNs (gridInstant tb)) :=
  rd_wr_same _ _ _

theorem rd_setPhase_ne {o : Nat} (h : o ≠ Reg.CYE_LF_STAT) (p : Nat) (m : Pnm) : rd (setPhase p m) o = rd m o :=
  rd_wr_ne _ _ _ h

section
variable (p : Prog) (map : List MapEnt) (rev : Bool) (asked : Option Nat) (m : Pnm)

theorem keeps_exchangeShown {ps : List Part} (hr : .regs ∈ ps) (hc : .cye ∈ ps) :
    Keeps ps m (exchangeShown p map rev asked m) :=
  ((keeps_cye hc m _).trans (keeps_showTb hr _ _)).trans (keeps_wr hr _ _ _)

theorem keepsRegs_exchangeShown {os : List Nat} (hs : Reg.CYE_LF_STAT ∈ os) (hlo : Reg.CYE_LF_TB_LO ∈ os)
    (hhi : Reg.CYE_LF_TB_HI ∈ os) : KeepsRegs os m (exchangeShown p map rev asked m) :=
  ((KeepsRegs.of_regs rfl).trans (keepsRegs_showTb hlo hhi _ _)).trans (keepsRegs_wf _ _ _ _ hs)

theorem rd_exchangeShown_lo : rd (exchangeShown p map rev asked m) Reg.CYE_LF_TB_LO =
    loW (uNs (gridInstant (switchTick m p (lfReq m)))) := (rd_wr_ne _ _ _ (by decide)).trans (rd_showTb_lo _ _)

theorem rd_exchangeShown_hi : rd (exchangeShown p map rev asked m) Reg.CYE_LF_TB_HI =
    hiW (uNs (gridInstant (switchTick m p (lfReq m)))) := (rd_wr_ne _ _ _ (by decide)).trans (rd_showTb_hi _ _)

end

/-- Without a peer that mirrors, command `c` shows Tb and arms the exchange (R269). -/
abbrev ArmedAlone (c : Instr) (s : State) (p : Prog) (map : List MapEnt) (rev : Bool) : Prop :=
  Does c s [.regs, .cye] [Reg.CYE_LF_STAT, Reg.CYE_LF_TB_LO, Reg.CYE_LF_TB_HI] fun n =>
    lfPhase n = 4 ∧ n.cye = exchangeTo p map rev none s.m ∧
    rd n Reg.CYE_LF_TB_LO = loW (uNs (gridInstant (switchTick s.m p (lfReq s.m)))) ∧
    rd n Reg.CYE_LF_TB_HI = hiW (uNs (gridInstant (switchTick s.m p (lfReq s.m))))

/-- With a peer that mirrors, command `c` proposes the exchange to it, and it stays staged (R275). -/
abbrev ArmProposed (c : Instr) (s : State) (p : Prog) (map : List MapEnt) (rev : Bool) : Prop :=
  Does c s [.regs, .tel, .mac, .cye, .par] ([Reg.CYE_LF_STAT, Reg.CYE_LF_TB_LO, Reg.CYE_LF_TB_HI] ++ dropCnts) fun n =>
    lfPhase n = 3 ∧ n.cye = exchangeTo p map rev (some s.m.tim.edge) s.m

section
variable {c : Instr} {f : Pnm → Pnm} {p : Prog} {base : Nat} {map : List MapEnt} {rev : Bool}

theorem armedAlone_of_armTo (hw : s.writable) (hc : exec c s = run (whenWr f) s) (hf : f s.m = armTo p base map rev s.m)
    (hb : exchBad s.m p base map = none) (hm : mirroring s.m = false) : ArmedAlone c s p map rev :=
  does_wr f hw hc (hf.trans (armTo_alone hb hm rev))
    ((keeps_exchangeShown _ _ _ _ _ (by simp) (by simp)).trans (keeps_setPhase (by simp) _ _))
    ((keepsRegs_exchangeShown _ _ _ _ _ (by simp) (by simp) (by simp)).trans (keepsRegs_setPhase (by simp) _ _))
    ⟨lfPhase_setPhase (by decide) _, rfl, (rd_setPhase_ne (by decide) _ _).trans (rd_exchangeShown_lo _ _ _ _ _),
      (rd_setPhase_ne (by decide) _ _).trans (rd_exchangeShown_hi _ _ _ _ _)⟩

theorem armProposed_of_armTo (hw : s.writable) (hc : exec c s = run (whenWr f) s) (hf : f s.m = armTo p base map rev s.m)
    (hb : exchBad s.m p base map = none) (hm : mirroring s.m = true) : ArmProposed c s p map rev := by
  have hsent := touches_pairSend false 7 (proposeBody p (switchTick s.m p (lfReq s.m)))
    (setPhase 3 (exchangeShown p map rev (some s.m.tim.edge) s.m))
  refine does_wr f hw hc (hf.trans (armTo_proposes hb hm rev))
    (((keeps_exchangeShown _ _ _ _ _ (by simp) (by simp)).trans (keeps_setPhase (by simp) _ _)).trans
      (hsent.parts.mono (by decide)))
    (((keepsRegs_exchangeShown _ _ _ _ _ (by simp) (by simp) (by simp)).trans (keepsRegs_setPhase (by simp) _ _)).trans
      (hsent.regs.mono (List.subset_append_right _ _)))
    ⟨(rf_congr (hsent.regs _ (by decide)) 2 0).trans (lfPhase_setPhase (by decide) _), hsent.parts .cye (by decide)⟩

end

/-- A command that arms an exchange is refused where a check fails, and else arms it or proposes it. -/
theorem does_armTo {c : Instr} {f : Pnm → Pnm} {p : Prog} {base : Nat} {map : List MapEnt} {rev : Bool} (hw : s.writable)
    (hc : exec c s = run (whenWr f) s) (hf : f s.m = armTo p base map rev s.m) :
    (∀ e, exchBad s.m p base map = some e → Refused c s e.result fun n => n.cye = s.m.cye) ∧
    (exchBad s.m p base map = none →
      (mirroring s.m = false → ArmedAlone c s p map rev) ∧ (mirroring s.m = true → ArmProposed c s p map rev)) :=
  ⟨fun _ he => refused_in_place hw hc (hf.trans (armTo_of_bad he rev)),
    fun hb => ⟨armedAlone_of_armTo hw hc hf hb, armProposed_of_armTo hw hc hf hb⟩⟩

/-- An exchange is armed, in progress or proposed. -/
abbrev exchangeBusy (m : Pnm) : Prop := lfPhase m = 4 ∨ lfPhase m = 5 ∨ m.cye.exch.isSome = true

section
variable {m : Pnm}

theorem lfArm_of_busy (h : exchangeBusy m) : lfArm m = lfRefuse 15 0 m := if_pos h

theorem lfRevert_of_busy (h : exchangeBusy m) : lfRevert m = lfRefuse 15 0 m := if_pos h

theorem lfArm_of_none (h : ¬ exchangeBusy m) (hs : m.cye.staged = none) : lfArm m = lfRefuse 18 0 m :=
  (if_neg h).trans (by simp only [hs])

theorem lfRevert_of_none (h : ¬ exchangeBusy m) (hs : m.cye.retained = none) : lfRevert m = lfRefuse 18 0 m :=
  (if_neg h).trans (by simp only [hs])

theorem lfArm_of_staged (h : ¬ exchangeBusy m) {p : Prog} (hs : m.cye.staged = some p) :
    lfArm m = armTo p p.baseId p.map false m := (if_neg h).trans (by simp only [hs])

theorem lfRevert_of_retained (h : ¬ exchangeBusy m) {p : Prog} (hs : m.cye.retained = some p) :
    lfRevert m = armTo p (cyeProg m).progId (inverseMap m.cye.lastMap) true m := (if_neg h).trans (by simp only [hs])

end

/-! ## ABORT, DISCARD and the peer's silence (R272, R275) -/

theorem lfAbort_ends (hw : s.writable) {x : Exch} (hx : s.m.cye.exch = some x)
    (ht : nowU s.m + 2000 * unitNs < gridInstant x.tb) (hph : lfPhase s.m = 3 ∨ lfPhase s.m = 4) :
    Refused .lfAbort s 15 fun n => lfPhase n = 3 ∧ n.cye = { s.m.cye with exch := none } := by
  have habort : lfAbort s.m = lfRefuse 15 0 (setPhase 3 { s.m with cye := { s.m.cye with exch := none } }) := by
    simp only [lfAbort, hx, if_pos (And.intro ht hph)]
  exact refused_of_lfRefuse rfl ((whenWr_of_writable _ hw).trans habort)
    ((keeps_cye (by simp) s.m _).trans (keeps_setPhase (by simp) _ _))
    ((KeepsRegs.of_regs rfl).trans (keepsRegs_setPhase (by simp) _ _)) rfl
    ⟨(lfPhase_lfRefuse _ _ _).trans (lfPhase_setPhase (by decide) _), rfl⟩

theorem nothing_lfAbort (h : s.m.cye.exch = none) : DoesNothing .lfAbort s :=
  nothing_wr _ rfl (by simp only [lfAbort, h])

theorem lfDiscard_clears (hw : s.writable) (hph : lfPhase s.m = 3) :
    Does .lfDiscard s [.regs, .cye] [Reg.CYE_LF_STAT] fun n =>
      lfPhase n = 0 ∧ n.cye = { s.m.cye with staged := none, retained := none, exch := none } :=
  does_wr _ hw rfl (if_pos hph) ((keeps_cye (by simp) s.m _).trans (keeps_setPhase (by simp) _ _))
    ((KeepsRegs.of_regs rfl).trans (keepsRegs_setPhase (by simp) _ _)) ⟨lfPhase_setPhase (by decide) _, rfl⟩

theorem nothing_lfDiscard (hph : lfPhase s.m ≠ 3) : DoesNothing .lfDiscard s := nothing_wr _ rfl (if_neg hph)

theorem lfPeerTimeout_ends (hl : s.live) {x : Exch} {asked : Nat} (hx : s.m.cye.exch = some x) (ha : x.askedAt = some asked)
    (ht : asked + 100 * edgesMs ≤ s.m.tim.edge) :
    Refused .lfPeerTimeout s 17 fun n => n.cye = { s.m.cye with exch := none } := by
  have htimeout : lfPeerTimeout s.m = lfRefuse 17 0 { s.m with cye := { s.m.cye with exch := none } } := by
    simp only [lfPeerTimeout, hx, ha, if_pos ht]
  exact refused_of_lfRefuse rfl ((whenAlive_of_live _ hl).trans htimeout) (keeps_cye (by simp) s.m _) (.of_regs rfl) rfl rfl

theorem nothing_lfPeerTimeout {x : Exch} {asked : Nat} (hx : s.m.cye.exch = some x) (ha : x.askedAt = some asked)
    (ht : s.m.tim.edge < asked + 100 * edgesMs) : DoesNothing .lfPeerTimeout s :=
  nothing_al _ rfl (by simp only [lfPeerTimeout, hx, ha, if_neg (Nat.not_le.mpr ht)])

end
end Leapfrog

open Leapfrog in
/-- Settles O29: it holds. Every refusal is one operation, and ARM and REVERT arm by another, which differ in the program
and its map alone; a verification, ABORT, DISCARD and the peer's silence have one branch per clause. -/
theorem imagesAreStagedAndArmed : Obligations.ImagesAreStagedAndArmed := by
  refine fun s => ⟨fun image ref hl hload hph => ?verified, nothing_imageVerifyDone, fun hw => ?written, nothing_lfAbort,
    nothing_lfDiscard, fun x asked hl hx ha => ⟨lfPeerTimeout_ends hl hx ha, nothing_lfPeerTimeout hx ha⟩⟩
  case verified =>
    exact ⟨fun p => imageVerifyDone_stages hl hload hph, fun e => imageVerifyDone_rejects hl hload hph⟩
  case written =>
    exact ⟨fun hb => ⟨refused_in_place hw rfl (lfArm_of_busy hb), refused_in_place hw rfl (lfRevert_of_busy hb)⟩,
      fun hb hs => refused_in_place hw rfl (lfArm_of_none hb hs),
      fun hb hs => refused_in_place hw rfl (lfRevert_of_none hb hs),
      fun p hb hs => does_armTo hw rfl (lfArm_of_staged hb hs),
      fun p hb hs => does_armTo hw rfl (lfRevert_of_retained hb hs), fun x => lfAbort_ends hw, lfDiscard_clears hw⟩

end Machine
end Sys2Proof
end

section
/-! PROOFS. The switch: postponement, the instant Tb and carry-over (R266, R270, R271). -/

namespace Sys2Proof
namespace Machine
namespace Leapfrog

section
variable {s : State}

/-! ## Postponement (R271) -/

/-- The postponements in a row, the present one among them. -/
abbrev postponements (m : Pnm) : Nat := rf m Reg.CYE_LF_STAT 5 4 + 1

/-- The exchange moves on to another instant, and the postponement is counted. -/
def exchangeMoved (x : Exch) (tb : Nat) (m : Pnm) : Pnm :=
  showTb tb { wf m Reg.CYE_LF_STAT 5 4 (postponements m) with
    cye := { m.cye with exch := some { x with tb := tb } } }

theorem tel_exchangeMoved (x : Exch) (tb : Nat) (m : Pnm) : (exchangeMoved x tb m).tel = m.tel :=
  (tel_showTb _ _).trans (wf_tel m Reg.CYE_LF_STAT 5 4 (postponements m))

theorem postpone_moves {x : Exch} {new : Prog} {m : Pnm} (hs : m.cye.staged = some new) (hk : postponements m < 3) :
    postpone x m = lfEvent 1 1 (exchangeMoved x (x.tb + switchStep m new) m) := by
  have h : postpone x m =
      lfEvent 1 1 (exchangeMoved x (x.tb + switchStep m (m.cye.staged.getD Prog.empty)) m) := if_neg (Nat.not_le.mpr hk)
  rw [h, hs, Option.getD_some]

/-- The exchange that is given up, before its refusal. -/
def exchangeAbandoned (m : Pnm) : Pnm :=
  setPhase 3 { wf m Reg.CYE_LF_STAT 5 4 (postponements m) with cye := { m.cye with exch := none } }

theorem postpone_abandons {x : Exch} {m : Pnm} (hk : 3 ≤ postponements m) :
    postpone x m = lfRefuse 16 0 (exchangeAbandoned m) := if_pos hk

/-- LF_PRE_SWITCH_CHECK within 2 µs of Tb and LF_SWITCH at Tb postpone the exchange while an old run is in progress. -/
theorem exec_postpones (hl : s.live) {c : Instr} {x : Exch} {new : Prog} (hs : s.m.cye.staged = some new)
    (ho : oldRun s.m = true)
    (hc : (c = .lfPreSwitchCheck ∧ switchNear s.m 2000 = some x) ∨ (c = .lfSwitch ∧ switchNear s.m 0 = some x)) :
    ∃ f, exec c s = run f s ∧ f s.m = postpone x s.m := by
  rcases hc with ⟨rfl, hx⟩ | ⟨rfl, hx⟩
  · exact ⟨whenAlive preSwitchCheck, rfl,
      (whenAlive_of_live _ hl).trans (by simp only [preSwitchCheck, hx, ho, if_true])⟩
  · exact ⟨whenAlive lfSwitch, rfl, (whenAlive_of_live _ hl).trans (by simp only [lfSwitch, hx, hs, ho, if_true])⟩

section
variable {c : Instr} {f : Pnm → Pnm} {x : Exch}

theorem does_postpone (hc : exec c s = run f s) (hf : f s.m = postpone x s.m) {new : Prog}
    (hs : s.m.cye.staged = some new) (hk : postponements s.m < 3) :
    Does c s [.regs, .tel, .cye] [Reg.CYE_LF_STAT, Reg.CYE_LF_TB_LO, Reg.CYE_LF_TB_HI] fun n =>
      n.cye = { s.m.cye with exch := some { x with tb := x.tb + switchStep s.m new } } ∧
      rf n Reg.CYE_LF_STAT 5 4 = postponements s.m ∧
      rd n Reg.CYE_LF_TB_LO = loW (uNs (gridInstant (x.tb + switchStep s.m new))) ∧
      Raised { src := 6, code := 0x5F, cls := 2, items := [1, 1] } s.m n := by
  refine does_run hc (hf.trans (postpone_moves hs hk))
    ((((keeps_wr (by simp) s.m _ _).trans (keeps_cye (by simp) _ _)).trans (keeps_showTb (by simp) _ _)).trans
      (keeps_raise (by simp) _ _))
    ((((keepsRegs_wf s.m _ _ _ (by simp)).trans (.of_regs rfl)).trans (keepsRegs_showTb (by simp) (by simp) _ _)).trans
      (.of_regs rfl))
    ⟨rfl, ?count, (rd_lfEvent ..).trans (rd_showTb_lo _ _), raised_lfEvent (tel_exchangeMoved _ _ _) 1 1⟩
  case count =>
    have hstat : rd (exchangeMoved x (x.tb + switchStep s.m new) s.m) Reg.CYE_LF_STAT =
        rd (wf s.m Reg.CYE_LF_STAT 5 4 (postponements s.m)) Reg.CYE_LF_STAT :=
      ((rd_wr_ne _ _ _ (by decide)).trans (rd_wr_ne _ _ _ (by decide))).trans (rd_congr rfl _)
    exact (rf_congr ((rd_lfEvent ..).trans hstat) 5 4).trans
      ((rf_wf_same _ _ _ _ _ (by decide)).trans (Nat.mod_eq_of_lt (Nat.lt_trans hk (by decide))))

theorem does_abandon (hc : exec c s = run f s) (hf : f s.m = postpone x s.m) (hk : 3 ≤ postponements s.m) :
    Does c s refusalParts lfRefusalRegs fun n =>
      n.cye = { s.m.cye with exch := none } ∧ lfPhase n = 3 ∧ rf n Reg.CYE_LF_STAT 15 8 = 16 ∧
      Raised { src := 6, code := 0x5F, cls := 2, items := [16, 0] } s.m n := by
  obtain ⟨n, hn, hparts, hregs, hresult, hraised, hcye, hphase⟩ :=
    refused_of_lfRefuse (P := fun n => n.cye = { s.m.cye with exch := none } ∧ lfPhase n = 3) hc
      (hf.trans (postpone_abandons hk))
      (((keeps_wr (by simp) s.m _ _).trans (keeps_cye (by simp) _ _)).trans (keeps_setPhase (by simp) _ _))
      (((keepsRegs_wf s.m _ _ _ (by simp)).trans (.of_regs rfl)).trans (keepsRegs_setPhase (by simp) _ _)) rfl
      ⟨rfl, (lfPhase_lfRefuse _ _ _).trans (lfPhase_setPhase (by decide) _)⟩
  exact ⟨n, hn, hparts, hregs, hcye, hphase, hresult, hraised⟩

end

theorem nothing_lfPreSwitchCheck (ho : oldRun s.m = false) : DoesNothing .lfPreSwitchCheck s := by
  refine nothing_al _ rfl ?_
  unfold preSwitchCheck
  split
  · exact if_neg (by simp [ho])
  · rfl

theorem nothing_lfSwitch (h : switchNear s.m 0 = none) : DoesNothing .lfSwitch s :=
  nothing_al _ rfl (by simp only [lfSwitch, h])

/-! ## Tasks of a new program (R205, R208, R250) -/

/-- From `m` to `n` tasks may have become FAULTED, and the busy times of the cores were brought up to date; no task's next
period start moved. -/
structure Faults (m n : Pnm) : Prop where
  parts : Keeps [.regs, .ladder, .tel, .cye] m n
  regs : KeepsRegs [Reg.CYE_FLAGS] m n
  cye : n.cye = { m.cye with tasks := n.cye.tasks, cores := n.cye.cores, sigs := n.cye.sigs }
  next : ∀ t, (getTask n t).next = (getTask m t).next

section
variable {m n k : Pnm}

theorem Faults.refl (m : Pnm) : Faults m m := ⟨.refl _ _, .refl _ _, rfl, fun _ => rfl⟩

theorem Faults.trans (h : Faults m n) (h' : Faults n k) : Faults m k where
  parts := h.parts.trans h'.parts
  regs := h.regs.trans h'.regs
  cye := by rw [h'.cye, h.cye]
  next t := (h'.next t).trans (h.next t)

theorem Faults.ite {c : Prop} [Decidable c] (ht : Faults m n) (he : Faults m k) : Faults m (if c then n else k) := by
  split
  · exact ht
  · exact he

theorem Faults.foldl {α : Type} {f : Pnm → α → Pnm} (h : ∀ m a, Faults m (f m a)) (l : List α) (m : Pnm) :
    Faults m (l.foldl f m) :=
  List.foldlRecOn l f (motive := Faults m) (.refl m) fun k hk a _ => hk.trans (h k a)

/-- What leaves the cycle engine alone faults no task. -/
theorem Faults.of_cye (hp : Keeps [.regs, .ladder, .tel, .cye] m n) (hr : KeepsRegs [Reg.CYE_FLAGS] m n)
    (hc : n.cye = m.cye) : Faults m n :=
  ⟨hp, hr, by rw [hc], fun t => by rw [getTask, hc, getTask]⟩

theorem faults_tel (m : Pnm) (t : Tel) : Faults m { m with tel := t } :=
  .of_cye (keeps_tel_of_mem (by simp) m t) (.of_regs rfl) rfl

theorem faults_raise (ev : Ev) (m : Pnm) : Faults m (raise ev m) := faults_tel m _

theorem faults_nodeCause (n reason st : Nat) (m : Pnm) : Faults m (nodeCause n reason st m) := faults_tel m _

theorem faults_nodeUse (n : Nat) (used : Bool) (m : Pnm) : Faults m (nodeUse n used m) := faults_tel m _

theorem faults_noteCore (c : Nat) (m : Pnm) : Faults m (noteCore c m) :=
  ⟨keeps_cye (by simp) m _, .of_regs rfl, rfl, fun _ => rfl⟩

/-- A change of a task that does not move its next period start. -/
theorem faults_putTask (t : Nat) (x : TaskSt) (m : Pnm) (h : x.next = (getTask m t).next) : Faults m (putTask t x m) := by
  refine ⟨keeps_cye (by simp) m _, .of_regs rfl, rfl, fun j => ?_⟩
  by_cases e : j = t
  · subst e
    exact (congrArg TaskSt.next (NMap.get_set_same _ _ _ _)).trans h
  · exact congrArg TaskSt.next (NMap.get_set_ne _ _ _ _ _ e)

theorem faults_sigs (m : Pnm) (x : NMap (Option TV)) : Faults m { m with cye := { m.cye with sigs := x } } :=
  ⟨keeps_cye (by simp) m _, .of_regs rfl, rfl, fun _ => rfl⟩

theorem faults_taskFault (t at' : Nat) (m : Pnm) : Faults m (taskFault t at' m) := by
  have hclear : ∀ k : Pnm, Faults k (ladderClear 5 t k) := fun k =>
    .of_cye (keeps_ladderClear (by simp) (by simp) 5 t k) (.of_regs (ladderClear_regs ..)) (ladderClear_cye ..)
  have hflag : ∀ k : Pnm, Faults k (sb k Reg.CYE_FLAGS 3) := fun k =>
    .of_cye (keeps_wr (by simp) k _ _) (keepsRegs_sb k 3 (by simp)) rfl
  have hput : Faults m (putTask t
      { getTask m t with
        state := 3, halve := false, run := none, returnRuns := 0,
        rel := (getTask m t).rel ++ [{ at' := at', safe := true, vals := [] }] } m) := faults_putTask t _ m rfl
  unfold taskFault
  exact .ite (.refl m) ((((((hput.trans (faults_noteCore _ _)).trans (faults_sigs _ _)).trans (hflag _)).trans
    (faults_raise _ _)).trans (faults_nodeCause ..)).trans (hclear _))

theorem faults_faultFailed (m : Pnm) : Faults m (faultFailed m) :=
  .foldl (fun x _ => .ite (faults_taskFault ..) (.refl x)) _ m

theorem faults_taskNodes (old new : List Nat) (m : Pnm) : Faults m (taskNodes old new m) :=
  ((Faults.foldl (fun _ _ => faults_nodeUse ..) _ m).trans (.foldl (fun _ _ => faults_nodeUse ..) _ _)).trans
    (.foldl (fun _ _ => faults_nodeCause ..) _ _)

end

/-- A task that no later step of the list starts stays as it was. -/
theorem get_foldl_taskAt_of_not_mem {p : Prog} {g t : Nat} {l : List Nat} (h : t ∉ l) (a : NMap TaskSt) :
    NMap.get TaskSt.init (l.foldl (fun a t => NMap.set TaskSt.init a t (taskAt p g t)) a) t = NMap.get TaskSt.init a t := by
  induction l generalizing a with
  | nil => rfl
  | cons j l ih =>
    obtain ⟨hj, hl⟩ := not_or.mp (mt List.mem_cons.mpr h)
    exact (ih hl _).trans (NMap.get_set_ne _ _ _ _ _ hj)

/-- A task of a program that starts at grid tick `g` has its offset from it ahead. -/
theorem get_foldl_taskAt {p : Prog} {g t : Nat} {l : List Nat} (h : t ∈ l) (a : NMap TaskSt) :
    NMap.get TaskSt.init (l.foldl (fun a t => NMap.set TaskSt.init a t (taskAt p g t)) a) t = taskAt p g t := by
  induction l generalizing a with
  | nil => exact absurd h List.not_mem_nil
  | cons j l ih =>
    by_cases hl : t ∈ l
    · exact ih hl _
    · obtain rfl : t = j := (List.mem_cons.mp h).resolve_right hl
      exact (get_foldl_taskAt_of_not_mem hl _).trans (NMap.get_set_same _ _ _ _)

/-! ## The switch at Tb (R266 to R268, R270) -/

/-- What a switch reaches before the new program takes over, and the registers that it may write. -/
def leaveParts : List Part := .ladder :: releaseParts

/-- The old program's last releases, the SAFE values of the sinks that nothing names any more, the gates that the exchange
cancels, and the end of the old tasks' reasons on the ladder. -/
def oldProgramLeaves (x : Exch) (new : Prog) (m : Pnm) : Pnm :=
  let m1 := beforeLatch (gridInstant x.tb) m
  let m2 := (liveTasks m1).foldl
    (fun y t => releaseList t (gridInstant x.tb) true (safeOf (orphans (cyeProg m1) new t)) y) m1
  let m3 := (x.map.filter (·.op = 2)).foldl (fun y e => gateCancelAt (progBase y + e.gate) true y) m2
  (liveTasks m1).foldl (fun y t => ladderClear 5 t y) m3

/-- The cycle engine once the new program has taken over. -/
def newProgramCye (x : Exch) (new : Prog) (old : Prog) (m : Pnm) : Cye :=
  { m.cye with
    prog := some new, tasks := tasksAt new x.tb, insts := progInit new new.enabled [], stopAt := none,
    gev := carryEvents m new, staged := none, exch := none, carry := some x.map, old := some old,
    oldTasks := m.cye.tasks, oldInsts := m.cye.insts }

theorem lfSwitch_switches {m : Pnm} {x : Exch} {new : Prog} (hx : switchNear m 0 = some x) (hs : m.cye.staged = some new)
    (ho : oldRun m = false) :
    ∃ ts, lfSwitch m = setPhase 5 (faultFailed ((List.range 16).foldl (fun y c => noteCore c y)
      (taskNodes ts new.enabled { oldProgramLeaves x new m with
        cye := newProgramCye x new (cyeProg (beforeLatch (gridInstant x.tb) m)) (oldProgramLeaves x new m) }))) := by
  refine ⟨liveTasks (beforeLatch (gridInstant x.tb) m), ?_⟩
  simp only [lfSwitch, hx, hs, ho, Bool.false_eq_true, if_false, oldProgramLeaves, newProgramCye]

theorem touches_ladderClear (step cause : Nat) (m : Pnm) : Touches leaveParts latchRegs m (ladderClear step cause m) :=
  (Touches.of_keeps (ps := [.ladder, .tel]) (keeps_ladderClear (by simp) (by simp) step cause m)
    (.of_regs (ladderClear_regs ..))).mono (by decide) (List.nil_subset _)

theorem touches_oldProgramLeaves (x : Exch) (new : Prog) (m : Pnm) :
    Touches leaveParts latchRegs m (oldProgramLeaves x new m) := by
  have hreleases : ∀ {k n : Pnm}, Touches releaseParts releaseRegs k n → Touches leaveParts latchRegs k n :=
    fun h => h.mono (List.subset_cons_self _ _) (List.subset_cons_self _ _)
  have hlatch := (touches_beforeLatch (gridInstant x.tb) m).mono (List.subset_cons_self .ladder _) (List.Subset.refl _)
  exact ((hlatch.trans (.foldl (fun _ _ _ => hreleases (touches_releaseList ..)) _)).trans
    (.foldl (fun _ _ _ => hreleases (touches_gateCancelAt ..).released) _)).trans
    (.foldl (fun _ _ _ => touches_ladderClear ..) _)

theorem lfSwitch_takes_over (hl : s.live) {x : Exch} {new : Prog} (hx : switchNear s.m 0 = some x)
    (hs : s.m.cye.staged = some new) (ho : oldRun s.m = false) :
    Does .lfSwitch s (.ladder :: releaseParts)
      ([Reg.CYE_FLAGS, Reg.CYE_LF_STAT, Reg.CYE_TBL_STAT] ++ releaseRegs) fun n =>
      n.cye.prog = some new ∧ lfPhase n = 5 ∧ n.cye.exch = none ∧ n.cye.staged = none ∧ n.cye.carry = some x.map ∧
      n.cye.old = some (cyeProg s.m) ∧ n.cye.insts = progInit new new.enabled [] ∧ n.cye.oldInsts = s.m.cye.insts ∧
      ∀ t ∈ new.enabled, (getTask n t).next = x.tb + tOffset (new.task t) * planeP new.rate := by
  obtain ⟨ts, hswitch⟩ := lfSwitch_switches hx hs ho
  have hleaves := touches_oldProgramLeaves x new s.m
  have hprog : cyeProg (beforeLatch (gridInstant x.tb) s.m) = cyeProg s.m :=
    congrArg (·.getD Prog.empty) (touches_beforeLatch _ s.m).prog
  rw [hprog] at hswitch
  generalize oldProgramLeaves x new s.m = k at hswitch hleaves
  have hfaults : Faults { k with cye := newProgramCye x new (cyeProg s.m) k } (faultFailed ((List.range 16).foldl
      (fun y c => noteCore c y) (taskNodes ts new.enabled { k with cye := newProgramCye x new (cyeProg s.m) k }))) :=
    ((faults_taskNodes _ _ _).trans (.foldl (fun _ _ => faults_noteCore _ _) _ _)).trans (faults_faultFailed _)
  generalize faultFailed _ = n at hswitch hfaults
  refine does_al _ hl rfl hswitch
    (((hleaves.parts.trans (keeps_cye (by decide) k _)).trans (hfaults.parts.mono (by decide))).trans
      (keeps_setPhase (by decide) 5 n))
    ((((hleaves.regs.mono (by simp [latchRegs])).trans (.of_regs rfl)).trans (hfaults.regs.mono (by simp))).trans
      (keepsRegs_setPhase (by simp) 5 n)) ?_
  have hcye : (setPhase 5 n).cye = _ := hfaults.cye
  refine ⟨congrArg Cye.prog hcye, lfPhase_setPhase (by decide) n, congrArg Cye.exch hcye, congrArg Cye.staged hcye,
    congrArg Cye.carry hcye, congrArg Cye.old hcye, congrArg Cye.insts hcye,
    (congrArg Cye.oldInsts hcye).trans hleaves.insts, fun t ht => ?_⟩
  exact (hfaults.next t).trans (congrArg TaskSt.next (get_foldl_taskAt ht []))

/-! ## Carry-over (R262 to R265, R270) -/

theorem touches_mrExtend (i : Nat) (d : List Byte) (m : Pnm) :
    Touches [.regs, .key] [Reg.KEY_MR3_COUNT] m (mrExtend i d m) := by
  have hmeasured : Touches [.regs, .key] [Reg.KEY_MR3_COUNT] m
      { m with key := { m.key with mr := modAt m.key.mr i fun x => Config.sha384 (x ++ d) } } :=
    .of_keeps (keeps_key (by simp) m _) (.of_regs rfl)
  unfold mrExtend
  exact .ite (hmeasured.trans (touches_wr _ _)) hmeasured

theorem touches_instRecords {ps : List Part} {os : List Nat} (h : .tel ∈ ps) (kind progId : Nat) (l : List Nat) (m : Pnm) :
    Touches ps os m (instRecords kind progId l m) := .foldl (fun _ _ k => touches_tel k _ h) m

/-- The cycle engine once carry-over is done. -/
def carriedCye (map : List MapEnt) (old : Prog) (m : Pnm) : Cye :=
  { m.cye with
    insts := (carryInsts m map).2.2, carry := none, old := none, oldTasks := [], oldInsts := [], retained := some old,
    lastMap := map }

/-- Carry-over done, with RESULT and the counts shown, before it is measured and told. -/
def carriedShown (map : List MapEnt) (old : Prog) (a b : Nat) (m : Pnm) : Pnm :=
  wr (wr (wf (wf (setPhase 0 { m with cye := carriedCye map old m }) Reg.CYE_LF_STAT 15 8 1) Reg.CYE_LF_STAT 5 4 0)
    Reg.CYE_LF_COUNT_A (loW ((carryInsts m map).1 % 65536 + 65536 * a))) Reg.CYE_LF_COUNT_B (loW b)

section
variable (map : List MapEnt) (old : Prog) (a b : Nat) (m : Pnm)

theorem keeps_carriedShown : Keeps [.regs, .cye] m (carriedShown map old a b m) :=
  ((((keeps_cye (by simp) m _).trans (keeps_setPhase (by simp) _ _)).trans (keeps_wr (by simp) _ _ _)).trans
    (keeps_wr (by simp) _ _ _)).trans ((keeps_wr (by simp) _ _ _).trans (keeps_wr (by simp) _ _ _))

theorem keepsRegs_carriedShown :
    KeepsRegs [Reg.CYE_LF_STAT, Reg.CYE_LF_COUNT_A, Reg.CYE_LF_COUNT_B] m (carriedShown map old a b m) :=
  ((((KeepsRegs.of_regs rfl).trans (keepsRegs_setPhase (by simp) _ _)).trans (keepsRegs_wf _ _ _ _ (by simp))).trans
    (keepsRegs_wf _ _ _ _ (by simp))).trans ((keepsRegs_wr _ _ (by simp)).trans (keepsRegs_wr _ _ (by simp)))

theorem cye_carriedShown : (carriedShown map old a b m).cye = carriedCye map old m := by
  simp only [carriedShown, setPhase, wr_cye, wf_cye]

theorem rd_carriedShown_stat : rd (carriedShown map old a b m) Reg.CYE_LF_STAT =
    rd (wf (wf (setPhase 0 { m with cye := carriedCye map old m }) Reg.CYE_LF_STAT 15 8 1) Reg.CYE_LF_STAT 5 4 0)
      Reg.CYE_LF_STAT := (rd_wr_ne _ _ _ (by decide)).trans (rd_wr_ne _ _ _ (by decide))

theorem lfPhase_carriedShown : lfPhase (carriedShown map old a b m) = 0 :=
  (rf_congr (rd_carriedShown_stat map old a b m) 2 0).trans ((rf_wf_apart _ _ _ _ _ _ _ (by decide)).trans
    ((rf_wf_apart _ _ _ _ _ _ _ (by decide)).trans (lfPhase_setPhase (by decide) _)))

theorem result_carriedShown : rf (carriedShown map old a b m) Reg.CYE_LF_STAT 15 8 = 1 :=
  (rf_congr (rd_carriedShown_stat map old a b m) 15 8).trans
    ((rf_wf_apart _ _ _ _ _ _ _ (by decide)).trans (rf_wf_same _ _ _ _ _ (by decide)))

theorem postponed_carriedShown : rf (carriedShown map old a b m) Reg.CYE_LF_STAT 5 4 = 0 :=
  (rf_congr (rd_carriedShown_stat map old a b m) 5 4).trans (rf_wf_same _ _ _ _ _ (by decide))

theorem count_carriedShown :
    rf (carriedShown map old a b m) Reg.CYE_LF_COUNT_A 15 0 = (carryInsts m map).1 % 65536 := by
  have hcount : rd (carriedShown map old a b m) Reg.CYE_LF_COUNT_A =
      loW ((carryInsts m map).1 % 65536 + 65536 * a) := (rd_wr_ne _ _ _ (by decide)).trans (rd_wr_same _ _ _)
  rw [rf, hcount, bits, bitsN, loW, BitVec.toNat_ofNat]
  omega

end

/-- After the counts are shown, carry-over is measured, told and journaled; none of this reaches the exchange. -/
theorem carryOverDone_carries {m : Pnm} {map : List MapEnt} {old : Prog} (hc : m.cye.carry = some map)
    (ho : m.cye.old = some old) :
    ∃ a b, Touches [.regs, .tel, .key] [Reg.KEY_MR3_COUNT] (carriedShown map old a b m) (carryOverDone m) := by
  simp only [carryOverDone, hc, ho]
  exact ⟨_, _, ((((touches_mrExtend _ _ _).mono (by decide) (List.Subset.refl _)).trans (touches_raise _ _)).trans
    (touches_instRecords (by simp) _ _ _ _)).trans (touches_instRecords (by simp) _ _ _ _)⟩

theorem lfCarryOverDone_retains (hl : s.live) {map : List MapEnt} {old : Prog} (hc : s.m.cye.carry = some map)
    (ho : s.m.cye.old = some old) :
    Does .lfCarryOverDone s [.regs, .tel, .key, .cye]
      [Reg.CYE_LF_STAT, Reg.CYE_LF_COUNT_A, Reg.CYE_LF_COUNT_B, Reg.KEY_MR3_COUNT] fun n =>
      lfPhase n = 0 ∧ rf n Reg.CYE_LF_STAT 15 8 = 1 ∧ rf n Reg.CYE_LF_STAT 5 4 = 0 ∧
      rf n Reg.CYE_LF_COUNT_A 15 0 = (carryInsts s.m map).1 % 65536 ∧ n.cye = carriedCye map old s.m := by
  obtain ⟨a, b, htold⟩ := carryOverDone_carries hc ho
  have hstat := htold.regs Reg.CYE_LF_STAT (by decide)
  have hcount := htold.regs Reg.CYE_LF_COUNT_A (by decide)
  have hcye : (carryOverDone s.m).cye = (carriedShown map old a b s.m).cye := htold.parts .cye (by simp)
  exact does_al carryOverDone hl rfl rfl
    (((keeps_carriedShown map old a b s.m).mono (by simp)).trans (htold.parts.mono (by simp)))
    (((keepsRegs_carriedShown map old a b s.m).mono (by simp)).trans (htold.regs.mono (by simp)))
    ⟨(rf_congr hstat 2 0).trans (lfPhase_carriedShown ..), (rf_congr hstat 15 8).trans (result_carriedShown ..),
      (rf_congr hstat 5 4).trans (postponed_carriedShown ..), (rf_congr hcount 15 0).trans (count_carriedShown ..),
      hcye.trans (cye_carriedShown ..)⟩

theorem nothing_lfCarryOverDone (h : s.m.cye.carry = none) : DoesNothing .lfCarryOverDone s :=
  nothing_al _ rfl (by simp only [carryOverDone, h])

end
end Leapfrog

open Leapfrog in
/-- Settles O30: it holds. Both commands postpone by one operation; at Tb the old program's last releases reach neither the
program nor its states, and what follows the takeover faults tasks at most; after carry-over only its counts are told. -/
theorem theSwitchHappensAtTb : Obligations.TheSwitchHappensAtTb := by
  intro s hl
  refine ⟨fun c x new hs ho hc => ?postponed, nothing_lfPreSwitchCheck, fun x new => lfSwitch_takes_over hl,
    nothing_lfSwitch, fun map old => lfCarryOverDone_retains hl, nothing_lfCarryOverDone⟩
  case postponed =>
    obtain ⟨f, hexec, hf⟩ := exec_postpones hl hs ho hc
    exact ⟨does_postpone hexec hf hs, does_abandon hexec hf⟩

end Machine
end Sys2Proof
end

section
/-! PROOFS. The publication window (R303, R577): how OUT refuses, the words that a read returns, and the commit of staged
entries. -/

namespace Sys2Proof
namespace Machine
namespace Publication
open Leapfrog

/-! ## Refusals by OUT (R281, R293, R303) -/

section
variable {ps : List Part} {os : List Nat}

/-- A refusal by OUT sets CFG_REJECT and names the check and the index. -/
theorem touches_outErr (hr : .regs ∈ ps) (hf : Reg.OUT_FLAGS ∈ os) (he : Reg.OUT_CFG_ERR ∈ os) (field index : Nat)
    (m : Pnm) : Touches ps os m (outErr field index m) :=
  ((touches_wr m _ hr hf).trans (touches_wr _ _ hr he)).trans (touches_wr _ _ hr he)

theorem rf_outErr_field {field : Nat} (h : field < 256) (index : Nat) (m : Pnm) :
    rf (outErr field index m) Reg.OUT_CFG_ERR 7 0 = field := by
  rw [outErr, rf_wf_apart _ _ _ _ _ _ _ (by decide), cfgErr, rf_wf_same _ _ _ _ _ (by decide)]
  exact Nat.mod_eq_of_lt h

end

/-! ## A GO that reads (R303) -/

/-- The first `n` words of a list filled up with zeros are its words in their order. -/
theorem getD_take_padded (l : List Word) {n k : Nat} (h : k < n) :
    ((l ++ List.replicate n 0).take n).getD k 0 = l.getD k 0 := by
  rw [List.getD_eq_getElem?_getD, List.getElem?_take_of_lt h, List.getD_eq_getElem?_getD]
  by_cases hk : k < l.length
  · rw [List.getElem?_append_left hk]
  · have hle : l.length ≤ k := Nat.le_of_not_lt hk
    rw [List.getElem?_append_right hle, List.getElem?_replicate_of_lt (by omega), List.getElem?_eq_none hle]
    rfl

section
variable {s : State} {cmd : Word}

/-- The words that the window shows of an entry: its own, padded to 16. -/
def outShown (cmd : Word) (m : Pnm) : List Word :=
  (outWords m (bits cmd 20 17) (bits cmd 16 0) ++ List.replicate 16 0).take 16

theorem length_outShown (cmd : Word) (m : Pnm) : (outShown cmd m).length = 16 := by
  rw [outShown, List.length_take, List.length_append, List.length_replicate]
  omega

theorem outTblRead_cases (cmd : Word) (m : Pnm) :
    outTblRead (setBit cmd 21 false) m =
      if outSize (bits cmd 20 17) ≤ bits cmd 16 0 then
        sb (storeCmd Reg.OUT_TBL_CMD 0x003FFFFF (setBit cmd 21 false) m) Reg.OUT_TBL_STAT 1
      else wrs (storeCmd Reg.OUT_TBL_CMD 0x003FFFFF (setBit cmd 21 false) m) Reg.OUT_TBL_DATA (outShown cmd m) := by
  have hi : bits (setBit cmd 21 false) 16 0 = bits cmd 16 0 := setBit_bits_apart _ _ (by decide)
  have ht : bits (setBit cmd 21 false) 20 17 = bits cmd 20 17 := setBit_bits_apart _ _ (by decide)
  simp only [outTblRead, hi, ht]
  rfl

theorem outTblRead_returns_words (hw : s.writable) (h : bits cmd 16 0 < outSize (bits cmd 20 17)) :
    Does (.outTblRead cmd) s [.regs] (Reg.OUT_TBL_CMD :: rowAt Reg.OUT_TBL_DATA 16) fun n =>
      ∀ k < 16, rd n (Reg.OUT_TBL_DATA + 4 * k) = (outWords s.m (bits cmd 20 17) (bits cmd 16 0)).getD k 0 := by
  have hread := does_windowRead (c := .outTblRead cmd) hw rfl
    ((outTblRead_cases cmd s.m).trans (if_neg (Nat.not_le_of_lt h)))
  rw [length_outShown] at hread
  obtain ⟨n, hn, hkeep, hregs, hwords⟩ := hread
  exact ⟨n, hn, hkeep, hregs, fun k hk => (hwords k hk).trans (getD_take_padded _ hk)⟩

theorem outTblRead_refuses_absent (hw : s.writable) (h : outSize (bits cmd 20 17) ≤ bits cmd 16 0) :
    Does (.outTblRead cmd) s [.regs] [Reg.OUT_TBL_CMD, Reg.OUT_TBL_STAT] fun n => rb n Reg.OUT_TBL_STAT 1 = true :=
  does_wr _ hw rfl ((outTblRead_cases cmd s.m).trans (if_pos h)) ((keeps_wr (by simp) s.m _ _).trans (keeps_wr (by simp) _ _ _))
    ((keepsRegs_wr s.m _ (by simp)).trans (keepsRegs_sb _ _ (by simp))) (rb_sb_same _ _ 1 (by decide))

/-! ## Committing what waits (R281, R293, R303) -/

theorem touches_outCommitted (m : Pnm) (x : Out) : Touches pubParts pubRegs m { m with out := x } :=
  touches_out m x (by decide)

theorem touches_pubStart (i : Nat) (m : Pnm) : Touches pubParts pubRegs m (pubStart i m) :=
  (touches_putPub ..).trans (touches_stateChange ..)

/-- An entry is stored, and its publication goes on, starts or stops. -/
theorem touches_pcbCommit (i : Nat) (w : List Word) (m : Pnm) : Touches pubParts pubRegs m (pcbCommit i w m).1 := by
  unfold pcbCommit
  extract_lets e old store c
  have hstore (x : List Word) : Touches pubParts pubRegs m (store x m) := touches_outCommitted m _
  have hstop (x : List Word) : Touches pubParts pubRegs m (pubStop i (store x m)) := (hstore x).trans (touches_putPub ..)
  split
  next =>
    split
    · exact hstop e
    · exact hstore e
  next =>
    split
    next => exact .refl _ _ _
    next =>
      split
      next =>
        split
        · exact hstop (entryOff e)
        · exact hstore (entryOff e)
      next =>
        split
        · exact hstore e
        · split
          · exact (hstore e).trans (touches_pubStart ..)
          · exact hstore e

theorem gsubCommit_out (i : Nat) (w : List Word) (m : Pnm) : ∃ x, (gsubCommit i w m).1 = { m with out := x } := by
  unfold gsubCommit
  extract_lets
  repeat' split
  all_goals exact ⟨_, rfl⟩

/-- Any other table's commit changes OUT's tables and states alone. -/
theorem outCommit_out {t : Nat} (h : t ≠ 0) (i : Nat) (w : List Word) (m : Pnm) :
    ∃ x, (outCommit t i w m).1 = { m with out := x } := by
  unfold outCommit
  rw [if_neg h]
  by_cases hsub : t = 2
  · rw [if_pos hsub]; exact gsubCommit_out i w m
  rw [if_neg hsub]
  repeat' split
  all_goals exact ⟨_, rfl⟩

theorem touches_outCommit (t i : Nat) (w : List Word) (m : Pnm) : Touches pubParts pubRegs m (outCommit t i w m).1 := by
  by_cases hpcb : t = 0
  · rw [outCommit, if_pos hpcb]; exact touches_pcbCommit i w m
  · obtain ⟨x, hx⟩ := outCommit_out hpcb i w m
    rw [hx]; exact touches_outCommitted m x

/-- The registers that the commit of staged entries may write. -/
def outCommitRegs : List Nat := Reg.OUT_TBL_STAT :: Reg.OUT_CFG_ERR :: pubRegs

theorem outCommitRegs_subset : outCommitRegs ⊆
    [Reg.OUT_TBL_CMD, Reg.OUT_TBL_STAT, Reg.OUT_FLAGS, Reg.OUT_CFG_ERR, Reg.OUT_PUB_SENT] ++ dropCnts := by
  intro o ho
  simp only [outCommitRegs, pubRegs, List.mem_cons, List.cons_append, List.nil_append] at ho ⊢
  rcases ho with h | h | h | h | h <;> simp only [h, true_or, or_true]

/-- One staged entry commits, or is refused and named. -/
def outCommitNext (m : Pnm) (p : Nat × Nat × List Word) : Pnm :=
  if (outCommit p.1 p.2.1 p.2.2 m).2 = 0 then (outCommit p.1 p.2.1 p.2.2 m).1
  else outErr (outCommit p.1 p.2.1 p.2.2 m).2 p.2.1 (sb (outCommit p.1 p.2.1 p.2.2 m).1 Reg.OUT_TBL_STAT 1)

theorem touches_outCommitNext (p : Nat × Nat × List Word) (m : Pnm) :
    Touches pubParts outCommitRegs m (outCommitNext m p) := by
  have hcommit : Touches pubParts outCommitRegs m (outCommit p.1 p.2.1 p.2.2 m).1 :=
    (touches_outCommit ..).mono (List.Subset.refl _) (by simp [outCommitRegs])
  unfold outCommitNext
  exact .ite hcommit ((hcommit.trans (touches_wr _ _ (by decide) (by simp [outCommitRegs]))).trans
    (touches_outErr (by decide) (by simp [outCommitRegs, pubRegs]) (by simp [outCommitRegs]) _ _ _))

theorem outCommitAll_eq (m : Pnm) :
    outCommitAll m =
      (let n := m.out.pend.foldl outCommitNext m
       cb { n with out := { n.out with pend := [] } } Reg.OUT_TBL_STAT 0) := rfl

/-- A commit takes every waiting entry and clears PENDING. -/
theorem touches_outCommitAll (m : Pnm) : Touches pubParts outCommitRegs m (outCommitAll m) :=
  ((Touches.foldl (fun p _ k => touches_outCommitNext p k) m).trans (touches_out _ _ (by decide))).trans
    (touches_wr _ _ (by decide) (by simp [outCommitRegs]))

theorem rb_outCommitAll_pending (m : Pnm) : rb (outCommitAll m) Reg.OUT_TBL_STAT 0 = false :=
  rb_cb_same _ _ 0 (by decide)

theorem pend_outCommitAll (m : Pnm) : (outCommitAll m).out.pend = [] := by rw [outCommitAll_eq, cb_out]

/-! ## A GO that writes (R303, R577) -/

/-- The tables that only show states. -/
abbrev outStatusTable (cmd : Word) : Prop := bits cmd 20 17 = 1 ∨ bits cmd 20 17 = 3 ∨ bits cmd 20 17 = 7

/-- The module after a GO with WRITE 1 stored its command. -/
def outWriteGo (cmd : Word) (m : Pnm) : Pnm := storeCmd Reg.OUT_TBL_CMD 0x003FFFFF (setBit cmd 21 true) m

/-- The module after a GO staged the window's words behind those that wait. -/
def outStagedGo (cmd : Word) (m : Pnm) : Pnm :=
  sb { outWriteGo cmd m with
       out := { m.out with pend := m.out.pend ++ [(bits cmd 20 17, bits cmd 16 0, outData m)] } } Reg.OUT_TBL_STAT 0

theorem outTblWrite_cases (cmd : Word) (m : Pnm) :
    outTblWrite (setBit cmd 21 true) m =
      if outStatusTable cmd then outErr 11 (bits cmd 16 0) (sb (outWriteGo cmd m) Reg.OUT_TBL_STAT 1)
      else if outSize (bits cmd 20 17) ≤ bits cmd 16 0 then sb (outWriteGo cmd m) Reg.OUT_TBL_STAT 1
      else if m.tim.grid then outStagedGo cmd m else outCommitAll (outStagedGo cmd m) := by
  have hi : bits (setBit cmd 21 true) 16 0 = bits cmd 16 0 := setBit_bits_apart _ _ (by decide)
  have ht : bits (setBit cmd 21 true) 20 17 = bits cmd 20 17 := setBit_bits_apart _ _ (by decide)
  simp only [outTblWrite, hi, ht]
  rfl

section
variable {ps : List Part} {os : List Nat}

/-- The GO is stored, and STATUS tells of it. -/
theorem touches_outStat (hr : .regs ∈ ps) (hc : Reg.OUT_TBL_CMD ∈ os) (hs : Reg.OUT_TBL_STAT ∈ os) (m : Pnm) :
    Touches ps os m (sb (outWriteGo cmd m) Reg.OUT_TBL_STAT 1) := (touches_wr m _ hr hc).trans (touches_wr _ _ hr hs)

theorem touches_outStagedGo (hr : .regs ∈ ps) (ho : .out ∈ ps) (hc : Reg.OUT_TBL_CMD ∈ os) (hs : Reg.OUT_TBL_STAT ∈ os)
    (m : Pnm) : Touches ps os m (outStagedGo cmd m) :=
  ((touches_wr m _ hr hc).trans (touches_out _ _ ho)).trans (touches_wr _ _ hr hs)

end

theorem outTblWrite_refuses_states (hw : s.writable) (h : outStatusTable cmd) :
    Does (.outTblWrite cmd) s [.regs] [Reg.OUT_TBL_CMD, Reg.OUT_TBL_STAT, Reg.OUT_FLAGS, Reg.OUT_CFG_ERR] fun n =>
      rb n Reg.OUT_TBL_STAT 1 = true ∧ rf n Reg.OUT_CFG_ERR 7 0 = 11 := by
  have herr (os : List Nat) (hf : Reg.OUT_FLAGS ∈ os) (he : Reg.OUT_CFG_ERR ∈ os) :=
    touches_outErr (ps := [.regs]) (by simp) hf he 11 (bits cmd 16 0) (sb (outWriteGo cmd s.m) Reg.OUT_TBL_STAT 1)
  have hgo := (touches_outStat (cmd := cmd) (os := [Reg.OUT_TBL_CMD, Reg.OUT_TBL_STAT, Reg.OUT_FLAGS, Reg.OUT_CFG_ERR])
    (by simp) (by simp) (by simp) s.m).trans (herr _ (by simp) (by simp))
  refine does_wr _ hw rfl ((outTblWrite_cases cmd s.m).trans (if_pos h)) hgo.parts hgo.regs
    ⟨?_, rf_outErr_field (by decide) _ _⟩
  rw [rb, (herr [Reg.OUT_FLAGS, Reg.OUT_CFG_ERR] (by simp) (by simp)).regs Reg.OUT_TBL_STAT (by decide)]
  exact rb_sb_same _ _ 1 (by decide)

theorem outTblWrite_refuses_absent (hw : s.writable) (ht : ¬ outStatusTable cmd)
    (h : outSize (bits cmd 20 17) ≤ bits cmd 16 0) :
    Does (.outTblWrite cmd) s [.regs] [Reg.OUT_TBL_CMD, Reg.OUT_TBL_STAT] fun n => rb n Reg.OUT_TBL_STAT 1 = true :=
  have hgo := touches_outStat (cmd := cmd) (by simp) (by simp) (by simp) s.m
  does_wr _ hw rfl ((outTblWrite_cases cmd s.m).trans ((if_neg ht).trans (if_pos h))) hgo.parts hgo.regs
    (rb_sb_same _ _ 1 (by decide))

theorem outTblWrite_stages (hw : s.writable) (ht : ¬ outStatusTable cmd) (h : bits cmd 16 0 < outSize (bits cmd 20 17))
    (hg : s.m.tim.grid = true) :
    Does (.outTblWrite cmd) s [.regs, .out] [Reg.OUT_TBL_CMD, Reg.OUT_TBL_STAT] fun n =>
      rb n Reg.OUT_TBL_STAT 0 = true ∧
      n.out = { s.m.out with pend := s.m.out.pend ++ [(bits cmd 20 17, bits cmd 16 0, outData s.m)] } :=
  have hgo := touches_outStagedGo (cmd := cmd) (by simp) (by simp) (by simp) (by simp) s.m
  does_wr _ hw rfl
    ((outTblWrite_cases cmd s.m).trans ((if_neg ht).trans ((if_neg (Nat.not_le_of_lt h)).trans (if_pos hg))))
    hgo.parts hgo.regs ⟨rb_sb_same _ _ 0 (by decide), rfl⟩

theorem outTblWrite_commits (hw : s.writable) (ht : ¬ outStatusTable cmd) (h : bits cmd 16 0 < outSize (bits cmd 20 17))
    (hg : s.m.tim.grid = false) :
    Does (.outTblWrite cmd) s [.regs, .tel, .mac, .out, .par]
      ([Reg.OUT_TBL_CMD, Reg.OUT_TBL_STAT, Reg.OUT_FLAGS, Reg.OUT_CFG_ERR, Reg.OUT_PUB_SENT] ++ dropCnts) fun n =>
      rb n Reg.OUT_TBL_STAT 0 = false ∧ n.out.pend = [] :=
  have hgo := (touches_outStagedGo (cmd := cmd) (by simp) (by simp) (by simp) (by simp) s.m).trans
    ((touches_outCommitAll (outStagedGo cmd s.m)).mono (by decide) outCommitRegs_subset)
  does_wr _ hw rfl
    ((outTblWrite_cases cmd s.m).trans ((if_neg ht).trans ((if_neg (Nat.not_le_of_lt h)).trans
      (if_neg (ne_true_of_eq_false hg)))))
    hgo.parts hgo.regs ⟨rb_outCommitAll_pending _, pend_outCommitAll _⟩

end
end Publication

open Publication in
/-- Settles O32: it holds. A read puts the entry's words in a row behind the command; a write waits behind the others, and
a commit without a grid stores or refuses each of them in turn. -/
theorem outWindowReadsAndStages : Obligations.OutWindowReadsAndStages := fun _ _ hw =>
  ⟨outTblRead_returns_words hw, outTblRead_refuses_absent hw, outTblWrite_refuses_states hw, outTblWrite_refuses_absent hw,
    outTblWrite_stages hw, outTblWrite_commits hw⟩

end Machine
end Sys2Proof
end

section
/-! PROOFS. A command that is decided by itself (R349, R353, R363, R364): what the service of the rings keeps, the module
that an effect finds, and how the completion of a command follows from its effect. -/

namespace Sys2Proof
namespace Machine
namespace Commands
open Leapfrog

/-! ## Marks -/

@[simp] theorem getFn_putFn_same (f : Nat) (x : FnState) (m : Pnm) : getFn (putFn f x m) f = x := NMap.get_set_same _ _ _ _

theorem getFn_putFn_ne {f g : Nat} (h : g ≠ f) (x : FnState) (m : Pnm) : getFn (putFn f x m) g = getFn m g :=
  NMap.get_set_ne _ _ _ _ _ h

theorem getFn_congr {m n : Pnm} (h : n.hif = m.hif) (g : Nat) : getFn n g = getFn m g := by rw [getFn, getFn, h]

/-- Every function's mark is the same (R363). -/
def KeepsMarks (m n : Pnm) : Prop := ∀ g, (getFn n g).accSeq = (getFn m g).accSeq

section
variable {m n k : Pnm}

theorem KeepsMarks.refl (m : Pnm) : KeepsMarks m m := fun _ => rfl

theorem KeepsMarks.trans (h : KeepsMarks m n) (h' : KeepsMarks n k) : KeepsMarks m k := fun g => (h' g).trans (h g)

theorem KeepsMarks.of_hif (h : n.hif = m.hif) : KeepsMarks m n := fun g => congrArg FnState.accSeq (getFn_congr h g)

/-- A change of a function's state that leaves its mark. -/
theorem keepsMarks_putFn {f : Nat} {x : FnState} (h : x.accSeq = (getFn m f).accSeq) : KeepsMarks m (putFn f x m) := by
  intro g
  by_cases hg : g = f
  · subst hg; rw [getFn_putFn_same, h]
  · rw [getFn_putFn_ne hg]

/-- What completions, events, write-backs and vectors change: the rings of functions and what is handed out, no mark. -/
structure Served (m n : Pnm) : Prop where
  parts : Keeps [.tel, .hif] m n
  marks : KeepsMarks m n

theorem Served.refl (m : Pnm) : Served m m := ⟨.refl _ _, .refl _⟩

theorem Served.trans (h : Served m n) (h' : Served n k) : Served m k := ⟨h.parts.trans h'.parts, h.marks.trans h'.marks⟩

theorem Served.ite {c : Prop} [Decidable c] (ht : Served m n) (he : Served m k) : Served m (if c then n else k) := by
  split
  · exact ht
  · exact he

theorem Served.foldl {α : Type} {f : Pnm → α → Pnm} {l : List α} (h : ∀ a m, Served m (f m a)) (m : Pnm) :
    Served m (l.foldl f m) :=
  List.foldlRecOn l f (motive := Served m) (.refl m) fun k hk a _ => hk.trans (h a k)

theorem Served.regs (h : Served m n) : n.regs = m.regs := h.parts .regs (by decide)
theorem Served.out (h : Served m n) : n.out = m.out := h.parts .out (by decide)
theorem Served.cye (h : Served m n) : n.cye = m.cye := h.parts .cye (by decide)

theorem served_tel (m : Pnm) (t : Tel) : Served m { m with tel := t } := ⟨keeps_tel_of_mem (by simp) m t, .of_hif rfl⟩

/-- A change of HIF that leaves the functions' states. -/
theorem served_hif (m : Pnm) (x : Hif) (h : x.fns = m.hif.fns := by rfl) : Served m { m with hif := x } :=
  ⟨keeps_hif (by simp) m x, fun g => by simp only [getFn, h]⟩

theorem served_putFn {f : Nat} {x : FnState} (h : x.accSeq = (getFn m f).accSeq) : Served m (putFn f x m) :=
  ⟨keeps_hif (by simp) m _, keepsMarks_putFn h⟩

theorem served_modFn (f : Nat) (u : FnState → FnState) (m : Pnm) (h : ∀ x, (u x).accSeq = x.accSeq := by intro x; rfl) :
    Served m (modFn f u m) := served_putFn (h _)

theorem served_ringPut (f r : Nat) (w : List Word) (m : Pnm) : Served m (ringPut f r w m) := by
  unfold ringPut
  exact (served_tel m _).trans (served_modFn ..)

theorem served_vecDue (f v : Nat) (m : Pnm) : Served m (vecDue f v m) :=
  served_modFn f _ m fun x => by split <;> rfl

theorem served_vecSend (f v : Nat) (m : Pnm) : Served m (vecSend f v m) := (served_tel m _).trans (served_tel _ _)

/-! ## Completions (R352, R364) -/

theorem standby_congr (h : rd n Reg.PAR_STAT = rd m Reg.PAR_STAT) : standby n = standby m := by
  unfold standby pairState rf
  rw [h]

/-- A completion joins those that are due, unless a standby keeps it as a replica (R445). -/
theorem served_completeAt {r : CmdRef} (h : r.replica = false ∨ standby m = false) (a : Ans) (d : Nat) :
    Served m (completeAt r a d m) := by
  have hdue : (r.replica && standby m) = false := by rcases h with h | h <;> simp [h]
  have hfn : Served m (modFn r.fn (fun x => { x with pendSet := x.pendSet.filter (· ≠ r.seq) }) m) :=
    served_modFn ..
  have heq : standby (modFn r.fn (fun x => { x with pendSet := x.pendSet.filter (· ≠ r.seq) }) m) = standby m :=
    standby_congr (rd_congr hfn.regs _)
  unfold completeAt
  dsimp only
  rw [if_neg]
  · exact hfn.trans (served_hif ..)
  · exact ne_true_of_eq_false ((congrArg (r.replica && ·) heq).trans hdue)

theorem served_complete (r : CmdRef) (a : Ans) (h : standby m = false) : Served m (complete r a m) :=
  served_completeAt (.inr h) a _

/-- Commands that are discarded or replaced complete one after the other. -/
theorem served_foldl_complete {α : Type} (r : α → CmdRef) (a : α → Ans) (l : List α) (h : standby m = false) :
    Served m (l.foldl (fun y x => complete (r x) (a x) y) m) :=
  List.foldlRecOn l _ (motive := Served m) (.refl m) fun _ hk x _ =>
    hk.trans (served_complete (r x) (a x) ((standby_congr (rd_congr hk.regs _)).trans h))

theorem served_cplWrite (c : Cpl) (m : Pnm) : Served m (cplWrite m c) := by
  unfold cplWrite
  extract_lets f less
  have hless (x : FnState) : (less x).accSeq = x.accSeq := by dsimp only [less]; split <;> rfl
  exact .ite (((served_ringPut ..).trans (served_modFn _ _ _ hless)).trans (served_vecDue ..))
    (.ite (.refl m) (served_modFn _ _ m fun _ => hless _))

theorem served_cplFlush (p : Nat → Bool) (m : Pnm) : Served m (cplFlush p m) := by
  unfold cplFlush
  exact (served_hif ..).trans (.foldl served_cplWrite _)

/-! ## Events and write-back (R347, R361, R491) -/

theorem served_eventsWrite (f : Nat) (m : Pnm) : Served m (eventsWrite f m) := by
  have hput (t : Tel) (e : EvtFn) : Served m (putEvt f e { m with tel := t }) := (served_tel m t).trans (served_tel _ _)
  unfold eventsWrite
  dsimp only
  split
  · exact .ite (hput _ _) (((hput _ _).trans (served_modFn ..)).trans (.foldl (served_vecDue f) _))
  · exact .refl m

theorem served_writeBack (f : Nat) (now : List Nat) (m : Pnm) : Served m (writeBack f now m) := by
  unfold writeBack
  extract_lets m1 x go m2
  have hsaid : Served m m1 := (served_modFn f (fun s => { s with changed := false }) m).trans (served_tel _ _)
  have hsent : Served m1 m2 := served_putFn rfl
  exact .ite ((hsaid.trans hsent).trans (.foldl (served_vecSend f) _)) (.refl m)

/-! ## COMMIT messages (R443) -/

/-- The module after the COMMIT message of what was decided. -/
def commitSent (m : Pnm) : Pnm := commitSend (nowNs m) (commitCompleted (nowNs m) m)

theorem afterKick_serves (f : Nat) (m : Pnm) : Served (commitSent m) (afterKick f m) :=
  ((served_cplFlush ..).trans (served_eventsWrite ..)).trans (served_writeBack ..)

theorem touches_commitLater (e : List Byte) (m : Pnm) : Touches sendParts dropCnts m (commitLater e m) :=
  .ite (touches_par m _ (by decide)) (.refl _ _ m)

theorem touches_commitSend (t : Nat) (m : Pnm) : Touches sendParts dropCnts m (commitSend t m) :=
  .ite (.refl _ _ m) ((touches_par m _ (by decide)).trans (touches_pairSendBoth ..))

/-- A COMMIT message leaves through the ports of the pair. -/
theorem touches_commitSent (m : Pnm) : Touches sendParts dropCnts m (commitSent m) :=
  (Touches.foldl (fun _ _ k => touches_commitLater _ k) m).trans (touches_commitSend ..)

/-- Without a peer that takes commands, and with nothing that waits for it, no COMMIT message is sent. -/
theorem commitSent_alone (hm : mirroring m = false) (hc : m.par.commits = []) : commitSent m = m := by
  have hlater (e : List Byte) : commitLater e m = m := if_neg (ne_true_of_eq_false hm)
  have hdone : commitCompleted (nowNs m) m = m := foldl_of_fixed (fun c => hlater _) _
  rw [commitSent, hdone]
  exact if_pos hc

theorem mirroring_congr (hr : ∀ o ∈ [Reg.PAR_STAT, Reg.PAR_CFG, Reg.PAR_PEER], rd n o = rd m o) (hx : n.par = m.par) :
    mirroring n = mirroring m := by
  unfold mirroring peerTakes pairState rf rb
  rw [hr _ (by simp), hr _ (by simp), hr _ (by simp), hx]

theorem goesUnmirrored_congr {op : Op} (hr : n.regs = m.regs) (hx : n.par = m.par) :
    goesUnmirrored n op = goesUnmirrored m op := by
  unfold goesUnmirrored pairState rf rb
  rw [rd_congr hr, rd_congr hr, mirroring_congr (fun o _ => rd_congr hr o) hx]

end

/-! ## What an effect finds (R353, R363) -/

/-- One more command of a function is outstanding (R354). -/
def underway (f : Nat) (m : Pnm) : Pnm := modFn f (fun t => { t with outstanding := t.outstanding + 1 }) m

/-- The module that the effect of an accepted command finds: the command is outstanding, and the mark has its SEQ. -/
def accepted (f : Nat) (h : CmdHdr) (m : Pnm) : Pnm := takeSeq f h.seq false (underway f m)

/-- How a command that is decided by itself is known until it completes. -/
def aloneRef (f : Nat) (h : CmdHdr) (op : Op) (m : Pnm) : CmdRef :=
  { fn := f, seq := h.seq, opcode := op.code, acceptNs := nowNs m, kick := h.kick && rb m (Reg.fn f 0) 1,
    unmirrored := false, reaccepted := false }

section
variable {f : Nat} {h : CmdHdr} {op : Op} {m : Pnm}

theorem keeps_accepted (f : Nat) (h : CmdHdr) (m : Pnm) : Keeps [.regs, .hif] m (accepted f h m) :=
  ((keeps_hif (by simp) m _).trans (keeps_hif (by simp) _ _)).trans (keeps_wr (by simp) _ _ _)

theorem keepsRegs_accepted (f : Nat) (h : CmdHdr) (m : Pnm) : KeepsRegs [Reg.HIF_ACCEPTED] m (accepted f h m) :=
  keepsRegs_inc _ 1 (by simp)

@[simp] theorem out_accepted (f : Nat) (h : CmdHdr) (m : Pnm) : (accepted f h m).out = m.out := rfl

theorem rd_accepted_count (f : Nat) (h : CmdHdr) (m : Pnm) :
    rd (accepted f h m) Reg.HIF_ACCEPTED = rd m Reg.HIF_ACCEPTED + 1 := rd_wr_same _ _ _

theorem mark_accepted (f : Nat) (h : CmdHdr) (m : Pnm) : (getFn (accepted f h m) f).accSeq = h.seq := by
  have hput : getFn (accepted f h m) f = _ := getFn_putFn_same f _ _
  rw [hput]
  rfl

theorem rd_accepted_ne {o : Nat} (ho : o ≠ Reg.HIF_ACCEPTED) : rd (accepted f h m) o = rd m o :=
  keepsRegs_accepted f h m o fun hmem => ho (List.mem_singleton.mp hmem)

theorem standby_accepted (f : Nat) (h : CmdHdr) (m : Pnm) : standby (accepted f h m) = standby m :=
  standby_congr (rd_accepted_ne (by decide))

theorem mirroring_accepted (f : Nat) (h : CmdHdr) (m : Pnm) : mirroring (accepted f h m) = mirroring m :=
  mirroring_congr (fun o ho => rd_accepted_ne (by rintro rfl; exact absurd ho (by decide))) rfl

/-- An outstanding command changes neither the mark nor the SEQs to accept again. -/
theorem getFn_underway (f : Nat) (m : Pnm) :
    getFn (underway f m) f = { getFn m f with outstanding := (getFn m f).outstanding + 1 } := getFn_putFn_same f _ _

theorem reaccepts_underway (f : Nat) (seq : BitVec 32) (m : Pnm) : reaccepts (underway f m) f seq = reaccepts m f seq := by
  unfold reaccepts seqGap
  rw [getFn_underway]

theorem firstChecks_underway (f : Nat) (h : CmdHdr) (k : Bool) (op : Op) (m : Pnm) :
    firstChecks (underway f m) f { h with kick := k } op = firstChecks m f h op := by
  unfold firstChecks seqGap
  rw [reaccepts_underway, getFn_underway]
  rfl

theorem nowNs_underway (f : Nat) (m : Pnm) : nowNs (underway f m) = nowNs m := rfl

theorem sayUnmirrored_false (f : Nat) (m : Pnm) : sayUnmirrored f false m = m := by
  simp only [sayUnmirrored, Bool.false_and, Bool.or_false]
  rfl

/-- The module after the answer, if there is one. -/
def answered (ref : CmdRef) (done : Nat) : Pnm × Option Ans → Pnm
  | (m, some a) => completeAt ref a done m
  | (m, none) => m

theorem served_answered {ref : CmdRef} (hr : ref.replica = false) (done : Nat) (r : Pnm × Option Ans) :
    Served r.1 (answered ref done r) := by
  obtain ⟨m, _ | a⟩ := r
  · exact .refl m
  · exact served_completeAt (.inl hr) a done

/-- A standby decides no work opcode (R353). -/
theorem standby_of_firstChecks (hw : isWork op = true) (h0 : firstChecks m f h op = 0) : standby m = false := by
  cases hs : standby m with
  | false => rfl
  | true => simp [firstChecks, hw, hs] at h0

end

/-! ## The decision -/

section
variable {f : Nat} {h : CmdHdr} {op : Op} {m : Pnm} {mem : Memory} {r : Pnm × Option Ans}

/-- A command that passes the first checks takes its SEQ, has its effect and is answered. -/
theorem decideCmd_accepts {accept done : Nat} (hre : reaccepts m f h.seq = false) (h0 : firstChecks m f h op = 0)
    (he : opEffect { fn := f, seq := h.seq, opcode := op.code, acceptNs := accept, kick := h.kick, unmirrored := false,
                     reaccepted := false } h op (takeSeq f h.seq false m, mem) = ((r.1, mem), r.2)) :
    (decideCmd f h op accept done false (m, mem)).1 =
      (answered { fn := f, seq := h.seq, opcode := op.code, acceptNs := accept, kick := h.kick, unmirrored := false,
                  reaccepted := false } done r, mem) := by
  obtain ⟨n, a⟩ := r
  simp only [decideCmd, hre, h0, Bool.false_and, he, ne_eq, not_true_eq_false, if_false]
  cases a with
  | none => rfl
  | some a => rfl

/-- Nothing of a command that no peer takes part in waits for a COMMIT message. -/
theorem decideOne_alone {accept done : Nat} (hu : goesUnmirrored m op = false) (hm : mirroring m = false) :
    decideOne f h op accept done (m, mem) = (decideCmd f h op accept done false (m, mem)).1 := by
  simp only [decideOne, hu, hm, onM, sayUnmirrored_false, Bool.and_false, Bool.false_eq_true, if_false]

end

section
variable {s : State} {c : Instr} {f : Nat} {h : CmdHdr} {op : Op} {r : Pnm × Option Ans}

/-- What a command makes of the module it finds is its effect and no capture byte. -/
def HasEffect (f : Nat) (h : CmdHdr) (op : Op) (s : State) (r : Pnm × Option Ans) : Prop :=
  opEffect (aloneRef f h op s.m) { h with kick := h.kick && rb s.m (Reg.fn f 0) 1 } op (accepted f h s.m, s.mem) =
    ((r.1, s.mem), r.2)

/-- The command takes the mark, has its effect, and its completion is written. -/
theorem decideNow_of_decides (hd : Decides f h op s) (h0 : firstChecks s.m f h op = 0) (he : HasEffect f h op s r) :
    decideNow f h op (s.m, s.mem) =
      (afterKick f (answered (aloneRef f h op s.m) (nowNs s.m) r), s.mem) := by
  obtain ⟨hlive, -, hon, hre, hleases, hmir, hunm, -⟩ := hd
  have hgo : (alive s.m && fnOn s.m f) = true := by rw [hon, Bool.and_true]; exact hlive
  have hu : goesUnmirrored (underway f s.m) op = false := (goesUnmirrored_congr rfl rfl).trans hunm
  have hm : mirroring (underway f s.m) = false := (mirroring_congr (fun _ _ => rd_congr rfl _) rfl).trans hmir
  have hcmd : (decideCmd f { h with kick := h.kick && rb s.m (Reg.fn f 0) 1 } op (nowNs s.m) (nowNs s.m) false
      (underway f s.m, s.mem)).1 = (answered (aloneRef f h op s.m) (nowNs s.m) r, s.mem) :=
    decideCmd_accepts ((reaccepts_underway f h.seq s.m).trans hre) ((firstChecks_underway f h _ op s.m).trans h0) he
  unfold decideNow
  rw [if_pos hgo]
  change onM (afterKick f) (decideOne f _ op (nowNs (underway f (leasesEnd s.m))) (nowNs (underway f (leasesEnd s.m)))
    (underway f (leasesEnd s.m), s.mem)) = _
  rw [hleases, nowNs_underway, decideOne_alone hu hm, hcmd]
  rfl

/-- How a command runs whose effect is known: the COMMIT message, if there is one, and the service of the rings follow. -/
theorem runs_of_effect {ps : List Part} {os : List Nat} {P : Pnm → Prop}
    (hc : exec c s = runMem (whenAliveM (onFnM f (decideNow f h op))) s) (hos : Reg.HIF_ACCEPTED ∉ os)
    (he : Decides f h op s → firstChecks s.m f h op = 0 → ∃ r, HasEffect f h op s r ∧
      (∀ n, Served r.1 n → Keeps (.regs :: .tel :: .hif :: ps) (accepted f h s.m) (commitSent n) ∧
        KeepsRegs os (accepted f h s.m) (commitSent n) ∧ KeepsMarks (accepted f h s.m) (commitSent n) ∧
        (commitSent n).out = r.1.out ∧ (commitSent n).cye = r.1.cye) ∧
      ∀ n, n.out = r.1.out → n.cye = r.1.cye → P n) :
    Runs c f h op s ps os P := by
  intro hd h0
  obtain ⟨r, heff, hframe, hP⟩ := he hd h0
  have hans := served_answered (ref := aloneRef f h op s.m) rfl (nowNs s.m) r
  obtain ⟨hkeep, hregs, hmarks, hout, hcye⟩ := hframe _ hans
  generalize hn : answered (aloneRef f h op s.m) (nowNs s.m) r = n at hkeep hregs hmarks hout hcye
  have hserved := afterKick_serves f n
  have hrest : KeepsRegs os (accepted f h s.m) (afterKick f n) := hregs.trans (.of_regs hserved.regs)
  refine ⟨afterKick f n, s.mem, ?_, ?_, ?_, fun _ _ => rfl, ?_, ?_, hP _ (hserved.out.trans hout) (hserved.cye.trans hcye)⟩
  · have hnow := decideNow_of_decides hd h0 heff
    obtain ⟨hlive, hf, -⟩ := hd
    rw [hn] at hnow
    rw [hc, runMem, whenAliveM, if_pos hlive, onFnM, if_pos hf, hnow]
  · exact (((keeps_accepted f h s.m).mono (by simp)).trans hkeep).trans (hserved.parts.mono (by simp))
  · exact ((keepsRegs_accepted f h s.m).mono (by simp)).trans (hrest.mono (List.subset_cons_self _ _))
  · exact (hserved.marks f).trans ((hmarks f).trans (mark_accepted f h s.m))
  · exact (hrest _ hos).trans (rd_accepted_count f h s.m)

/-- A command whose effect reaches neither the registers nor the pair: no COMMIT message follows. -/
theorem runs_of_quiet_effect {ps : List Part} {P : Pnm → Prop}
    (hc : exec c s = runMem (whenAliveM (onFnM f (decideNow f h op))) s) (hps : .regs ∉ ps ∧ .par ∉ ps)
    (he : Decides f h op s → firstChecks s.m f h op = 0 → ∃ r, HasEffect f h op s r ∧
      Keeps (.tel :: .hif :: ps) (accepted f h s.m) r.1 ∧ KeepsMarks (accepted f h s.m) r.1 ∧
      ∀ n, n.out = r.1.out → n.cye = r.1.cye → P n) :
    Runs c f h op s ps [] P := by
  refine runs_of_effect hc (List.not_mem_nil) fun hd h0 => ?_
  obtain ⟨r, heff, hkeep, hmarks, hP⟩ := he hd h0
  obtain ⟨-, -, -, -, -, hmir, -, hcommits⟩ := hd
  refine ⟨r, heff, fun n hn => ?_, hP⟩
  have hall : Keeps (.tel :: .hif :: ps) (accepted f h s.m) n := hkeep.trans (hn.parts.mono (by simp))
  have hregs : n.regs = (accepted f h s.m).regs := hall .regs (by simp [hps])
  have hpar : n.par = s.m.par := hall .par (by simp [hps])
  have hnot : mirroring n = false :=
    (mirroring_congr (fun o _ => rd_congr hregs o) hpar).trans
      ((mirroring_accepted f h s.m).trans hmir)
  rw [commitSent_alone hnot (by rw [hpar, hcommits])]
  exact ⟨hall.mono (List.subset_cons_self _ _), .of_regs hregs, hmarks.trans hn.marks, hn.out, hn.cye⟩

/-- A command whose effect may send frames: a COMMIT message is among them. -/
theorem runs_of_sending_effect {ps : List Part} {os : List Nat} {P : Pnm → Prop}
    (hc : exec c s = runMem (whenAliveM (onFnM f (decideNow f h op))) s) (hos : Reg.HIF_ACCEPTED ∉ os)
    (hps : sendParts ⊆ .regs :: .tel :: .hif :: ps) (hdrop : dropCnts ⊆ os)
    (he : Decides f h op s → firstChecks s.m f h op = 0 → ∃ r, HasEffect f h op s r ∧
      Keeps (.regs :: .tel :: .hif :: ps) (accepted f h s.m) r.1 ∧ KeepsRegs os (accepted f h s.m) r.1 ∧
      KeepsMarks (accepted f h s.m) r.1 ∧ ∀ n, n.out = r.1.out → n.cye = r.1.cye → P n) :
    Runs c f h op s ps os P := by
  refine runs_of_effect hc hos fun hd h0 => ?_
  obtain ⟨r, heff, hkeep, hregs, hmarks, hP⟩ := he hd h0
  refine ⟨r, heff, fun n hn => ?_, hP⟩
  have hsent := touches_commitSent n
  have hhif : (commitSent n).hif = n.hif := hsent.parts .hif (by decide)
  exact ⟨(hkeep.trans (hn.parts.mono (by simp))).trans (hsent.parts.mono hps),
    (hregs.trans (.of_regs hn.regs)).trans (hsent.regs.mono hdrop), (hmarks.trans hn.marks).trans (.of_hif hhif),
    (hsent.parts .out (by decide)).trans hn.out, (hsent.parts .cye (by decide)).trans hn.cye⟩

/-- A command that is refused changes nothing but the mark, and its completion says why. -/
theorem runs_of_refusal {a : Ans} (hc : exec c s = runMem (whenAliveM (onFnM f (decideNow f h op))) s)
    (he : HasEffect f h op s (accepted f h s.m, some a)) : Runs c f h op s [] [] fun _ => True :=
  runs_of_quiet_effect hc (by simp) fun _ _ => ⟨_, he, .refl _ _, .refl _, fun _ _ _ => trivial⟩

end

end Commands
end Machine
end Sys2Proof
end

section
/-! PROOFS. Publish and lock commands (R290, R291, R298, R299, R302): what a publication makes of its PCB, and what a lock
command makes of its lock. -/

namespace Sys2Proof
namespace Machine
namespace Publication
open Leapfrog Commands

/-! ## PCBs and locks after a write -/

@[simp] theorem getPub_putPub_same (i : Nat) (x : PubSt) (m : Pnm) : getPub (putPub i x m) i = x := NMap.get_set_same _ _ _ _

theorem getPub_putPub_ne {i j : Nat} (h : j ≠ i) (x : PubSt) (m : Pnm) : getPub (putPub i x m) j = getPub m j :=
  NMap.get_set_ne _ _ _ _ _ h

@[simp] theorem getLock_putLock_same (k : Nat) (l : Lock) (m : Pnm) : getLock (putLock k l m) k = l := NMap.get_set_same _ _ _ _

theorem getLock_putLock_ne {k j : Nat} (h : j ≠ k) (l : Lock) (m : Pnm) : getLock (putLock k l m) j = getLock m j :=
  NMap.get_set_ne _ _ _ _ _ h

section
variable {m n : Pnm} (h : n.out = m.out)
include h

theorem getPub_congr (i : Nat) : getPub n i = getPub m i := by rw [getPub, getPub, h]
theorem pcbEntry_congr (i : Nat) : pcbEntry n i = pcbEntry m i := by rw [pcbEntry, pcbEntry, h]
theorem pDesc_congr (e : List Word) (j : Nat) : pDesc n e j = pDesc m e j := by rw [pDesc, pDesc, h]
theorem getLock_congr (k : Nat) : getLock n k = getLock m k := by rw [getLock, getLock, h]
theorem lockOf_congr (obj : Nat) : lockOf n obj = lockOf m obj := by rw [lockOf, lockOf, h]
theorem freeLock_congr : freeLock n = freeLock m := by simp only [freeLock, getLock_congr h]
theorem lockUse_congr (f : Nat) : lockUse n f = lockUse m f := by rw [lockUse, lockUse, h]

/-- Whether a write of a member changes it rests on OUT's tables and states alone. -/
theorem putMember_changes_congr (i j writer : Nat) (x : Nat → Int × Nat) (q : Nat) :
    (putMember i j writer x q n).2 = (putMember i j writer x q m).2 := by
  unfold putMember
  simp only [getPub_congr h, pcbEntry_congr h, pDesc_congr h]
  repeat' split
  all_goals rfl

end

theorem pubCounts_congr {m n : Pnm} (h : rd n Reg.PAR_STAT = rd m Reg.PAR_STAT) : pubCounts n = pubCounts m := by
  unfold pubCounts releases inMaint pairState rf
  rw [h]

/-! ## One PCB at a time (R282 to R285, R291) -/

/-- No PCB but `i` is another in `n` than in `m`, and the commands that PCB `i` holds stay. -/
structure OnlyPub (i : Nat) (m n : Pnm) : Prop where
  others : ∀ j, j ≠ i → getPub n j = getPub m j
  held : (getPub n i).held = (getPub m i).held

section
variable {i : Nat} {m n k : Pnm}

theorem OnlyPub.refl (i : Nat) (m : Pnm) : OnlyPub i m m := ⟨fun _ _ => rfl, rfl⟩

theorem OnlyPub.trans (h : OnlyPub i m n) (h' : OnlyPub i n k) : OnlyPub i m k :=
  ⟨fun j hj => (h'.others j hj).trans (h.others j hj), h'.held.trans h.held⟩

theorem OnlyPub.of_out (h : n.out = m.out) : OnlyPub i m n := ⟨fun j _ => getPub_congr h j, congrArg _ (getPub_congr h i)⟩

theorem onlyPub_putPub (i : Nat) (x : PubSt) (m : Pnm) (h : x.held = (getPub m i).held := by rfl) :
    OnlyPub i m (putPub i x m) :=
  ⟨fun _ hj => getPub_putPub_ne hj x m, by rw [getPub_putPub_same, h]⟩

/-- A transmission counts its sPDU and says whether it could be signed; the state that it sends stays (R286, R287). -/
structure SentAs (i : Nat) (m n : Pnm) : Prop where
  only : OnlyPub i m n
  stNum : (getPub n i).stNum = (getPub m i).stNum
  sqNum : (getPub n i).sqNum = (getPub m i).sqNum
  change : (getPub n i).change = (getPub m i).change

theorem SentAs.trans_out (h : SentAs i m n) (h' : k.out = n.out) : SentAs i m k := by
  have hk := getPub_congr h' i
  exact ⟨h.only.trans (.of_out h'), hk ▸ h.stNum, hk ▸ h.sqNum, hk ▸ h.change⟩

theorem sentAs_putPub (i : Nat) (m : Pnm) (spdu : Nat) (bad : Bool) :
    SentAs i m (putPub i { getPub m i with spdu := spdu, signBad := bad } m) := by
  refine ⟨onlyPub_putPub .., ?_, ?_, ?_⟩ <;> rw [getPub_putPub_same]

theorem sentAs_pubSend (i : Nat) (m : Pnm) : SentAs i m (pubSend i m) := by
  unfold pubSend
  dsimp only
  split
  next => exact (sentAs_putPub i m (getPub m i).spdu true).trans_out rfl
  next tag _ =>
    split
    next =>
      have hout (g : GooseTx) (mask : Nat) (k : Pnm) : (inc (pubEnqueue g mask k) Reg.OUT_PUB_SENT).out = k.out :=
        (touches_pubEnqueue g mask k).parts .out (by decide)
      have hnotice (b : List Byte) (k : Pnm) : (pairSendBoth 6 b k).out = k.out :=
        (touches_pairSendBoth 6 b k).parts .out (by decide)
      split
      · exact ((sentAs_putPub i m _ false).trans_out (hout ..)).trans_out (hnotice ..)
      · exact (sentAs_putPub i m _ false).trans_out (hout ..)
    next => exact sentAs_putPub i m (getPub m i).spdu false

/-- A state change of PCB `i` at an instant: stNum rises by one step and sqNum is 0 (R284). -/
structure StateChanged (i at' : Nat) (m n : Pnm) : Prop where
  stNum : (getPub n i).stNum = numUp (getPub m i).stNum
  sqNum : (getPub n i).sqNum = 0
  change : (getPub n i).change = at'

theorem onlyPub_stateChange (i at' : Nat) (m : Pnm) : OnlyPub i m (stateChange i at' m) := by
  unfold stateChange
  dsimp only
  split
  · exact (onlyPub_putPub ..).trans (sentAs_pubSend ..).only
  · exact .refl i m

theorem stateChanged_stateChange (at' : Nat) (h : pubCounts m = true) : StateChanged i at' m (stateChange i at' m) := by
  unfold stateChange
  rw [if_pos h]
  have hsent := sentAs_pubSend i
  exact ⟨(hsent _).stNum.trans (congrArg PubSt.stNum (getPub_putPub_same ..)),
    (hsent _).sqNum.trans (congrArg PubSt.sqNum (getPub_putPub_same ..)),
    (hsent _).change.trans (congrArg PubSt.change (getPub_putPub_same ..))⟩

theorem onlyPub_mergeChange (i at' : Nat) (m : Pnm) : OnlyPub i m (mergeChange i at' m) := by
  unfold mergeChange
  split
  · exact .of_out rfl
  · exact (onlyPub_stateChange ..).trans (onlyPub_putPub ..)

/-- Unless a change of the same instant came before, a change is a state change of its own (R283). -/
theorem stateChanged_mergeChange {at' : Nat} (h : pubCounts m = true) (hm : (getPub m i).merge ≠ some at') :
    StateChanged i at' m (mergeChange i at' m) := by
  obtain ⟨hst, hsq, hch⟩ := stateChanged_stateChange (i := i) at' h
  unfold mergeChange
  rw [if_neg hm]
  exact ⟨(congrArg PubSt.stNum (getPub_putPub_same ..)).trans hst, (congrArg PubSt.sqNum (getPub_putPub_same ..)).trans hsq,
    (congrArg PubSt.change (getPub_putPub_same ..)).trans hch⟩

/-- A write of a member changes at most the values of its PCB. -/
theorem putMember_states (i j writer : Nat) (x : Nat → Int × Nat) (q : Nat) (m : Pnm) :
    OnlyPub i m (putMember i j writer x q m).1 ∧
      ∃ v, getPub (putMember i j writer x q m).1 i = { getPub m i with vals := v } := by
  unfold putMember
  dsimp only
  split
  · exact ⟨.refl i m, _, rfl⟩
  · split
    · exact ⟨.of_out rfl, _, rfl⟩
    · exact ⟨onlyPub_putPub .., _, getPub_putPub_same ..⟩

end

/-! ## PUBLISH (R290, R291) -/

section
variable {i at' : Nat} {p : HeldPub} {m : Pnm}

/-- One item of a publication command after those before it, with whether any changed a member. -/
def putItem (i : Nat) (a : Pnm × Bool) (x : PubItem) : Pnm × Bool :=
  ((putMember i x.member.toNat 1 (fun t => hostTo t x.value) x.quality.toNat a.1).1,
   a.2 || (putMember i x.member.toNat 1 (fun t => hostTo t x.value) x.quality.toNat a.1).2)

/-- The module after the items of a publication command. -/
def putItems (i : Nat) (items : List PubItem) (m : Pnm) : Pnm × Bool := items.foldl (putItem i) (m, false)

theorem pubEffect_eq (i at' : Nat) (p : HeldPub) (m : Pnm) :
    ∃ ev, (pubEffect i at' p m).1 =
      raiseIf p.late ev (if (putItems i p.items m).2 then mergeChange i at' (putItems i p.items m).1
        else (putItems i p.items m).1) := ⟨_, rfl⟩

theorem putItems_frame (i : Nat) (items : List PubItem) (m : Pnm) :
    Touches pubParts pubRegs m (putItems i items m).1 ∧ OnlyPub i m (putItems i items m).1 :=
  List.foldlRecOn items _ (motive := fun (a : Pnm × Bool) => Touches pubParts pubRegs m a.1 ∧ OnlyPub i m a.1)
    ⟨.refl _ _ m, .refl i m⟩ fun _ ha _ _ =>
    ⟨ha.1.trans (touches_putMember ..), ha.2.trans (putMember_states ..).1⟩

/-- A publication reaches its PCB, the frames that it sends, and no command that waits. -/
theorem pubEffect_frame (i at' : Nat) (p : HeldPub) (m : Pnm) :
    Touches pubParts pubRegs m (pubEffect i at' p m).1 ∧ OnlyPub i m (pubEffect i at' p m).1 := by
  obtain ⟨ev, heq⟩ := pubEffect_eq i at' p m
  obtain ⟨htouch, honly⟩ := putItems_frame i p.items m
  rw [heq]
  split
  · exact ⟨(htouch.trans (touches_mergeChange ..)).trans (touches_tel _ _ (by decide)),
      (honly.trans (onlyPub_mergeChange ..)).trans (.of_out rfl)⟩
  · exact ⟨htouch.trans (touches_tel _ _ (by decide)), honly.trans (.of_out rfl)⟩

/-- A command of one item that changes its member is a state change at its instant. -/
theorem stateChanged_pubEffect {x : PubItem} (hx : p.items = [x]) (hc : pubCounts m = true)
    (hm : (getPub m i).merge ≠ some at')
    (h : (putMember i x.member.toNat 1 (fun t => hostTo t x.value) x.quality.toNat m).2 = true) :
    StateChanged i at' m (pubEffect i at' p m).1 := by
  obtain ⟨ev, heq⟩ := pubEffect_eq i at' p m
  obtain ⟨-, v, hv⟩ := putMember_states i x.member.toNat 1 (fun t => hostTo t x.value) x.quality.toNat m
  have htouch := touches_putMember i x.member.toNat 1 (fun t => hostTo t x.value) x.quality.toNat m
  have hitems : putItems i p.items m = putMember i x.member.toNat 1 (fun t => hostTo t x.value) x.quality.toNat m := by
    rw [hx]; exact Prod.ext rfl (Bool.false_or _)
  rw [hitems, if_pos h] at heq
  generalize (putMember i x.member.toNat 1 (fun t => hostTo t x.value) x.quality.toNat m).1 = n at hv htouch heq
  have hcn : pubCounts n = true := (pubCounts_congr (htouch.regs Reg.PAR_STAT (by decide))).trans hc
  obtain ⟨hst, hsq, hch⟩ := stateChanged_mergeChange (i := i) (at' := at') hcn (by rw [hv]; exact hm)
  rw [heq]
  exact ⟨hst.trans (by rw [hv]), hsq, hch⟩

end

/-- The checks that a publication command with target `target` passes (R290, R353). -/
structure MayPublish (f count pcb target : Nat) (items : List PubItem) (m : Pnm) : Prop where
  some : count ≠ 0
  most : count ≤ 256
  members : ∀ x ∈ items, x.member.toNat < pMembers (pcbEntry m pcb) ∧
    dWriter (pDesc m (pcbEntry m pcb) x.member.toNat) = 1
  enabled : pEn (pcbEntry m pcb) = true
  owner : pOwner (pcbEntry m pcb) = f
  near : target * unitNs ≤ nowU m + 10 * unitS

section
variable {f count pcb target : Nat} {items : List PubItem} {m : Pnm}

theorem MayPublish.no_bad_item (h : MayPublish f count pcb target items m) :
    ¬ (256 < count ∨ items.any (fun p => decide (pMembers (pcbEntry m pcb) ≤ p.member.toNat ∨
      dWriter (pDesc m (pcbEntry m pcb) p.member.toNat) ≠ 1)) = true) := by
  simp only [List.any_eq_true, decide_eq_true_eq, not_or, not_exists, not_and, Nat.not_lt]
  refine ⟨h.most, fun x hx => ?_⟩
  obtain ⟨hmem, hwr⟩ := h.members x hx
  exact ⟨Nat.not_le_of_lt hmem, not_not_intro hwr⟩

/-- A publication command before its target is held behind the others (R291). -/
theorem publish_holds (h : MayPublish f count pcb target items m) (hnow : nowU m < target * unitNs)
    (hroom : (getPub m pcb).held.length < 8) (ref : CmdRef) (lock : Option Nat) (lateOk : Bool) :
    publish ref lock f count pcb target lateOk items m =
      (putPub pcb { getPub m pcb with held := (getPub m pcb).held ++
        [{ ref := ref, lock := lock, items := items, target := target * unitNs, late := false }] } m, none) := by
  have howner : ¬ (pEn (pcbEntry m pcb) = false ∨ pOwner (pcbEntry m pcb) ≠ f) := by simp [h.enabled, h.owner]
  unfold publish
  dsimp only
  rw [if_neg h.some, if_neg h.no_bad_item, if_neg (Nat.not_lt.mpr h.near), if_neg howner, if_neg (by omega), if_pos hnow,
    if_neg (Nat.not_le_of_lt hroom)]

/-- A publication command without a target takes effect at once (R291). -/
theorem publish_at_once (h : MayPublish f count pcb 0 items m) (ref : CmdRef) (lock : Option Nat) (lateOk : Bool) :
    ∃ p a, publish ref lock f count pcb 0 lateOk items m = ((pubEffect pcb (nowU m) p m).1, a) ∧ p.items = items := by
  have howner : ¬ (pEn (pcbEntry m pcb) = false ∨ pOwner (pcbEntry m pcb) ≠ f) := by simp [h.enabled, h.owner]
  unfold publish
  dsimp only
  rw [if_neg h.some, if_neg h.no_bad_item, if_neg (Nat.not_lt.mpr h.near), if_neg howner, if_neg (by simp), if_neg (by simp)]
  exact ⟨_, _, rfl, rfl⟩

end

section
variable {s : State} {fn : BitVec 9} {h : CmdHdr} {count : BitVec 9} {pcb : BitVec 10} {items : List PubItem}

theorem hasEffect_publish (f : Nat) : HasEffect f h (.publish count pcb items) s
    (publish (aloneRef f h (.publish count pcb items) s.m) none f count.toNat pcb.toNat h.target.toNat h.lateOk items
      (accepted f h s.m)) := rfl

/-- An accepted command finds the PCB's entry and state as they were. -/
theorem MayPublish.accepted {f : Nat} (hp : MayPublish f count.toNat pcb.toNat h.target.toNat items s.m) :
    MayPublish f count.toNat pcb.toNat h.target.toNat items (accepted f h s.m) :=
  ⟨hp.some, hp.most, hp.members, hp.enabled, hp.owner, hp.near⟩

theorem publish_is_held (hp : MayPublish fn.toNat count.toNat pcb.toNat h.target.toNat items s.m)
    (hnow : nowU s.m < h.target.toNat * unitNs) (hroom : (getPub s.m pcb.toNat).held.length < 8) :
    Runs (.publish fn h count pcb items) fn.toNat h (.publish count pcb items) s [.out] [] fun n =>
      (∃ x : HeldPub, getPub n pcb.toNat = { getPub s.m pcb.toNat with held := (getPub s.m pcb.toNat).held ++ [x] } ∧
        x.items = items ∧ x.target = h.target.toNat * unitNs) ∧
      ∀ j, j ≠ pcb.toNat → getPub n j = getPub s.m j := by
  have heff := hasEffect_publish (s := s) (h := h) (count := count) (pcb := pcb) (items := items) fn.toNat
  rw [publish_holds hp.accepted hnow hroom] at heff
  refine runs_of_quiet_effect rfl (by simp) fun _ _ =>
    ⟨_, heff, keeps_out (by simp) _ _, .of_hif rfl, fun n hout _ =>
      ⟨⟨_, (getPub_congr hout _).trans (getPub_putPub_same ..), rfl, rfl⟩,
        fun j hj => (getPub_congr hout j).trans (getPub_putPub_ne hj ..)⟩⟩

theorem publish_changes_at_once (ht : h.target = 0)
    (hp : MayPublish fn.toNat count.toNat pcb.toNat h.target.toNat items s.m) :
    Runs (.publish fn h count pcb items) fn.toNat h (.publish count pcb items) s [.mac, .out, .par]
      ([Reg.OUT_FLAGS, Reg.OUT_PUB_SENT] ++ dropCnts) fun n =>
      (getPub n pcb.toNat).held = (getPub s.m pcb.toNat).held ∧ (∀ j, j ≠ pcb.toNat → getPub n j = getPub s.m j) ∧
      ∀ x : PubItem, items = [x] → pubCounts s.m = true → (getPub s.m pcb.toNat).merge ≠ some (nowU s.m) →
        (putMember pcb.toNat x.member.toNat 1 (fun t => hostTo t x.value) x.quality.toNat s.m).2 = true →
        (getPub n pcb.toNat).stNum = numUp (getPub s.m pcb.toNat).stNum ∧ (getPub n pcb.toNat).sqNum = 0 ∧
        (getPub n pcb.toNat).change = nowU s.m := by
  have ht0 : h.target.toNat = 0 := by rw [ht]; rfl
  have hacc := hp.accepted
  have heff := hasEffect_publish (s := s) (h := h) (count := count) (pcb := pcb) (items := items) fn.toNat
  rw [ht0] at hacc heff
  obtain ⟨p, a, hpub, hitems⟩ := publish_at_once hacc (aloneRef fn.toNat h (.publish count pcb items) s.m) none h.lateOk
  rw [hpub] at heff
  obtain ⟨htouch, honly⟩ := pubEffect_frame pcb.toNat (nowU (accepted fn.toNat h s.m)) p (accepted fn.toNat h s.m)
  have hregs : KeepsRegs ([Reg.OUT_FLAGS, Reg.OUT_PUB_SENT] ++ dropCnts) (accepted fn.toNat h s.m) _ := htouch.regs
  refine runs_of_sending_effect rfl (by decide) (by decide) (by simp) fun _ _ =>
    ⟨_, heff, htouch.parts.mono (by decide), hregs, .of_hif (htouch.parts .hif (by decide)), fun n hout _ => ?_⟩
  have hn := getPub_congr hout
  refine ⟨(congrArg _ (hn _)).trans honly.held, fun j hj => (hn j).trans (honly.others j hj), fun x hx hc hm hv => ?_⟩
  obtain ⟨hst, hsq, hch⟩ := stateChanged_pubEffect (hitems.trans hx)
    ((pubCounts_congr (rd_accepted_ne (by decide))).trans hc) hm
    ((putMember_changes_congr (out_accepted ..) _ _ _ _ _).trans hv)
  exact ⟨(congrArg _ (hn _)).trans hst, (congrArg _ (hn _)).trans hsq, (congrArg _ (hn _)).trans hch⟩

end

/-! ## SELECT and RENEW (R298) -/

section
variable {a f obj ms k : Nat} {keep : Bool} {m : Pnm}

theorem lockSelect_takes (hb : badLease ms = false) (ho : lockOf m obj = none) (hf : freeLock m = some k)
    (hu : lockUse m f < lockShare m f) :
    lockSelect a f obj ms keep m =
      (putLock k { state := 1, keep := keep, owner := f, obj := obj, pairId := rf m Reg.PAR_ID 15 0, leaseMs := ms,
                   leaseEnd := a + ms * 1000000 } m, some (ansR 0 k 0)) := by
  unfold lockSelect
  rw [if_neg (ne_true_of_eq_false hb), ho]
  dsimp only
  rw [hf]
  exact if_neg (Nat.not_le_of_lt hu)

theorem lockSelect_restarts (hb : badLease ms = false) (ho : lockOf m obj = some k)
    (hl : (getLock m k).owner = f ∧ (getLock m k).state = 1) :
    lockSelect a f obj ms keep m =
      (putLock k { getLock m k with keep := keep, leaseMs := ms, leaseEnd := a + ms * 1000000 } m,
       some (ansR 0 k 0)) := by
  unfold lockSelect
  rw [if_neg (ne_true_of_eq_false hb), ho]
  exact if_pos hl

theorem lockSelect_refuses (hb : badLease ms = false) (ho : lockOf m obj = some k) (hl : (getLock m k).owner ≠ f) :
    lockSelect a f obj ms keep m = (m, some (ans 0x1B)) := by
  unfold lockSelect
  rw [if_neg (ne_true_of_eq_false hb), ho]
  exact if_neg fun hown => hl hown.1

theorem lockRenew_restarts (hb : badLease ms = false) (ho : lockOf m obj = some k)
    (hl : (getLock m k).owner = f ∧ (getLock m k).state = 1) :
    lockRenew a f obj ms m =
      (putLock k { getLock m k with leaseMs := ms, leaseEnd := a + ms * 1000000 } m, some (ansR 0 k 0)) := by
  unfold lockRenew
  rw [if_neg (ne_true_of_eq_false hb), ho]
  exact if_pos hl

theorem lockRenew_refuses (hb : badLease ms = false) (ho : lockOf m obj = some k) (hl : (getLock m k).owner ≠ f) :
    lockRenew a f obj ms m = (m, some (ans 0x1C)) := by
  unfold lockRenew
  rw [if_neg (ne_true_of_eq_false hb), ho]
  exact if_neg fun hown => hl hown.1

end

section
variable {s : State} {fn : BitVec 9} {h : CmdHdr} {obj ms : BitVec 32} {keep : Bool} {k : Nat}

theorem lockOf_accepted (f : Nat) (h : CmdHdr) (m : Pnm) (obj : Nat) : lockOf (accepted f h m) obj = lockOf m obj :=
  lockOf_congr (out_accepted f h m) obj

theorem getLock_accepted (f : Nat) (h : CmdHdr) (m : Pnm) (k : Nat) : getLock (accepted f h m) k = getLock m k :=
  getLock_congr (out_accepted f h m) k

/-- The registers of shares lie above the counter of accepted commands. -/
theorem lockShare_accepted (f : Nat) (h : CmdHdr) (m : Pnm) (g : Nat) : lockShare (accepted f h m) g = lockShare m g := by
  have hshare : rd (accepted f h m) (Reg.shr g 1) = rd m (Reg.shr g 1) :=
    rd_accepted_ne (by simp only [Reg.shr, Reg.HIF_SHR_CTRL, Reg.HIF_ACCEPTED]; omega)
  exact rf_congr hshare 24 16

/-- A command that writes one lock and nothing else. -/
theorem runs_of_putLock {c : Instr} {f : Nat} {op : Op} {l : Lock} {a : Ans}
    (hc : exec c s = runMem (whenAliveM (onFnM f (decideNow f h op))) s)
    (he : HasEffect f h op s (putLock k l (accepted f h s.m), some a)) :
    Runs c f h op s [.out] [] fun n => (∀ j, j ≠ k → getLock n j = getLock s.m j) ∧ getLock n k = l :=
  runs_of_quiet_effect hc (by simp) fun _ _ => ⟨_, he, keeps_out (by simp) _ _, .of_hif rfl, fun _ hout _ =>
    ⟨fun j hj => (getLock_congr hout j).trans (getLock_putLock_ne hj ..),
      (getLock_congr hout k).trans (getLock_putLock_same ..)⟩⟩

theorem hasEffect_lockSelect (f : Nat) : HasEffect f h (.lockSelect obj ms keep) s
    (lockSelect (nowNs s.m) f obj.toNat ms.toNat keep (accepted f h s.m)) := rfl

theorem hasEffect_lockRenew (f : Nat) : HasEffect f h (.lockRenew obj ms) s
    (lockRenew (nowNs s.m) f obj.toNat ms.toNat (accepted f h s.m)) := rfl

theorem select_takes_free_lock (hb : badLease ms.toNat = false) (ho : lockOf s.m obj.toNat = none)
    (hf : freeLock s.m = some k) (hu : lockUse s.m fn.toNat < lockShare s.m fn.toNat) :
    Runs (.lockSelect fn h obj ms keep) fn.toNat h (.lockSelect obj ms keep) s [.out] [] fun n =>
      (∀ j, j ≠ k → getLock n j = getLock s.m j) ∧ getLock n k =
        { state := 1, keep := keep, owner := fn.toNat, obj := obj.toNat, pairId := rf s.m Reg.PAR_ID 15 0,
          leaseMs := ms.toNat, leaseEnd := nowNs s.m + ms.toNat * 1000000 } := by
  have heff := hasEffect_lockSelect (s := s) (h := h) (obj := obj) (ms := ms) (keep := keep) fn.toNat
  have hid : rf (accepted fn.toNat h s.m) Reg.PAR_ID 15 0 = rf s.m Reg.PAR_ID 15 0 :=
    rf_congr (rd_accepted_ne (by decide)) 15 0
  have hroom : lockUse (accepted fn.toNat h s.m) fn.toNat < lockShare (accepted fn.toNat h s.m) fn.toNat := by
    rw [lockShare_accepted, lockUse_congr (out_accepted ..)]; exact hu
  rw [lockSelect_takes hb ((lockOf_accepted ..).trans ho) ((freeLock_congr (out_accepted ..)).trans hf) hroom, hid] at heff
  exact runs_of_putLock rfl heff

theorem select_restarts_own_lease (hb : badLease ms.toNat = false) (ho : lockOf s.m obj.toNat = some k)
    (hown : (getLock s.m k).owner = fn.toNat) (hst : (getLock s.m k).state = 1) :
    Runs (.lockSelect fn h obj ms keep) fn.toNat h (.lockSelect obj ms keep) s [.out] [] fun n =>
      (∀ j, j ≠ k → getLock n j = getLock s.m j) ∧ getLock n k =
        { getLock s.m k with keep := keep, leaseMs := ms.toNat, leaseEnd := nowNs s.m + ms.toNat * 1000000 } := by
  have heff := hasEffect_lockSelect (s := s) (h := h) (obj := obj) (ms := ms) (keep := keep) fn.toNat
  rw [lockSelect_restarts hb ((lockOf_accepted ..).trans ho) (by rw [getLock_accepted]; exact ⟨hown, hst⟩),
    getLock_accepted] at heff
  exact runs_of_putLock rfl heff

theorem renew_restarts_lease (hb : badLease ms.toNat = false) (ho : lockOf s.m obj.toNat = some k)
    (hown : (getLock s.m k).owner = fn.toNat) (hst : (getLock s.m k).state = 1) :
    Runs (.lockRenew fn h obj ms) fn.toNat h (.lockRenew obj ms) s [.out] [] fun n =>
      (∀ j, j ≠ k → getLock n j = getLock s.m j) ∧ getLock n k =
        { getLock s.m k with leaseMs := ms.toNat, leaseEnd := nowNs s.m + ms.toNat * 1000000 } := by
  have heff := hasEffect_lockRenew (s := s) (h := h) (obj := obj) (ms := ms) fn.toNat
  rw [lockRenew_restarts hb ((lockOf_accepted ..).trans ho) (by rw [getLock_accepted]; exact ⟨hown, hst⟩),
    getLock_accepted] at heff
  exact runs_of_putLock rfl heff

theorem select_refuses_other_owner (hb : badLease ms.toNat = false) (ho : lockOf s.m obj.toNat = some k)
    (hown : (getLock s.m k).owner ≠ fn.toNat) :
    Runs (.lockSelect fn h obj ms keep) fn.toNat h (.lockSelect obj ms keep) s [] [] fun _ => True := by
  have heff := hasEffect_lockSelect (s := s) (h := h) (obj := obj) (ms := ms) (keep := keep) fn.toNat
  rw [lockSelect_refuses hb ((lockOf_accepted ..).trans ho) (by rw [getLock_accepted]; exact hown)] at heff
  exact runs_of_refusal rfl heff

theorem renew_refuses_other_owner (hb : badLease ms.toNat = false) (ho : lockOf s.m obj.toNat = some k)
    (hown : (getLock s.m k).owner ≠ fn.toNat) :
    Runs (.lockRenew fn h obj ms) fn.toNat h (.lockRenew obj ms) s [] [] fun _ => True := by
  have heff := hasEffect_lockRenew (s := s) (h := h) (obj := obj) (ms := ms) fn.toNat
  rw [lockRenew_refuses hb ((lockOf_accepted ..).trans ho) (by rw [getLock_accepted]; exact hown)] at heff
  exact runs_of_refusal rfl heff

end

/-! ## CANCEL (R298) -/

section
variable {m : Pnm}

/-- A discarded publication leaves its PCB, and every lock stays as it is. -/
theorem dropLockPub_frame (k : Nat) (h : standby m = false) :
    Keeps [.tel, .hif, .out] m (dropLockPub k m) ∧ KeepsMarks m (dropLockPub k m) ∧
      (dropLockPub k m).out.locks = m.out.locks := by
  unfold dropLockPub
  refine List.foldlRecOn (motive := fun n => Keeps [.tel, .hif, .out] m n ∧ KeepsMarks m n ∧ n.out.locks = m.out.locks) _ _
    ⟨.refl _ m, .refl m, rfl⟩ fun n hn p _ => ?_
  obtain ⟨hkeep, hmarks, hlocks⟩ := hn
  have hst : standby n = false := (standby_congr (rd_congr (hkeep .regs (by decide)) _)).trans h
  dsimp only
  split
  · exact ⟨hkeep, hmarks, hlocks⟩
  · have hserved := served_foldl_complete
      (m := putPub p.1 { getPub n p.1 with held := p.2.held.filter fun x => decide (x.lock ≠ some k) } n) HeldPub.ref
      (fun _ => ans 0x1A) (p.2.held.filter fun x => decide (x.lock = some k)) ((standby_congr (rd_congr rfl _)).trans hst)
    exact ⟨(hkeep.trans (keeps_out (by simp) n _)).trans (hserved.parts.mono (by simp)),
      (hmarks.trans (.of_hif rfl)).trans hserved.marks, (congrArg Out.locks hserved.out).trans hlocks⟩

/-- A discarded host write no longer waits. -/
theorem dropLockWrite_frame (k : Nat) (h : standby m = false) :
    Keeps [.tel, .hif, .cye] m (dropLockWrite k m) ∧ KeepsMarks m (dropLockWrite k m) ∧
      (dropLockWrite k m).cye = { m.cye with pend := m.cye.pend.filter fun p => decide (p.lock ≠ some k) } := by
  have hserved := served_foldl_complete (m := { m with cye :=
      { m.cye with pend := m.cye.pend.filter fun p => decide (p.lock ≠ some k) } }) HostPend.ref (fun _ => ans 0x1A)
    (m.cye.pend.filter fun p => decide (p.lock = some k)) ((standby_congr (rd_congr rfl _)).trans h)
  exact ⟨(keeps_cye (by simp) m _).trans (hserved.parts.mono (by simp)), .trans (.of_hif rfl) hserved.marks, hserved.cye⟩

/-- A lock that is freed discards what it carries and leaves every other lock. -/
theorem lockFree_frame (k : Nat) (h : standby m = false) :
    Keeps [.tel, .hif, .cye, .out] m (lockFree k m) ∧ KeepsMarks m (lockFree k m) ∧
      (lockFree k m).cye = { m.cye with pend := m.cye.pend.filter fun p => decide (p.lock ≠ some k) } ∧
      getLock (lockFree k m) k = Lock.init k ∧ ∀ j, j ≠ k → getLock (lockFree k m) j = getLock m j := by
  obtain ⟨hpub, hpubMarks, hlocks⟩ := dropLockPub_frame k h
  have hst : standby (dropLockPub k m) = false := (standby_congr (rd_congr (hpub .regs (by decide)) _)).trans h
  obtain ⟨hwrite, hwriteMarks, hcye⟩ := dropLockWrite_frame k hst
  have hpubCye : (dropLockPub k m).cye = m.cye := hpub .cye (by decide)
  have hout : (dropLockWrite k (dropLockPub k m)).out = (dropLockPub k m).out := hwrite .out (by decide)
  refine ⟨((hpub.mono (by simp)).trans (hwrite.mono (by simp))).trans (keeps_out (by simp) _ _),
    (hpubMarks.trans hwriteMarks).trans (.of_hif rfl), by rw [← hpubCye]; exact hcye, getLock_putLock_same .., fun j hj => ?_⟩
  calc getLock (lockFree k m) j = getLock (dropLockWrite k (dropLockPub k m)) j := getLock_putLock_ne hj ..
    _ = getLock (dropLockPub k m) j := getLock_congr hout j
    _ = getLock m j := by rw [getLock, getLock, hlocks]

end

section
variable {s : State} {fn : BitVec 9} {h : CmdHdr} {obj : BitVec 32} {k : Nat}

theorem hasEffect_lockCancel (f : Nat) : HasEffect f h (.lockCancel obj) s
    (lockCancel f obj.toNat (accepted f h s.m)) := rfl

theorem lockCancel_frees {f o : Nat} {m : Pnm} (ho : lockOf m o = some k) (hown : (getLock m k).owner = f) :
    lockCancel f o m = (lockFree k m, some (ansR 0 k 0)) := by
  rw [lockCancel, ho]; exact if_pos hown

theorem lockCancel_refuses_other {f o : Nat} {m : Pnm} (ho : lockOf m o = some k) (hown : (getLock m k).owner ≠ f) :
    lockCancel f o m = (m, some (ans 0x1C)) := by
  rw [lockCancel, ho]; exact if_neg hown

theorem lockCancel_refuses_none {f o : Nat} {m : Pnm} (ho : lockOf m o = none) :
    lockCancel f o m = (m, some (ans 0x1C)) := by rw [lockCancel, ho]

theorem cancel_frees_lock (ho : lockOf s.m obj.toNat = some k) (hown : (getLock s.m k).owner = fn.toNat) :
    Runs (.lockCancel fn h obj) fn.toNat h (.lockCancel obj) s [.cye, .out] [] fun n =>
      getLock n k = Lock.init k ∧ (∀ j, j ≠ k → getLock n j = getLock s.m j) ∧
      n.cye = { s.m.cye with pend := s.m.cye.pend.filter fun p => decide (p.lock ≠ some k) } := by
  have heff := hasEffect_lockCancel (s := s) (h := h) (obj := obj) fn.toNat
  rw [lockCancel_frees ((lockOf_accepted ..).trans ho) (by rw [getLock_accepted]; exact hown)] at heff
  refine runs_of_quiet_effect rfl (by simp) fun _ h0 => ?_
  have hst : standby (accepted fn.toNat h s.m) = false := (standby_accepted ..).trans (standby_of_firstChecks rfl h0)
  obtain ⟨hkeep, hmarks, hcye, hfree, hothers⟩ := lockFree_frame k hst
  refine ⟨_, heff, hkeep, hmarks, fun n hout hc => ⟨?_, fun j hj => ?_, ?_⟩⟩
  · exact (getLock_congr hout k).trans hfree
  · exact (getLock_congr hout j).trans ((hothers j hj).trans (getLock_accepted ..))
  · exact hc.trans hcye

theorem cancel_refuses_other_owner (ho : lockOf s.m obj.toNat = some k) (hown : (getLock s.m k).owner ≠ fn.toNat) :
    Runs (.lockCancel fn h obj) fn.toNat h (.lockCancel obj) s [] [] fun _ => True := by
  have heff := hasEffect_lockCancel (s := s) (h := h) (obj := obj) fn.toNat
  rw [lockCancel_refuses_other ((lockOf_accepted ..).trans ho) (by rw [getLock_accepted]; exact hown)] at heff
  exact runs_of_refusal rfl heff

theorem cancel_refuses_unlocked (ho : lockOf s.m obj.toNat = none) :
    Runs (.lockCancel fn h obj) fn.toNat h (.lockCancel obj) s [] [] fun _ => True := by
  have heff := hasEffect_lockCancel (s := s) (h := h) (obj := obj) fn.toNat
  rw [lockCancel_refuses_none ((lockOf_accepted ..).trans ho)] at heff
  exact runs_of_refusal rfl heff

/-! ## OPERATE (R299) -/

/-- A host write before its target waits, where no write to its word waits for a target of its own (R228, R230). -/
theorem hostWrite_waits {ref : CmdRef} {lock : Option Nat} {f w q v target : Nat} {lateOk : Bool} {m : Pnm}
    (hen : (getWord m w).en = true) (hown : (getWord m w).owner = f)
    (hfree : ∀ p ∈ m.cye.pend, p.word = w → p.target = none) (hnow : nowU m < target * unitNs) :
    ∃ p : HostPend, hostWrite ref lock f w q v target lateOk m =
        ({ m with cye := { m.cye with pend := m.cye.pend ++ [p] } }, none) ∧
      p.lock = lock ∧ p.word = w ∧ p.value = v ∧ p.target = some (target * unitNs) := by
  have hmine : ¬ ((getWord m w).en = false ∨ (getWord m w).owner ≠ f) := by simp [hen, hown]
  have hearly : ¬ (target ≠ 0 ∧ target * unitNs ≤ nowU m) := fun hlate => Nat.not_le_of_lt hnow hlate.2
  have hnone (p : HostPend) (hp : p ∈ m.cye.pend) : (decide (p.word = w) && p.target.isSome) = false := by
    by_cases hw : p.word = w
    · simp [hfree p hp hw]
    · simp [hw]
  have hold : m.cye.pend.filter (fun p => decide (p.word = w) && p.target.isSome) = [] :=
    List.filter_eq_nil_iff.mpr fun p hp => ne_true_of_eq_false (hnone p hp)
  have hkeep : m.cye.pend.filter (fun p => !(decide (p.word = w) && p.target.isSome)) = m.cye.pend :=
    List.filter_eq_self.mpr fun p hp => by rw [hnone p hp]; rfl
  unfold hostWrite
  dsimp only
  rw [if_neg hmine, if_neg (fun hlate => hearly (of_decide_eq_true hlate.1)), hold, hkeep]
  simp only [List.foldl_nil, decide_eq_true hnow, if_true, true_or]
  exact ⟨_, rfl, rfl, rfl, rfl, rfl⟩

/-- Lock `k` while its embedded command waits: OPERATE_PENDING (R299). -/
def operating (k : Nat) (m : Pnm) : Pnm := putLock k { getLock m k with state := 2 } m

theorem lockOperate_waits {ref : CmdRef} {f o : Nat} {e : Emb} {m n : Pnm} (he : embOk e = true)
    (ho : lockOf m o = some k) (hl : (getLock m k).owner = f ∧ (getLock m k).state = 1)
    (hn : embedded ref k f e (operating k m) = (n, none)) : lockOperate ref f o e m = (n, none) := by
  unfold lockOperate
  rw [if_neg (by rw [he]; decide), ho]
  dsimp only
  rw [if_pos hl]
  unfold operating at hn
  rw [hn]

theorem hasEffect_lockOperate (f : Nat) (e : Emb) : HasEffect f h (.lockOperate obj e) s
    (lockOperate (aloneRef f h (.lockOperate obj e) s.m) f obj.toNat e (accepted f h s.m)) := rfl

theorem operate_waits_for_write {e : Emb} {w : BitVec 12} {q : BitVec 16} {v : DWord}
    (ho : lockOf s.m obj.toNat = some k) (he : e.op = .hostWrite w q v) (hown : (getLock s.m k).owner = fn.toNat)
    (hst : (getLock s.m k).state = 1) (hen : (getWord s.m w.toNat).en = true)
    (hw : (getWord s.m w.toNat).owner = fn.toNat) (hfree : ∀ p ∈ s.m.cye.pend, p.word = w.toNat → p.target = none)
    (hnow : nowU s.m < e.target.toNat * unitNs) :
    Runs (.lockOperate fn h obj e) fn.toNat h (.lockOperate obj e) s [.cye, .out] [] fun n =>
      getLock n k = { getLock s.m k with state := 2 } ∧ (∀ j, j ≠ k → getLock n j = getLock s.m j) ∧
      ∃ p : HostPend, n.cye = { s.m.cye with pend := s.m.cye.pend ++ [p] } ∧ p.lock = some k ∧ p.word = w.toNat ∧
        p.value = v.toNat ∧ p.target = some (e.target.toNat * unitNs) := by
  have hlock := getLock_accepted fn.toNat h s.m k
  have heff := hasEffect_lockOperate (s := s) (h := h) (obj := obj) fn.toNat e
  obtain ⟨p, hp, hplock, hpword, hpvalue, hptarget⟩ :=
    hostWrite_waits (ref := aloneRef fn.toNat h (.lockOperate obj e) s.m) (lock := some k) (q := q.toNat) (v := v.toNat)
      (lateOk := e.lateOk) (m := operating k (accepted fn.toNat h s.m)) hen hw hfree hnow
  rw [lockOperate_waits (by rw [embOk, he]) ((lockOf_accepted ..).trans ho) (by rw [hlock]; exact ⟨hown, hst⟩)
    (by rw [embedded, he]; exact hp)] at heff
  refine runs_of_quiet_effect rfl (by simp) fun _ _ =>
    ⟨_, heff, (keeps_out (by simp) _ _).trans (keeps_cye (by simp) _ _), .of_hif rfl, fun n hout hc =>
      ⟨?_, fun j hj => ?_, p, hc, hplock, hpword, hpvalue, hptarget⟩⟩
  · rw [getLock_congr (m := operating k (accepted fn.toNat h s.m)) hout, ← hlock, operating, getLock_putLock_same]
  · rw [getLock_congr (m := operating k (accepted fn.toNat h s.m)) hout, operating, getLock_putLock_ne hj, getLock_accepted]

theorem lockOperate_refuses_none {ref : CmdRef} {f o : Nat} {e : Emb} {m : Pnm} (ho : lockOf m o = none) :
    ∃ a, lockOperate ref f o e m = (m, some a) := by
  unfold lockOperate
  rw [ho]
  split
  · exact ⟨_, rfl⟩
  · exact ⟨_, rfl⟩

theorem operate_refuses_unlocked (e : Emb) (ho : lockOf s.m obj.toNat = none) :
    Runs (.lockOperate fn h obj e) fn.toNat h (.lockOperate obj e) s [] [] fun _ => True := by
  have heff := hasEffect_lockOperate (s := s) (h := h) (obj := obj) fn.toNat e
  obtain ⟨a, ha⟩ := lockOperate_refuses_none (ref := aloneRef fn.toNat h (.lockOperate obj e) s.m) (f := fn.toNat) (e := e)
    ((lockOf_accepted fn.toNat h s.m obj.toNat).trans ho)
  rw [ha] at heff
  exact runs_of_refusal rfl heff

end
end Publication

open Publication in
/-- Settles O40: it holds. Every command takes its mark, has one effect on its PCB or its lock, and completes; the completion
and the COMMIT message that may follow reach neither. -/
theorem publicationsAndLockCommandsRun : Obligations.PublicationsAndLockCommandsRun := by
  intro s fn h
  refine ⟨fun count pcb items hc0 hc hitems hen hown hnear => ?publish, fun obj ms keep k hb => ?lease,
    fun obj k ho => ⟨cancel_frees_lock ho, cancel_refuses_other_owner ho⟩,
    fun obj e w q v k => operate_waits_for_write,
    fun obj e ho => ⟨operate_refuses_unlocked e ho, cancel_refuses_unlocked ho⟩⟩
  case publish =>
    have hcount : count.toNat ≠ 0 := fun h0 => hc0 (BitVec.eq_of_toNat_eq h0)
    have hmay : MayPublish fn.toNat count.toNat pcb.toNat h.target.toNat items s.m :=
      ⟨hcount, hc, hitems, hen, hown, hnear⟩
    exact ⟨publish_is_held hmay, fun ht => publish_changes_at_once ht hmay⟩
  case lease =>
    exact ⟨select_takes_free_lock hb, select_restarts_own_lease hb, renew_restarts_lease hb,
      fun ho hown => ⟨select_refuses_other_owner hb ho hown, renew_refuses_other_owner hb ho hown⟩⟩

end Machine
end Sys2Proof
end

section
/-! PROOFS. The capture region in its canonical form (R400, R409): no operation that reaches the region's bytes takes them
out of it, so that no command and no step does. -/

namespace Sys2Proof
namespace Machine
namespace CanonicalForm

/-- The bytes of the region are in canonical form. -/
def Formed (s : PM) : Prop := Memory.wf s.2 = true

/-- An operation keeps the canonical form. -/
def KeepsForm (f : PM → PM) : Prop := ∀ s : PM, Formed s → Formed (f s)

variable {s : PM}

/-! ## How operations are put together -/

/-- What is done for each element of a list keeps the form where it does for one. -/
theorem formed_foldl {α : Type} {f : PM → α → PM} (hf : ∀ (a : α) (s : PM), Formed s → Formed (f s a)) (l : List α) (h : Formed s) :
    Formed (l.foldl f s) := by
  induction l generalizing s with
  | nil => exact h
  | cons a t ih => exact ih (hf a s h)

/-- A change of the module alone leaves the bytes. -/
theorem formed_onM (f : Pnm → Pnm) (h : Formed s) : Formed (onM f s) := h

theorem formed_ite {c : Prop} [Decidable c] {x y : PM} (hx : Formed x) (hy : Formed y) : Formed (if c then x else y) := by
  split
  · exact hx
  · exact hy

/-! ## Records and segments (R402, R406, R409 to R411) -/

theorem wf_writeSegs {l : List (Nat × Nat)} {off : Nat} {bs : List Byte} {mem : Memory} (h : Memory.wf mem = true) :
    Memory.wf (writeSegs l off bs mem) = true := by
  induction l generalizing off bs mem with
  | nil => exact h
  | cons p t ih =>
    rw [writeSegs]
    split
    · exact ih h
    · exact ih (Memory.wf_writeBytes h)

theorem wf_foldl {α : Type} {f : Memory → α → Memory} (hf : ∀ mem a, Memory.wf mem = true → Memory.wf (f mem a) = true)
    (l : List α) {mem : Memory} (h : Memory.wf mem = true) : Memory.wf (l.foldl f mem) = true := by
  induction l generalizing mem with
  | nil => exact h
  | cons a t ih => exact ih (hf mem a h)

theorem formed_segCleared (i : Nat) (h : Formed s) : Formed (segCleared i s) := by
  unfold segCleared
  dsimp only
  split
  · exact h
  · exact Memory.wf_clear h

theorem formed_dropRecs (hit : Nat × Nat → Bool) (h : Formed s) : Formed (dropRecs hit s) :=
  wf_foldl (fun _ _ => Memory.wf_writeBytes) _ h

theorem formed_capPlace (k start seq gap extra : Nat) (h : Formed s) : Formed (capPlace k start seq gap extra s) := by
  unfold capPlace
  dsimp only
  split
  · exact h
  · exact wf_writeSegs (formed_dropRecs _ h)

theorem formed_capClose (k : Nat) (truncated : Bool) (h : Formed s) : Formed (capClose k truncated s) := wf_writeSegs h

theorem formed_capDisarm (k why : Nat) (h : Formed s) : Formed (capDisarm k why s).1 := by
  unfold capDisarm
  dsimp only
  split
  · exact formed_onM _ (formed_capClose k true h)
  · split
    · exact formed_onM _ (formed_dropRecs _ h)
    · exact h

theorem formed_rearmDone (k : Nat) (h : Formed s) : Formed (rearmDone k s) := by
  unfold rearmDone
  dsimp only
  have hplace := formed_capPlace k ((getCap s.1 k).cur.segFirst + (getCap s.1 k).cur.span) ((getCap s.1 k).cur.seq + 1)
    (getCap s.1 k).gap (getCap s.1 k).extra h
  split
  · split
    · exact formed_ite (formed_onM _ hplace) hplace
    · exact hplace
  · exact h

theorem formed_capRow (k : Nat) (t : Int) (h : Formed s) : Formed (capRow k s t) := by
  unfold capRow
  dsimp only
  split
  · exact h
  · split
    · exact h
    · split
      · split
        · exact h
        · exact wf_writeSegs h
      · split
        · exact wf_writeSegs h
        · exact formed_ite (formed_onM _ (formed_capClose k false (wf_writeSegs h)))
            (formed_onM _ (formed_capClose k false (wf_writeSegs h)))

theorem formed_captureRows (m0 : Pnm) (T : Nat) (h : Formed s) : Formed (captureRows m0 T s) := by
  have hrows : ∀ (p : Nat × Cap) (x : PM), Formed x → ∀ (c : Cap) (ts : List Int),
      Formed (ts.foldl (capRow p.1) (putCap p.1 c x.1, x.2)) := fun p x hx c ts =>
    formed_foldl (s := (putCap p.1 c x.1, x.2)) (fun t _ => formed_capRow p.1 t) ts hx
  exact formed_foldl (fun p x hx => hrows p x hx _ _) (armed s.1) h

theorem formed_armAt (k f : Nat) (p : CapArm) (h : Formed s) : Formed (armAt k f p s) :=
  formed_capPlace _ _ _ _ _ (formed_onM _ h)

theorem formed_captureArm (f : Nat) (p : CapArm) (h : Formed s) : Formed (captureArm f p s).1 := by
  unfold captureArm
  dsimp only
  split
  · exact formed_armAt _ f p h
  · exact h

theorem formed_armMirrored (k f : Nat) (p : CapArm) (h : Formed s) : Formed (armMirrored k f p s) :=
  formed_ite (formed_armAt k f p h) h

theorem formed_captureDisarm (f k : Nat) (h : Formed s) : Formed (captureDisarm f k s).1 := by
  unfold captureDisarm
  dsimp only
  split
  · exact h
  · exact formed_capDisarm k 3 h

theorem formed_disarmAll (which : Cap → Bool) (why : Nat) (h : Formed s) : Formed (disarmAll which why s) :=
  formed_foldl (α := Nat × Cap) (f := fun x p => (capDisarm p.1 why x).1) (fun p _ => formed_capDisarm p.1 why) _ h

/-! ## Functions and planes (R21, R374 to R376) -/

theorem formed_disableWork (f : Nat) (h : Formed s) : Formed (disableWork f s) := formed_disarmAll _ _ (formed_onM _ h)

theorem formed_leaveService (n : Nat) (h : Formed s) : Formed (leaveService n s) := by
  unfold leaveService
  exact formed_onM _ (formed_disableWork n (formed_onM (stopRings n) h))

theorem formed_applyService (q : Nat × Bool × Nat) (h : Formed s) : Formed (applyService s q) := by
  unfold applyService
  dsimp only
  split
  · exact formed_ite (formed_onM _ h) h
  · exact formed_ite (formed_leaveService _ h) h

theorem formed_servicesApply (h : Formed s) : Formed (servicesApply s) :=
  formed_foldl (fun q _ => formed_applyService q) _ h

theorem formed_vfEnableClear (h : Formed s) : Formed (vfEnableClear s) :=
  formed_onM _ (formed_foldl (fun n _ => formed_leaveService n) _ h)

theorem formed_planeClose (bad : Nat) (h : Formed s) : Formed (planeClose bad s) := by
  unfold planeClose
  dsimp only
  split
  · exact h
  · exact formed_ite (formed_captureRows _ _ h) h

/-! ## Scans, self-tests and transfers (R386, R512, R522) -/

theorem formed_scanDone (c : Nat) (h : Formed s) : Formed (scanDone c s) := by
  unfold scanDone
  split
  · exact h
  · exact formed_ite h h

theorem formed_testDone (sig : Word) (bad : Option Nat) (h : Formed s) : Formed (testDone sig bad s) := by
  unfold testDone
  dsimp only
  split
  · refine formed_ite h ?_
    dsimp only [Formed]
    split
    · exact wf_foldl (fun _ _ => Memory.wf_clear) _ h
    · exact h
  · exact formed_ite h h

theorem formed_headMoved (f n : Nat) (h : Formed s) : Formed (headMoved f n s) := by
  unfold headMoved
  dsimp only
  split
  · exact h
  · split
    · exact formed_ite h (formed_ite h h)
    · exact formed_ite (formed_ite h h) h

theorem formed_transferDone (q : Nat) (h : Formed s) : Formed (transferDone q s) := by
  unfold transferDone
  dsimp only
  split
  · exact h
  · split
    · exact formed_ite h (formed_onM _ (formed_headMoved _ _ h))
    · exact formed_ite h (formed_ite h h)

/-! ## Commands (R349, R353) -/

theorem formed_opEffect (ref : CmdRef) (h : CmdHdr) (op : Op) (hs : Formed s) : Formed (opEffect ref h op s).1 := by
  unfold opEffect
  cases op with
  | captureArm p => exact formed_captureArm _ p hs
  | captureDisarm c => exact formed_captureDisarm _ _ hs
  | _ => exact hs

theorem formed_decideCmd (f : Nat) (h : CmdHdr) (op : Op) (accept done : Nat) (unm : Bool) (hs : Formed s) :
    Formed (decideCmd f h op accept done unm s).1 := by
  unfold decideCmd
  dsimp only
  split
  · exact hs
  · split
    · exact formed_opEffect _ h op hs
    · exact formed_opEffect _ h op hs

theorem formed_decideOne (f : Nat) (h : CmdHdr) (op : Op) (accept done : Nat) (hs : Formed s) :
    Formed (decideOne f h op accept done s) := formed_onM _ (formed_decideCmd f h op accept done _ (formed_onM _ hs))

theorem formed_decideKicked (f n : Nat) (h : Formed s) : Formed (decideKicked f n s) := by
  induction n generalizing s with
  | zero => exact h
  | succ n ih =>
    unfold decideKicked
    split
    · exact formed_ite (ih (formed_onM _ (formed_decideOne _ _ _ _ _ (formed_onM _ h)))) h
    · exact h

theorem formed_fetchDone (f : Nat) (ok : Bool) (h : CmdHdr) (op : Op) (hs : Formed s) : Formed (fetchDone f ok h op s) :=
  formed_ite hs (formed_ite (formed_onM _ hs) (formed_decideKicked f _ hs))

theorem formed_acceptFn (accept f n : Nat) (h : Formed s) : Formed (acceptFn accept f n s) := by
  induction n generalizing s with
  | zero => exact h
  | succ n ih =>
    unfold acceptFn
    split
    · exact ih (formed_decideOne _ _ _ _ _ (formed_onM _ h))
    · exact h

theorem formed_acceptAll (accU : Nat) (h : Formed s) : Formed (acceptAll accU s) :=
  formed_onM _ (formed_foldl (fun f _ => formed_acceptFn _ f _) _ h)

theorem formed_decideNow (f : Nat) (h : CmdHdr) (op : Op) (hs : Formed s) : Formed (decideNow f h op s) :=
  formed_ite (formed_onM _ (formed_decideOne _ _ _ _ _ (formed_onM _ hs))) hs

theorem formed_acceptance (h : Formed s) : Formed (acceptance s) := by
  unfold acceptance
  split
  · exact h
  · exact formed_ite (formed_onM _ (formed_acceptAll _ (formed_onM _ (formed_servicesApply h)))) h

/-! ## The peer (R433, R441 to R446, R452) -/

theorem formed_decideStored (x : Mirrored) (h : Formed s) : Formed (decideStored s x) :=
  formed_decideCmd _ _ _ _ _ _ (formed_onM _ h)

theorem formed_takeOver (h : Formed s) : Formed (takeOver s) := by
  have hstored := formed_foldl (fun x _ => formed_decideStored x) (storedOrder s.1.par.stored) (formed_onM
    (fun m => showPair 2 { m with par := { m.par with stored := [], reportNext := none, rx := none } }) h)
  unfold takeOver
  extract_lets _ _ s2
  show Memory.wf s2.2 = true
  exact hstored

theorem formed_peerFailed (h : Formed s) : Formed (peerFailed s) := by
  unfold peerFailed
  dsimp only
  split
  · split
    · exact h
    · exact formed_takeOver h
    · exact h
    · exact h
  · exact h

theorem formed_mirrorAcked (b : List Byte) (h : Formed s) : Formed (mirrorAcked b s) :=
  formed_ite (formed_ite (formed_decideKicked _ _ (formed_onM _ h)) h) h

theorem formed_mirroredEffect (ref : CmdRef) (x : Mirrored) (e : CommitEnt) (h : Formed s) :
    Formed (mirroredEffect ref x e s).1 := by
  unfold mirroredEffect
  dsimp only
  split
  · exact h
  · exact h
  · exact formed_armMirrored _ _ _ h
  · exact h
  · exact formed_opEffect _ _ _ h

theorem formed_commitAccepted (accept : Nat) (e : CommitEnt) (h : Formed s) : Formed (commitAccepted accept e s) := by
  unfold commitAccepted
  split
  · exact h
  · dsimp only
    split
    · split
      · exact formed_onM _ (formed_mirroredEffect _ _ _ h)
      · exact formed_mirroredEffect _ _ _ h
    · exact h

theorem formed_commitOne (accept : Nat) (e : CommitEnt) (h : Formed s) : Formed (commitOne accept s e) :=
  formed_ite h (formed_ite (formed_commitAccepted _ _ h)
    (formed_ite (formed_onM _ h) (formed_ite (formed_onM _ h) (formed_ite (formed_onM _ h) h))))

theorem formed_commitApply (b : List Byte) (h : Formed s) : Formed (commitApply b s) :=
  formed_foldl (s := onM _ s) (fun i _ => formed_commitOne _ (commitAt b (16 + 32 * i))) _ h

theorem formed_commitRx (b : List Byte) (h : Formed s) : Formed (commitRx b s) := by
  unfold commitRx
  split
  · exact formed_commitApply b h
  · exact formed_ite (formed_commitApply b h) (formed_onM _ h)
  · exact h

theorem formed_installCaps (b : List Byte) (fuel o : Nat) (h : Formed s) : Formed (installCaps b fuel o s) := by
  induction fuel generalizing s o with
  | zero => exact h
  | succ n ih =>
    unfold installCaps
    exact formed_ite h (ih _ (formed_onM _ (formed_armAt _ _ _ h)))

theorem formed_installKind (kind : Nat) (b : List Byte) (h : Formed s) : Formed (installKind kind b s) := by
  unfold installKind
  refine formed_ite h (formed_ite h (formed_ite h (formed_ite h (formed_ite h ?_))))
  have hcaps := formed_installCaps (s := onM (fun m => { m with cap := { m.cap with caps := [] } }) s) b 32 0 h
  dsimp only
  split
  · exact hcaps
  · exact formed_foldl (fun c _ => formed_commitApply c) _ (formed_onM _ hcaps)

theorem formed_resyncRx (b : List Byte) (h : Formed s) : Formed (resyncRx b s) := by
  unfold resyncRx
  split
  · exact h
  · exact formed_ite h (formed_ite h (formed_ite h (formed_installKind _ _ h)))

theorem formed_pairMsg (path : Bool) (typ : Nat) (b : List Byte) (h : Formed s) : Formed (pairMsg path typ b s) :=
  formed_ite h (formed_ite (formed_mirrorAcked b h) (formed_ite (formed_commitRx b h) (formed_ite h (formed_ite h
    (formed_ite (formed_ite h h) (formed_ite h (formed_ite h (formed_ite (formed_resyncRx b h) (formed_ite h
      (formed_ite h h))))))))))

theorem formed_pairTake (path : Bool) (typ : Nat) (b : List Byte) (h : Formed s) : Formed (pairTake path typ b s) :=
  formed_ite (formed_ite h (formed_pairMsg path typ b (formed_onM _ h))) (formed_pairMsg path typ b h)

theorem formed_pairPartRx (path : Bool) (f : PairFrame) (h : Formed s) : Formed (pairPartRx path f s) := by
  unfold pairPartRx
  dsimp only
  split
  · exact formed_ite (formed_ite h h) (formed_pairTake path _ _ h)
  · split
    · exact formed_ite (formed_ite h (formed_pairTake path _ _ (formed_onM _ h))) (formed_ite h h)
    · exact formed_ite h h

theorem formed_pairRx (p stamp : Nat) (f : PairFrame) (h : Formed s) : Formed (pairRx p stamp f s) :=
  formed_ite h (formed_ite h (formed_ite h (formed_ite h (formed_ite h (formed_pairPartRx _ f h)))))

theorem formed_frameRx (p : Nat) (beyond : Bool) (f : Frame) (h : Formed s) : Formed (frameRx p beyond f s) := by
  unfold frameRx
  refine formed_ite ?_ h
  dsimp only
  split
  · refine formed_ite h ?_
    split
    case h_6 => exact formed_pairRx _ _ _ h
    all_goals exact h
  · exact h

/-! ## Starts, resets and power (R531, R536, R544): the region comes back empty -/

theorem formed_start (cause : Nat) (powered : Bool) (i : StartIn) : Formed (start cause powered i s) := by
  unfold start
  dsimp only
  split
  · rfl
  · rfl

theorem formed_powerOn (i : StartIn) (h : Formed s) : Formed (powerOn i s) := formed_ite (formed_start _ _ i) h

theorem formed_supplyReturn (i : StartIn) (h : Formed s) : Formed (supplyReturn i s) := formed_ite (formed_start _ _ i) h

theorem formed_resetEffect (i : StartIn) (h : Formed s) : Formed (resetEffect i s) := by
  unfold resetEffect
  split
  · exact h
  · exact formed_ite rfl (formed_start _ _ i)

theorem formed_hostReset (i : StartIn) (h : Formed s) : Formed (hostReset i s) :=
  formed_ite (formed_start _ _ i) (formed_ite (formed_onM _ (formed_vfEnableClear h)) h)

theorem formed_holdupEnd (h : Formed s) : Formed (holdupEnd s) := by
  unfold holdupEnd
  split
  · exact h
  · exact formed_ite rfl h

theorem formed_powerRemoved (h : Formed s) : Formed (powerRemoved s) := formed_ite h rfl

/-! ## Register writes (R408, R554) -/

theorem formed_writePf (a : AtWrite) (o : Nat) (data : Word) (h : Formed s) : Formed (writePf a o data s) :=
  formed_ite (formed_onM _ h) (formed_ite (formed_ite h (formed_ite (formed_onM _ h)
    (formed_disarmAll _ _ (formed_onM _ h)))) (formed_onM _ h))

theorem formed_writeWord (a : AtWrite) (f : Nat) (bar2 : Bool) (o : Nat) (data : Word) (h : Formed s) :
    Formed (writeWord a f bar2 o data s) :=
  formed_ite h (formed_ite (formed_onM _ h) (formed_ite (formed_writePf a o data h) (formed_onM _ h)))

theorem formed_hostWriteBytes (a : AtWrite) (f : Nat) (bar2 : Bool) (o : Nat) (data : List Byte) (h : Formed s) :
    Formed (hostWriteBytes a f bar2 o data s) := formed_foldl (fun _ _ => formed_writeWord a f bar2 _ _) _ h

/-! ## Every command -/

theorem keepsForm_onM (f : Pnm → Pnm) : KeepsForm (onM f) := fun _ h => h

theorem KeepsForm.whenAliveM {f : PM → PM} (hf : KeepsForm f) : KeepsForm (whenAliveM f) := fun s h => formed_ite (hf s h) h

theorem KeepsForm.whenWrM {f : PM → PM} (hf : KeepsForm f) : KeepsForm (whenWrM f) := fun s h => formed_ite (hf s h) h

theorem KeepsForm.whenGlbM {f : PM → PM} (hf : KeepsForm f) : KeepsForm (whenGlbM f) := fun s h => formed_ite (hf s h) h

theorem KeepsForm.onFnM {f : PM → PM} (fn : Nat) (hf : KeepsForm f) : KeepsForm (onFnM fn f) := fun s h => formed_ite (hf s h) h

/-- A command that is decided by itself. -/
theorem keepsForm_decided (fn : Nat) (h : CmdHdr) (op : Op) : KeepsForm (whenAliveM (onFnM fn (decideNow fn h op))) :=
  .whenAliveM (.onFnM fn fun _ => formed_decideNow fn h op)

/-- What a command means: an operation on the module and the bytes of the region that keeps the form of the bytes. -/
def Means (c : Instr) (s : State) : Prop := ∃ f : PM → PM, exec c s = runMem f s ∧ KeepsForm f

theorem means_run {c : Instr} {s : State} {f : Pnm → Pnm} (hc : exec c s = run f s) : Means c s :=
  ⟨onM f, hc, keepsForm_onM f⟩

/-- Every arm of the dispatch runs one operation. -/
theorem means (c : Instr) (s : State) : Means c s := by
  cases c with
  | segmentClearDone ix => exact ⟨_, rfl, .whenAliveM fun _ => formed_segCleared _⟩
  | rearmDone k => exact ⟨_, rfl, .whenAliveM fun _ => formed_rearmDone _⟩
  | crcScanDone c => exact ⟨_, rfl, .whenAliveM fun _ => formed_scanDone _⟩
  | selftestDone sig bad => exact ⟨_, rfl, .whenAliveM fun _ => formed_testDone _ _⟩
  | registerWrite fn bar2 off data found => exact ⟨_, rfl, fun _ => formed_hostWriteBytes _ _ _ _ _⟩
  | planeClose bad => exact ⟨_, rfl, .whenAliveM fun _ => formed_planeClose _⟩
  | powerOn found => exact ⟨_, rfl, fun _ => formed_powerOn _⟩
  | hostReset found => exact ⟨_, rfl, fun _ => formed_hostReset _⟩
  | moduleResetEffect found => exact ⟨_, rfl, .whenGlbM fun _ => formed_resetEffect _⟩
  | holdupEnd => exact ⟨_, rfl, fun _ => formed_holdupEnd⟩
  | supplyReturn found => exact ⟨_, rfl, fun _ => formed_supplyReturn _⟩
  | powerRemoved => exact ⟨_, rfl, fun _ => formed_powerRemoved⟩
  | commandFetchDone fn ok h op => exact ⟨_, rfl, .whenAliveM (.onFnM _ fun _ => formed_fetchDone _ _ _ _)⟩
  | acceptanceInstant => exact ⟨_, rfl, .whenAliveM fun _ => formed_acceptance⟩
  | nop | hostWrite | gateArm | gateUpdate | gateCancel | gateRead | publish | lockSelect | lockOperate | lockRenew | lockCancel
  | captureArm | captureDisarm | captureForce | tableLoad | imageLoad | vfSeqReset | shareRevoke | keyImport | selftest
  | journalRead => exact ⟨_, rfl, keepsForm_decided _ _ _⟩
  | keyRetire fn h slot mask flight =>
    exact ⟨_, rfl, .whenAliveM (.onFnM _ fun _ hs => formed_onM _ (formed_decideNow _ _ _ hs))⟩
  | bulkTransferDone q => exact ⟨_, rfl, .whenGlbM fun _ => formed_transferDone _⟩
  | vfEnableClear => exact ⟨_, rfl, .whenAliveM fun _ => formed_vfEnableClear⟩
  | frameRx p beyond f => exact ⟨_, rfl, .whenAliveM fun _ => formed_frameRx _ _ _⟩
  | peerFailed => exact ⟨_, rfl, .whenAliveM fun _ => formed_peerFailed⟩
  | sviStop => exact ⟨_, rfl, .whenWrM fun _ hs => formed_disarmAll _ _ (formed_onM _ hs)⟩
  | _ => exact means_run rfl

/-- A step is the meaning of the command at the front of the queue, or one edge of the counter clock. -/
theorem step_means (s : State) :
    ∃ (f : PM → PM) (rest : List Instr), step s = runMem f { s with pending := rest } ∧ KeepsForm f := by
  unfold step
  split
  next h => exact ⟨onM idleEdge, [], by rw [← h]; rfl, keepsForm_onM _⟩
  next c rest h =>
    obtain ⟨f, hf, hkeeps⟩ := means c { s with pending := rest }
    exact ⟨f, rest, hf, hkeeps⟩

theorem step_completes (s : State) : ∃ t : State, step s = .next t := by
  obtain ⟨f, rest, hstep, -⟩ := step_means s
  exact ⟨_, hstep⟩

theorem safeRun (n : Nat) (s : State) : SafeRun n s := by
  induction n generalizing s with
  | zero => exact trivial
  | succ n ih =>
    obtain ⟨t, ht⟩ := step_completes s
    exact ⟨t, ht, ih t⟩

end CanonicalForm

open CanonicalForm in
/-- Settles O3: it holds. Every step runs one operation, and none takes the bytes of the region out of their form. -/
theorem everyStepKeepsTheInvariant : Obligations.EveryStepKeepsTheInvariant := by
  intro s t hinv ht
  obtain ⟨f, rest, hstep, hkeeps⟩ := step_means s
  rw [hstep] at ht
  cases ht
  exact hkeeps _ hinv

open CanonicalForm in
/-- Settles O2: it holds. A command acts on the module and the bytes of the region alone, and every step answers. -/
theorem everyCommandCompletes : Obligations.EveryCommandCompletes := by
  refine ⟨fun c s t ht => ?_, step_completes, safeRun⟩
  obtain ⟨f, hf, -⟩ := means c s
  rw [hf] at ht
  cases ht
  rfl

/-- Settles O1: it holds, by the definition of a step. -/
theorem aStepRunsTheFrontCommand : Obligations.AStepRunsTheFrontCommand := by
  intro s c rest h
  rw [step, h]

end Machine
end Sys2Proof
end

section
/-! PROOFS. The module at reset, a start that has not come, and reads by the host (R531, R536, R555, R557, R561, R562). -/

namespace Sys2Proof
namespace Machine

set_option maxRecDepth 8000 in
/-- Settles O5: it holds. The module at reset is a closed term, whose registers are read one by one. -/
theorem resetLeavesTheMapsValues : Obligations.ResetLeavesTheMapsValues := by
  refine ⟨rfl, rfl, rfl, rfl, rfl, fun _ => rfl, ?vals, ?ports, ?macs⟩
  case vals => decide
  case ports => decide
  case macs => decide

/-! ## No start (R531, R544, R545, R561) -/

section
variable {s : State} (hg : ¬ s.glbLive)
include hg

theorem not_alive_of_not_glbLive : alive s.m = false := by
  simp only [State.glbLive, glbOn, decide_eq_true_eq, not_or] at hg
  simp [alive, hg.1]

theorem not_wrOk_of_not_glbLive : wrOk s.m = false := by simp [wrOk, not_alive_of_not_glbLive hg]

theorem nothing_of_not_glbLive_alive {c : Instr} {f : Pnm → Pnm} (hc : exec c s = run (whenAlive f) s) : DoesNothing c s :=
  nothing_run hc (by simp [whenAlive, not_alive_of_not_glbLive hg])

theorem nothing_of_not_glbLive_wr {c : Instr} {f : Pnm → Pnm} (hc : exec c s = run (whenWr f) s) : DoesNothing c s :=
  nothing_run hc (by simp [whenWr, not_wrOk_of_not_glbLive hg])

theorem nothing_of_not_glbLive_glb {c : Instr} {f : Pnm → Pnm} (hc : exec c s = run (whenGlb f) s) : DoesNothing c s :=
  nothing_run hc (if_neg hg)

theorem nothing_of_not_glbLive_aliveM {c : Instr} {f : PM → PM} (hc : exec c s = runMem (whenAliveM f) s) :
    DoesNothing c s := by
  simp [DoesNothing, hc, runMem, whenAliveM, not_alive_of_not_glbLive hg]

theorem nothing_of_not_glbLive_glbM {c : Instr} {f : PM → PM} (hc : exec c s = runMem (whenGlbM f) s) :
    DoesNothing c s := by
  have hf : whenGlbM f (s.m, s.mem) = (s.m, s.mem) := if_neg hg
  simp [DoesNothing, hc, runMem, hf]

theorem nothing_of_not_glbLive_sviStop : DoesNothing .sviStop s := by
  change runMem (whenWrM _) s = _
  simp [runMem, whenWrM, not_wrOk_of_not_glbLive hg]

theorem nothing_of_not_glbLive_holdupEnd : DoesNothing .holdupEnd s := by
  have hend : holdupEnd (s.m, s.mem) = (s.m, s.mem) := by
    unfold holdupEnd
    split
    · rfl
    · rw [Bool.eq_false_of_not_eq_true hg, Bool.false_and, if_neg Bool.false_ne_true]
  change runMem _ s = _
  rw [runMem, hend]

theorem nothing_of_not_glbLive_read (fn : BitVec 9) (bar2 : Bool) (off : BitVec 24) (len : BitVec 13) :
    DoesNothing (.multiwordLoRead fn bar2 off len) s :=
  nothing_run rfl (if_pos (by simpa using hg))

theorem writeWord_of_not_glbLive (a : AtWrite) (f : Nat) (bar2 : Bool) (o : Nat) (d : Word) :
    writeWord a f bar2 o d (s.m, s.mem) = (s.m, s.mem) := by
  have hw : ¬ wrOk s.m = true := by simp [not_wrOk_of_not_glbLive hg]
  have hpf : writePf a o d (s.m, s.mem) = (s.m, s.mem) := by
    by_cases ho : 0x10000 ≤ o
    · exact writePf_not_writable a ho d hw
    · exact (if_pos (by omega)).trans (congrArg (·, s.mem) (if_neg hg))
  unfold writeWord
  split
  · rfl
  · split
    · exact onM_whenWr_of_not_writable _ hw
    · split
      · exact hpf
      · exact onM_whenWr_of_not_writable _ hw

theorem nothing_of_not_glbLive_write (fn : BitVec 9) (bar2 : Bool) (off : BitVec 24) (data : List Byte) (a : AtWrite) :
    DoesNothing (.registerWrite fn bar2 off data a) s :=
  nothing_registerWrite (hostWriteBytes_of_ignored _ _ _ _ _ _ fun x _ d => writeWord_of_not_glbLive hg a _ _ x d)

end

/-- Settles O6: it holds. Each command acts in one phase of the block that carries it out, and GLB works in all of them. -/
theorem nothingActsWithoutAStart : Obligations.NothingActsWithoutAStart := by
  intro c s hg hon hhost hsupply hremoved hcover hloop hbackup
  cases c with
  | powerOn found => exact absurd rfl (hon found)
  | hostReset found => exact absurd rfl (hhost found)
  | supplyReturn found => exact absurd rfl (hsupply found)
  | powerRemoved => exact absurd rfl hremoved
  | tamperCoverOpen opens => exact absurd rfl (hcover opens)
  | tamperLoopSense opens => exact absurd rfl (hloop opens)
  | backupSupplyLost => exact absurd rfl hbackup
  | registerWrite fn bar2 off data found => exact nothing_of_not_glbLive_write hg fn bar2 off data found
  | multiwordLoRead fn bar2 off len => exact nothing_of_not_glbLive_read hg fn bar2 off len
  | holdupEnd => exact nothing_of_not_glbLive_holdupEnd hg
  | sviStop => exact nothing_of_not_glbLive_sviStop hg
  | moduleResetEffect | bulkTransferDone => exact nothing_of_not_glbLive_glbM hg rfl
  | jnlFlushTimer | jnlFlushDone | opSecondTick | strapPoll | bootConfirm | fwGo | fwWriteDone | resetModuleWrite
  | fwWatchdog | memoryUe | maintReq | maintLeave | powerFailWarning | rideThrough | shutdown | rtcCommit | vbatLow
  | supplyOvervoltage | pcieLinkTrain | arbitrationCycle | arbStarvation => exact nothing_of_not_glbLive_glb hg rfl
  | capTblRead | capSegmentWrite | cyeStart | cyeStop | cyeTblRead | cyeTblWrite | lfArm | lfAbort | lfRevert | lfDiscard
  | jnlFlushWrite | crcScanGo | crcVerify | crcAbort | snapTrig | snapRelease | diaTblRead | diaTblWrite | fpeTblRead
  | fpeTblWrite | glideGo | gteWindowRead | gteWindowArm | gteWindowUpdate | gteWindowCancel | kick | hifFnEnable
  | hifFnDisable | serviceWrite | shrFlr | shareWrite | mr3Ext | attGo | lcGo | migPrepare | migCancel | keyTblRead
  | keyTblWrite | macPortEnable | macRetrain | macPairmodeWrite | outTblRead | outTblWrite | pairEnWrite | parResync
  | sioToutReset | sioLatchReset | sioLockoutReset | sioRun | sioStop | sioTblRead | sioTblWrite | sviTblRead
  | sviTblWrite | sviRun | sviPlaneWrite | timRun | timIncCommit | timStep | timSlewWrite | timSelWrite | timLockWrite
  | timSnap => exact nothing_of_not_glbLive_wr hg rfl
  | segmentClearDone | rearmDone | crcScanDone | selftestDone | planeClose | commandFetchDone | acceptanceInstant | nop
  | hostWrite | gateArm | gateUpdate | gateCancel | gateRead | publish | lockSelect | lockOperate | lockRenew | lockCancel
  | captureArm | captureDisarm | captureForce | tableLoad | imageLoad | vfSeqReset | shareRevoke | keyImport | keyRetire
  | selftest | journalRead | vfEnableClear | frameRx | peerFailed => exact nothing_of_not_glbLive_aliveM hg rfl
  | _ => exact nothing_of_not_glbLive_alive hg rfl

/-! ## Reads (R555, R557, R561) -/

/-- Each word of a list is latched as it reads in `v`. -/
def latchAll (v : Nat → Word) (hs : List Nat) (m : Pnm) : Pnm :=
  hs.foldl (fun x h => { x with latched := NMap.set (fun _ => none) x.latched h (some (v h)) }) m

theorem latchAll_cons (v : Nat → Word) (h : Nat) (t : List Nat) (m : Pnm) :
    latchAll v (h :: t) m = latchAll v t { m with latched := NMap.set (fun _ => none) m.latched h (some (v h)) } := rfl

theorem latchAll_keeps (v : Nat → Word) (hs : List Nat) (m : Pnm) :
    ∃ l : NMap (Option Word), latchAll v hs m = { m with latched := l } := by
  induction hs generalizing m with
  | nil => exact ⟨m.latched, rfl⟩
  | cons h t ih =>
    obtain ⟨l, hl⟩ := ih { m with latched := NMap.set (fun _ => none) m.latched h (some (v h)) }
    exact ⟨l, hl⟩

theorem latched_latchAll (v : Nat → Word) (hs : List Nat) (m : Pnm) (k : Nat) :
    NMap.get (fun _ => none) (latchAll v hs m).latched k =
      if k ∈ hs then some (v k) else NMap.get (fun _ => none) m.latched k := by
  induction hs generalizing m with
  | nil => simp [latchAll]
  | cons h t ih =>
    rw [latchAll_cons, ih, NMap.get_set]
    by_cases hk : k = h
    · simp [hk]
    · simp [hk]

/-- A read of one word of the physical function. -/
theorem hostRead_word {s : State} (hl : s.live) {o : Nat} (ho : o % 4 = 0) :
    hostRead 0 false o 4 s.m = emit (readPf o s.m).1 [.regRead 0 (leBytes 4 (readPf o s.m).2.toNat)] := by
  have hg : glbOn s.m = true := hl.glb
  have hphase : s.m.glb.phase = .run := by simpa [State.live, alive] using hl
  have hfirst : o / 4 * 4 = o := by omega
  have hk : (List.range (cdiv (o + 4 - o) 4)) = [0] := by rw [Nat.add_sub_cancel_left]; rfl
  have hword : readWord 0 false o s.m = readPf o s.m := by
    simp [readWord, hphase, alive, fnExists, vfState]
  have hlen : (leBytes 4 (readPf o s.m).2.toNat).length = 4 := leBytes_length _ _
  simp only [hostRead, hg, hfirst, hk, hword, Bool.not_true, Bool.false_eq_true, if_false, List.foldl_cons, List.foldl_nil,
    Nat.mul_zero, Nat.add_zero, Nat.sub_self, List.nil_append, List.drop_zero]
  rw [List.take_of_length_le (Nat.le_of_eq hlen)]

theorem readPf_lo {o : Nat} (h : higherWords o ≠ []) (m : Pnm) : readPf o m = (latchAll (regView m) (higherWords o) m, regView m o) :=
  if_pos h

theorem readPf_higher {o : Nat} (h : higherWords o = []) (hh : isHigher o = true) (m : Pnm) :
    readPf o m = (m, (NMap.get (fun _ => none) m.latched o).getD (regView m o)) := by simp [readPf, h, hh]

theorem readPf_plain {o : Nat} (h : higherWords o = []) (hh : isHigher o = false) (m : Pnm) :
    readPf o m = (m, regView m o) := by simp [readPf, h, hh]

/-- A read that latches nothing changes the answers alone. -/
theorem does_read_word {s : State} {off : BitVec 24} {w : Word} (hl : s.live) (h4 : off.toNat % 4 = 0)
    (hr : readPf off.toNat s.m = (s.m, w)) : Does (.multiwordLoRead 0 false off 4) s [.tel] [] fun n =>
      n.tel = { s.m.tel with out := s.m.tel.out ++ [.regRead 0 (leBytes 4 w.toNat)] } :=
  does_run rfl (n := emit s.m [.regRead 0 (leBytes 4 w.toNat)]) ((hostRead_word hl h4).trans (by rw [hr])) (keeps_tel _ _)
    (.of_regs rfl) rfl

theorem does_read_latches {s : State} {off : BitVec 24} (hl : s.live) (h4 : off.toNat % 4 = 0)
    (hh : higherWords off.toNat ≠ []) : Does (.multiwordLoRead 0 false off 4) s [.latched, .tel] [] fun n =>
      n.tel = { s.m.tel with out := s.m.tel.out ++ [.regRead 0 (leBytes 4 (regView s.m off.toNat).toNat)] } ∧
      (∀ h ∈ higherWords off.toNat, NMap.get (fun _ => none) n.latched h = some (regView s.m h)) ∧
      (∀ h, h ∉ higherWords off.toNat → NMap.get (fun _ => none) n.latched h = NMap.get (fun _ => none) s.m.latched h) := by
  obtain ⟨l, hlatch⟩ := latchAll_keeps (regView s.m) (higherWords off.toNat) s.m
  have hget := latched_latchAll (regView s.m) (higherWords off.toNat) s.m
  rw [hlatch] at hget
  have hread := hostRead_word hl h4
  rw [readPf_lo hh, hlatch] at hread
  refine does_run rfl hread (fun p hp => ?_) (.of_regs rfl) ⟨rfl, fun h hm => ?_, fun h hm => ?_⟩
  · simp only [List.mem_cons, List.not_mem_nil, or_false, not_or] at hp
    cases p with
    | latched => exact absurd rfl hp.1
    | tel => exact absurd rfl hp.2
    | _ => rfl
  · exact (hget h).trans (if_pos hm)
  · exact (hget h).trans (if_neg hm)

/-- Settles O9: it holds. A read of one word is one answer, and latches the higher words of its register before it. -/
theorem readsLatchTheHigherWords : Obligations.ReadsLatchTheHigherWords := by
  intro s off
  exact ⟨fun h4 hl hh => does_read_latches hl h4 hh, fun h4 hl h hh => does_read_word hl h4 (readPf_higher h hh _),
    fun h4 hl h hh => does_read_word hl h4 (readPf_plain h hh _),
    fun hg => nothing_of_not_glbLive_read hg 0 false off 4⟩

end Machine
end Sys2Proof
end

section
/-! SUPPORT. Frames of the parts that the proofs before left out, fields of words that are stored whole, and the refusal
that most blocks share. -/

namespace Sys2Proof

theorem bits_loW (v hi lo : Nat) (h : hi < 32 := by decide) : bits (loW v) hi lo = v / 2 ^ lo % 2 ^ (hi + 1 - lo) := by
  apply Nat.eq_of_testBit_eq
  intro i
  simp only [bits, bitsN, loW, BitVec.toNat_ofNat, Nat.testBit_mod_two_pow, Nat.testBit_div_two_pow]
  by_cases hi' : i < hi + 1 - lo
  · have h32 : i + lo < 32 := by omega
    simp [hi', h32]
  · simp [hi']

theorem bit_loW (v i : Nat) (h : i < 32 := by decide) : bit (loW v) i = v.testBit i := by
  rw [bit, loW, BitVec.getLsbD_ofNat, decide_eq_true h, Bool.true_and]

namespace Machine
open Leapfrog

section
variable {ps : List Part} {os : List Nat} {m n : Pnm}

/-! ## Frames -/

theorem keeps_glb (h : .glb ∈ ps) (m : Pnm) (x : Glb) : Keeps ps m { m with glb := x } := by
  intro p hp
  cases p with
  | glb => exact absurd h hp
  | _ => rfl

theorem keeps_scans (h : .scans ∈ ps) (m : Pnm) (x : List Scan) : Keeps ps m { m with scans := x } := by
  intro p hp
  cases p with
  | scans => exact absurd h hp
  | _ => rfl

theorem touches_glb (m : Pnm) (x : Glb) (h : .glb ∈ ps := by simp) : Touches ps os m { m with glb := x } :=
  ⟨keeps_glb h m x, .of_regs rfl, rfl, rfl⟩

theorem touches_scans (m : Pnm) (x : List Scan) (h : .scans ∈ ps := by simp) : Touches ps os m { m with scans := x } :=
  ⟨keeps_scans h m x, .of_regs rfl, rfl, rfl⟩

theorem touches_key (m : Pnm) (x : Key) (h : .key ∈ ps := by simp) : Touches ps os m { m with key := x } :=
  ⟨keeps_key h m x, .of_regs rfl, rfl, rfl⟩

theorem touches_fpe (m : Pnm) (x : Fpe) (h : .fpe ∈ ps := by simp) : Touches ps os m { m with fpe := x } :=
  ⟨keeps_fpe h m x, .of_regs rfl, rfl, rfl⟩

theorem touches_wf (m : Pnm) (o hi lo v : Nat) (hp : .regs ∈ ps := by simp) (ho : o ∈ os := by simp) :
    Touches ps os m (wf m o hi lo v) := touches_wr m _ hp ho

theorem touches_sb (m : Pnm) (o i : Nat) (hp : .regs ∈ ps := by simp) (ho : o ∈ os := by simp) :
    Touches ps os m (sb m o i) := touches_wr m _ hp ho

theorem touches_cb (m : Pnm) (o i : Nat) (hp : .regs ∈ ps := by simp) (ho : o ∈ os := by simp) :
    Touches ps os m (cb m o i) := touches_wr m _ hp ho

theorem touches_inc (m : Pnm) (o k : Nat) (hp : .regs ∈ ps := by simp) (ho : o ∈ os := by simp) :
    Touches ps os m (inc m o k) := touches_wr m _ hp ho

/-- A register is stored whole. -/
theorem touches_set (m : Pnm) (o : Nat) (v : Word) (hp : .regs ∈ ps := by simp) (ho : o ∈ os := by simp) :
    Touches ps os m (wr m o v) := touches_wr m v hp ho

theorem touches_wrs (m : Pnm) (o : Nat) (l : List Word) (hp : .regs ∈ ps := by simp)
    (ho : rowAt o l.length ⊆ os := by simp) : Touches ps os m (wrs m o l) := by
  induction l generalizing m o with
  | nil => exact .refl _ _ _
  | cons w t ih =>
    rw [List.length_cons, rowAt_succ, List.cons_subset] at ho
    exact (touches_wr m w hp ho.1).trans (ih _ _ ho.2)

/-- What touches nothing leaves a part as it is. -/
theorem Leapfrog.Touches.part (h : Touches ps os m n) (p : Part) (hp : p ∉ ps := by simp) : p.same m n := h.parts p hp

theorem Leapfrog.Touches.rd (h : Touches ps os m n) {o : Nat} (ho : o ∉ os := by decide) : rd n o = rd m o := h.regs o ho

/-! ## Fields of words stored whole -/

theorem rf_wr_loW (m : Pnm) (o v hi lo : Nat) (h : hi < 32 := by decide) :
    rf (wr m o (loW v)) o hi lo = v / 2 ^ lo % 2 ^ (hi + 1 - lo) := by rw [rf, rd_wr_same, bits_loW v hi lo h]

theorem rb_congr {o : Nat} (h : Machine.rd n o = Machine.rd m o) (i : Nat) : rb n o i = rb m o i := by rw [rb, h, rb]

theorem rb_wf_bit (m : Pnm) (o i : Nat) (b : Bool) (h : i < 32 := by decide) : rb (wf m o i i (b2n b)) o i = b := by
  cases b <;> simp [rb, rd_wf, bit_setBits, h, b2n]

theorem rb_wf_apart (m : Pnm) (o hi lo v i : Nat) (h : hi < i ∨ i < lo := by decide) :
    rb (wf m o hi lo v) o i = rb m o i := by
  rw [rb, rd_wf, if_pos rfl, bit_setBits, if_neg (by omega), rb]

/-! ## Refusals -/

/-- A refused register write sets CFG_REJECT and names the check (R10). -/
def rejected (flags err field : Nat) (m : Pnm) : Pnm := cfgErr (sb m flags 0) err field

theorem touches_rejected (flags err field : Nat) (m : Pnm) (hp : .regs ∈ ps := by simp) (hf : flags ∈ os := by simp)
    (he : err ∈ os := by simp) : Touches ps os m (rejected flags err field m) :=
  (touches_sb m flags 0 hp hf).trans (touches_wf _ err 7 0 field hp he)

theorem rb_rejected {flags err : Nat} (h : flags ≠ err) (field : Nat) (m : Pnm) :
    rb (rejected flags err field m) flags 0 = true :=
  (rb_congr (rd_wr_ne _ _ _ h) 0).trans (rb_sb_same m flags 0 (by decide))

theorem rf_rejected (flags err : Nat) {field : Nat} (h : field < 256) (m : Pnm) :
    rf (rejected flags err field m) err 7 0 = field :=
  (rf_wf_same _ _ 7 0 field (by decide)).trans (Nat.mod_eq_of_lt h)

theorem does_reject {c : Instr} {s : State} {f : Pnm → Pnm} {flags err field : Nat} (hw : s.writable)
    (hc : exec c s = run (whenWr f) s) (hf : f s.m = rejected flags err field s.m) (hne : flags ≠ err := by decide)
    (hlt : field < 256 := by decide) :
    Does c s [.regs] [flags, err] fun n => rb n flags 0 = true ∧ rf n err 7 0 = field :=
  have ht := touches_rejected (ps := [.regs]) (os := [flags, err]) flags err field s.m
  does_wr f hw hc hf ht.parts ht.regs ⟨rb_rejected hne _ _, rf_rejected _ _ hlt _⟩

/-! ## Commands that reach the capture region -/

theorem whenAliveM_of_live (f : PM → PM) {s : State} (h : s.live) : whenAliveM f (s.m, s.mem) = f (s.m, s.mem) := if_pos h

theorem exec_al {c : Instr} {s : State} {f : PM → PM} {r : Memory} (hl : s.live)
    (hc : exec c s = runMem (whenAliveM f) s) (hf : f (s.m, s.mem) = (n, r)) : exec c s = .next { s with m := n, mem := r } := by
  rw [hc, runMem, whenAliveM_of_live f hl, hf]

/-- A command that reaches the capture region, with what it makes of the module and of the bytes. -/
theorem doesMem_al {c : Instr} {s : State} {f : PM → PM} {r : Memory} {hit : Nat → Prop} {P : Pnm → Memory → Prop}
    (hl : s.live) (hc : exec c s = runMem (whenAliveM f) s) (hf : f (s.m, s.mem) = (n, r)) (ht : Touches ps os s.m n)
    (hb : ∀ a, ¬ hit a → Memory.read r a = Memory.read s.mem a) (hp : P n r) : DoesMem c s ps os hit P :=
  ⟨n, r, exec_al hl hc hf, ht.parts, ht.regs, hb, hp⟩

/-- Such a command where it leaves the bytes alone. -/
theorem does_alM {c : Instr} {s : State} {f : PM → PM} {P : Pnm → Prop} (hl : s.live)
    (hc : exec c s = runMem (whenAliveM f) s) (hf : f (s.m, s.mem) = (n, s.mem)) (ht : Touches ps os s.m n) (hp : P n) :
    Does c s ps os P := ⟨n, exec_al hl hc hf, ht.parts, ht.regs, hp⟩

theorem nothing_alM {c : Instr} {s : State} {f : PM → PM} (hc : exec c s = runMem (whenAliveM f) s)
    (hf : f (s.m, s.mem) = (s.m, s.mem)) : DoesNothing c s := by
  have hal : whenAliveM f (s.m, s.mem) = (s.m, s.mem) := by
    unfold whenAliveM
    split
    · exact hf
    · rfl
  rw [DoesNothing, hc, runMem, hal]

end

end Machine
end Sys2Proof
end

section
/-! PROOFS. Migration of keys (R478): preparation, its end, and its cancellation, slot by slot. -/

namespace Sys2Proof
namespace Machine
namespace Keys
open Leapfrog

/-! ## Slots and what is stored for them -/

theorem getSlot_of_ne_zero {i : Nat} (h : i ≠ 0) (m : Pnm) : getSlot m i = NMap.get KeySlot.init m.key.slots i := if_neg h

theorem getSlot_congr {m n : Pnm} (hs : n.key.slots = m.key.slots) {i : Nat} (h : i ≠ 0) : getSlot n i = getSlot m i := by
  rw [getSlot_of_ne_zero h, getSlot_of_ne_zero h, hs]

theorem getSlot_putSlot_same {i : Nat} (h : i ≠ 0) (k : KeySlot) (m : Pnm) : getSlot (putSlot i k m) i = k :=
  (getSlot_of_ne_zero h _).trans (NMap.get_set_same _ _ _ _)

@[simp] theorem getStore_putStore_same (i : Nat) (k : KeyStore) (m : Pnm) : getStore (putStore i k m) i = k :=
  NMap.get_set_same _ _ _ _

theorem getStore_putStore_ne {i j : Nat} (h : j ≠ i) (k : KeyStore) (m : Pnm) :
    getStore (putStore i k m) j = getStore m j := NMap.get_set_ne _ _ _ _ _ h

theorem getStore_congr {m n : Pnm} (h : n.key = m.key) (j : Nat) : getStore n j = getStore m j := by rw [getStore, h, getStore]

/-- A slot for which nothing is stored holds no record of a migration. -/
theorem pend_of_not_stored {m : Pnm} {i : Nat} (h : i ∉ m.key.store.map (·.1)) : (getStore m i).pend = false :=
  Decidable.byContradiction fun hp =>
    h (List.mem_map.mpr ⟨_, NMap.mem_of_get_ne fun e => hp (congrArg KeyStore.pend e), rfl⟩)

theorem committed_setOther (k : KeyStore) (r : Option KeyRec) : (k.setOther r).committed = k.committed := by
  unfold KeyStore.setOther KeyStore.committed
  cases k.copy <;> rfl

theorem other_setOther (k : KeyStore) (r : Option KeyRec) : (k.setOther r).other = r := by
  unfold KeyStore.setOther KeyStore.other
  cases h : k.copy <;> simp

theorem gen_setOther (k : KeyStore) (r : Option KeyRec) : (k.setOther r).gen = k.gen := by
  unfold KeyStore.setOther
  cases k.copy <;> rfl

/-! ## PREPARE -/

section
variable {s : State}

/-- PREPARE shows PHASE 1 and the slot whose firmware the records are for. -/
theorem migPrepare_starts (boot : Bool) (hw : s.writable) (hph : rf s.m Reg.KEY_MIG_STAT 1 0 = 0) :
    Does (.migPrepare boot) s [.regs, .key] [Reg.KEY_MIG_CTRL, Reg.KEY_MIG_STAT] fun n =>
      n.key = { s.m.key with migBoot := boot } ∧ rf n Reg.KEY_MIG_STAT 1 0 = 1 ∧ rb n Reg.KEY_MIG_CTRL 4 = boot := by
  have ht : Touches [.regs, .key] [Reg.KEY_MIG_CTRL, Reg.KEY_MIG_STAT] s.m
      (wr (wf { s.m with key := { s.m.key with migBoot := boot } } Reg.KEY_MIG_CTRL 4 4 (b2n boot)) Reg.KEY_MIG_STAT 1) :=
    ((touches_key s.m _).trans (touches_wf _ Reg.KEY_MIG_CTRL _ _ _)).trans (touches_set _ Reg.KEY_MIG_STAT _)
  exact does_wr (migPrepare boot) hw rfl (if_neg (not_not.mpr hph)) ht.parts ht.regs
    ⟨rfl, rf_wr_loW _ _ 1 1 0, (rb_congr (rd_wr_ne _ _ _ (by decide)) 4).trans (rb_wf_bit _ _ 4 boot)⟩

theorem migPrepare_refuses (boot : Bool) (hw : s.writable) (hph : rf s.m Reg.KEY_MIG_STAT 1 0 ≠ 0) :
    Does (.migPrepare boot) s [.regs] [Reg.KEY_FLAGS, Reg.KEY_CFG_ERR] fun n =>
      rb n Reg.KEY_FLAGS 0 = true ∧ rf n Reg.KEY_CFG_ERR 7 0 = 4 :=
  does_reject hw rfl (if_pos hph)

end

/-! ## The end of a preparation -/

/-- From `m` to `n` the records of slots in `l` were written for firmware that measures to `mr`; nothing else changed. -/
structure Migrated (mr : List (List Byte)) (l : List Nat) (m n : Pnm) : Prop where
  store : n = { m with key := { m.key with store := n.key.store } }
  others : ∀ i, i ∉ l → getStore n i = getStore m i
  written : ∀ i, i ∈ l → (getStore n i).pend = true ∧ (getStore n i).committed = (getStore m i).committed ∧
    (getStore n i).gen = (getStore m i).gen ∧
    ∃ r, (getStore n i).other = some r ∧ r.migTag = kwkIdOf m mr ∧ r.gen = (getStore m i).gen + 1

/-- The wrapping key of a record rests on no record. -/
theorem kwkIdOf_store (m : Pnm) (x : NMap KeyStore) (mr : List (List Byte)) :
    kwkIdOf { m with key := { m.key with store := x } } mr = kwkIdOf m mr := rfl

theorem migrated_migWrite (mr : List (List Byte)) (i : Nat) (m : Pnm) : Migrated mr [i] m (migWrite mr i m) where
  store := rfl
  others j hj := getStore_putStore_ne (by simpa using hj) _ m
  written j hj := by
    obtain rfl := List.mem_singleton.mp hj
    unfold migWrite
    rw [getStore_putStore_same]
    exact ⟨rfl, committed_setOther _ _, gen_setOther _ _, _, other_setOther _ _, rfl, rfl⟩

theorem Migrated.trans {mr : List (List Byte)} {l k : List Nat} {m n p : Pnm} (h : Migrated mr l m n) (h' : Migrated mr k n p) :
    Migrated mr (l ++ k) m p where
  store := by rw [h'.store, h.store]
  others i hi := by
    rw [List.mem_append, not_or] at hi
    exact (h'.others i hi.2).trans (h.others i hi.1)
  written i hi := by
    have hid : kwkIdOf n mr = kwkIdOf m mr := by rw [h.store, kwkIdOf_store]
    by_cases hk : i ∈ k
    · obtain ⟨hpend, hcom, hgen, r, hr, htag, hrgen⟩ := h'.written i hk
      by_cases hl : i ∈ l
      · obtain ⟨-, hcom', hgen', -⟩ := h.written i hl
        exact ⟨hpend, hcom.trans hcom', hgen.trans hgen', r, hr, htag.trans hid, hrgen.trans (by rw [hgen'])⟩
      · have hsame := h.others i hl
        rw [hsame] at hcom hgen hrgen
        exact ⟨hpend, hcom, hgen, r, hr, htag.trans hid, hrgen⟩
    · have hl : i ∈ l := (List.mem_append.mp hi).resolve_right hk
      rw [h'.others i hk]
      exact h.written i hl

theorem migrated_foldl (mr : List (List Byte)) (l : List Nat) (m : Pnm) :
    Migrated mr l m (l.foldl (fun x i => migWrite mr i x) m) := by
  induction l generalizing m with
  | nil => exact ⟨rfl, fun _ _ => rfl, fun _ h => absurd h List.not_mem_nil⟩
  | cons i t ih => exact (migrated_migWrite mr i m).trans (ih _)

section
variable {s : State}

/-- The measurements of firmware that is not running (R460). -/
def bundleMr (b : Bundle) : List (List Byte) :=
  (List.range 3).map fun i => Config.sha384 (List.replicate 48 0 ++ Config.sha384 (b.images.getD i []))

theorem migPrepareDone_verified {m : Pnm} {b : Bundle} (hph : rf m Reg.KEY_MIG_STAT 1 0 = 1)
    (hb : m.glb.slots.getD (b2n m.key.migBoot) none = some b) (hv : b.verifies = true) :
    migPrepareDone m = raise { src := 12, code := 0x0B, cls := 2, items := [2, 0] }
      (wr ((migSlots m).foldl (fun x i => migWrite (bundleMr b) i x) m) Reg.KEY_MIG_STAT
        (loW (2 + 65536 * (migSlots m).length))) := by
  simp only [migPrepareDone, hph, hb, hv, if_true, bundleMr]

theorem migPrepareDone_failed {m : Pnm} (hph : rf m Reg.KEY_MIG_STAT 1 0 = 1)
    (hb : ∀ b, m.glb.slots.getD (b2n m.key.migBoot) none = some b → b.verifies = false) :
    migPrepareDone m = raise { src := 12, code := 0x0B, cls := 2, items := [0, 3] } (wr m Reg.KEY_MIG_STAT (loW (4 * 3))) := by
  unfold migPrepareDone
  rw [if_pos hph]
  split
  next b hs => rw [if_neg (ne_true_of_eq_false (hb b hs))]
  next => rfl

theorem migPrepareDone_writes {b : Bundle} (hl : s.live) (hph : rf s.m Reg.KEY_MIG_STAT 1 0 = 1)
    (hb : s.m.glb.slots.getD (b2n s.m.key.migBoot) none = some b) (hv : b.verifies = true) :
    Does .migPrepareDone s [.regs, .tel, .key] [Reg.KEY_MIG_STAT] fun n =>
      rf n Reg.KEY_MIG_STAT 1 0 = 2 ∧ rf n Reg.KEY_MIG_STAT 31 16 = (migSlots s.m).length % 65536 ∧
      n.key = { s.m.key with store := n.key.store } ∧
      (∀ i, i ∉ migSlots s.m → getStore n i = getStore s.m i) ∧
      (∀ i, i ∈ migSlots s.m → (getStore n i).pend = true ∧ (getStore n i).committed = (getStore s.m i).committed ∧
        ∃ r, (getStore n i).other = some r ∧ r.migTag = kwkIdOf s.m (bundleMr b) ∧ r.gen = (getStore s.m i).gen + 1) := by
  have hmig := migrated_foldl (bundleMr b) (migSlots s.m) s.m
  have hdone := migPrepareDone_verified hph hb hv
  generalize (migSlots s.m).foldl (fun x i => migWrite (bundleMr b) i x) s.m = k at hmig hdone
  have hk : Touches [.regs, .tel, .key] [Reg.KEY_MIG_STAT] s.m k := by
    rw [hmig.store]
    exact touches_key s.m _
  have ht := (hk.trans (touches_set k Reg.KEY_MIG_STAT (loW (2 + 65536 * (migSlots s.m).length)))).trans
    (touches_raise { src := 12, code := 0x0B, cls := 2, items := [2, 0] } _)
  refine does_al migPrepareDone hl rfl hdone ht.parts ht.regs
    ⟨(rf_wr_loW k Reg.KEY_MIG_STAT _ 1 0).trans (by omega), (rf_wr_loW k Reg.KEY_MIG_STAT _ 31 16).trans (by omega), congrArg Pnm.key hmig.store,
      hmig.others, fun i hi => ?_⟩
  obtain ⟨hpend, hcom, -, hr⟩ := hmig.written i hi
  exact ⟨hpend, hcom, hr⟩

theorem migPrepareDone_fails (hl : s.live) (hph : rf s.m Reg.KEY_MIG_STAT 1 0 = 1)
    (hb : ∀ b, s.m.glb.slots.getD (b2n s.m.key.migBoot) none = some b → b.verifies = false) :
    Does .migPrepareDone s [.regs, .tel] [Reg.KEY_MIG_STAT] fun n =>
      rf n Reg.KEY_MIG_STAT 1 0 = 0 ∧ rf n Reg.KEY_MIG_STAT 4 2 = 3 ∧
      Raised { src := 12, code := 0x0B, cls := 2, items := [0, 3] } s.m n := by
  have ht : Touches [.regs, .tel] [Reg.KEY_MIG_STAT] s.m (raise { src := 12, code := 0x0B, cls := 2, items := [0, 3] }
      (wr s.m Reg.KEY_MIG_STAT (loW (4 * 3)))) := (touches_set s.m Reg.KEY_MIG_STAT _).trans (touches_raise _ _)
  exact does_al migPrepareDone hl rfl (migPrepareDone_failed hph hb) ht.parts ht.regs
    ⟨rf_wr_loW s.m Reg.KEY_MIG_STAT (4 * 3) 1 0, rf_wr_loW s.m Reg.KEY_MIG_STAT (4 * 3) 4 2, wr s.m Reg.KEY_MIG_STAT (loW (4 * 3)), rfl, rfl⟩

/-! ## CANCEL -/

/-- The record of a migration goes. -/
def cancelled (k : KeyStore) : KeyStore := if k.pend then { k.setOther none with pend := false } else k

theorem cancelled_cancelled (k : KeyStore) : cancelled (cancelled k) = cancelled k := by
  unfold cancelled
  cases h : k.pend with
  | false => simp [h]
  | true => simp

/-- CANCEL reaches one slot. -/
def cancelSlot (x : Pnm) (i : Nat) : Pnm :=
  if (getStore x i).pend then putStore i { (getStore x i).setOther none with pend := false } x else x

theorem getStore_cancelSlot (x : Pnm) (i j : Nat) :
    getStore (cancelSlot x i) j = if j = i then cancelled (getStore x j) else getStore x j := by
  unfold cancelSlot cancelled
  by_cases hj : j = i
  · subst hj
    split
    next => simp
    next => simp
  · rw [if_neg hj]
    split
    · exact getStore_putStore_ne hj _ x
    · rfl

theorem cancelSlot_store (x : Pnm) (i : Nat) :
    cancelSlot x i = { x with key := { x.key with store := (cancelSlot x i).key.store } } := by
  unfold cancelSlot
  split <;> rfl

theorem getStore_foldl_cancelSlot (l : List Nat) (m : Pnm) (j : Nat) :
    getStore (l.foldl cancelSlot m) j = if j ∈ l then cancelled (getStore m j) else getStore m j := by
  induction l generalizing m with
  | nil => simp
  | cons i t ih =>
    rw [List.foldl_cons, ih, getStore_cancelSlot]
    by_cases hj : j = i
    · simp [hj, cancelled_cancelled]
    · simp [hj]

theorem foldl_cancelSlot_store (l : List Nat) (m : Pnm) :
    l.foldl cancelSlot m = { m with key := { m.key with store := (l.foldl cancelSlot m).key.store } } := by
  induction l generalizing m with
  | nil => rfl
  | cons i t ih => rw [List.foldl_cons, ih, cancelSlot_store]

theorem migCancel_erases (hw : s.writable) (hph : rf s.m Reg.KEY_MIG_STAT 1 0 = 2) :
    Does .migCancel s [.regs, .key] [Reg.KEY_MIG_STAT] fun n =>
      rf n Reg.KEY_MIG_STAT 1 0 = 0 ∧ n.key = { s.m.key with store := n.key.store } ∧
      ∀ i, getStore n i = if (getStore s.m i).pend = true then
        { (getStore s.m i).setOther none with pend := false } else getStore s.m i := by
  have hstore := foldl_cancelSlot_store (s.m.key.store.map (·.1)) s.m
  have hget := getStore_foldl_cancelSlot (s.m.key.store.map (·.1)) s.m
  have hcancel : migCancel s.m = wf (wf ((s.m.key.store.map (·.1)).foldl cancelSlot s.m) Reg.KEY_MIG_STAT 1 0 0)
      Reg.KEY_MIG_STAT 24 16 0 := if_neg (not_not.mpr hph)
  generalize (s.m.key.store.map (·.1)).foldl cancelSlot s.m = k at hstore hget hcancel
  have hk : Touches [.regs, .key] [Reg.KEY_MIG_STAT] s.m k := by
    rw [hstore]
    exact touches_key s.m _
  have ht := (hk.trans (touches_wf k Reg.KEY_MIG_STAT 1 0 0)).trans (touches_wf _ Reg.KEY_MIG_STAT 24 16 0)
  refine does_wr migCancel hw rfl hcancel ht.parts ht.regs
    ⟨(rf_wf_apart _ _ _ _ _ _ _ (by decide)).trans (rf_wf_same k _ 1 0 0 (by decide)), congrArg Pnm.key hstore, fun i => ?_⟩
  refine (hget i).trans ?_
  split
  next => rfl
  next hi => rw [if_neg (ne_true_of_eq_false (pend_of_not_stored hi))]

theorem migCancel_refuses (hw : s.writable) (hph : rf s.m Reg.KEY_MIG_STAT 1 0 ≠ 2) :
    Does .migCancel s [.regs] [Reg.KEY_FLAGS, Reg.KEY_CFG_ERR] fun n =>
      rb n Reg.KEY_FLAGS 0 = true ∧ rf n Reg.KEY_CFG_ERR 7 0 = 5 :=
  does_reject hw rfl (if_pos hph)

end

end Keys

open Keys in
/-- Settles O47: it holds. PHASE says which of the three commands is taken, and each treats slot by slot alike. -/
theorem migrationIsPreparedAndCancelled : Obligations.MigrationIsPreparedAndCancelled := fun _ =>
  ⟨fun boot => migPrepare_starts boot, fun boot => migPrepare_refuses boot,
    fun _ hl hph hb hv => migPrepareDone_writes hl hph hb hv, migPrepareDone_fails,
    fun _ hph => nothing_al migPrepareDone rfl (if_neg hph), migCancel_erases, migCancel_refuses⟩

end Machine
end Sys2Proof
end

section
/-! PROOFS. Attestation and the life cycle (R482, R483): a statement from its claims to its signature, and a transition from
its request to the end of its destruction. -/

namespace Sys2Proof
namespace Machine
namespace Keys
open Leapfrog

section
variable {s : State}

/-! ## Statements (R483) -/

theorem attGo_takes_claims (hw : s.writable) (ha : s.m.key.att = none) (hi : idkPresent s.m = true) :
    Does .attGo s [.regs, .key] [Reg.KEY_STAT] fun n =>
      n.key = { s.m.key with att := some (claims s.m) } ∧ rb n Reg.KEY_STAT 6 = true := by
  have ht : Touches [.regs, .key] [Reg.KEY_STAT] s.m
      (sb { s.m with key := { s.m.key with att := some (claims s.m) } } Reg.KEY_STAT 6) :=
    (touches_key s.m _).trans (touches_sb _ Reg.KEY_STAT 6)
  exact does_wr attGo hw rfl (by simp [attGo, ha, hi]) ht.parts ht.regs ⟨rfl, rb_sb_same _ _ 6 (by decide)⟩

theorem attGo_refuses_second (hw : s.writable) (ha : s.m.key.att.isSome = true) :
    Does .attGo s [.regs] [Reg.KEY_ATT_STAT] fun n => rf n Reg.KEY_ATT_STAT 1 0 = 3 :=
  have ht : Touches [.regs] [Reg.KEY_ATT_STAT] s.m (wf s.m Reg.KEY_ATT_STAT 1 0 3) := touches_wf s.m Reg.KEY_ATT_STAT 1 0 3
  does_wr attGo hw rfl (if_pos ha) ht.parts ht.regs (rf_wf_same s.m _ 1 0 3 (by decide))

theorem attGo_without_identity (hw : s.writable) (ha : s.m.key.att = none) (hi : idkPresent s.m = false) :
    Does .attGo s [.regs, .key] [Reg.KEY_ATT_STAT] fun n =>
      n.key = { s.m.key with attBuf := [] } ∧ rf n Reg.KEY_ATT_STAT 1 0 = 2 := by
  have ht : Touches [.regs, .key] [Reg.KEY_ATT_STAT] s.m
      (wr { s.m with key := { s.m.key with attBuf := [] } } Reg.KEY_ATT_STAT 2) :=
    (touches_key s.m _).trans (touches_set _ Reg.KEY_ATT_STAT 2)
  exact does_wr attGo hw rfl (by simp [attGo, ha, hi]) ht.parts ht.regs ⟨rfl, rf_wr_loW _ Reg.KEY_ATT_STAT 2 1 0⟩

/-- Table 2 as a signed statement and the endorsement stand in it. -/
def signedStatement (c : List Byte) (m : Pnm) : List Byte :=
  leBytes 4 (coseSign1 (akKey m) c).length ++ coseSign1 (akKey m) c ++ leBytes 4 m.key.endorsement.length ++ m.key.endorsement

theorem attDone_places_statement {c : List Byte} (hl : s.live) (ha : s.m.key.att = some c) :
    Does .attDone s [.regs, .key] [Reg.KEY_STAT, Reg.KEY_ATT_STAT] fun n =>
      n.key = { s.m.key with att := none, attBuf := signedStatement c s.m } ∧
      rb n Reg.KEY_STAT 6 = false ∧ rf n Reg.KEY_ATT_STAT 1 0 = 1 := by
  have hdone : attDone s.m = wr (cb { s.m with key := { s.m.key with att := none, attBuf := signedStatement c s.m } }
      Reg.KEY_STAT 6) Reg.KEY_ATT_STAT (loW (1 + 65536 * (signedStatement c s.m).length)) := by
    simp only [attDone, ha, signedStatement]
  have ht : Touches [.regs, .key] [Reg.KEY_STAT, Reg.KEY_ATT_STAT] s.m
      (wr (cb { s.m with key := { s.m.key with att := none, attBuf := signedStatement c s.m } }
        Reg.KEY_STAT 6) Reg.KEY_ATT_STAT (loW (1 + 65536 * (signedStatement c s.m).length))) :=
    ((touches_key s.m _).trans (touches_cb _ Reg.KEY_STAT 6)).trans (touches_set _ Reg.KEY_ATT_STAT _)
  exact does_al attDone hl rfl hdone ht.parts ht.regs
    ⟨rfl, (rb_congr (rd_wr_ne _ _ _ (by decide)) 6).trans (rb_cb_same _ _ 6 (by decide)),
      (rf_wr_loW _ Reg.KEY_ATT_STAT _ 1 0).trans (by omega)⟩

theorem nothing_attDone (ha : s.m.key.att = none) : DoesNothing .attDone s := nothing_al attDone rfl (by simp only [attDone, ha])

/-! ## A transition that is refused (R482) -/

theorem lcGo_names {r : Nat} (hw : s.writable) (hr : r < 16) (h : lcGo s.m = wf s.m Reg.KEY_LC_STAT 3 0 r) :
    Does .lcGo s [.regs] [Reg.KEY_LC_STAT] fun n => rf n Reg.KEY_LC_STAT 3 0 = r :=
  have ht : Touches [.regs] [Reg.KEY_LC_STAT] s.m (wf s.m Reg.KEY_LC_STAT 3 0 r) := touches_wf s.m Reg.KEY_LC_STAT 3 0 r
  does_wr lcGo hw rfl h ht.parts ht.regs ((rf_wf_same s.m _ 3 0 r (by decide)).trans (Nat.mod_eq_of_lt hr))

theorem lcPermitted_iff {lc dest : Nat} :
    lcPermitted lc dest = true ↔ (lc = 1 ∧ dest = 2) ∨ ((lc = 1 ∨ lc = 2) ∧ dest = 3) ∨ (lc ≠ 4 ∧ dest = 4) := by
  simp only [lcPermitted, Bool.or_eq_true, Bool.and_eq_true, decide_eq_true_eq, or_assoc]

/-- A transition that is permitted leads to OWNED, RMA or SCRAPPED. -/
theorem dest_of_permitted {lc dest : Nat} (h : lcPermitted lc dest = true) : dest = 2 ∨ dest = 3 ∨ dest = 4 := by
  rcases lcPermitted_iff.mp h with ⟨-, h⟩ | ⟨-, h⟩ | ⟨-, h⟩ <;> simp [h]

/-! ## A transition that is taken (R475, R482) -/

/-- The slots that a transition ends have no key any more, and only slots and events have changed. -/
structure Invalidated (m n : Pnm) : Prop where
  touched : Touches [.tel, .key] [] m n
  key : n.key = { m.key with slots := n.key.slots }
  none_valid : ∀ i, i ≠ 0 → (getSlot n i).state ≠ 1

/-- One slot is ended. -/
def endSlot (x : Pnm) (p : Nat × KeySlot) : Pnm :=
  raise { src := 12, code := 0x08, cls := 2, items := [p.1, 2] }
    (putSlot p.1 { p.2 with state := 2, p0 := KeyPos.none, p1 := KeyPos.none } x)

theorem touches_endSlot (x : Pnm) (p : Nat × KeySlot) : Touches [.tel, .key] [] x (endSlot x p) :=
  (touches_key x _).trans (touches_raise _ _)

theorem foldl_endSlot_key (l : List (Nat × KeySlot)) (m : Pnm) :
    (l.foldl endSlot m).key = { m.key with slots := (l.foldl endSlot m).key.slots } := by
  induction l generalizing m with
  | nil => rfl
  | cons p t ih => rw [List.foldl_cons, ih, endSlot, raise_key]; rfl

/-- A slot is VALID after the end of those of a list only if it was, and is not among them. -/
theorem valid_of_foldl_endSlot {i : Nat} (l : List (Nat × KeySlot)) {m : Pnm}
    (h : (NMap.get KeySlot.init (l.foldl endSlot m).key.slots i).state = 1) :
    (NMap.get KeySlot.init m.key.slots i).state = 1 ∧ ∀ p ∈ l, p.1 ≠ i := by
  induction l generalizing m with
  | nil => exact ⟨h, fun _ hp => absurd hp List.not_mem_nil⟩
  | cons p t ih =>
    obtain ⟨hv, ht⟩ := ih h
    have hslots : (endSlot m p).key.slots =
        NMap.set KeySlot.init m.key.slots p.1 { p.2 with state := 2, p0 := KeyPos.none, p1 := KeyPos.none } := rfl
    rw [hslots, NMap.get_set] at hv
    split at hv
    next => exact absurd hv (by simp)
    next hi => exact ⟨hv, List.forall_mem_cons.mpr ⟨fun e => hi e.symm, ht⟩⟩

theorem invalidateAll_invalidates (m : Pnm) : Invalidated m (invalidateAll m) where
  touched := .foldl (fun p _ x => touches_endSlot x p) m
  key := foldl_endSlot_key _ m
  none_valid i hi h := by
    rw [getSlot_of_ne_zero hi] at h
    obtain ⟨hv, hl⟩ := valid_of_foldl_endSlot _ h
    have hmem : (i, NMap.get KeySlot.init m.key.slots i) ∈ m.key.slots :=
      NMap.mem_of_get_ne fun e => by rw [e] at hv; exact absurd (show 0 = 1 from hv) (by decide)
    exact hl _ (List.mem_filter.mpr ⟨hmem, by simp [hv]⟩) rfl

/-- The transition is shown, and its destruction is due where it has one. -/
def movedTo (dest : Nat) (seed : List Byte) (m : Pnm) : Pnm :=
  raise { src := 12, code := 0x0C, cls := 1, items := [dest] }
    (wf (wf { m with key := { m.key with
                              lc := dest, ownerSeed := seed,
                              erase := if dest = 3 ∨ dest = 4 then some dest else none } }
      Reg.KEY_LC_STAT 4 4 (b2n (decide (dest = 3 ∨ dest = 4)))) Reg.KEY_LC_STAT 3 0 1)

theorem touches_movedTo (dest : Nat) (seed : List Byte) (m : Pnm) :
    Touches [.regs, .tel, .key] [Reg.KEY_LC_STAT] m (movedTo dest seed m) :=
  (((touches_key m _).trans (touches_wf _ Reg.KEY_LC_STAT 4 4 _)).trans (touches_wf _ Reg.KEY_LC_STAT 3 0 1)).trans
    (touches_raise _ _)

theorem result_movedTo (dest : Nat) (seed : List Byte) (m : Pnm) : rf (movedTo dest seed m) Reg.KEY_LC_STAT 3 0 = 1 :=
  rf_wf_same _ Reg.KEY_LC_STAT 3 0 1 (by decide)

theorem busy_movedTo (dest : Nat) (seed : List Byte) (m : Pnm) :
    rb (movedTo dest seed m) Reg.KEY_LC_STAT 4 = decide (dest = 3 ∨ dest = 4) :=
  (rb_wf_apart _ Reg.KEY_LC_STAT 3 0 1 4).trans (rb_wf_bit _ Reg.KEY_LC_STAT 4 _)

/-- The owner seed after a transition. -/
def seedAfter (m : Pnm) : List Byte :=
  if rf m Reg.KEY_LC_REQ 2 0 = 2 ∧ isK then bytesAt (table4Bytes m) 128 32 else m.key.ownerSeed

/-- What LC_GO makes of the module where no check fails. -/
theorem lcGo_taken {dest : Nat} (hd : rf s.m Reg.KEY_LC_REQ 2 0 = dest) (hm : inMaint s.m = true)
    (hmagic : rf s.m Reg.KEY_LC_REQ 31 16 = 0x4C43) (hp : lcPermitted s.m.key.lc dest = true)
    (hsign : dest = 3 → Config.ecdsaVerify Config.serviceKey (uidBytes ++ beBytes 4 s.m.tel.jnl.pcyc ++ beBytes 1 dest)
      (bytesAt (table4Bytes s.m) 0 96) = true)
    (hseed : dest = 2 → decide (bytesAt (table4Bytes s.m) 128 32 = List.replicate 32 0) ≠ isK) :
    lcGo s.m = (if dest = 3 ∨ dest = 4 then invalidateAll else id) (movedTo dest (seedAfter s.m) s.m) := by
  subst hd
  have h3 : ¬ (rf s.m Reg.KEY_LC_REQ 2 0 = 3 ∧ Config.ecdsaVerify Config.serviceKey
      (uidBytes ++ beBytes 4 s.m.tel.jnl.pcyc ++ beBytes 1 (rf s.m Reg.KEY_LC_REQ 2 0)) (bytesAt (table4Bytes s.m) 0 96) = false) :=
    fun h => absurd (hsign h.1) (by rw [h.2]; decide)
  have h2 : ¬ (rf s.m Reg.KEY_LC_REQ 2 0 = 2 ∧ decide (bytesAt (table4Bytes s.m) 128 32 = List.replicate 32 0) = isK) :=
    fun h => hseed h.1 h.2
  simp only [lcGo, hm, hmagic, hp, h3, h2, Bool.true_eq_false, ne_eq, not_true_eq_false, if_false, movedTo, seedAfter]

theorem lcGo_moves {dest : Nat} (hw : s.writable) (hdest : dest = 2 ∨ dest = 3 ∨ dest = 4) (seed : List Byte)
    (h : lcGo s.m = (if dest = 3 ∨ dest = 4 then invalidateAll else id) (movedTo dest seed s.m)) :
    Does .lcGo s [.regs, .tel, .key] [Reg.KEY_LC_STAT] fun n =>
      n.key.lc = dest ∧ rf n Reg.KEY_LC_STAT 3 0 = 1 ∧ n.key.store = s.m.key.store ∧
      n.key.erase = (if dest = 2 then none else some dest) ∧ rb n Reg.KEY_LC_STAT 4 = decide (dest ≠ 2) ∧
      (dest ≠ 2 → ∀ i, i ≠ 0 → (getSlot n i).state ≠ 1) ∧ (dest = 2 → n.key.slots = s.m.key.slots) := by
  have ht := touches_movedTo dest seed s.m
  by_cases h2 : dest = 2
  · subst h2
    exact does_wr lcGo hw rfl h ht.parts ht.regs
      ⟨rfl, result_movedTo 2 seed s.m, rfl, rfl, busy_movedTo 2 seed s.m, fun hne => absurd rfl hne, fun _ => rfl⟩
  · have h34 : dest = 3 ∨ dest = 4 := hdest.resolve_left h2
    rw [if_pos h34] at h
    have hinv := invalidateAll_invalidates (movedTo dest seed s.m)
    have hregs : (invalidateAll (movedTo dest seed s.m)).regs = (movedTo dest seed s.m).regs := hinv.touched.part .regs
    have hall := ht.trans (hinv.touched.mono (by simp) (by simp))
    refine does_wr lcGo hw rfl h hall.parts hall.regs
      ⟨congrArg Key.lc hinv.key, ?_, (congrArg Key.store hinv.key).trans rfl, ?_, ?_, fun _ => hinv.none_valid, fun e => absurd e h2⟩
    · exact (rf_congr (rd_congr hregs _) 3 0).trans (result_movedTo dest seed s.m)
    · exact (congrArg Key.erase hinv.key).trans ((if_pos h34).trans (if_neg h2).symm)
    · exact (rb_congr (rd_congr hregs _) 4).trans ((busy_movedTo dest seed s.m).trans (by simp [h34, h2]))

/-! ## The end of the destruction (R482) -/

theorem lcDestructionDone_ends {d : Nat} (hl : s.live) (he : s.m.key.erase = some d) :
    Does .lcDestructionDone s [.regs, .key] [Reg.KEY_LC_STAT, Reg.KEY_MIG_STAT] fun n =>
      n.key.store = [] ∧ n.key.erase = none ∧ n.key.lc = s.m.key.lc ∧ n.key.genMax = s.m.key.genMax ∧
      n.key.rootOk = (s.m.key.rootOk && decide (d ≠ 4)) ∧ rb n Reg.KEY_LC_STAT 4 = false ∧
      rf n Reg.KEY_MIG_STAT 1 0 = 0 := by
  have hdone : lcDestructionDone s.m = wf (wf { s.m with key := { (destroy d s.m).key with erase := none } }
      Reg.KEY_LC_STAT 4 4 0) Reg.KEY_MIG_STAT 1 0 0 := by
    simp only [lcDestructionDone, he, destroy]
  have ht : Touches [.regs, .key] [Reg.KEY_LC_STAT, Reg.KEY_MIG_STAT] s.m (wf (wf { s.m with key :=
      { (destroy d s.m).key with erase := none } } Reg.KEY_LC_STAT 4 4 0) Reg.KEY_MIG_STAT 1 0 0) :=
    ((touches_key s.m _).trans (touches_wf _ Reg.KEY_LC_STAT 4 4 0)).trans (touches_wf _ Reg.KEY_MIG_STAT 1 0 0)
  exact does_al lcDestructionDone hl rfl hdone ht.parts ht.regs
    ⟨rfl, rfl, rfl, rfl, rfl, (rb_congr (rd_wr_ne _ _ _ (by decide)) 4).trans (rb_cb_same _ Reg.KEY_LC_STAT 4 (by decide)),
      rf_wf_same _ Reg.KEY_MIG_STAT 1 0 0 (by decide)⟩

theorem nothing_lcDestructionDone (he : s.m.key.erase = none) : DoesNothing .lcDestructionDone s :=
  nothing_al lcDestructionDone rfl (by simp only [lcDestructionDone, he])

end

/-- An owner seed is there exactly where the variant takes one. -/
theorem seeded_iff {seed : List Byte} :
    (seed = List.replicate 32 0 ∧ isK = false) ∨ (seed ≠ List.replicate 32 0 ∧ isK = true) ↔
      decide (seed = List.replicate 32 0) ≠ isK := by
  by_cases h : seed = List.replicate 32 0 <;> cases isK <;> simp [h]

end Keys

open Keys in
/-- Settles O46: it holds. The checks of LC_GO stand in the order of their results, and the first that fails names its own. -/
theorem statementsAndTheLifeCycle : Obligations.StatementsAndTheLifeCycle := by
  intro s
  refine ⟨attGo_takes_claims, attGo_refuses_second, attGo_without_identity, fun c hl ha => attDone_places_statement hl ha,
    fun _ => nothing_attDone, fun hw => ?go, fun d hl he => lcDestructionDone_ends hl he, fun _ => nothing_lcDestructionDone⟩
  case go =>
    refine ⟨fun hm => ?maint, fun hm hg => ?magic, fun hm hg hp => ?permitted, fun hm hg hp h3 hs => ?signed,
      fun hm hg hp h2 hs => ?seeded, fun hm hg hp hs hd => ?moves⟩
    case maint => exact lcGo_names hw (by decide) (if_pos hm)
    all_goals have hm' : ¬ inMaint s.m = false := by simp [hm]
    case magic => exact lcGo_names hw (by decide) ((if_neg hm').trans (if_pos hg))
    all_goals have hg' := not_not.mpr hg
    case permitted =>
      have hp' := Bool.eq_false_of_not_eq_true fun h => hp (lcPermitted_iff.mp h)
      exact lcGo_names hw (by decide) ((if_neg hm').trans ((if_neg hg').trans (if_pos hp')))
    all_goals have hp' := lcPermitted_iff.mpr hp
    all_goals have hp'' := ne_false_of_eq_true hp'
    case signed =>
      exact lcGo_names hw (by decide) ((if_neg hm').trans ((if_neg hg').trans ((if_neg hp'').trans
        (if_pos ⟨h3, Bool.eq_false_of_not_eq_true hs⟩))))
    case seeded =>
      have hns : decide (bytesAt (table4Bytes s.m) 128 32 = List.replicate 32 0) = isK :=
        Decidable.byContradiction fun h => hs (seeded_iff.mpr h)
      exact lcGo_names hw (by decide) ((if_neg hm').trans ((if_neg hg').trans ((if_neg hp'').trans
        ((if_neg fun h => absurd (h2.symm.trans h.1) (by decide)).trans (if_pos ⟨h2, hns⟩)))))
    case moves =>
      exact lcGo_moves hw (dest_of_permitted hp') (seedAfter s.m)
        (lcGo_taken rfl hm hg hp' hs fun h => seeded_iff.mp (hd h))

end Machine
end Sys2Proof
end

section
/-! PROOFS. Keys commit and expire; MR3 is extended; the key window (R459, R466, R469, R474, R486). -/

namespace Sys2Proof
namespace Machine
namespace Keys
open Leapfrog

/-! ## A record is committed (R474) -/

/-- The derived slot rests on the root, the life cycle and the debug strap alone. -/
theorem getSlot_zero_congr {m n : Pnm} (hr : n.key.rootOk = m.key.rootOk) (hl : n.key.lc = m.key.lc) (hg : n.glb = m.glb) :
    getSlot n 0 = getSlot m 0 := by
  have hkey : jnlKey n = jnlKey m := by simp only [jnlKey, ctxHead, hl, hg]
  rw [getSlot, if_pos rfl, hr, hkey]
  rfl

theorem touches_commitRec (i : Nat) (k : KeySlot) (m : Pnm) : Touches [.key] [] m (commitRec i k m) := touches_key m _

theorem commitRec_slots (i : Nat) (k : KeySlot) (m : Pnm) : (commitRec i k m).key.slots =
    NMap.set KeySlot.init m.key.slots i { k with gen := nextGen m (getStore m i) } := rfl

/-- What is stored for a slot once its next record is committed. -/
def withNext (m : Pnm) (i : Nat) (k : KeySlot) : KeyStore :=
  let st := getStore m i
  let g := nextGen m st
  { st.setOther (some (sealRec m m.key.mr 0 i (!st.copy) g k)) with
    valid := true, copy := !st.copy, pend := false, gen := g, crcOk := true, written := true, wasInval := false }

theorem commitRec_store (i : Nat) (k : KeySlot) (m : Pnm) : (commitRec i k m).key.store =
    NMap.set KeyStore.init m.key.store i (withNext m i k) := rfl

theorem committed_turned (k : KeyStore) (r : Option KeyRec) (v p : Bool) (g : Nat) (c w i : Bool) :
    KeyStore.committed { k.setOther r with
      valid := v, copy := !k.copy, pend := p, gen := g, crcOk := c, written := w, wasInval := i } = r := by
  obtain ⟨_, _, _, copy, _⟩ := k
  cases copy <;> rfl

/-- The commit turns the copy that was written into the committed one. -/
theorem committed_withNext (m : Pnm) (i : Nat) (k : KeySlot) : (withNext m i k).committed =
    some (sealRec m m.key.mr 0 i (!(getStore m i).copy) (nextGen m (getStore m i)) k) := by
  have hturn := committed_turned (getStore m i) (some (sealRec m m.key.mr 0 i (!(getStore m i).copy) (nextGen m (getStore m i)) k))
  exact hturn _ _ _ _ _ _

section
variable {s : State} {u : KeyUpd} {t : List KeyUpd}

/-- The oldest update is taken; a slot that is VALID again is due for its expiry again. -/
def taken (u : KeyUpd) (t : List KeyUpd) (m : Pnm) : Pnm :=
  { m with key := { m.key with updates := t, expired := m.key.expired.filter (· ≠ u.slot) } }

/-- The slot that an update leaves, before its GEN. -/
def updated (u : KeyUpd) (m : Pnm) : KeySlot := { u.new with lateUse := (getSlot m u.slot).lateUse }

/-- The update is committed and told, before an import completes. -/
def stored (u : KeyUpd) (t : List KeyUpd) (m : Pnm) : Pnm :=
  raiseIf (decide ((getSlot m u.slot).state ≠ 1)) { src := 12, code := 0x08, cls := 2, items := [u.slot, 1] }
    (commitRec u.slot (updated u m) (taken u t m))

theorem touches_stored (u : KeyUpd) (t : List KeyUpd) (m : Pnm) : Touches [.tel, .hif, .key, .par] [] m (stored u t m) :=
  ((touches_key m _).trans ((touches_commitRec _ _ _).mono (by simp) (by simp))).trans (touches_tel _ _)

theorem keyCommitDone_of_update {m : Pnm} (hu : m.key.updates = u :: t) (h : u.ref.isSome = true ∨ (getSlot m u.slot).state = 1) :
    keyCommitDone m = match u.ref with
      | some r => complete r (ansR 0 0 u.slot) (stored u t m)
      | none => stored u t m := by
  have hw : ¬ (u.ref.isNone = true ∧ (getSlot m u.slot).state ≠ 1) := by
    rintro ⟨hn, hne⟩
    cases hr : u.ref <;> simp_all
  simp only [keyCommitDone, hu]
  rw [if_neg hw]
  rfl

/-- An update is committed, whatever is told and completed after it. -/
theorem stored_commits {n : Pnm} (hs : u.slot ≠ 0) (hkey : n.key = (stored u t s.m).key) (hglb : n.glb = s.m.glb) :
    n.key.updates = t ∧ n.key.lc = s.m.key.lc ∧ n.key.mr = s.m.key.mr ∧
    getSlot n u.slot = { u.new with lateUse := (getSlot s.m u.slot).lateUse, gen := nextGen s.m (getStore s.m u.slot) } ∧
    (getStore n u.slot).copy = (!(getStore s.m u.slot).copy) ∧ (getStore n u.slot).valid = true ∧
    (getStore n u.slot).gen = nextGen s.m (getStore s.m u.slot) ∧
    (getStore n u.slot).committed = some (sealRec s.m s.m.key.mr 0 u.slot (!(getStore s.m u.slot).copy)
      (nextGen s.m (getStore s.m u.slot)) { u.new with lateUse := (getSlot s.m u.slot).lateUse }) ∧
    ∀ j, j ≠ u.slot → getSlot n j = getSlot s.m j ∧ getStore n j = getStore s.m j := by
  have hslots : n.key.slots = NMap.set KeySlot.init s.m.key.slots u.slot
      { updated u s.m with gen := nextGen s.m (getStore s.m u.slot) } := congrArg Key.slots hkey
  have hstore : n.key.store = NMap.set KeyStore.init s.m.key.store u.slot (withNext s.m u.slot (updated u s.m)) :=
    congrArg Key.store hkey
  have hlc : n.key.lc = s.m.key.lc := (congrArg Key.lc hkey).trans rfl
  have hsame : getStore n u.slot = withNext s.m u.slot (updated u s.m) := by rw [getStore, hstore, NMap.get_set_same]
  refine ⟨congrArg Key.updates hkey, hlc, (congrArg Key.mr hkey).trans rfl, ?slot, ?copy, ?valid, ?gen, ?committed,
    fun j hj => ⟨?others, ?stores⟩⟩
  case slot => rw [getSlot_of_ne_zero hs, hslots, NMap.get_set_same]; rfl
  case copy => rw [hsame]; rfl
  case valid => rw [hsame]; rfl
  case gen => rw [hsame]; rfl
  case committed => rw [hsame, committed_withNext]; rfl
  case others =>
    by_cases h0 : j = 0
    · subst h0
      exact getSlot_zero_congr ((congrArg Key.rootOk hkey).trans rfl) hlc hglb
    · rw [getSlot_of_ne_zero h0, getSlot_of_ne_zero h0, hslots, NMap.get_set_ne _ _ _ _ _ hj]
  case stores => rw [getStore, hstore, NMap.get_set_ne _ _ _ _ _ hj]; rfl

theorem keyCommitDone_commits (hl : s.live) (hu : s.m.key.updates = u :: t) (hs : u.slot ≠ 0)
    (h : u.ref.isSome = true ∨ (getSlot s.m u.slot).state = 1) :
    Does .keyCommitDone s [.tel, .hif, .key, .par] [] fun n =>
      n.key.updates = t ∧ n.key.lc = s.m.key.lc ∧ n.key.mr = s.m.key.mr ∧
      getSlot n u.slot = { u.new with lateUse := (getSlot s.m u.slot).lateUse, gen := nextGen s.m (getStore s.m u.slot) } ∧
      (getStore n u.slot).copy = (!(getStore s.m u.slot).copy) ∧ (getStore n u.slot).valid = true ∧
      (getStore n u.slot).gen = nextGen s.m (getStore s.m u.slot) ∧
      (getStore n u.slot).committed = some (sealRec s.m s.m.key.mr 0 u.slot (!(getStore s.m u.slot).copy)
        (nextGen s.m (getStore s.m u.slot)) { u.new with lateUse := (getSlot s.m u.slot).lateUse }) ∧
      (∀ j, j ≠ u.slot → getSlot n j = getSlot s.m j ∧ getStore n j = getStore s.m j) ∧
      (∀ r, u.ref = some r → ∃ k : Pnm, k.hif = s.m.hif ∧ n = complete r (ansR 0 0 u.slot) k) ∧
      (u.ref = none → n.hif = s.m.hif) := by
  have hdone := keyCommitDone_of_update hu h
  have ht := touches_stored u t s.m
  have hglb : (stored u t s.m).glb = s.m.glb := ht.part .glb
  cases hr : u.ref with
  | none =>
    rw [hr] at hdone
    obtain ⟨h1, h2, h3, h4, h5, h6, h7, h8, h9⟩ := stored_commits (s := s) hs rfl hglb
    exact does_al keyCommitDone hl rfl hdone ht.parts ht.regs
      ⟨h1, h2, h3, h4, h5, h6, h7, h8, h9, nofun, fun _ => rfl⟩
  | some r =>
    rw [hr] at hdone
    have hc := touches_complete (ps := [.hif, .par]) (os := []) r (ansR 0 0 u.slot) (stored u t s.m)
    have hcom := ht.trans (hc.mono (by simp) (by simp))
    obtain ⟨h1, h2, h3, h4, h5, h6, h7, h8, h9⟩ := stored_commits (s := s) hs (hc.part .key) ((hc.part .glb).trans hglb)
    exact does_al keyCommitDone hl rfl hdone hcom.parts hcom.regs
      ⟨h1, h2, h3, h4, h5, h6, h7, h8, h9, fun q hq => ⟨stored u t s.m, rfl, by cases hq; rfl⟩, nofun⟩

/-- A retirement that finds its slot no longer VALID writes nothing. -/
theorem keyCommitDone_drops (hl : s.live) (hu : s.m.key.updates = u :: t) (hr : u.ref = none)
    (h : (getSlot s.m u.slot).state ≠ 1) :
    Does .keyCommitDone s [.key] [] fun n =>
      n.key.updates = t ∧ ∀ j, getSlot n j = getSlot s.m j ∧ getStore n j = getStore s.m j := by
  have hdone : keyCommitDone s.m = taken u t s.m := by
    simp only [keyCommitDone, hu]
    exact if_pos ⟨by rw [hr]; rfl, h⟩
  have ht : Touches [.key] [] s.m (taken u t s.m) := touches_key s.m _
  exact does_al keyCommitDone hl rfl hdone ht.parts ht.regs ⟨rfl, fun j => ⟨rfl, rfl⟩⟩

theorem nothing_keyCommitDone (hu : s.m.key.updates = []) : DoesNothing .keyCommitDone s :=
  nothing_al keyCommitDone rfl (by simp only [keyCommitDone, hu])

/-! ## Expiry (R466) -/

/-- A slot is due for the event of its expiry. -/
def expires (m : Pnm) (i : Nat) : Prop :=
  m.tim.running = true ∧ (getSlot m i).state = 1 ∧
  (∃ p : KeyPos, (p = (getSlot m i).p0 ∨ p = (getSlot m i).p1) ∧ p.present = true ∧ p.notAfter ≠ 0 ∧ p.notAfter < nowNs m) ∧
  usable m false (getSlot m i) = [] ∧ i ∉ m.key.expired

/-- The slot's expiry is flagged and told, and not again. -/
def expired (i : Nat) (m : Pnm) : Pnm :=
  raise { src := 12, code := 0x0E, cls := 2, items := [i] }
    (sb { m with key := { m.key with expired := i :: m.key.expired } } Reg.KEY_FLAGS 5)

open Classical in
theorem keyExpiry_eq (i : Nat) (m : Pnm) : keyExpiry i m = if expires m i then expired i m else m := by
  have hiff : (m.tim.running = true ∧ (getSlot m i).state = 1 ∧
      (((getSlot m i).p0.present && decide ((getSlot m i).p0.notAfter ≠ 0) && decide ((getSlot m i).p0.notAfter < nowNs m)) = true ∨
        ((getSlot m i).p1.present && decide ((getSlot m i).p1.notAfter ≠ 0) && decide ((getSlot m i).p1.notAfter < nowNs m)) = true) ∧
      usable m false (getSlot m i) = [] ∧ m.key.expired.contains i = false) ↔ expires m i := by
    simp only [expires, or_and_right, exists_or, exists_eq_left, Bool.and_eq_true, decide_eq_true_eq, and_assoc,
      List.contains_eq_mem, decide_eq_false_iff_not]
  exact ite_congr (propext hiff) (fun _ => rfl) fun _ => rfl

theorem keyExpiry_tells (i : BitVec 9) (hl : s.live) (h : expires s.m i.toNat) :
    Does (.keyExpiry i) s [.regs, .tel, .key] [Reg.KEY_FLAGS] fun n =>
      rb n Reg.KEY_FLAGS 5 = true ∧ n.key = { s.m.key with expired := i.toNat :: s.m.key.expired } ∧
      Raised { src := 12, code := 0x0E, cls := 2, items := [i.toNat] } s.m n := by
  have ht : Touches [.regs, .tel, .key] [Reg.KEY_FLAGS] s.m (expired i.toNat s.m) :=
    ((touches_key s.m _).trans (touches_sb _ Reg.KEY_FLAGS 5)).trans (touches_raise _ _)
  exact does_al (keyExpiry i.toNat) hl rfl ((keyExpiry_eq _ _).trans (if_pos h)) ht.parts ht.regs
    ⟨rb_sb_same _ Reg.KEY_FLAGS 5 (by decide), rfl,
      sb { s.m with key := { s.m.key with expired := i.toNat :: s.m.key.expired } } Reg.KEY_FLAGS 5, rfl, rfl⟩

theorem nothing_keyExpiry (i : BitVec 9) (h : ¬ expires s.m i.toNat) : DoesNothing (.keyExpiry i) s :=
  nothing_al (keyExpiry i.toNat) rfl ((keyExpiry_eq _ _).trans (if_neg h))

/-! ## MR3 (R459) -/

theorem setAt_of_modAt {α : Type} {l : List α} {i : Nat} {x : α} (h : l[i]? = some x) (f : α → α) :
    modAt l i f = setAt l i (f x) := by rw [modAt, h, setAt]

theorem mr3Ext_extends (hw : s.writable) (h : rd s.m Reg.KEY_MR3_COUNT ≠ 0xFFFFFFFF#32) :
    Does .mr3Ext s [.regs, .key] [Reg.KEY_MR3_COUNT] fun n =>
      rd n Reg.KEY_MR3_COUNT = rd s.m Reg.KEY_MR3_COUNT + 1 ∧ n.key = { s.m.key with mr := n.key.mr } ∧
      ∀ x : List Byte, s.m.key.mr[3]? = some x →
        n.key.mr = setAt s.m.key.mr 3 (Config.sha384 (x ++ ((List.range 12).flatMap fun i =>
          leBytes 4 (rd s.m (Reg.KEY_TBL_DATA + 4 * i)).toNat))) := by
  have ht := touches_mrExtend 3 ((List.range 12).flatMap fun i => leBytes 4 (rd s.m (Reg.KEY_TBL_DATA + 4 * i)).toNat) s.m
  have hext : mr3Ext s.m = mrExtend 3 ((List.range 12).flatMap fun i =>
      leBytes 4 (rd s.m (Reg.KEY_TBL_DATA + 4 * i)).toNat) s.m := if_neg h
  generalize (List.range 12).flatMap (fun i => leBytes 4 (rd s.m (Reg.KEY_TBL_DATA + 4 * i)).toNat) = d at ht hext
  have hcount : mrExtend 3 d s.m =
      inc { s.m with key := { s.m.key with mr := modAt s.m.key.mr 3 fun x => Config.sha384 (x ++ d) } } Reg.KEY_MR3_COUNT :=
    if_pos ⟨rfl, h⟩
  rw [hcount] at ht hext
  exact does_wr mr3Ext hw rfl hext ht.parts ht.regs
    ⟨(rd_inc _ _ _ _).trans (if_pos rfl), rfl, fun x hx => setAt_of_modAt hx _⟩

/-! ## The window (R486) -/

theorem length_wordsOf (n : Nat) (l : List Byte) : (wordsOf n l).length = n := by
  induction n generalizing l with
  | zero => rfl
  | succ n ih => exact congrArg (· + 1) (ih _)

/-- An entry of the window has at most its sixteen words. -/
theorem length_keyTblWords_le (m : Pnm) (t i : Nat) : (keyTblWords m t i).length ≤ 16 := by
  unfold keyTblWords
  split
  · exact Nat.le_refl 16
  repeat' split
  all_goals simp [length_wordsOf]

/-- The words of an entry, padded with zeros. -/
theorem getD_padded (l : List Word) (n k : Nat) : (l ++ List.replicate n 0).getD k 0 = l.getD k 0 := by
  simp only [List.getD_eq_getElem?_getD, List.getElem?_append, List.getElem?_replicate]
  split
  · rfl
  · next h => rw [List.getElem?_eq_none (Nat.le_of_not_lt h)]; split <;> rfl

theorem keyTblRead_returns (cmd : Word) (hw : s.writable) (h : bits cmd 18 16 < 5) :
    Does (.keyTblRead cmd) s [.regs] (Reg.KEY_TBL_CMD :: rowAt Reg.KEY_TBL_DATA 16) fun n =>
      ∀ k < 16, rd n (Reg.KEY_TBL_DATA + 4 * k) = (keyTblWords s.m (bits cmd 18 16) (bits cmd 8 0)).getD k 0 := by
  have hlen := length_keyTblWords_le s.m (bits cmd 18 16) (bits cmd 8 0)
  have hread : keyTblRead (setBit cmd 20 false) s.m =
      wrs (storeCmd Reg.KEY_TBL_CMD 0x000701FF#32 (setBit cmd 20 false) s.m) Reg.KEY_TBL_DATA
        (keyTblWords s.m (bits cmd 18 16) (bits cmd 8 0) ++
          List.replicate (16 - (keyTblWords s.m (bits cmd 18 16) (bits cmd 8 0)).length) 0) := by
    rw [← setBit_bits_apart cmd false (i := 20) (hi := 18) (lo := 16) (by decide),
      ← setBit_bits_apart cmd false (i := 20) (hi := 8) (lo := 0) (by decide)] at *
    exact if_neg (Nat.not_le.mpr h)
  generalize keyTblWords s.m (bits cmd 18 16) (bits cmd 8 0) = l at hlen hread
  have h16 : (l ++ List.replicate (16 - l.length) 0).length = 16 := by simp; omega
  have hdoes := does_windowRead (c := .keyTblRead cmd) hw rfl hread
  rw [h16] at hdoes
  obtain ⟨n, hn, hkeep, hregs, hwords⟩ := hdoes
  exact ⟨n, hn, hkeep, hregs, fun k hk => (hwords k hk).trans (getD_padded l _ k)⟩

theorem keyTblRead_refuses (cmd : Word) (hw : s.writable) (h : 5 ≤ bits cmd 18 16) :
    Does (.keyTblRead cmd) s [.regs] [Reg.KEY_TBL_CMD, Reg.KEY_TBL_STAT, Reg.KEY_FLAGS] fun n =>
      rb n Reg.KEY_TBL_STAT 1 = true ∧ rb n Reg.KEY_FLAGS 0 = true := by
  have hread : keyTblRead (setBit cmd 20 false) s.m =
      sb (sb (storeCmd Reg.KEY_TBL_CMD 0x000701FF#32 (setBit cmd 20 false) s.m) Reg.KEY_TBL_STAT 1) Reg.KEY_FLAGS 0 :=
    if_pos (by rwa [setBit_bits_apart _ _ (by decide)])
  have ht : Touches [.regs] [Reg.KEY_TBL_CMD, Reg.KEY_TBL_STAT, Reg.KEY_FLAGS] s.m
      (sb (sb (storeCmd Reg.KEY_TBL_CMD 0x000701FF#32 (setBit cmd 20 false) s.m) Reg.KEY_TBL_STAT 1) Reg.KEY_FLAGS 0) :=
    ((touches_set s.m Reg.KEY_TBL_CMD _).trans (touches_sb _ Reg.KEY_TBL_STAT 1)).trans (touches_sb _ Reg.KEY_FLAGS 0)
  exact does_wr (keyTblRead (setBit cmd 20 false)) hw rfl hread ht.parts ht.regs
    ⟨(rb_congr (rd_wr_ne _ _ _ (by decide)) 1).trans (rb_sb_same _ Reg.KEY_TBL_STAT 1 (by decide)),
      rb_sb_same _ Reg.KEY_FLAGS 0 (by decide)⟩

/-- A write of the window that is refused, with its FIELD and the index or the table. -/
def windowRefused (cmd : Word) (field index : Nat) (m : Pnm) : Pnm :=
  wf (rejected Reg.KEY_FLAGS Reg.KEY_CFG_ERR field
    (sb (storeCmd Reg.KEY_TBL_CMD 0x001701FF#32 cmd m) Reg.KEY_TBL_STAT 1)) Reg.KEY_CFG_ERR 17 8 index

theorem keyTblWrite_refuses (cmd : Word) (hw : s.writable) {field index : Nat}
    (h : keyTblWrite (setBit cmd 20 true) s.m = windowRefused (setBit cmd 20 true) field index s.m)
    (hlt : field < 256 := by decide) :
    Does (.keyTblWrite cmd) s [.regs] [Reg.KEY_TBL_CMD, Reg.KEY_TBL_STAT, Reg.KEY_FLAGS, Reg.KEY_CFG_ERR] fun n =>
      rb n Reg.KEY_TBL_STAT 1 = true ∧ rb n Reg.KEY_FLAGS 0 = true ∧ rf n Reg.KEY_CFG_ERR 7 0 = field := by
  have ht : Touches [.regs] [Reg.KEY_TBL_CMD, Reg.KEY_TBL_STAT, Reg.KEY_FLAGS, Reg.KEY_CFG_ERR] s.m
      (windowRefused (setBit cmd 20 true) field index s.m) :=
    (((touches_set s.m Reg.KEY_TBL_CMD _).trans (touches_sb _ Reg.KEY_TBL_STAT 1)).trans
      (touches_rejected Reg.KEY_FLAGS Reg.KEY_CFG_ERR field _)).trans (touches_wf _ Reg.KEY_CFG_ERR 17 8 index)
  refine does_wr (keyTblWrite (setBit cmd 20 true)) hw rfl h ht.parts ht.regs ⟨?stat, ?flag, ?field⟩
  case stat =>
    have hapart : rd (windowRefused (setBit cmd 20 true) field index s.m) Reg.KEY_TBL_STAT =
        rd (sb (storeCmd Reg.KEY_TBL_CMD 0x001701FF#32 (setBit cmd 20 true) s.m) Reg.KEY_TBL_STAT 1) Reg.KEY_TBL_STAT :=
      (rd_wr_ne _ _ _ (by decide)).trans ((touches_rejected (ps := [.regs]) (os := [Reg.KEY_FLAGS, Reg.KEY_CFG_ERR])
        Reg.KEY_FLAGS Reg.KEY_CFG_ERR field _).rd)
    exact (rb_congr hapart 1).trans (rb_sb_same _ Reg.KEY_TBL_STAT 1 (by decide))
  case flag => exact (rb_congr (rd_wr_ne _ _ _ (by decide)) 0).trans (rb_rejected (by decide) field _)
  case field => exact (rf_wf_apart _ _ _ _ _ _ _ (by decide)).trans (rf_rejected _ _ hlt _)

theorem keyTblWrite_stores (cmd : Word) (hw : s.writable) (ht4 : bits cmd 18 16 = 4) (hi : bits cmd 8 0 ≤ 2)
    (hm : inMaint s.m = true) :
    Does (.keyTblWrite cmd) s [.regs, .key] [Reg.KEY_TBL_CMD] fun n =>
      n.key = { s.m.key with
                table4 := s.m.key.table4.take (16 * bits cmd 8 0) ++
                  (List.range 16).map (fun k => rd s.m (Reg.KEY_TBL_DATA + 4 * k)) ++
                  s.m.key.table4.drop (16 * bits cmd 8 0 + 16) } := by
  have htab := setBit_bits_apart cmd true (i := 20) (hi := 18) (lo := 16) (by decide)
  have hidx := setBit_bits_apart cmd true (i := 20) (hi := 8) (lo := 0) (by decide)
  have ht : Touches [.regs, .key] [Reg.KEY_TBL_CMD] s.m { storeCmd Reg.KEY_TBL_CMD 0x001701FF#32 (setBit cmd 20 true) s.m with
      key := { s.m.key with
                table4 := s.m.key.table4.take (16 * bits cmd 8 0) ++
                  (List.range 16).map (fun k => rd s.m (Reg.KEY_TBL_DATA + 4 * k)) ++
                  s.m.key.table4.drop (16 * bits cmd 8 0 + 16) } } :=
    (touches_set s.m Reg.KEY_TBL_CMD _).trans (touches_key _ _)
  refine does_wr (keyTblWrite (setBit cmd 20 true)) hw rfl ?_ ht.parts ht.regs rfl
  unfold keyTblWrite
  rw [htab, hidx, if_neg (by omega), if_neg (by simp [hm])]
  rfl

end

end Keys

open Keys in
/-- Settles O45: it holds. A commit writes one slot and its record; the window and MR3 are stored or refused. -/
theorem keysCommitExpireAndMeasure : Obligations.KeysCommitExpireAndMeasure := by
  refine ⟨fun s hl => ⟨fun u t hu hs => ⟨fun h => keyCommitDone_commits hl hu hs h, fun hr h => keyCommitDone_drops hl hu hr h⟩,
      nothing_keyCommitDone, fun i => ⟨keyExpiry_tells i hl, nothing_keyExpiry i⟩⟩,
    fun s hw => ⟨mr3Ext_extends hw, fun h => does_reject hw rfl (if_pos h), fun cmd => ?window⟩⟩
  have htab := setBit_bits_apart cmd true (i := 20) (hi := 18) (lo := 16) (by decide)
  have hidx := setBit_bits_apart cmd true (i := 20) (hi := 8) (lo := 0) (by decide)
  refine ⟨keyTblRead_returns cmd hw, keyTblRead_refuses cmd hw, keyTblWrite_stores cmd hw, fun ht4 hi hm => ?maint, fun h => ?table⟩
  case maint =>
    refine keyTblWrite_refuses cmd hw (index := bits (setBit cmd 20 true) 8 0) ?_
    unfold keyTblWrite
    rw [htab, hidx, if_neg (by omega), if_pos hm, if_pos ht4]
    rfl
  case table =>
    refine keyTblWrite_refuses cmd hw (index := if bits (setBit cmd 20 true) 18 16 = 4 then bits (setBit cmd 20 true) 8 0
      else bits (setBit cmd 20 true) 18 16) ?_
    exact if_pos (by rw [htab, hidx]; exact h)

end Machine
end Sys2Proof
end

section
/-! PROOFS. The scan channels of CRC (R511 to R515): GO, the end of a scan, VERIFY and ABORT, each of one channel. -/

namespace Sys2Proof
namespace Machine
namespace Scans
open Leapfrog

/-! ## Channels -/

theorem ch_ne (c : Nat) {a b : Nat} (h : a ≠ b := by decide) : Reg.ch c a ≠ Reg.ch c b :=
  fun e => h (Nat.add_left_cancel e)

/-- The registers of a channel that its scan writes: RUNNING, its status word and DONE. -/
def runRegs (c : Nat) : List Nat := [Reg.ch c 0x14, Reg.ch c 0x1C, Reg.ch c 0x28]

theorem ownsCh'_iff {m : Pnm} {fn : BitVec 9} {c : Nat} :
    ownsCh' m fn.toNat c = true ↔ fn = 0 ∨ ownsCh m fn.toNat c = true := by
  simp [ownsCh', BitVec.toNat_eq]

/-! ## Which scan runs -/

/-- Without the scan of channel c every other channel has the scan it had. -/
theorem find?_filter_ne {l : List Scan} {c d : Nat} (h : d ≠ c) :
    (l.filter fun x => decide (x.ch ≠ c)).find? (fun x => decide (x.ch = d)) = l.find? fun x => decide (x.ch = d) := by
  rw [List.find?_filter]
  congr 1
  funext x
  by_cases hd : x.ch = d
  · simp [hd, h]
  · simp [hd]

theorem find?_filter_same (l : List Scan) (c : Nat) :
    (l.filter fun x => decide (x.ch ≠ c)).find? (fun x => decide (x.ch = c)) = none := by
  simp [List.find?_eq_none]

theorem filter_of_scanOf_none {m : Pnm} {c : Nat} (h : scanOf m c = none) :
    (m.scans.filter fun x => decide (x.ch ≠ c)) = m.scans :=
  List.filter_eq_self.mpr fun x hx => by simpa using List.find?_eq_none.mp h x hx

/-! ## What the operations of a channel touch -/

section
variable {ps : List Part} {os : List Nat}

theorem touches_arbAdd (q k : Nat) (m : Pnm) (h : .hif ∈ ps := by simp) : Touches ps os m (arbAdd q k m) := touches_hif m _ h

theorem touches_arbDrop (q : Nat) (m : Pnm) (h : .hif ∈ ps := by simp) : Touches ps os m (arbDrop q m) := touches_hif m _ h

theorem touches_setRunning (c v : Nat) (m : Pnm) (h : .regs ∈ ps := by simp) :
    Touches ps (runRegs c) m (setRunning c v m) := touches_set m (Reg.ch c 0x14) _ h (by simp [runRegs])

theorem touches_done (c : Nat) (w : Word) (m : Pnm) (h : .regs ∈ ps := by simp) :
    Touches ps (runRegs c) m (wr m (Reg.ch c 0x28) w) := touches_set m (Reg.ch c 0x28) _ h (by simp [runRegs])

theorem touches_status (c v : Nat) (m : Pnm) (h : .regs ∈ ps := by simp) :
    Touches ps (runRegs c) m (wf m (Reg.ch c 0x1C) 3 0 v) := touches_wf m (Reg.ch c 0x1C) 3 0 v h (by simp [runRegs])

/-- A scan that had not begun ends: its status is told. -/
def told (c status : Nat) (m : Pnm) : Pnm := scanEvent c (wf (arbDrop (258 + c) m) (Reg.ch c 0x1C) 3 0 status)

/-- The scan of channel c is gone from the list. -/
def without (c : Nat) (m : Pnm) : Pnm := { m with scans := m.scans.filter fun x => decide (x.ch ≠ c) }

theorem scanEnd_eq (c status : Nat) (m : Pnm) : scanEnd c status m = told c status (without c m) := rfl

theorem scanEnd_of_none {m : Pnm} {c : Nat} (h : scanOf m c = none) (status : Nat) : scanEnd c status m = told c status m := by
  rw [scanEnd_eq, without, filter_of_scanOf_none h]

theorem touches_told (c status : Nat) (m : Pnm) : Touches [.regs, .tel, .hif] (runRegs c) m (told c status m) :=
  ((touches_arbDrop _ m).trans (touches_status c status _)).trans (touches_raise _ _)

theorem status_told (c : Nat) {status : Nat} (h : status < 16) (m : Pnm) : rf (told c status m) (Reg.ch c 0x1C) 3 0 = status :=
  (rf_wf_same _ (Reg.ch c 0x1C) 3 0 status (by decide)).trans (Nat.mod_eq_of_lt h)

theorem rd_told (c status : Nat) (m : Pnm) {o : Nat} (h : o ≠ Reg.ch c 0x1C) : rd (told c status m) o = rd m o :=
  rd_wr_ne _ _ _ h

theorem touches_scanEnd (c status : Nat) (m : Pnm) :
    Touches [.regs, .scans, .tel, .hif] (runRegs c) m (scanEnd c status m) :=
  (touches_scans m _).trans ((touches_told c status _).mono (by simp) (List.Subset.refl _))

theorem scanOf_scanEnd_same (c status : Nat) (m : Pnm) : scanOf (scanEnd c status m) c = none := find?_filter_same m.scans c

theorem scanOf_scanEnd_ne (status : Nat) (m : Pnm) {c d : Nat} (h : d ≠ c) : scanOf (scanEnd c status m) d = scanOf m d :=
  find?_filter_ne h

end

section
variable {s : State} {fn : BitVec 9} {ch : BitVec 3}

/-! ## Whose channel it is, and refusals -/

/-- The command of a writer that has the channel. -/
theorem does_owned {c : Instr} {f : Pnm → Pnm} {n : Pnm} {ps : List Part} {os : List Nat} {P : Pnm → Prop} (hw : s.writable)
    (hmine : fn = 0 ∨ ownsCh s.m fn.toNat ch.toNat = true)
    (hc : exec c s = run (whenWr fun m => onlyIf (ownsCh' m fn.toNat ch.toNat) f m) s) (hf : f s.m = n)
    (ht : Touches ps os s.m n) (hp : P n) : Does c s ps os P :=
  does_wr (fun m => onlyIf (ownsCh' m fn.toNat ch.toNat) f m) hw hc ((if_pos (ownsCh'_iff.mpr hmine)).trans hf)
    ht.parts ht.regs hp

theorem nothing_owned {c : Instr} {f : Pnm → Pnm}
    (hc : exec c s = run (whenWr fun m => onlyIf (ownsCh' m fn.toNat ch.toNat) f m) s)
    (h : (fn = 0 ∨ ownsCh s.m fn.toNat ch.toNat = true) → f s.m = s.m) : DoesNothing c s := by
  refine nothing_wr (fun m => onlyIf (ownsCh' m fn.toNat ch.toNat) f m) hc ?_
  unfold onlyIf
  split
  next ho => exact h (ownsCh'_iff.mp ho)
  next => rfl

theorem does_crcErr {c : Instr} {f : Pnm → Pnm} {field : Nat} (hw : s.writable)
    (hmine : fn = 0 ∨ ownsCh s.m fn.toNat ch.toNat = true)
    (hc : exec c s = run (whenWr fun m => onlyIf (ownsCh' m fn.toNat ch.toNat) f m) s) (hf : f s.m = crcErr field ch.toNat s.m)
    (hlt : field < 256 := by decide) :
    Does c s [.regs] [Reg.CRC_FLAGS, Reg.CRC_CFG_ERR] fun n =>
      rb n Reg.CRC_FLAGS 0 = true ∧ rf n Reg.CRC_CFG_ERR 7 0 = field ∧ rf n Reg.CRC_CFG_ERR 10 8 = ch.toNat := by
  refine does_owned hw hmine hc hf ((touches_rejected Reg.CRC_FLAGS Reg.CRC_CFG_ERR field s.m).trans
    (touches_wf _ Reg.CRC_CFG_ERR 10 8 ch.toNat)) ⟨?flag, ?field, ?channel⟩
  case flag => exact (rb_congr (rd_wr_ne _ _ _ (by decide)) 0).trans (rb_rejected (by decide) field s.m)
  case field => exact (rf_wf_apart _ _ _ _ _ _ _ (by decide)).trans (rf_rejected _ _ hlt s.m)
  case channel => exact (rf_wf_same _ _ 10 8 ch.toNat (by decide)).trans (Nat.mod_eq_of_lt ch.isLt)

/-! ## GO (R511, R512) -/

theorem ch_lt (ch : BitVec 3) : ¬ 8 ≤ ch.toNat := Nat.not_le.mpr ch.isLt

/-- GO sets RUNNING to the start of its polynomial where CFG says so, clears DONE and shows RUNNING. -/
def begun (c : Nat) (m : Pnm) : Pnm :=
  wf (wr (if bit (rd m (Reg.ch c 4)) 5 then setRunning c (crcInit (bits (rd m (Reg.ch c 4)) 1 0)) m else m)
    (Reg.ch c 0x28) 0) (Reg.ch c 0x1C) 3 0 1

theorem touches_begun (c : Nat) (m : Pnm) : Touches [.regs] (runRegs c) m (begun c m) :=
  ((Touches.ite (touches_setRunning c _ m) (.refl _ _ m)).trans (touches_done c 0 _)).trans (touches_status c 1 _)

theorem running_begun (c : Nat) (m : Pnm) : rd (begun c m) (Reg.ch c 0x14) =
    if bit (rd m (Reg.ch c 4)) 5 then loW (crcInit (bits (rd m (Reg.ch c 4)) 1 0)) else rd m (Reg.ch c 0x14) := by
  refine ((rd_wr_ne _ _ _ (ch_ne c)).trans (rd_wr_ne _ _ _ (ch_ne c))).trans ?_
  split
  · exact rd_wr_same _ _ _
  · rfl

theorem status_begun (c : Nat) (m : Pnm) : rf (begun c m) (Reg.ch c 0x1C) 3 0 = 1 :=
  rf_wf_same _ (Reg.ch c 0x1C) 3 0 1 (by decide)

/-- The bytes that a GO names lie where its function may read. -/
def inSpace (m : Pnm) (c : Nat) : Bool :=
  let cfg := rd m (Reg.ch c 4)
  let addr := (rd m (Reg.ch c 8)).toNat + 2 ^ 32 * (rd m (Reg.ch c 0xC)).toNat
  let len := (rd m (Reg.ch c 0x10)).toNat
  if bit cfg 4 then decide (bits cfg 24 16 = 0 ∧ addr + len ≤ 2 ^ 27) else mayRead m (bits cfg 24 16) addr len

theorem inSpace_iff {m : Pnm} {c : Nat} : inSpace m c = true ↔
    (bit (rd m (Reg.ch c 4)) 4 = true ∧ bits (rd m (Reg.ch c 4)) 24 16 = 0 ∧
      (rd m (Reg.ch c 8)).toNat + 2 ^ 32 * (rd m (Reg.ch c 0xC)).toNat + (rd m (Reg.ch c 0x10)).toNat ≤ 2 ^ 27) ∨
    (bit (rd m (Reg.ch c 4)) 4 = false ∧ mayRead m (bits (rd m (Reg.ch c 4)) 24 16)
      ((rd m (Reg.ch c 8)).toNat + 2 ^ 32 * (rd m (Reg.ch c 0xC)).toNat) (rd m (Reg.ch c 0x10)).toNat = true) := by
  unfold inSpace
  cases h : bit (rd m (Reg.ch c 4)) 4 <;> simp [h]

/-- The scan that a GO starts. -/
def scanFor (m : Pnm) (c : Nat) : Scan :=
  { ch := c, fn := bits (rd m (Reg.ch c 4)) 24 16, space := bit (rd m (Reg.ch c 4)) 4,
    addr := (rd m (Reg.ch c 8)).toNat + 2 ^ 32 * (rd m (Reg.ch c 0xC)).toNat, len := (rd m (Reg.ch c 0x10)).toNat,
    poly := bits (rd m (Reg.ch c 4)) 1 0, left := (rd m (Reg.ch c 0x10)).toNat }

theorem scanGo_taken {m : Pnm} {c : Nat} {vf : Bool} (hc : ¬ 8 ≤ c) (hn : scanOf m c = none)
    (ha : ¬ (bit (rd m (Reg.ch c 4)) 4 = true ∧ vf = true)) :
    scanGo c vf m =
      if (rd m (Reg.ch c 0x10)).toNat = 0 then scanEnd c 3 (begun c m)
      else if inSpace m c then
        arbAdd (258 + c) (rd m (Reg.ch c 0x10)).toNat { begun c m with scans := m.scans ++ [scanFor m c] }
      else scanEnd c 4 (begun c m) := by
  have hnone : ¬ (scanOf m c).isSome = true := by simp [hn]
  have hgo : scanGo c vf m = if bit (rd m (Reg.ch c 4)) 4 = true ∧ vf = true then crcErr 4 c m else
      if (rd m (Reg.ch c 0x10)).toNat = 0 then scanEnd c 3 (begun c m)
      else if inSpace m c then
        arbAdd (258 + c) (rd m (Reg.ch c 0x10)).toNat { begun c m with scans := (begun c m).scans ++ [scanFor m c] }
      else scanEnd c 4 (begun c m) := (if_neg hc).trans (if_neg hnone)
  have hscans : (begun c m).scans = m.scans := (touches_begun c m).part .scans
  rw [hgo, if_neg ha, hscans]

theorem scanOf_begun {m : Pnm} {c : Nat} (h : scanOf m c = none) : scanOf (begun c m) c = none := by
  have hscans : (begun c m).scans = m.scans := (touches_begun c m).part .scans
  rw [scanOf, hscans]
  exact h

/-- A writer of its own space, and the PF, may start a scan. -/
theorem allowed_iff {sp : Bool} {fn : BitVec 9} :
    ¬ (sp = true ∧ fn ≠ 0) ↔ ¬ (sp = true ∧ decide (fn ≠ 0#9) = true) := by rw [decide_eq_true_eq]; rfl

theorem crcScanGo_starts (hw : s.writable) (hmine : fn = 0 ∨ ownsCh s.m fn.toNat ch.toNat = true)
    (hn : scanOf s.m ch.toNat = none) (ha : ¬ (bit (rd s.m (Reg.ch ch.toNat 4)) 4 = true ∧ fn ≠ 0))
    (hlen : (rd s.m (Reg.ch ch.toNat 0x10)).toNat ≠ 0) (hin : inSpace s.m ch.toNat = true) :
    Does (.crcScanGo fn ch) s [.regs, .scans, .hif] (runRegs ch.toNat) fun n =>
      rf n (Reg.ch ch.toNat 0x1C) 3 0 = 1 ∧
      rd n (Reg.ch ch.toNat 0x14) = (if bit (rd s.m (Reg.ch ch.toNat 4)) 5 then
        loW (crcInit (bits (rd s.m (Reg.ch ch.toNat 4)) 1 0)) else rd s.m (Reg.ch ch.toNat 0x14)) ∧
      n.scans = s.m.scans ++ [scanFor s.m ch.toNat] :=
  does_owned hw hmine rfl ((scanGo_taken (ch_lt ch) hn (allowed_iff.mp ha)).trans ((if_neg hlen).trans (if_pos hin)))
    ((((touches_begun _ s.m).mono (by simp) (List.Subset.refl _)).trans (touches_scans _ _)).trans (touches_arbAdd _ _ _))
    ⟨status_begun _ s.m, running_begun _ s.m, rfl⟩

theorem crcScanGo_ends (hw : s.writable) (hmine : fn = 0 ∨ ownsCh s.m fn.toNat ch.toNat = true)
    (hn : scanOf s.m ch.toNat = none) (ha : ¬ (bit (rd s.m (Reg.ch ch.toNat 4)) 4 = true ∧ fn ≠ 0))
    (hbad : (rd s.m (Reg.ch ch.toNat 0x10)).toNat = 0 ∨ inSpace s.m ch.toNat = false) :
    Does (.crcScanGo fn ch) s [.regs, .tel, .hif] (runRegs ch.toNat) fun n =>
      rf n (Reg.ch ch.toNat 0x1C) 3 0 = (if (rd s.m (Reg.ch ch.toNat 0x10)).toNat = 0 then 3 else 4) ∧
      rd n (Reg.ch ch.toNat 0x14) = (if bit (rd s.m (Reg.ch ch.toNat 4)) 5 then
        loW (crcInit (bits (rd s.m (Reg.ch ch.toNat 4)) 1 0)) else rd s.m (Reg.ch ch.toNat 0x14)) := by
  have hgo := scanGo_taken (ch_lt ch) hn (allowed_iff.mp ha)
  have hend : scanGo ch.toNat (decide (fn ≠ 0#9)) s.m =
      told ch.toNat (if (rd s.m (Reg.ch ch.toNat 0x10)).toNat = 0 then 3 else 4) (begun ch.toNat s.m) := by
    by_cases hlen : (rd s.m (Reg.ch ch.toNat 0x10)).toNat = 0
    · rw [hgo, if_pos hlen, if_pos hlen, scanEnd_of_none (scanOf_begun hn)]
    · have hin := ne_true_of_eq_false (hbad.resolve_left hlen)
      rw [hgo, if_neg hlen, if_neg hlen, if_neg hin, scanEnd_of_none (scanOf_begun hn)]
  exact does_owned hw hmine rfl hend
    (((touches_begun _ s.m).mono (by simp) (List.Subset.refl _)).trans (touches_told _ _ _))
    ⟨status_told _ (by split <;> decide) _, (rd_told _ _ _ (ch_ne _)).trans (running_begun _ s.m)⟩

/-! ## The end of a scan (R513, R515) -/

/-- The scan of channel c ends with a status; RUNNING and DONE say how far it came. -/
def ended (c status run done : Nat) (m : Pnm) : Pnm := scanEnd c status (wr (setRunning c run m) (Reg.ch c 0x28) (loW done))

theorem touches_ended (c status run done : Nat) (m : Pnm) :
    Touches [.regs, .scans, .tel, .hif] (runRegs c) m (ended c status run done m) :=
  ((touches_setRunning c run m).trans (touches_done c (loW done) _)).trans (touches_scanEnd c status _)

theorem ended_shows {c status : Nat} (h : status < 16) (run done : Nat) (m : Pnm) :
    rf (ended c status run done m) (Reg.ch c 0x1C) 3 0 = status ∧ scanOf (ended c status run done m) c = none ∧
    (∀ d, d ≠ c → scanOf (ended c status run done m) d = scanOf m d) ∧
    rd (ended c status run done m) (Reg.ch c 0x14) = loW run ∧ rd (ended c status run done m) (Reg.ch c 0x28) = loW done := by
  unfold ended
  generalize hk : wr (setRunning c run m) (Reg.ch c 0x28) (loW done) = k
  have hrun : rd k (Reg.ch c 0x14) = loW run := hk ▸ (rd_wr_ne _ _ _ (ch_ne c)).trans (rd_wr_same _ _ _)
  have hdone : rd k (Reg.ch c 0x28) = loW done := hk ▸ rd_wr_same _ _ _
  have hscans : k.scans = m.scans := hk ▸ rfl
  have hof : ∀ d, scanOf k d = scanOf m d := fun d => by rw [scanOf, hscans, scanOf]
  exact ⟨status_told c h _, scanOf_scanEnd_same c status k, fun d hd => (scanOf_scanEnd_ne status k hd).trans (hof d),
    (rd_told c status _ (ch_ne c)).trans hrun, (rd_told c status _ (ch_ne c)).trans hdone⟩

theorem scanDone_ends {x : Scan} {c : Nat} {m : Pnm} (r : Memory) (hx : scanOf m c = some x) (hleft : x.left = 0) :
    scanDone c (m, r) = (ended c 2 (crcRun x.poly (rd m (Reg.ch c 0x14)).toNat (scanBytes m r x)) x.len m, r) := by
  simp only [scanDone, hx, hleft, ne_eq, not_true_eq_false, if_false, ended]

theorem crcScanDone_ends {x : Scan} (hl : s.live) (hx : scanOf s.m ch.toNat = some x) (hleft : x.left = 0) :
    Does (.crcScanDone ch) s [.regs, .scans, .tel, .hif] (runRegs ch.toNat) fun n =>
      rf n (Reg.ch ch.toNat 0x1C) 3 0 = 2 ∧ scanOf n ch.toNat = none ∧ (∀ d, d ≠ ch.toNat → scanOf n d = scanOf s.m d) ∧
      rd n (Reg.ch ch.toNat 0x14) =
        loW (crcRun x.poly (rd s.m (Reg.ch ch.toNat 0x14)).toNat (scanBytes s.m s.mem x)) ∧
      rd n (Reg.ch ch.toNat 0x28) = loW x.len := by
  have hdone := scanDone_ends s.mem hx hleft
  generalize crcRun x.poly (rd s.m (Reg.ch ch.toNat 0x14)).toNat (scanBytes s.m s.mem x) = v at hdone
  exact does_alM hl rfl hdone (touches_ended ch.toNat 2 v x.len s.m) (ended_shows (by decide) v x.len s.m)

theorem nothing_crcScanDone (h : ∀ x, scanOf s.m ch.toNat = some x → x.left ≠ 0) : DoesNothing (.crcScanDone ch) s := by
  refine nothing_alM (f := scanDone ch.toNat) rfl ?_
  unfold scanDone
  split
  next => rfl
  next x hx => exact if_pos (h x hx)

/-! ## VERIFY (R514) -/

theorem judge_lt (a b c : Nat) : judge a b c < 8 := by
  unfold judge
  repeat' split
  all_goals decide

theorem crcVerify_judges (hw : s.writable) (hmine : fn = 0 ∨ ownsCh s.m fn.toNat ch.toNat = true)
    (hn : scanOf s.m ch.toNat = none) (hp : bits (rd s.m (Reg.ch ch.toNat 4)) 1 0 = 0) :
    Does (.crcVerify fn ch) s [.regs, .tel] [Reg.ch ch.toNat 0x1C] fun n =>
      rf n (Reg.ch ch.toNat 0x1C) 3 0 = rf s.m (Reg.ch ch.toNat 0x1C) 3 0 ∧ rf n (Reg.ch ch.toNat 0x1C) 6 4 =
        judge (Nat.xor (rd s.m (Reg.ch ch.toNat 0x14)).toNat 0xFFFFFFFF) (rd s.m (Reg.ch ch.toNat 0x20)).toNat
          (rf s.m (Reg.ch ch.toNat 0x24) 7 0) := by
  have hpoly : rf s.m (Reg.ch ch.toNat 4) 1 0 = 0 := hp
  have hresult : scanResult s.m ch.toNat = Nat.xor (rd s.m (Reg.ch ch.toNat 0x14)).toNat 0xFFFFFFFF := by
    rw [scanResult, hpoly]
    rfl
  have hverify : scanVerify ch.toNat s.m = scanEvent ch.toNat (wf s.m (Reg.ch ch.toNat 0x1C) 6 4
      (judge (scanResult s.m ch.toNat) (rd s.m (Reg.ch ch.toNat 0x20)).toNat (rf s.m (Reg.ch ch.toNat 0x24) 7 0))) :=
    (if_neg (ch_lt ch)).trans ((if_neg (by simp [hn])).trans (if_neg (not_not.mpr hpoly)))
  rw [hresult] at hverify
  have hlt := judge_lt (Nat.xor (rd s.m (Reg.ch ch.toNat 0x14)).toNat 0xFFFFFFFF) (rd s.m (Reg.ch ch.toNat 0x20)).toNat
    (rf s.m (Reg.ch ch.toNat 0x24) 7 0)
  exact does_owned hw hmine rfl hverify ((touches_wf s.m (Reg.ch ch.toNat 0x1C) 6 4 _).trans (touches_raise _ _))
    ⟨rf_wf_apart _ _ _ _ _ _ _ (by decide),
      (rf_wf_same _ (Reg.ch ch.toNat 0x1C) 6 4 _ (by decide)).trans (Nat.mod_eq_of_lt hlt)⟩

/-! ## ABORT (R515) -/

theorem crcAbort_ends {x : Scan} (hw : s.writable) (hmine : fn = 0 ∨ ownsCh s.m fn.toNat ch.toNat = true)
    (hx : scanOf s.m ch.toNat = some x) :
    Does (.crcAbort fn ch) s [.regs, .scans, .tel, .hif] (runRegs ch.toNat) fun n =>
      rf n (Reg.ch ch.toNat 0x1C) 3 0 = 5 ∧ scanOf n ch.toNat = none ∧ (∀ d, d ≠ ch.toNat → scanOf n d = scanOf s.m d) ∧
      rd n (Reg.ch ch.toNat 0x14) = 0 ∧ rd n (Reg.ch ch.toNat 0x28) = loW (x.len - x.left) := by
  have habort : scanAbort ch.toNat s.m = ended ch.toNat 5 0 (x.len - x.left) s.m := by simp only [scanAbort, hx, ended]
  exact does_owned hw hmine rfl habort (touches_ended _ 5 0 _ s.m) (ended_shows (by decide) 0 _ s.m)

end

end Scans

open Scans in
/-- Settles O53: it holds. Each command of a channel is taken by its writer alone, and ends or starts that channel's scan. -/
theorem scansRunEndAndJudge : Obligations.ScansRunEndAndJudge := by
  intro s fn ch
  refine ⟨fun _ hno => ⟨nothing_owned rfl (absurd · hno), nothing_owned rfl (absurd · hno), nothing_owned rfl (absurd · hno)⟩,
    fun hw hmine hs => ⟨?busyGo, ?busyVerify⟩, fun hw hmine hn ha => ?vf, fun hw hmine hn ha hlen hin => ?starts,
    fun hw hmine hn ha hbad => ?ends, fun x hl hx hleft => crcScanDone_ends hl hx hleft, fun _ => nothing_crcScanDone,
    fun hw hmine hn hp => ?poly, fun hw hmine hn hp => crcVerify_judges hw hmine hn hp,
    fun x hw hmine hx => crcAbort_ends hw hmine hx, fun _ _ hn => nothing_owned rfl fun _ => ?idle⟩
  case busyGo => exact does_crcErr hw hmine rfl ((if_neg (ch_lt ch)).trans (if_pos hs))
  case busyVerify => exact does_crcErr hw hmine rfl ((if_neg (ch_lt ch)).trans (if_pos hs))
  case vf =>
    have hvf := Decidable.byContradiction fun h => ha (allowed_iff.mpr h)
    exact does_crcErr hw hmine rfl ((if_neg (ch_lt ch)).trans ((if_neg (by simp [hn])).trans (if_pos hvf)))
  case starts => exact crcScanGo_starts hw hmine hn ha hlen (inSpace_iff.mpr hin)
  case ends =>
    exact crcScanGo_ends hw hmine hn ha (hbad.imp_right fun h => Bool.eq_false_of_not_eq_true fun hi => h (inSpace_iff.mp hi))
  case poly => exact does_crcErr hw hmine rfl ((if_neg (ch_lt ch)).trans ((if_neg (by simp [hn])).trans (if_pos hp)))
  case idle => simp only [scanAbort, hn]

end Machine
end Sys2Proof
end

section
/-! PROOFS. An event that is raised reaches the event rings, the journal and the alarm counts (R489, R490, R496, R507). -/

namespace Sys2Proof
namespace Machine
namespace Events
open Leapfrog

/-- Where no snapshot is triggered, an event reaches its receivers, the journal and the alarm counts alone. -/
theorem raise_tel {m : Pnm} {ev : Ev} (h : ¬ (rb m Reg.DIA_SNAP_CFG 1 = true ∧ rf m Reg.DIA_SNAP_CFG 15 8 = ev.code)) :
    (raise ev m).tel = { m.tel with
      evts := (ev.fns.foldl (evtTo m ev) (evtTo m ev (m.tel.evts, m.tel.out) 0)).1,
      out := (ev.fns.foldl (evtTo m ev) (evtTo m ev (m.tel.evts, m.tel.out) 0)).2,
      jnl := almEvent m ev (jnlEvent m ev m.tel.jnl) } := by
  have hno : (true && rb m Reg.DIA_SNAP_CFG 1 && decide (rf m Reg.DIA_SNAP_CFG 15 8 = ev.code)) = false :=
    Bool.eq_false_of_not_eq_true fun e => h (by simpa using e)
  have htel : (raise ev m).tel = snapT m
      (true && rb m Reg.DIA_SNAP_CFG 1 && decide (rf m Reg.DIA_SNAP_CFG 15 8 = ev.code)) 2 ev.code (raiseT m true ev m.tel) := rfl
  rw [htel, hno]
  rfl

/-! ## The event rings (R490) -/

/-- An event that reaches function f changes no other function's entries. -/
theorem get_evtTo_ne (m : Pnm) (ev : Ev) (x : NMap EvtFn × List Emit) {f g : Nat} (h : g ≠ f) :
    NMap.get EvtFn.init (evtTo m ev x f).1 g = NMap.get EvtFn.init x.1 g := by
  unfold evtTo
  extract_lets e e1
  split
  · split <;> exact NMap.get_set_ne _ _ _ _ _ h
  · exact NMap.get_set_ne _ _ _ _ _ h

theorem get_foldl_evtTo (m : Pnm) (ev : Ev) {g : Nat} {l : List Nat} (h : g ∉ l) (x : NMap EvtFn × List Emit) :
    NMap.get EvtFn.init (l.foldl (evtTo m ev) x).1 g = NMap.get EvtFn.init x.1 g := by
  induction l generalizing x with
  | nil => rfl
  | cons f t ih =>
    rw [List.mem_cons, not_or] at h
    obtain ⟨hf, ht⟩ := h
    exact (ih ht _).trans (get_evtTo_ne m ev x hf)

section
variable {m : Pnm} {ev : Ev}

theorem getEvt_raise (h : ¬ (rb m Reg.DIA_SNAP_CFG 1 = true ∧ rf m Reg.DIA_SNAP_CFG 15 8 = ev.code)) (hf : 0 ∉ ev.fns) :
    getEvt (raise ev m) 0 = NMap.get EvtFn.init (evtTo m ev (m.tel.evts, m.tel.out) 0).1 0 := by
  rw [getEvt, raise_tel h]
  exact get_foldl_evtTo m ev hf _

theorem get_evtTo_ring {x : NMap EvtFn × List Emit} (hr : evtRingOn m 0 = true) (hc : ev.cls ≠ 0) :
    NMap.get EvtFn.init (evtTo m ev x 0).1 0 =
      (NMap.get EvtFn.init x.1 0).push ev.code ev.cls (ev.items.map (· % 65536)) (nowNs m) := by
  simp only [evtTo, hr, hc, if_true, if_false, NMap.get_set_same]

theorem get_evtTo_noRing {x : NMap EvtFn × List Emit} (hr : evtRingOn m 0 = false) :
    NMap.get EvtFn.init (evtTo m ev x 0).1 0 =
      { NMap.get EvtFn.init x.1 0 with drop := (NMap.get EvtFn.init x.1 0).drop + 1 } := by
  simp only [evtTo, hr, Bool.false_eq_true, if_false, NMap.get_set_same]

theorem push_new {e : EvtFn} {code cls now : Nat} {items : List Nat}
    (hn : e.pend.any (fun p => decide (p.code = code ∧ p.items = items ∧ code ≠ 0)) = false) (hroom : e.pend.length < 256) :
    e.push code cls items now = { e with pend := e.pend ++
      [{ code := code, cls := cls, items := items, count := 1, firstNs := now, lastNs := now }] } :=
  (if_neg (ne_true_of_eq_false hn)).trans (if_pos hroom)

theorem push_equal {e : EvtFn} {code cls now : Nat} {items : List Nat}
    (hn : e.pend.any (fun p => decide (p.code = code ∧ p.items = items ∧ code ≠ 0)) = true) :
    e.push code cls items now = { e with pend := e.pend.map fun p =>
      if (decide (p.code = code ∧ p.items = items ∧ code ≠ 0)) = true then
        { p with count := satAdd 65535 p.count 1, lastNs := now } else p } := by
  obtain ⟨q, -, hq⟩ := List.any_eq_true.mp hn
  obtain ⟨-, -, hcode⟩ := of_decide_eq_true hq
  refine (if_pos hn).trans ?_
  simp only [hcode, ne_eq, not_false_eq_true, and_true, decide_eq_true_eq]

end

/-! ## The journal (R496, R498) -/

/-- What a record's way into the journal leaves of the alarm publication. -/
structure SameAlarms (j k : Jnl) : Prop where
  count : k.almCount = j.almCount
  code : k.almCode = j.almCode

theorem SameAlarms.trans {i j k : Jnl} (h : SameAlarms i j) (h' : SameAlarms j k) : SameAlarms i k :=
  ⟨h'.count.trans h.count, h'.code.trans h.code⟩

theorem sameAlarms_dropOne (j : Jnl) (c now : Nat) : SameAlarms j (j.dropOne c now) := ⟨rfl, rfl⟩

theorem sameAlarms_jnlDisplace (now need from' fuel : Nat) (j : Jnl) : SameAlarms j (jnlDisplace now need from' fuel j) := by
  induction fuel generalizing j with
  | zero => exact ⟨rfl, rfl⟩
  | succ k ih =>
    unfold jnlDisplace
    split
    · exact ⟨rfl, rfl⟩
    · extract_lets v
      cases v with
      | some i =>
        have hdrop : SameAlarms j { (j.dropOne ((j.buf[i]?.map (·.cls)).getD 0) now) with buf := j.buf.eraseIdx i } := ⟨rfl, rfl⟩
        exact hdrop.trans (ih _)
      | none => exact ⟨rfl, rfl⟩

theorem sameAlarms_jnlLoss (m : Pnm) (j : Jnl) : SameAlarms j (jnlLoss m j) := by
  unfold jnlLoss
  split <;> exact ⟨rfl, rfl⟩

theorem startFlush_buf (j : Jnl) : j.startFlush.buf = j.buf := by
  unfold Jnl.startFlush
  split <;> rfl

theorem jnlFill_buf (m : Pnm) (j : Jnl) : (jnlFill m j).buf = j.buf := by
  unfold jnlFill
  split
  · exact startFlush_buf j
  · rfl

theorem sameAlarms_jnlFill (m : Pnm) (j : Jnl) : SameAlarms j (jnlFill m j) := by
  unfold jnlFill Jnl.startFlush
  split
  · split <;> exact ⟨rfl, rfl⟩
  · exact ⟨rfl, rfl⟩

theorem sameAlarms_jnlPut (m : Pnm) (r : JRec) (j : Jnl) : SameAlarms j (jnlPut m r j) := by
  unfold jnlPut
  extract_lets from' j1 j2
  have h1 : SameAlarms j j1 := sameAlarms_jnlLoss m j
  have h2 : SameAlarms j j2 := by
    refine h1.trans ?_
    unfold j2
    split
    · exact sameAlarms_jnlDisplace _ _ _ _ _
    · exact ⟨rfl, rfl⟩
  refine h2.trans ?_
  split
  · have hin : SameAlarms j2 { j2 with
        buf := j2.buf ++ [r], cls0 := if r.cls = 0 then j2.cls0 + 1 else j2.cls0, flushDue := jnlDue m j2 r.cls } := ⟨rfl, rfl⟩
    exact hin.trans (sameAlarms_jnlFill m _)
  · split
    · split <;> exact ⟨rfl, rfl⟩
    · exact ⟨rfl, rfl⟩

theorem sameAlarms_jnlEnter (m : Pnm) (cls code source : Nat) (payload : List Byte) (j : Jnl) :
    SameAlarms j (jnlEnter m cls code source payload j) := by
  unfold jnlEnter
  split
  · exact ⟨rfl, rfl⟩
  split
  · exact ⟨rfl, rfl⟩
  extract_lets r
  split
  · split <;> exact ⟨rfl, rfl⟩
  · exact sameAlarms_jnlPut m r j

theorem sameAlarms_jnlEvent (m : Pnm) (ev : Ev) (j : Jnl) : SameAlarms j (jnlEvent m ev j) := by
  unfold jnlEvent
  split
  · exact ⟨rfl, rfl⟩
  · exact sameAlarms_jnlEnter _ _ _ _ _ _

/-- A record of class 1 or 2 that fits into the shared space is appended, where no loss is to be told first. -/
theorem jnlPut_appends {m : Pnm} {r : JRec} {j : Jnl} (hc : 1 ≤ r.cls ∧ r.cls ≤ 2) (hd : j.drops.all (· = 0) = true)
    (hroom : r.size + (if r.cls = 2 then 32768 else 0) ≤ sharedFree j.buf) : (jnlPut m r j).buf = j.buf ++ [r] := by
  have hno : ¬ (j.drops.any (· ≠ 0) = true ∧ 98304 < sharedFree j.buf) := by
    rintro ⟨ha, -⟩
    obtain ⟨x, hx, hne⟩ := List.any_eq_true.mp ha
    exact of_decide_eq_true hne (of_decide_eq_true (List.all_eq_true.mp hd x hx))
  have hloss : jnlLoss m j = j := if_neg hno
  have h0 : r.cls ≠ 0 := Nat.one_le_iff_ne_zero.mp hc.1
  have hadm : jnlAdmits (rb m Reg.JNL_CFG 0) j.buf r.cls r.size = true := by
    have h12 : r.cls = 1 ∨ r.cls = 2 := by omega
    rcases h12 with h1 | h2
    · simpa [jnlAdmits, h1] using hroom
    · simpa [jnlAdmits, h2] using hroom
  unfold jnlPut
  simp only [hloss, if_neg h0, hadm, if_true]
  exact jnlFill_buf m _

/-- The record of an event that joins no other. -/
def recordOf (m : Pnm) (ev : Ev) (j : Jnl) : JRec :=
  { cls := ev.cls, code := ev.code, source := ev.src, payload := ev.items.flatMap (fun i => leBytes 2 i) ++ ev.extra,
    count := 1, opSec := j.opSec, opUs := opUsOf m j, pcyc := j.pcyc, modNs := nowNs m, lastSec := j.opSec,
    lastUs := opUsOf m j, rseq := 0 }

theorem jnlEvent_puts {m : Pnm} {ev : Ev} {j : Jnl} (h20 : ev.code ≠ 0x20) (hs : j.pfSealed = false) (hc : 1 ≤ ev.cls)
    (hjoin : findRec j.buf (j.flushing.getD 0) ev.code ev.src (some (ev.items.flatMap (fun i => leBytes 2 i) ++ ev.extra)) = none) :
    jnlEvent m ev j = jnlPut m (recordOf m ev j) j := by
  have h0 : ¬ (ev.cls = 0 ∧ 2000 ≤ j.cls0) := fun h => absurd (h.1 ▸ hc) (by decide)
  unfold jnlEvent jnlEnter
  rw [if_neg h20, if_neg (ne_true_of_eq_false hs), hjoin]
  exact if_neg h0

end Events

open Events in
/-- Settles O7: it holds. The events are those of the PF's ring and of the receivers, each its own; the journal admits the
record, and the alarm counts move by one. -/
theorem eventsReachTheRingsAndTheJournal : Obligations.EventsReachTheRingsAndTheJournal := by
  intro m ev hsnap
  have htel := raise_tel hsnap
  have hjnl : (raise ev m).tel.jnl = almEvent m ev (jnlEvent m ev m.tel.jnl) := congrArg Tel.jnl htel
  have halm := sameAlarms_jnlEvent m ev m.tel.jnl
  have hbuf : (raise ev m).tel.jnl.buf = (jnlEvent m ev m.tel.jnl).buf := (congrArg Jnl.buf hjnl).trans rfl
  have hdia : (raise ev m).tel.dia = m.tel.dia := (congrArg Tel.dia htel).trans rfl
  refine ⟨keeps_raise (by simp) ev m, hdia, fun hr hc hf hn hroom => ?new, fun hr hc hf hn => ?equal,
    fun hr hf => ?noRing, ?count, ?code, fun h20 => hbuf.trans ?powerEvent, fun h20 hs => ?sealed,
    fun h20 hs hc hjoin hd hroom => ?journaled⟩
  case new => exact (getEvt_raise hsnap hf).trans ((get_evtTo_ring hr hc).trans (push_new hn hroom))
  case equal => exact (getEvt_raise hsnap hf).trans ((get_evtTo_ring hr hc).trans (push_equal hn))
  case noRing => exact (getEvt_raise hsnap hf).trans (get_evtTo_noRing hr)
  case count => rw [hjnl, almEvent, halm.count]
  case code => rw [hjnl, almEvent, halm.code]
  case powerEvent => exact congrArg Jnl.buf (if_pos h20)
  case sealed =>
    have hent : jnlEvent m ev m.tel.jnl = { m.tel.jnl with unjournaled := m.tel.jnl.unjournaled + 1 } :=
      (if_neg h20).trans (if_pos hs)
    exact ⟨by rw [hbuf, hent], by rw [hjnl, almEvent, hent]⟩
  case journaled =>
    have hput : (raise ev m).tel.jnl.buf = m.tel.jnl.buf ++ [recordOf m ev m.tel.jnl] := by
      rw [hbuf, jnlEvent_puts h20 hs hc.1 hjoin]
      exact jnlPut_appends hc hd hroom
    exact ⟨recordOf m ev m.tel.jnl, hput, rfl, rfl, rfl, rfl, rfl, rfl⟩

end Machine
end Sys2Proof
end

section
/-! PROOFS. Snapshots and the health-node window (R516, R517, R521, R525). -/

namespace Sys2Proof
namespace Machine
namespace Diagnostics
open Leapfrog

/-! ## What an event and the health tree leave of the diagnostics -/

/-- The entry of a node, as the window sets it, beside its own state. -/
def fields (x : Node) : Nat × Nat × Nat × Bool := (x.typ, x.k, x.parent, x.en)

/-- The entries of the nodes, their own states, the self-tests and their results are the same. -/
structure SameWork (d e : Dia) : Prop where
  entry : ∀ k, fields (NMap.get nodeDflt e.nodes k) = fields (NMap.get nodeDflt d.nodes k)
  own : ∀ k, (NMap.get nodeDflt e.nodes k).own = (NMap.get nodeDflt d.nodes k).own
  queue : e.queue = d.queue
  cyclePos : e.cyclePos = d.cyclePos
  cycleSlices : e.cycleSlices = d.cycleSlices
  results : e.results = d.results

theorem SameWork.trans {d e f : Dia} (h : SameWork d e) (h' : SameWork e f) : SameWork d f where
  entry k := (h'.entry k).trans (h.entry k)
  own k := (h'.own k).trans (h.own k)
  queue := h'.queue.trans h.queue
  cyclePos := h'.cyclePos.trans h.cyclePos
  cycleSlices := h'.cycleSlices.trans h.cycleSlices
  results := h'.results.trans h.results

theorem SameWork.refl (d : Dia) : SameWork d d := ⟨fun _ => rfl, fun _ => rfl, rfl, rfl, rfl, rfl⟩

theorem raiseT_dia (m : Pnm) (c : Bool) (ev : Ev) (t : Tel) : (raiseT m c ev t).dia = t.dia := by
  unfold raiseT
  split <;> rfl

theorem sameWork_snapT (m : Pnm) (c : Bool) (src code : Nat) (t : Tel) : SameWork t.dia (snapT m c src code t).dia := by
  unfold snapT
  extract_lets same take seq joined old d
  rw [raiseT_dia]
  unfold d
  repeat' split
  all_goals exact ⟨fun _ => rfl, fun _ => rfl, rfl, rfl, rfl, rfl⟩

theorem sameWork_eventT (m : Pnm) (c : Bool) (ev : Ev) (t : Tel) : SameWork t.dia (eventT m c ev t).dia := by
  have h := sameWork_snapT m (c && rb m Reg.DIA_SNAP_CFG 1 && decide (rf m Reg.DIA_SNAP_CFG 15 8 = ev.code)) 2 ev.code
    (raiseT m c ev t)
  rwa [raiseT_dia] at h

/-- A node that keeps its entry and its own state takes another state. -/
theorem sameWork_set {d : Dia} {n : Nat} {x : Node} (fl : Word) (hf : fields x = fields (NMap.get nodeDflt d.nodes n))
    (ho : x.own = (NMap.get nodeDflt d.nodes n).own) :
    SameWork d { d with nodes := NMap.set nodeDflt d.nodes n x, flags := fl } where
  entry k := by
    rw [NMap.get_set]
    split
    next h => rw [hf, h]
    next => rfl
  own k := by
    rw [NMap.get_set]
    split
    next h => rw [ho, h]
    next => rfl
  queue := rfl
  cyclePos := rfl
  cycleSlices := rfl
  results := rfl

theorem sameWork_recomputeT (m : Pnm) (fuel n : Nat) (t : Tel) : SameWork t.dia (recomputeT m fuel n t).dia := by
  induction fuel generalizing n t with
  | zero => exact .refl _
  | succ k ih =>
    unfold recomputeT
    extract_lets nd st ch rs nd' dia d' told t1 t2
    have hset : SameWork t.dia d' := sameWork_set (if ch && decide (st = 2) then setBit t.dia.flags 3 true else t.dia.flags)
      (x := nd') rfl rfl
    have h2 : SameWork t.dia t2.dia := hset.trans (sameWork_eventT m ch _ { t with dia := d' })
    split
    · exact h2.trans (ih _ _)
    · exact h2

section
variable {s : State} {cmd : Word}

/-! ## Snapshots (R516, R517) -/

theorem touches_modDia {ps : List Part} {os : List Nat} (f : Dia → Dia) (m : Pnm) (h : .tel ∈ ps := by simp) :
    Touches ps os m (modDia f m) := touches_tel m _ h

/-- Another command of the diagnostics changes the telemetry alone. -/
theorem does_tel {c : Instr} {f : Pnm → Pnm} {t : Tel} {P : Pnm → Prop} (hw : s.writable) (hc : exec c s = run (whenWr f) s)
    (hf : f s.m = { s.m with tel := t }) (hp : P { s.m with tel := t }) : Does c s [.tel] [] P :=
  have ht : Touches [.tel] [] s.m { s.m with tel := t } := touches_tel s.m t
  does_wr f hw hc hf ht.parts ht.regs hp

/-- The diagnostics once a snapshot of the software is taken. -/
def snapped (m : Pnm) : Dia :=
  { m.tel.dia with bank := (List.range 656).map (bankWord m m.tel (m.tel.dia.seq + 1) 1 0), timSnap := timSnapWords m.tim,
                   seq := m.tel.dia.seq + 1, source := 1, snapEdge := some m.tim.edge, locked := rb m Reg.DIA_SNAP_CFG 0 }

theorem bank_snapped (m : Pnm) :
    (snapped m).bank = (List.range 656).map (bankWord m m.tel (m.tel.dia.seq + 1) 1 0) := by
  rw [snapped]

theorem dia_snapT_of_free {m : Pnm} (hl : m.tel.dia.locked = false) (hs : m.tel.dia.snapEdge ≠ some m.tim.edge) :
    (snapT m true 1 0 m.tel).dia = snapped m := by
  unfold snapT
  extract_lets same take seq joined old d
  rw [raiseT_dia]
  have hsame : same = false := by simp [same, hs]
  have htake : take = true := by simp [take, hsame, hl]
  unfold d
  rw [if_neg (ne_true_of_eq_false hsame), if_pos htake]
  rfl

theorem snapT_of_locked {m : Pnm} (hl : m.tel.dia.locked = true) (hs : m.tel.dia.snapEdge ≠ some m.tim.edge) :
    snapT m true 1 0 m.tel = { m.tel with dia := { m.tel.dia with
      missed := m.tel.dia.missed + 1, flags := setBit m.tel.dia.flags 1 true } } := by
  unfold snapT
  extract_lets same take seq joined old d tel
  have hsame : same = false := by simp [same, hs]
  have htake : take = false := by simp [take, hl]
  have hd : d = { m.tel.dia with missed := m.tel.dia.missed + 1, flags := setBit m.tel.dia.flags 1 true } := by
    unfold d
    rw [if_neg (ne_true_of_eq_false hsame), if_neg (ne_true_of_eq_false htake), if_pos rfl]
  rw [htake, hd]
  rfl

theorem snapT_of_same {m : Pnm} (hs : m.tel.dia.snapEdge = some m.tim.edge) :
    snapT m true 1 0 m.tel = { m.tel with dia := { m.tel.dia with
      source := Nat.lor m.tel.dia.source 1,
      bank := (m.tel.dia.bank.set 1 (loW (Nat.lor m.tel.dia.source 1))).set 7 (wrd m.tel.dia.bank 7) } } := by
  unfold snapT
  extract_lets same take seq joined old d tel
  have hsame : same = true := by simp [same, hs]
  have htake : take = false := by simp [take, hsame]
  have hd : d = { m.tel.dia with
      source := Nat.lor m.tel.dia.source 1,
      bank := (m.tel.dia.bank.set 1 (loW (Nat.lor m.tel.dia.source 1))).set 7 (wrd m.tel.dia.bank 7) } := by
    unfold d
    rw [if_pos hsame]
    rfl
  rw [htake, hd]
  rfl

/-- A word of the bank that is written with its own value stays. -/
theorem getD_set_self (l : List Word) (i k : Nat) : (l.set i (wrd l i)).getD k 0 = l.getD k 0 := by
  simp only [wrd, List.getD_eq_getElem?_getD, List.getElem?_set]
  by_cases h : i = k
  · subst h
    by_cases hl : i < l.length
    · simp [hl]
    · simp [hl]
  · simp [h]

theorem getD_joined (l : List Word) (w : Word) {k : Nat} (h : k ≠ 1) : ((l.set 1 w).set 7 (wrd l 7)).getD k 0 = l.getD k 0 := by
  have h7 : wrd l 7 = wrd (l.set 1 w) 7 := by simp [wrd, List.getD_eq_getElem?_getD]
  rw [h7, getD_set_self]
  simp [List.getD_eq_getElem?_getD, h.symm]

theorem snapTrig_takes (hw : s.writable) (hl : s.m.tel.dia.locked = false)
    (hs : ¬ s.m.tel.dia.snapEdge = some s.m.tim.edge) :
    Does .snapTrig s [.tel] [] fun n => n.tel.dia = snapped s.m :=
  does_tel hw rfl rfl (dia_snapT_of_free hl hs)

theorem snapTrig_misses (hw : s.writable) (hl : s.m.tel.dia.locked = true) (hs : ¬ s.m.tel.dia.snapEdge = some s.m.tim.edge) :
    Does .snapTrig s [.tel] [] fun n => n.tel = { s.m.tel with dia := { s.m.tel.dia with
      missed := s.m.tel.dia.missed + 1, flags := setBit s.m.tel.dia.flags 1 true } } :=
  does_tel hw rfl rfl (snapT_of_locked hl hs)

theorem snapTrig_joins (hw : s.writable) (hs : s.m.tel.dia.snapEdge = some s.m.tim.edge) :
    Does .snapTrig s [.tel] [] fun n =>
      n.tel = { s.m.tel with dia := { s.m.tel.dia with
        source := Nat.lor s.m.tel.dia.source 1, bank := n.tel.dia.bank } } ∧
      ∀ k, k ≠ 1 → n.tel.dia.bank.getD k 0 = s.m.tel.dia.bank.getD k 0 := by
  have hsnap : snapTrig s.m = { s.m with tel := { s.m.tel with dia := { s.m.tel.dia with
      source := Nat.lor s.m.tel.dia.source 1,
      bank := (s.m.tel.dia.bank.set 1 (loW (Nat.lor s.m.tel.dia.source 1))).set 7 (wrd s.m.tel.dia.bank 7) } } } :=
    congrArg (fun t => { s.m with tel := t }) (snapT_of_same hs)
  exact does_tel hw rfl hsnap ⟨rfl, fun k hk => getD_joined s.m.tel.dia.bank _ hk⟩

theorem snapRelease_unlocks (hw : s.writable) :
    Does .snapRelease s [.tel] [] fun n => n.tel = { s.m.tel with dia := { s.m.tel.dia with locked := false } } :=
  does_tel hw rfl rfl rfl

/-! ## The node window (R521, R525) -/

/-- The command register as a GO leaves it. -/
def went (cmd : Word) (m : Pnm) : Pnm := storeCmd Reg.DIA_TBL_CMD 0x001707FF#32 cmd m

theorem touches_went {ps : List Part} {os : List Nat} (cmd : Word) (m : Pnm) (hp : .regs ∈ ps := by simp)
    (ho : Reg.DIA_TBL_CMD ∈ os := by simp) : Touches ps os m (went cmd m) := touches_set m Reg.DIA_TBL_CMD _ hp ho

theorem length_diaWords (m : Pnm) (t i : Nat) : (diaWords m t i).length = 4 := by
  unfold diaWords
  repeat' split
  all_goals rfl

theorem diaTblRead_returns (hw : s.writable) (h : bits cmd 18 16 < 3) :
    Does (.diaTblRead cmd) s [.regs] (Reg.DIA_TBL_CMD :: rowAt Reg.DIA_TBL_DATA 4) fun n =>
      ∀ k < 4, rd n (Reg.DIA_TBL_DATA + 4 * k) = (diaWords s.m (bits cmd 18 16) (bits cmd 10 0)).getD k 0 := by
  have htab := setBit_bits_apart cmd false (i := 20) (hi := 18) (lo := 16) (by decide)
  have hidx := setBit_bits_apart cmd false (i := 20) (hi := 10) (lo := 0) (by decide)
  have hread : diaTblRead (setBit cmd 20 false) s.m = wrs (storeCmd Reg.DIA_TBL_CMD 0x001707FF#32 (setBit cmd 20 false) s.m)
      Reg.DIA_TBL_DATA (diaWords s.m (bits cmd 18 16) (bits cmd 10 0)) := by
    unfold diaTblRead
    rw [htab, hidx, if_neg (Nat.not_le.mpr h)]
    rfl
  have hlen := length_diaWords s.m (bits cmd 18 16) (bits cmd 10 0)
  have hdoes := does_windowRead (c := .diaTblRead cmd) hw rfl hread
  generalize diaWords s.m (bits cmd 18 16) (bits cmd 10 0) = l at hlen hdoes
  rwa [hlen] at hdoes

theorem does_noTable {c : Instr} {f : Pnm → Pnm} {go : Word} (hw : s.writable) (hc : exec c s = run (whenWr f) s)
    (hf : f s.m = sb (went go s.m) Reg.DIA_TBL_STAT 1) :
    Does c s [.regs] [Reg.DIA_TBL_CMD, Reg.DIA_TBL_STAT] fun n => rb n Reg.DIA_TBL_STAT 1 = true :=
  have ht : Touches [.regs] [Reg.DIA_TBL_CMD, Reg.DIA_TBL_STAT] s.m (sb (went go s.m) Reg.DIA_TBL_STAT 1) :=
    (touches_went go s.m).trans (touches_sb _ Reg.DIA_TBL_STAT 1)
  does_wr f hw hc hf ht.parts ht.regs (rb_sb_same _ Reg.DIA_TBL_STAT 1 (by decide))

theorem diaTbl_refuses_table (hw : s.writable) (h : 3 ≤ bits cmd 18 16) (c : Instr)
    (hc : c = .diaTblRead cmd ∨ c = .diaTblWrite cmd) :
    Does c s [.regs] [Reg.DIA_TBL_CMD, Reg.DIA_TBL_STAT] fun n => rb n Reg.DIA_TBL_STAT 1 = true := by
  rcases hc with rfl | rfl
  · exact does_noTable hw rfl (if_pos (by rwa [setBit_bits_apart _ _ (by decide)]))
  · have htab := setBit_bits_apart cmd true (i := 20) (hi := 18) (lo := 16) (by decide)
    refine does_noTable (go := setBit cmd 20 true) hw rfl ?_
    unfold diaTblWrite
    rw [htab, if_neg (by omega), if_neg (by omega)]
    rfl

theorem bits_lt (w : Word) (hi lo : Nat) : bits w hi lo < 2 ^ (hi + 1 - lo) := Nat.mod_lt _ (Nat.two_pow_pos _)

/-- A write of the window that is refused flags it and names the check and the entry. -/
theorem diaTblWrite_refuses {field : Nat} (hw : s.writable)
    (h : diaTblWrite (setBit cmd 20 true) s.m = diaErr field (bits cmd 10 0) (went (setBit cmd 20 true) s.m))
    (hlt : field < 256) :
    Does (.diaTblWrite cmd) s [.regs, .tel] [Reg.DIA_TBL_CMD, Reg.DIA_TBL_STAT, Reg.DIA_CFG_ERR] fun n =>
      rb n Reg.DIA_TBL_STAT 1 = true ∧ rf n Reg.DIA_CFG_ERR 7 0 = field ∧ rf n Reg.DIA_CFG_ERR 18 8 = bits cmd 10 0 ∧
      n.tel = { s.m.tel with dia := { s.m.tel.dia with flags := setBit s.m.tel.dia.flags 0 true } } := by
  have hidx : bits cmd 10 0 < 2048 := bits_lt cmd 10 0
  generalize bits cmd 10 0 = i at h hidx
  have ht : Touches [.regs, .tel] [Reg.DIA_TBL_CMD, Reg.DIA_TBL_STAT, Reg.DIA_CFG_ERR] s.m
      (diaErr field i (went (setBit cmd 20 true) s.m)) :=
    ((((touches_went _ s.m).trans (touches_wf _ Reg.DIA_CFG_ERR 7 0 field)).trans
      (touches_wf _ Reg.DIA_CFG_ERR 18 8 i)).trans (touches_sb _ Reg.DIA_TBL_STAT 1)).trans (touches_modDia _ _)
  refine does_wr (diaTblWrite (setBit cmd 20 true)) hw rfl h ht.parts ht.regs ⟨?stat, ?field, ?entry, rfl⟩
  case stat => exact rb_sb_same _ Reg.DIA_TBL_STAT 1 (by decide)
  case field =>
    have hrd : rd (diaErr field i (went (setBit cmd 20 true) s.m)) Reg.DIA_CFG_ERR =
        rd (wf (cfgErr (went (setBit cmd 20 true) s.m) Reg.DIA_CFG_ERR field) Reg.DIA_CFG_ERR 18 8 i) Reg.DIA_CFG_ERR :=
      rd_wr_ne _ _ _ (by decide)
    exact ((rf_congr hrd 7 0).trans (rf_wf_apart _ _ _ _ _ _ _ (by decide))).trans
      ((rf_wf_same _ Reg.DIA_CFG_ERR 7 0 field (by decide)).trans (Nat.mod_eq_of_lt hlt))
  case entry =>
    have hrd : rd (diaErr field i (went (setBit cmd 20 true) s.m)) Reg.DIA_CFG_ERR =
        rd (wf (cfgErr (went (setBit cmd 20 true) s.m) Reg.DIA_CFG_ERR field) Reg.DIA_CFG_ERR 18 8 i) Reg.DIA_CFG_ERR :=
      rd_wr_ne _ _ _ (by decide)
    exact (rf_congr hrd 18 8).trans ((rf_wf_same _ Reg.DIA_CFG_ERR 18 8 i (by decide)).trans (Nat.mod_eq_of_lt hidx))

/-- What a stored entry leaves: the node's entry as it was written, and every other node's. -/
def EntryStored (i : Nat) (x : Node) (d e : Dia) : Prop :=
  (fields (NMap.get nodeDflt e.nodes i) = fields x ∧ (NMap.get nodeDflt e.nodes i).own = x.own) ∧
  ∀ k, k ≠ i → fields (NMap.get nodeDflt e.nodes k) = fields (NMap.get nodeDflt d.nodes k) ∧
    (NMap.get nodeDflt e.nodes k).own = (NMap.get nodeDflt d.nodes k).own

/-- The telemetry with another entry at a node. -/
def withNode (i : Nat) (x : Node) (m : Pnm) : Tel :=
  { m.tel with dia := { m.tel.dia with nodes := NMap.set nodeDflt m.tel.dia.nodes i x } }

theorem get_withNode (i : Nat) (x : Node) (m : Pnm) (k : Nat) : NMap.get nodeDflt (withNode i x m).dia.nodes k =
    if k = i then x else NMap.get nodeDflt m.tel.dia.nodes k := NMap.get_set nodeDflt m.tel.dia.nodes i k x

theorem sameWork_nodeStore (i : Nat) (x : Node) (m : Pnm) : SameWork (withNode i x m).dia (nodeStore i x m).tel.dia :=
  ((sameWork_recomputeT m 2048 i (withNode i x m)).trans
    (sameWork_recomputeT m 2048 (NMap.get nodeDflt m.tel.dia.nodes i).parent _)).trans (sameWork_recomputeT m 2048 x.parent _)

theorem entryStored_nodeStore (i : Nat) (x : Node) (m : Pnm) : EntryStored i x m.tel.dia (nodeStore i x m).tel.dia := by
  have hwork := sameWork_nodeStore i x m
  generalize (nodeStore i x m).tel.dia = e at hwork
  have hat := get_withNode i x m i
  rw [if_pos rfl] at hat
  refine ⟨⟨(hwork.entry i).trans (congrArg fields hat), (hwork.own i).trans (congrArg Node.own hat)⟩, fun k hk => ?_⟩
  have hk' := get_withNode i x m k
  rw [if_neg hk] at hk'
  exact ⟨(hwork.entry k).trans (congrArg fields hk'), (hwork.own k).trans (congrArg Node.own hk')⟩

theorem diaTblWrite_stores {i : Nat} {x : Node} (hw : s.writable)
    (h : diaTblWrite (setBit cmd 20 true) s.m = nodeStore i x (went (setBit cmd 20 true) s.m)) :
    Does (.diaTblWrite cmd) s [.regs, .tel] [Reg.DIA_TBL_CMD] fun n => EntryStored i x s.m.tel.dia n.tel.dia := by
  have ht : Touches [.regs, .tel] [Reg.DIA_TBL_CMD] s.m (nodeStore i x (went (setBit cmd 20 true) s.m)) :=
    (touches_went _ s.m).trans (touches_tel _ _)
  exact does_wr (diaTblWrite (setBit cmd 20 true)) hw rfl h ht.parts ht.regs
    (entryStored_nodeStore i x (went (setBit cmd 20 true) s.m))

/-- A write of table 0 is one of a node, with the word that stands in the window. -/
theorem diaTblWrite_node (h : bits cmd 18 16 = 0) (m : Pnm) : diaTblWrite (setBit cmd 20 true) m =
    nodeWrite (bits cmd 10 0) (rd m Reg.DIA_TBL_DATA) (went (setBit cmd 20 true) m) := by
  have hdata : rd (went (setBit cmd 20 true) m) Reg.DIA_TBL_DATA = rd m Reg.DIA_TBL_DATA := rd_wr_ne _ _ _ (by decide)
  unfold diaTblWrite
  rw [setBit_bits_apart _ _ (by decide), setBit_bits_apart _ _ (by decide), if_pos h]
  exact congrArg (fun w => nodeWrite (bits cmd 10 0) w (went (setBit cmd 20 true) m)) hdata

theorem diaTblWrite_other (h0 : 0 < bits cmd 18 16) (h3 : bits cmd 18 16 < 3) (m : Pnm) :
    diaTblWrite (setBit cmd 20 true) m = diaErr 4 (bits cmd 10 0) (went (setBit cmd 20 true) m) := by
  unfold diaTblWrite
  rw [setBit_bits_apart _ _ (by decide), setBit_bits_apart _ _ (by decide), if_neg (Nat.ne_of_gt h0), if_pos h3]
  rfl

/-! ## Which check refuses a node -/

theorem nodeWrite_builtin {i : Nat} (h0 : 0 < i) (hb : i < 1280) (w : Word) (m : Pnm) : nodeWrite i w m = diaErr 1 i m :=
  (if_neg (Nat.ne_of_gt h0)).trans (if_pos hb)

theorem nodeWrite_cycle {i : Nat} {w : Word} {m : Pnm} (hi : i = 0 ∨ 1280 ≤ i)
    (hc : above m.tel.dia i 2048 (bits w 26 16) = true) : nodeWrite i w m = diaErr 2 i m := by
  unfold nodeWrite
  by_cases h0 : i = 0
  · subst h0
    exact (if_pos rfl).trans (if_pos hc)
  · have hcheck : nodeCheck m i w = 2 := if_pos hc
    rw [if_neg h0, if_neg (Nat.not_lt.mpr (hi.resolve_left h0)), hcheck, if_pos (by decide)]

theorem nodeWrite_badType {i : Nat} {w : Word} {m : Pnm} (hi : 1280 ≤ i) (hc : ¬ above m.tel.dia i 2048 (bits w 26 16) = true)
    (hb : 5 ≤ bits w 6 4 ∨ (bits w 6 4 = 3 ∧ bits w 15 8 = 0)) : nodeWrite i w m = diaErr 3 i m := by
  have hcheck : nodeCheck m i w = 3 := (if_neg hc).trans (if_pos hb)
  unfold nodeWrite
  rw [if_neg (by omega), if_neg (Nat.not_lt.mpr hi), hcheck, if_pos (by decide)]

theorem nodeWrite_root {w : Word} {m : Pnm} (hc : ¬ above m.tel.dia 0 2048 (bits w 26 16) = true) :
    nodeWrite 0 w m = nodeStore 0 { NMap.get nodeDflt m.tel.dia.nodes 0 with parent := bits w 26 16 } m := by
  unfold nodeWrite
  exact (if_pos rfl).trans (if_neg hc)

theorem nodeWrite_host {i : Nat} {w : Word} {m : Pnm} (hi : 1280 ≤ i) (hc : ¬ above m.tel.dia i 2048 (bits w 26 16) = true)
    (hb : ¬ (5 ≤ bits w 6 4 ∨ (bits w 6 4 = 3 ∧ bits w 15 8 = 0))) :
    nodeWrite i w m = nodeStore i { NMap.get nodeDflt m.tel.dia.nodes i with
      own := bits w 3 2, typ := bits w 6 4, k := bits w 15 8, parent := bits w 26 16, en := bit w 31 } m := by
  have hcheck : nodeCheck m i w = 0 := (if_neg hc).trans (if_neg hb)
  unfold nodeWrite
  rw [if_neg (by omega), if_neg (Nat.not_lt.mpr hi), hcheck, if_neg (by decide)]

end

end Diagnostics

open Diagnostics in
/-- Settles O54: it holds. A trigger finds the bank free, locked or taken on its edge; a write of the window is refused by
its first failing check or stores one entry. -/
theorem snapshotsAndTheNodeWindow : Obligations.SnapshotsAndTheNodeWindow := by
  intro s hw
  refine ⟨?takes, ?misses, fun hs => snapTrig_joins hw hs, snapRelease_unlocks hw, fun cmd => ?window⟩
  case takes =>
    intro hl hs
    obtain ⟨n, hn, hkeep, hregs, hdia⟩ := snapTrig_takes hw hl hs
    exact ⟨n, hn, hkeep, hregs, congrArg Dia.timSnap hdia, congrArg Dia.seq hdia, congrArg Dia.source hdia,
      congrArg Dia.locked hdia, (congrArg Dia.bank hdia).trans (bank_snapped s.m)⟩
  case misses =>
    intro hl hs
    obtain ⟨n, hn, hkeep, hregs, htel⟩ := snapTrig_misses hw hl hs
    exact ⟨n, hn, hkeep, hregs, htel⟩
  case window =>
    refine ⟨diaTblRead_returns hw, diaTbl_refuses_table hw, fun h0 h3 => diaTblWrite_refuses hw (diaTblWrite_other h0 h3 s.m) (by decide),
      fun ht h0 hb => diaTblWrite_refuses hw ((diaTblWrite_node ht s.m).trans (nodeWrite_builtin h0 hb _ _)) (by decide),
      fun ht hi hc => diaTblWrite_refuses hw ((diaTblWrite_node ht s.m).trans (nodeWrite_cycle hi hc)) (by decide),
      fun ht hi hc hb => diaTblWrite_refuses hw ((diaTblWrite_node ht s.m).trans (nodeWrite_badType hi hc hb)) (by decide),
      fun ht hi hc => ?root, fun ht hi hc hb => ?host⟩
    case root =>
      have hnode := diaTblWrite_node ht s.m
      rw [hi] at hc hnode
      obtain ⟨n, hn, hkeep, hregs, hstored⟩ := diaTblWrite_stores hw (hnode.trans (nodeWrite_root hc))
      rw [hi]
      exact ⟨n, hn, hkeep, hregs, hstored⟩
    case host =>
      obtain ⟨n, hn, hkeep, hregs, hstored⟩ :=
        diaTblWrite_stores hw ((diaTblWrite_node ht s.m).trans (nodeWrite_host hi hc hb))
      exact ⟨n, hn, hkeep, hregs, hstored⟩

end Machine
end Sys2Proof
end

section
/-! PROOFS. Straps, boot words and firmware writes (R529, R532, R535). -/

namespace Sys2Proof
namespace Machine
namespace Boot
open Leapfrog

theorem touches_putGlb {ps : List Part} {os : List Nat} (g : Glb) (m : Pnm) (h : .glb ∈ ps := by simp) :
    Touches ps os m (putGlb g m) := touches_glb m g h

/-! ## The validity of the slots in GLB_FW_STAT -/

theorem touches_fwValid {ps : List Part} {os : List Nat} (m : Pnm) (hp : .regs ∈ ps := by simp)
    (ho : Reg.GLB_FW_STAT ∈ os := by simp) : Touches ps os m (fwValid m) := by
  unfold fwValid
  exact (touches_wf m Reg.GLB_FW_STAT 4 4 _ hp ho).trans (touches_wf _ Reg.GLB_FW_STAT 5 5 _ hp ho)

section
variable {s : State}

/-! ## Straps (R529) -/

theorem strapPoll_flags (pairPos safetyIo timeSrc maint : Bool) (slotId : BitVec 4) (hg : s.glbLive)
    (hne : { s.m.glb.straps with
      pairPos := pairPos, slotId := slotId.toNat, safetyIo := safetyIo, timeSrc := timeSrc, maint := maint } ≠ s.m.glb.straps)
    (hs : s.m.glb.strapSeen = false) :
    Does (.strapPoll pairPos safetyIo timeSrc maint slotId) s [.regs, .glb, .tel] [Reg.GLB_FLAGS] fun n =>
      n.glb = { s.m.glb with strapSeen := true } ∧ rb n Reg.GLB_FLAGS 2 = true ∧
      Raised { src := 0, code := 0x22, cls := 2, items := [2] } s.m n := by
  have hpoll : strapPoll pairPos safetyIo timeSrc maint slotId.toNat s.m =
      raise { src := 0, code := 0x22, cls := 2, items := [2] }
        (sb (putGlb { s.m.glb with strapSeen := true } s.m) Reg.GLB_FLAGS 2) :=
    if_neg fun h => h.elim hne (ne_true_of_eq_false hs)
  have ht : Touches [.regs, .glb, .tel] [Reg.GLB_FLAGS] s.m (raise { src := 0, code := 0x22, cls := 2, items := [2] }
      (sb (putGlb { s.m.glb with strapSeen := true } s.m) Reg.GLB_FLAGS 2)) :=
    ((touches_putGlb _ s.m).trans (touches_sb _ Reg.GLB_FLAGS 2)).trans (touches_raise _ _)
  exact does_glb (strapPoll pairPos safetyIo timeSrc maint slotId.toNat) hg rfl hpoll ht.parts ht.regs
    ⟨rfl, rb_sb_same _ Reg.GLB_FLAGS 2 (by decide), sb (putGlb { s.m.glb with strapSeen := true } s.m) Reg.GLB_FLAGS 2, rfl, rfl⟩

/-! ## Confirmation (R532) -/

/-- A bit that is copied from a bit of another word. -/
theorem rb_wf_bits (m : Pnm) (o : Nat) (w : Word) (i j : Nat) (hi : i < 32 := by decide) :
    rb (wf m o i i (bits w j j)) o i = bit w j := by
  have hbit : (bits w j j).testBit 0 = bit w j := by
    simp [bits, bitsN, bit, BitVec.getLsbD, Nat.testBit_eq_decide_div_mod_eq]
  rw [rb, rd_wf, if_pos rfl, bit_setBits]
  simp [hi, hbit]

theorem bootConfirm_confirms (data : Word) (hg : s.glbLive) (h0 : bit data 0 = true) (hc : s.m.glb.confirmDue.isSome = true) :
    Does (.bootConfirm data) s [.regs, .glb] [Reg.GLB_BOOT, Reg.GLB_STAT] fun n =>
      n.glb = { s.m.glb with confirmDue := none } ∧ rb n Reg.GLB_BOOT 0 = rb s.m Reg.GLB_STAT 3 ∧
      rb n Reg.GLB_STAT 2 = false := by
  have hconf : bootConfirm data s.m = cb (putGlb { s.m.glb with confirmDue := none }
      (wf s.m Reg.GLB_BOOT 0 0 (rf s.m Reg.GLB_STAT 3 3))) Reg.GLB_STAT 2 := if_pos (by rw [h0, hc]; rfl)
  have ht : Touches [.regs, .glb] [Reg.GLB_BOOT, Reg.GLB_STAT] s.m (cb (putGlb { s.m.glb with confirmDue := none }
      (wf s.m Reg.GLB_BOOT 0 0 (rf s.m Reg.GLB_STAT 3 3))) Reg.GLB_STAT 2) :=
    ((touches_wf s.m Reg.GLB_BOOT 0 0 _).trans (touches_putGlb _ _)).trans (touches_cb _ Reg.GLB_STAT 2)
  exact does_glb (bootConfirm data) hg rfl hconf ht.parts ht.regs
    ⟨rfl, (rb_congr (rd_wr_ne _ _ _ (by decide)) 0).trans (rb_wf_bits s.m Reg.GLB_BOOT (rd s.m Reg.GLB_STAT) 0 3),
      rb_cb_same _ Reg.GLB_STAT 2 (by decide)⟩

theorem nothing_bootConfirm (data : Word) (h : bit data 0 = false ∨ s.m.glb.confirmDue = none) :
    DoesNothing (.bootConfirm data) s := by
  refine nothing_glb (bootConfirm data) rfl (if_neg ?_)
  rcases h with h | h <;> simp [h]

/-! ## Firmware writes (R535) -/

/-- A write of GLB_FW_CTRL stores the slot. -/
def fwChosen (data : Word) (m : Pnm) : Pnm := wf m Reg.GLB_FW_CTRL 4 4 (bits data 4 4)

theorem rd_fwChosen (data : Word) (m : Pnm) {o : Nat} (h : o ≠ Reg.GLB_FW_CTRL := by decide) : rd (fwChosen data m) o = rd m o :=
  rd_wr_ne _ _ _ h

/-- Which check refuses a firmware write: FIELD of the first that fails, 0 where none does. -/
theorem fwGo_checks (data : Word) (m : Pnm) (h0 : bit data 0 = true) : fwGo data m =
    if m.glb.phase ≠ .recovery ∧ bit data 4 = rb m Reg.GLB_STAT 3 then glbErr 4 (fwChosen data m)
    else if rb m Reg.GLB_STAT 2 then glbErr 5 (fwChosen data m)
    else if rf m Reg.KEY_MIG_STAT 1 0 ≠ 0 then glbErr 6 (fwChosen data m)
    else if m.glb.fwWrite.isSome then glbErr 7 (fwChosen data m)
    else if (rd m Reg.GLB_FW_LEN).toNat = 0 then glbErr 8 (fwChosen data m)
    else arbAdd 257 (rd m Reg.GLB_FW_LEN).toNat (fwValid (sb (putGlb { m.glb with
        fwWrite := some (bit data 4, rd64 (fwChosen data m) Reg.GLB_FW_ADDR_LO, (rd m Reg.GLB_FW_LEN).toNat),
        slots := setAt m.glb.slots (b2n (bit data 4)) none } (fwChosen data m)) Reg.GLB_FW_STAT 0)) := by
  have hstat := rd_fwChosen data m (o := Reg.GLB_STAT)
  have hmig := rd_fwChosen data m (o := Reg.KEY_MIG_STAT)
  have hlen := rd_fwChosen data m (o := Reg.GLB_FW_LEN)
  rw [← rb_congr hstat 3, ← rb_congr hstat 2, ← rf_congr hmig 1 0, ← hlen]
  exact if_neg (by simp [h0])

theorem fwGo_refuses {data : Word} {field : Nat} (hg : s.glbLive) (h : fwGo data s.m = glbErr field (fwChosen data s.m))
    (hlt : field < 256 := by decide) :
    Does (.fwGo data) s [.regs] [Reg.GLB_FW_CTRL, Reg.GLB_CFG_ERR, Reg.GLB_FLAGS] fun n =>
      rf n Reg.GLB_CFG_ERR 7 0 = field ∧ rb n Reg.GLB_FLAGS 0 = true := by
  have ht : Touches [.regs] [Reg.GLB_FW_CTRL, Reg.GLB_CFG_ERR, Reg.GLB_FLAGS] s.m (glbErr field (fwChosen data s.m)) :=
    ((touches_wf s.m Reg.GLB_FW_CTRL 4 4 _).trans (touches_wf _ Reg.GLB_CFG_ERR 7 0 field)).trans (touches_sb _ Reg.GLB_FLAGS 0)
  have hfield : rf (cfgErr (fwChosen data s.m) Reg.GLB_CFG_ERR field) Reg.GLB_CFG_ERR 7 0 = field :=
    (rf_wf_same _ Reg.GLB_CFG_ERR 7 0 field (by decide)).trans (Nat.mod_eq_of_lt hlt)
  exact does_glb (fwGo data) hg rfl h ht.parts ht.regs
    ⟨(rf_congr (rd_wr_ne _ _ _ (by decide)) 7 0).trans hfield, rb_sb_same _ Reg.GLB_FLAGS 0 (by decide)⟩

theorem fwGo_chooses (data : Word) (hg : s.glbLive) (h0 : bit data 0 = false) :
    Does (.fwGo data) s [.regs] [Reg.GLB_FW_CTRL] fun n => rb n Reg.GLB_FW_CTRL 4 = bit data 4 := by
  have ht : Touches [.regs] [Reg.GLB_FW_CTRL] s.m (fwChosen data s.m) := touches_wf s.m Reg.GLB_FW_CTRL 4 4 _
  exact does_glb (fwGo data) hg rfl (if_pos h0) ht.parts ht.regs (rb_wf_bits s.m Reg.GLB_FW_CTRL data 4 4)

/-- A write begins: the slot holds no bundle that verifies, and the bulk arbiter has its bytes to fetch. -/
def fwBegun (data : Word) (m : Pnm) : Pnm :=
  arbAdd 257 (rd m Reg.GLB_FW_LEN).toNat (fwValid (sb (putGlb { m.glb with
    fwWrite := some (bit data 4, rd64 (fwChosen data m) Reg.GLB_FW_ADDR_LO, (rd m Reg.GLB_FW_LEN).toNat),
    slots := setAt m.glb.slots (b2n (bit data 4)) none } (fwChosen data m)) Reg.GLB_FW_STAT 0))

theorem rb_fwValid (m : Pnm) {i : Nat} (h : i < 4) : rb (fwValid m) Reg.GLB_FW_STAT i = rb m Reg.GLB_FW_STAT i := by
  unfold fwValid
  exact (rb_wf_apart _ Reg.GLB_FW_STAT 5 5 _ i (by omega)).trans (rb_wf_apart _ Reg.GLB_FW_STAT 4 4 _ i (by omega))

theorem rf_fwValid (m : Pnm) : rf (fwValid m) Reg.GLB_FW_STAT 3 1 = rf m Reg.GLB_FW_STAT 3 1 := by
  unfold fwValid
  exact (rf_wf_apart _ Reg.GLB_FW_STAT 5 5 _ 3 1 (by decide)).trans (rf_wf_apart _ Reg.GLB_FW_STAT 4 4 _ 3 1 (by decide))

theorem pending_arbAdd (q k : Nat) (m : Pnm) : (getArb (arbAdd q k m) q).pending = (getArb m q).pending + k :=
  congrArg ArbReq.pending (NMap.get_set_same ArbReq.init m.hif.arb q _)

theorem fwGo_begins {data : Word} (hg : s.glbLive) (h : fwGo data s.m = fwBegun data s.m) :
    Does (.fwGo data) s [.regs, .glb, .hif] [Reg.GLB_FW_CTRL, Reg.GLB_FW_STAT] fun n =>
      (∃ a : Nat, n.glb.fwWrite = some (bit data 4, a, (rd s.m Reg.GLB_FW_LEN).toNat)) ∧ rb n Reg.GLB_FW_STAT 0 = true ∧
      n.glb.slots = setAt s.m.glb.slots (b2n (bit data 4)) none ∧
      (getArb n 257).pending = (getArb s.m 257).pending + (rd s.m Reg.GLB_FW_LEN).toNat := by
  have ht : Touches [.regs, .glb, .hif] [Reg.GLB_FW_CTRL, Reg.GLB_FW_STAT] s.m (fwBegun data s.m) :=
    ((((touches_wf s.m Reg.GLB_FW_CTRL 4 4 _).trans (touches_putGlb _ _)).trans (touches_sb _ Reg.GLB_FW_STAT 0)).trans
      (touches_fwValid _)).trans (Scans.touches_arbAdd _ _ _)
  exact does_glb (fwGo data) hg rfl h ht.parts ht.regs
    ⟨⟨_, rfl⟩, (rb_fwValid _ (by decide)).trans (rb_sb_same _ Reg.GLB_FW_STAT 0 (by decide)), rfl, pending_arbAdd 257 _ _⟩

/-! ## The end of a firmware write (R535) -/

theorem bundleResult_lt (l : List Byte) (len : Nat) (ok : Bool) : bundleResult l len ok < 8 := by
  unfold bundleResult
  extract_lets
  repeat' split
  all_goals decide

/-- What the slot holds after a write: the bundle where every check passed. -/
def written (bundle : List Byte) (r : Nat) : Option Bundle :=
  let img := fun (i : Nat) => (bundle.drop (leAt bundle (0x10 + 8 * i) 4)).take (leAt bundle (0x14 + 8 * i) 4)
  if r = 1 then some { version := leAt bundle 0xC 4, images := (List.range 3).map img, verifies := true } else none

theorem verifies_written (bundle : List Byte) (r : Nat) :
    (match written bundle r with | some x => x.verifies | none => false) = decide (r = 1) := by
  unfold written
  extract_lets img
  by_cases h : r = 1 <;> simp [h]

/-- A write ends with a result: the slot, the flags of GLB_FW_STAT and the event. -/
def fwEnded (slot : Bool) (b : Option Bundle) (r : Nat) (m : Pnm) : Pnm :=
  raise { src := 0, code := 0x27, cls := 2, items := [b2n slot, r] }
    (fwValid (wf (cb (putGlb { m.glb with fwWrite := none, slots := setAt m.glb.slots (b2n slot) b } m)
      Reg.GLB_FW_STAT 0) Reg.GLB_FW_STAT 3 1 r))

theorem fwWriteDone_eq {bundle : List Byte} {ok slot : Bool} {a len : Nat} {m : Pnm} (hf : m.glb.fwWrite = some (slot, a, len))
    (hp : (getArb m 257).pending = 0) (hfl : flying m 257 = 0) : fwWriteDone bundle ok m =
      fwEnded slot (written bundle (bundleResult bundle len ok)) (bundleResult bundle len ok) m := by
  simp only [fwWriteDone, hf]
  exact if_neg (by simp [hp, hfl])

theorem fwWriteDone_ends {bundle : List Byte} {ok slot : Bool} {a len : Nat} (hg : s.glbLive)
    (hf : s.m.glb.fwWrite = some (slot, a, len)) (hp : (getArb s.m 257).pending = 0) (hfl : flying s.m 257 = 0) :
    Does (.fwWriteDone bundle ok) s [.regs, .glb, .tel] [Reg.GLB_FW_STAT] fun n =>
      n.glb.fwWrite = none ∧ rb n Reg.GLB_FW_STAT 0 = false ∧ rf n Reg.GLB_FW_STAT 3 1 = bundleResult bundle len ok ∧
      ∃ b : Option Bundle, n.glb.slots = setAt s.m.glb.slots (b2n slot) b ∧
        (match b with | some x => x.verifies | none => false) = decide (bundleResult bundle len ok = 1) := by
  have hdone := fwWriteDone_eq (bundle := bundle) (ok := ok) hf hp hfl
  have hb := verifies_written bundle (bundleResult bundle len ok)
  have hlt := bundleResult_lt bundle len ok
  generalize bundleResult bundle len ok = r at hdone hb hlt ⊢
  generalize written bundle r = b at hdone hb
  have ht : Touches [.regs, .glb, .tel] [Reg.GLB_FW_STAT] s.m (fwEnded slot b r s.m) :=
    ((((touches_putGlb _ s.m).trans (touches_cb _ Reg.GLB_FW_STAT 0)).trans (touches_wf _ Reg.GLB_FW_STAT 3 1 r)).trans
      (touches_fwValid _)).trans (touches_raise _ _)
  refine does_glb (fwWriteDone bundle ok) hg rfl hdone ht.parts ht.regs ⟨rfl, ?busy, ?result, b, rfl, hb⟩
  case busy =>
    exact (rb_fwValid _ (by decide)).trans ((rb_wf_apart _ Reg.GLB_FW_STAT 3 1 r 0).trans
      (rb_cb_same _ Reg.GLB_FW_STAT 0 (by decide)))
  case result =>
    exact (rf_fwValid _).trans ((rf_wf_same _ Reg.GLB_FW_STAT 3 1 r (by decide)).trans (Nat.mod_eq_of_lt hlt))

theorem nothing_fwWriteDone (bundle : List Byte) (ok : Bool)
    (h : s.m.glb.fwWrite = none ∨ (getArb s.m 257).pending ≠ 0 ∨ flying s.m 257 ≠ 0) :
    DoesNothing (.fwWriteDone bundle ok) s := by
  refine nothing_glb (fwWriteDone bundle ok) rfl ?_
  unfold fwWriteDone
  split
  next => rfl
  next hf => exact if_pos (h.resolve_left (by rw [hf]; exact nofun))

end

end Boot

open Boot in
/-- Settles O59: it holds. Straps and confirmation change their word once; a firmware write is refused by its first failing
check, or takes its slot until the bundle is judged. -/
theorem bootWordsAndFirmware : Obligations.BootWordsAndFirmware := by
  intro s hg
  refine ⟨fun pairPos safetyIo timeSrc maint slotId => ⟨strapPoll_flags pairPos safetyIo timeSrc maint slotId hg, fun h => ?strapsSame⟩,
    fun data => ⟨bootConfirm_confirms data hg, nothing_bootConfirm data⟩,
    fun data => ⟨fwGo_chooses data hg, fun h0 => ?firmware⟩,
    fun slot a len bundle ok hf hp hfl => fwWriteDone_ends hg hf hp hfl, nothing_fwWriteDone⟩
  case strapsSame => exact nothing_glb (strapPoll pairPos safetyIo timeSrc maint slotId.toNat) rfl (if_pos h)
  case firmware =>
    have hgo := fwGo_checks data s.m h0
    refine ⟨fun hr => fwGo_refuses hg (hgo.trans (if_pos hr)), fun hr ht => ?_, fun hr ht hm => ?_, fun hr ht hm hw => ?_,
      fun hr ht hm hw hlen => ?_, fun hr ht hm hw hlen => ?_⟩
    all_goals rw [if_neg hr] at hgo
    · exact fwGo_refuses hg (hgo.trans (if_pos ht))
    all_goals rw [if_neg ht] at hgo
    · exact fwGo_refuses hg (hgo.trans (if_pos hm))
    all_goals rw [if_neg hm] at hgo
    · exact fwGo_refuses hg (hgo.trans (if_pos hw))
    all_goals rw [hw, if_neg (by simp)] at hgo
    · exact fwGo_refuses hg (hgo.trans (if_pos hlen))
    · exact fwGo_begins hg (hgo.trans (if_neg hlen))

end Machine
end Sys2Proof
end

section
/-! PROOFS. Self-tests run in slices, are judged, and end (R522, R523, R524). -/

namespace Sys2Proof
namespace Machine
namespace SelfTests
open Leapfrog Diagnostics

/-! ## What is left of the tests that wait -/

/-- The tests that wait and the place in the continuous cycle are the same. -/
structure SameQueue (d e : Dia) : Prop where
  queue : e.queue = d.queue
  cyclePos : e.cyclePos = d.cyclePos
  cycleSlices : e.cycleSlices = d.cycleSlices

theorem SameQueue.refl (d : Dia) : SameQueue d d := ⟨rfl, rfl, rfl⟩

theorem SameQueue.trans {d e f : Dia} (h : SameQueue d e) (h' : SameQueue e f) : SameQueue d f :=
  ⟨h'.queue.trans h.queue, h'.cyclePos.trans h.cyclePos, h'.cycleSlices.trans h.cycleSlices⟩

theorem sameQueue_of_work {d e : Dia} (h : SameWork d e) : SameQueue d e := ⟨h.queue, h.cyclePos, h.cycleSlices⟩

theorem sameQueue_eventT (m : Pnm) (c : Bool) (ev : Ev) (t : Tel) : SameQueue t.dia (eventT m c ev t).dia :=
  sameQueue_of_work (sameWork_eventT m c ev t)

theorem sameQueue_raise (ev : Ev) (m : Pnm) : SameQueue m.tel.dia (raise ev m).tel.dia := sameQueue_eventT m true ev m.tel

/-- A node takes another value, and the tree is recomputed from it. -/
theorem sameQueue_recomputed (m : Pnm) (fuel n : Nat) (t : Tel) (x : NMap Node) :
    SameQueue t.dia (recomputeT m fuel n { t with dia := { t.dia with nodes := x } }).dia :=
  have hset : SameQueue t.dia { t.dia with nodes := x } := ⟨rfl, rfl, rfl⟩
  hset.trans (sameQueue_of_work (sameWork_recomputeT m fuel n { t with dia := { t.dia with nodes := x } }))

theorem sameQueue_nodeCauseT (m : Pnm) (n reason st : Nat) (t : Tel) : SameQueue t.dia (nodeCauseT m n reason st t).dia :=
  sameQueue_recomputed m 2048 n t _

theorem sameQueue_nodeCause (n reason st : Nat) (m : Pnm) : SameQueue m.tel.dia (nodeCause n reason st m).tel.dia :=
  sameQueue_nodeCauseT m n reason st m.tel

theorem sameQueue_ladderEnter (step cause : Nat) (m : Pnm) : SameQueue m.tel.dia (ladderEnter step cause m).tel.dia :=
  (sameQueue_eventT m _ _ m.tel).trans (sameQueue_nodeCauseT m _ _ _ _)

theorem sameQueue_ladderLeave (step : Nat) (m : Pnm) : SameQueue m.tel.dia (ladderLeave step m).tel.dia :=
  (sameQueue_eventT m (getStep m step).on (stepEvent m step 0) m.tel).trans
    (List.foldlRecOn (getStep m step).marked _ (motive := fun t => SameQueue
      (eventT m (getStep m step).on (stepEvent m step 0) m.tel).dia t.dia) (.refl _)
      fun t ht _ _ => ht.trans (sameQueue_nodeCauseT m _ _ _ t))

theorem sameQueue_ladderClear (step cause : Nat) (m : Pnm) : SameQueue m.tel.dia (ladderClear step cause m).tel.dia := by
  unfold ladderClear
  dsimp only
  split
  · exact sameQueue_ladderLeave step m
  split
  · exact sameQueue_nodeCauseT m _ _ _ _
  · exact .refl _

/-! ## What the judgement of a core brings about (R205, R523) -/

/-- From `m` to `n` tasks and cores may have changed, but no core's mark of failure, and no test. -/
structure Unharmed (m n : Pnm) : Prop where
  parts : Keeps [.regs, .ladder, .tel, .cye] m n
  regs : KeepsRegs [Reg.CYE_FLAGS] m n
  queue : SameQueue m.tel.dia n.tel.dia
  failed : ∀ c, (getCore n c).failed = (getCore m c).failed

section
variable {m n k : Pnm}

theorem Unharmed.refl (m : Pnm) : Unharmed m m := ⟨.refl _ _, .refl _ _, .refl _, fun _ => rfl⟩

theorem Unharmed.trans (h : Unharmed m n) (h' : Unharmed n k) : Unharmed m k :=
  ⟨h.parts.trans h'.parts, h.regs.trans h'.regs, h.queue.trans h'.queue, fun c => (h'.failed c).trans (h.failed c)⟩

theorem Unharmed.ite {c : Prop} [Decidable c] (ht : Unharmed m n) (he : Unharmed m k) : Unharmed m (if c then n else k) := by
  split
  · exact ht
  · exact he

theorem Unharmed.of_cores (h : Faults m n) (hq : SameQueue m.tel.dia n.tel.dia) (hc : n.cye.cores = m.cye.cores) :
    Unharmed m n := ⟨h.parts, h.regs, hq, fun c => by rw [getCore, hc, getCore]⟩

theorem unharmed_raise (ev : Ev) (m : Pnm) : Unharmed m (raise ev m) := .of_cores (faults_raise ev m) (sameQueue_raise ev m) rfl

theorem unharmed_nodeCause (n reason st : Nat) (m : Pnm) : Unharmed m (nodeCause n reason st m) :=
  .of_cores (faults_nodeCause n reason st m) (sameQueue_nodeCause n reason st m) rfl

theorem unharmed_flag (i : Nat) (m : Pnm) : Unharmed m (sb m Reg.CYE_FLAGS i) :=
  ⟨keeps_wr (by simp) m _ _, keepsRegs_sb m i (by simp), .refl _, fun _ => rfl⟩

theorem getCore_putCore_of_lt {c : Nat} (x : Core) (h : c < m.cye.cores.length) : getCore (putCore c x m) c = x := by
  simp [getCore, putCore, setAt, List.getD_eq_getElem?_getD, h]

/-- A core whose mark stays as it was. -/
theorem failed_putCore {c : Nat} {x : Core} (h : x.failed = (getCore m c).failed) (d : Nat) :
    (getCore (putCore c x m) d).failed = (getCore m d).failed := by
  by_cases hd : c = d
  · subst hd
    by_cases hlt : c < m.cye.cores.length
    · rw [getCore_putCore_of_lt x hlt, h]
    · simp [getCore, putCore, setAt, List.getD_eq_getElem?_getD, hlt]
  · simp [getCore, putCore, setAt, List.getD_eq_getElem?_getD, hd]

theorem unharmed_noteCore (c : Nat) (m : Pnm) : Unharmed m (noteCore c m) where
  parts := (faults_noteCore c m).parts
  regs := (faults_noteCore c m).regs
  queue := .refl _
  failed := failed_putCore rfl

theorem unharmed_taskFault (t at' : Nat) (m : Pnm) : Unharmed m (taskFault t at' m) := by
  have hput : ∀ x : TaskSt, x.next = (getTask m t).next → Unharmed m (putTask t x m) := fun x h =>
    .of_cores (faults_putTask t x m h) (.refl _) rfl
  have hsigs : ∀ (k : Pnm) (x : NMap (Option TV)), Unharmed k { k with cye := { k.cye with sigs := x } } := fun k x =>
    .of_cores (faults_sigs k x) (.refl _) rfl
  have hclear : ∀ k : Pnm, Unharmed k (ladderClear 5 t k) := fun k =>
    ⟨keeps_ladderClear (by simp) (by simp) 5 t k, .of_regs (ladderClear_regs ..), sameQueue_ladderClear 5 t k,
      fun c => by rw [getCore, ladderClear_cye, getCore]⟩
  have hfirst := hput { getTask m t with
    state := 3, halve := false, run := none, returnRuns := 0,
    rel := (getTask m t).rel ++ [{ at' := at', safe := true, vals := [] }] } rfl
  unfold taskFault
  exact .ite (.refl m) ((((((hfirst.trans (unharmed_noteCore _ _)).trans (hsigs _ _)).trans (unharmed_flag 3 _)).trans
    (unharmed_raise _ _)).trans (unharmed_nodeCause ..)).trans (hclear _))

/-- The core is marked before its tasks fault. -/
def coreMarked (c : Nat) (m : Pnm) : Pnm := putCore c { getCore m c with failed := true } m

theorem unharmed_coreFail (c : Nat) (m : Pnm) : Unharmed (coreMarked c m) (coreFail c m) :=
  ((unharmed_flag 4 _).trans ((unharmed_raise _ _).trans (unharmed_nodeCause ..))).trans
    (List.foldlRecOn (motive := Unharmed _) _ _ (.refl _) fun _ hk _ _ => hk.trans (unharmed_taskFault ..))

end

/-! ## The judgement of a test (R523) -/

/-- From `m` to `n` cores, lanes, their nodes and the ladder may have changed, and no test. -/
structure Judged (m n : Pnm) : Prop where
  touched : Keeps [.regs, .ladder, .tel, .fpe, .cye] m n
  regs : KeepsRegs [Reg.CYE_FLAGS, Reg.FPE_FLAGS, Reg.FPE_STAT] m n
  queue : SameQueue m.tel.dia n.tel.dia

section
variable {m n k : Pnm}

theorem Judged.refl (m : Pnm) : Judged m m := ⟨.refl _ _, .refl _ _, .refl _⟩

theorem Judged.trans (h : Judged m n) (h' : Judged n k) : Judged m k :=
  ⟨h.touched.trans h'.touched, h.regs.trans h'.regs, h.queue.trans h'.queue⟩

theorem judged_of_unharmed (h : Unharmed m n) : Judged m n := ⟨h.parts.mono (by simp), h.regs.mono (by simp), h.queue⟩

theorem judged_putCore (c : Nat) (x : Core) (m : Pnm) : Judged m (putCore c x m) :=
  ⟨keeps_cye (by simp) m _, .of_regs rfl, .refl _⟩

theorem judged_lanes (m : Pnm) (x : Fpe) : Judged m { m with fpe := x } := ⟨keeps_fpe (by simp) m x, .of_regs rfl, .refl _⟩

theorem judged_stat (i v : Nat) (m : Pnm) : Judged m (wf m Reg.FPE_STAT i i v) :=
  ⟨keeps_wr (by simp) m _ _, keepsRegs_wf m _ _ _ (by simp), .refl _⟩

theorem judged_laneFlag (m : Pnm) : Judged m (sb m Reg.FPE_FLAGS 3) :=
  ⟨keeps_wr (by simp) m _ _, keepsRegs_sb m 3 (by simp), .refl _⟩

theorem judged_laneFail (l : Nat) (m : Pnm) : Judged m (laneFail m l) := by
  have hladder : ∀ k : Pnm, Judged k (ladderEnter 3 l k) := fun k =>
    ⟨keeps_ladderEnter (by simp) (by simp) 3 l k, .of_regs (ladderEnter_regs ..), sameQueue_ladderEnter 3 l k⟩
  unfold laneFail
  split
  · exact ((((judged_lanes m _).trans (judged_stat (4 + l) 0 _)).trans (judged_laneFlag _)).trans
      (judged_of_unharmed (unharmed_raise _ _))).trans ((hladder _).trans (judged_of_unharmed (unharmed_nodeCause ..)))
  · exact .refl m

theorem judged_laneReturn (l : Nat) (m : Pnm) : Judged m (laneReturn l m) := by
  have hladder : ∀ k : Pnm, Judged k (ladderClear 3 l k) := fun k =>
    ⟨keeps_ladderClear (by simp) (by simp) 3 l k, .of_regs (ladderClear_regs ..), sameQueue_ladderClear 3 l k⟩
  unfold laneReturn
  split
  · exact .refl m
  · exact (((judged_lanes m _).trans (judged_stat (4 + l) 1 _)).trans
      (judged_of_unharmed (unharmed_nodeCause ..))).trans (hladder _)

theorem lane_laneFail {l : Nat} {x : Bool} (h : m.fpe.lanes[l]? = some x) : (laneFail m l).fpe.lanes[l]? = some false := by
  have hget : m.fpe.lanes.getD l false = x := by rw [List.getD_eq_getElem?_getD, h]; rfl
  have hlt : l < m.fpe.lanes.length := (List.getElem?_eq_some_iff.mp h).1
  unfold laneFail
  rw [hget]
  cases x with
  | false => exact h
  | true =>
    have hset : (setAt m.fpe.lanes l false)[l]? = some false := by simp [setAt, hlt]
    exact hset

theorem lane_laneReturn {l : Nat} {x : Bool} (h : m.fpe.lanes[l]? = some x) : (laneReturn l m).fpe.lanes[l]? = some true := by
  have hget : m.fpe.lanes.getD l true = x := by rw [List.getD_eq_getElem?_getD, h]; rfl
  have hlt : l < m.fpe.lanes.length := (List.getElem?_eq_some_iff.mp h).1
  unfold laneReturn
  rw [hget]
  cases x with
  | true => exact h
  | false =>
    have hset : (setAt m.fpe.lanes l true)[l]? = some true := by simp [setAt, hlt]
    rw [if_neg (by decide), ladderClear_fpe]
    exact hset

/-- What the judgement of a core or lane brings about. -/
def effect (kind index : Nat) (pass : Bool) (m : Pnm) : Pnm :=
  if kind = 1 ∨ kind = 2 then
    let c := getCore m index
    if pass then (if c.failed then nodeCause (64 + index) (128 + 0x5B) 0 (putCore index { c with failed := false } m) else m)
    else if c.failed then m else coreFail index m
  else if kind = 3 then (if pass then laneReturn index m else laneFail m index)
  else m

theorem judged_effect (kind index : Nat) (pass : Bool) (m : Pnm) : Judged m (effect kind index pass m) := by
  have hreturn : Judged m (nodeCause (64 + index) (128 + 0x5B) 0 (putCore index { getCore m index with failed := false } m)) :=
    (judged_putCore index _ m).trans (judged_of_unharmed (unharmed_nodeCause ..))
  have hfail : Judged m (coreFail index m) := (judged_putCore index _ m).trans (judged_of_unharmed (unharmed_coreFail index m))
  unfold effect
  dsimp only
  repeat' split
  · exact hreturn
  · exact .refl m
  · exact .refl m
  · exact hfail
  · exact judged_laneReturn index m
  · exact judged_laneFail index m
  · exact .refl m

theorem failed_effect {kind index : Nat} (pass : Bool) {x : Core} (hk : kind = 1 ∨ kind = 2) (hx : m.cye.cores[index]? = some x) :
    (getCore (effect kind index pass m) index).failed = !pass := by
  have hlt : index < m.cye.cores.length := (List.getElem?_eq_some_iff.mp hx).1
  unfold effect
  rw [if_pos hk]
  dsimp only
  cases hf : (getCore m index).failed <;> cases pass
  · exact ((unharmed_coreFail index m).failed index).trans (congrArg Core.failed (getCore_putCore_of_lt _ hlt))
  · exact hf
  · exact hf
  · exact congrArg Core.failed (getCore_putCore_of_lt { getCore m index with failed := false } hlt)

theorem lane_effect {index : Nat} (pass : Bool) {x : Bool} (hx : m.fpe.lanes[index]? = some x) :
    (effect 3 index pass m).fpe.lanes[index]? = some pass := by
  cases pass with
  | true => exact lane_laneReturn hx
  | false => exact lane_laneFail hx

/-- The result table takes the outcome of a test. -/
def resulted (key : Nat) (sig : Word) (pass : Bool) (m : Pnm) : Pnm :=
  modDia (fun d => { d with results := NMap.upd StResult.init d.results key fun r =>
    { passes := (r.passes + b2n pass) % 2 ^ 32, fails := (r.fails + b2n (!pass)) % 2 ^ 32, last := sig } }) m

/-- The register of the outcome counts it, and a fail is flagged. -/
def counts (pass : Bool) (m : Pnm) : Pnm :=
  if pass then inc m Reg.DIA_ST_PASSES
  else modDia (fun d => { d with flags := setBit d.flags 2 true }) (inc m Reg.DIA_ST_FAILS)

/-- The counts of the next health report take the outcome. -/
def reported (pass : Bool) (m : Pnm) : Pnm :=
  modDia (fun d => { d with passStandby := d.passStandby + b2n pass, failStandby := d.failStandby + b2n (!pass) }) m

/-- The counters of a test, before what it brings about. -/
def scored (key : Nat) (sig : Word) (pass : Bool) (m : Pnm) : Pnm := reported pass (counts pass (resulted key sig pass m))

theorem testEffect_eq (kind index : Nat) (sig : Word) (pass : Bool) (m : Pnm) :
    testEffect kind index sig pass m = effect kind index pass (scored (16 * kind + index % 16) sig pass m) := rfl

theorem touches_scored (key : Nat) (sig : Word) (pass : Bool) (m : Pnm) :
    Touches [.regs, .tel] [Reg.DIA_ST_PASSES, Reg.DIA_ST_FAILS] m (scored key sig pass m) := by
  have hcounts : ∀ k, Touches [.regs, .tel] [Reg.DIA_ST_PASSES, Reg.DIA_ST_FAILS] k (counts pass k) := fun k =>
    .ite (touches_inc k Reg.DIA_ST_PASSES 1) ((touches_inc k Reg.DIA_ST_FAILS 1).trans (touches_modDia _ _))
  have hres : Touches [.regs, .tel] [Reg.DIA_ST_PASSES, Reg.DIA_ST_FAILS] m (resulted key sig pass m) := touches_modDia _ m
  have hrep : ∀ k, Touches [.regs, .tel] [Reg.DIA_ST_PASSES, Reg.DIA_ST_FAILS] k (reported pass k) := fun k => touches_modDia _ k
  exact (hres.trans (hcounts _)).trans (hrep _)

theorem queue_scored (key : Nat) (sig : Word) (pass : Bool) (m : Pnm) : SameQueue m.tel.dia (scored key sig pass m).tel.dia := by
  cases pass <;> exact ⟨rfl, rfl, rfl⟩

/-- A pass and a fail count up their own register. -/
def Counted (pass : Bool) (m n : Pnm) : Prop :=
  (pass = true → rd n Reg.DIA_ST_PASSES = rd m Reg.DIA_ST_PASSES + 1 ∧ rd n Reg.DIA_ST_FAILS = rd m Reg.DIA_ST_FAILS) ∧
  (pass = false → rd n Reg.DIA_ST_FAILS = rd m Reg.DIA_ST_FAILS + 1 ∧ rd n Reg.DIA_ST_PASSES = rd m Reg.DIA_ST_PASSES)

theorem counted_scored (key : Nat) (sig : Word) (pass : Bool) (m : Pnm) : Counted pass m (scored key sig pass m) := by
  cases pass with
  | true => exact ⟨fun _ => ⟨rd_wr_same _ _ _, rd_wr_ne _ _ _ (by decide)⟩, nofun⟩
  | false => exact ⟨nofun, fun _ => ⟨rd_wr_same _ _ _, rd_wr_ne _ _ _ (by decide)⟩⟩

theorem Counted.of_keeps {pass : Bool} {os : List Nat} (h : Counted pass m n) (hr : KeepsRegs os n k)
    (hp : Reg.DIA_ST_PASSES ∉ os := by decide) (hf : Reg.DIA_ST_FAILS ∉ os := by decide) : Counted pass m k := by
  unfold Counted at h ⊢
  rwa [hr _ hp, hr _ hf]

/-- The registers that a judged test may write. -/
def testRegs : List Nat := [Reg.DIA_ST_PASSES, Reg.DIA_ST_FAILS, Reg.CYE_FLAGS, Reg.FPE_FLAGS, Reg.FPE_STAT]

/-- What the end of a test of a core or lane leaves. -/
structure Ended (kind index : Nat) (pass : Bool) (m n : Pnm) : Prop where
  parts : Keeps [.regs, .ladder, .tel, .fpe, .cye] m n
  regs : KeepsRegs testRegs m n
  counted : Counted pass m n
  queue : SameQueue m.tel.dia n.tel.dia
  core : kind = 1 ∨ kind = 2 → ∀ x, m.cye.cores[index]? = some x → (getCore n index).failed = !pass
  lane : kind = 3 → ∀ x, m.fpe.lanes[index]? = some x → n.fpe.lanes[index]? = some pass

theorem ended_testEffect (kind index : Nat) (sig : Word) (pass : Bool) (m : Pnm) :
    Ended kind index pass m (testEffect kind index sig pass m) := by
  rw [testEffect_eq]
  generalize 16 * kind + index % 16 = key
  have hs := touches_scored key sig pass m
  have hq := queue_scored key sig pass m
  have hcount := counted_scored key sig pass m
  have hcye : (scored key sig pass m).cye = m.cye := hs.part .cye
  have hfpe : (scored key sig pass m).fpe = m.fpe := hs.part .fpe
  generalize scored key sig pass m = k at hs hq hcount hcye hfpe
  have hj := judged_effect kind index pass k
  exact {
    parts := (hs.parts.mono (by simp)).trans hj.touched
    regs := (hs.regs.mono (by simp [testRegs])).trans (hj.regs.mono (by simp [testRegs]))
    counted := hcount.of_keeps hj.regs
    queue := hq.trans hj.queue
    core := fun hk x hx => failed_effect pass hk (hcye ▸ hx)
    lane := fun hk x hx => hk ▸ lane_effect pass (hfpe ▸ hx) }

/-! ## The next test (R523) -/

/-- From `m` to `n` tests were reported or started: no register, no core and no lane changed, and no result. -/
structure Began (m n : Pnm) : Prop where
  touched : Touches [.tel, .hif, .par] [] m n
  results : n.tel.dia.results = m.tel.dia.results

theorem Began.trans (h : Began m n) (h' : Began n k) : Began m k :=
  ⟨h.touched.trans h'.touched, h'.results.trans h.results⟩

theorem began_testReport (t : SelfTest) (r0 result : Nat) (m : Pnm) : Began m (testReport t r0 result m) := by
  have hc := touches_complete (ps := [.tel, .hif, .par]) (os := []) t.ref (ansR 0 r0 result) m
  have htel : (complete t.ref (ansR 0 r0 result) m).tel = m.tel :=
    touches_complete (ps := [.hif, .par]) (os := []) t.ref (ansR 0 r0 result) m |>.part .tel
  refine ⟨hc.trans (touches_raise _ _), (sameWork_eventT _ true _ _).results.trans ?_⟩
  rw [htel]

theorem queue_testReport (t : SelfTest) (r0 result : Nat) (m : Pnm) :
    SameQueue m.tel.dia (testReport t r0 result m).tel.dia := by
  have htel : (complete t.ref (ansR 0 r0 result) m).tel = m.tel :=
    touches_complete (ps := [.hif, .par]) (os := []) t.ref (ansR 0 r0 result) m |>.part .tel
  have h := sameQueue_raise { src := 14, code := 0x04, cls := 2, items := [t.kind, t.index, result] }
    (complete t.ref (ansR 0 r0 result) m)
  rwa [htel] at h

theorem began_modQueue (q : List SelfTest) (m : Pnm) : Began m (modDia (fun d => { d with queue := q }) m) :=
  ⟨touches_modDia _ m, rfl⟩

theorem began_testBegin (fuel : Nat) (m : Pnm) : Began m (testBegin fuel m) := by
  induction fuel generalizing m with
  | zero => exact ⟨.refl _ _ _, rfl⟩
  | succ f ih =>
    unfold testBegin
    split
    · exact ⟨.refl _ _ _, rfl⟩
    · split
      · exact ⟨.refl _ _ _, rfl⟩
      split
      · exact ((began_modQueue _ m).trans (began_testReport ..)).trans (ih _)
      · extract_lets len
        exact (began_modQueue _ m).trans ⟨Scans.touches_arbAdd 266 len _, rfl⟩

theorem testBegin_of_empty (fuel : Nat) (h : m.tel.dia.queue = []) : testBegin fuel m = m := by
  cases fuel with
  | zero => rfl
  | succ f => simp only [testBegin, h]

end

section
variable {s : State} {t : SelfTest} {q : List SelfTest}

/-! ## Slices (R522, R524) -/

theorem selftestSlice_takes (hl : s.live) (hq : s.m.tel.dia.queue = t :: q)
    (h : t.started.isSome = true ∧ sliceMay s.m t.kind t.index = true ∧ t.slices < testSlices t.kind) :
    Does .selftestSlice s [.tel] [] fun n =>
      n.tel = { s.m.tel with dia := { s.m.tel.dia with queue := { t with slices := t.slices + 1 } :: q } } := by
  have hslice : testSlice s.m = modDia (fun d => { d with queue := { t with slices := t.slices + 1 } :: q }) s.m := by
    simp only [testSlice, hq]
    exact if_pos h
  have ht := touches_modDia (ps := [.tel]) (os := []) (fun d => { d with queue := { t with slices := t.slices + 1 } :: q }) s.m
  exact does_al testSlice hl rfl hslice ht.parts ht.regs rfl

theorem nothing_selftestSlice (hq : s.m.tel.dia.queue = t :: q)
    (h : ¬ (t.started.isSome = true ∧ sliceMay s.m t.kind t.index = true ∧ t.slices < testSlices t.kind)) :
    DoesNothing .selftestSlice s := by
  refine nothing_al testSlice rfl ?_
  simp only [testSlice, hq]
  exact if_neg h

theorem cycleSlice_takes (hl : s.live) (hq : s.m.tel.dia.queue = [])
    (h : cycleRuns s.m = true ∧
      sliceMay s.m (cycleTest s.m.tel.dia.cyclePos).1 (cycleTest s.m.tel.dia.cyclePos).2 = true ∧
      s.m.tel.dia.cycleSlices < testSlices (cycleTest s.m.tel.dia.cyclePos).1) :
    Does .selftestSlice s [.tel] [] fun n =>
      n.tel = { s.m.tel with dia := { s.m.tel.dia with cycleSlices := s.m.tel.dia.cycleSlices + 1 } } := by
  have hslice : testSlice s.m = modDia (fun d => { d with cycleSlices := d.cycleSlices + 1 }) s.m := by
    simp only [testSlice, hq]
    exact if_pos h
  have ht := touches_modDia (ps := [.tel]) (os := []) (fun d => { d with cycleSlices := d.cycleSlices + 1 }) s.m
  exact does_al testSlice hl rfl hslice ht.parts ht.regs rfl

theorem nothing_cycleSlice (hq : s.m.tel.dia.queue = [])
    (h : ¬ (cycleRuns s.m = true ∧
      sliceMay s.m (cycleTest s.m.tel.dia.cyclePos).1 (cycleTest s.m.tel.dia.cyclePos).2 = true ∧
      s.m.tel.dia.cycleSlices < testSlices (cycleTest s.m.tel.dia.cyclePos).1)) : DoesNothing .selftestSlice s := by
  refine nothing_al testSlice rfl ?_
  simp only [testSlice, hq]
  exact if_neg h

/-! ## The end of a test (R523) -/

/-- The verdict on a test: kinds 1 and 3 by their signature, the others by the lowest failing byte. -/
def passes (kind index : Nat) (sig : Word) (bad : Option (BitVec 32)) : Bool :=
  if kind = 1 ∨ kind = 3 then decide (sig = Config.expectedSig kind index) else bad.isNone

/-- The bytes once the segments of a test of kind 5 are left zero. -/
def zeroed (m : Pnm) (t : SelfTest) (r : Memory) : Memory :=
  if t.kind = 5 then
    (List.range' t.firstSeg t.segCount).foldl (fun a i => Memory.clear a (getSeg m i).addr (getSeg m i).bytes) r
  else r

theorem read_foldl_clear (m : Pnm) (l : List Nat) (r : Memory) (a : Nat) :
    Memory.read (l.foldl (fun a i => Memory.clear a (getSeg m i).addr (getSeg m i).bytes) r) a =
      if ∃ j ∈ l, (getSeg m j).addr ≤ a ∧ a < (getSeg m j).addr + (getSeg m j).bytes then 0 else Memory.read r a := by
  induction l generalizing r with
  | nil => simp
  | cons i l ih =>
    rw [List.foldl_cons, ih, Memory.read_clear]
    by_cases hl : ∃ j ∈ l, (getSeg m j).addr ≤ a ∧ a < (getSeg m j).addr + (getSeg m j).bytes
    · rw [if_pos hl, if_pos (hl.imp fun j hj => ⟨List.mem_cons_of_mem _ hj.1, hj.2⟩)]
    · rw [if_neg hl]
      by_cases hi : a < (getSeg m i).addr ∨ (getSeg m i).addr + (getSeg m i).bytes ≤ a
      · rw [if_pos hi, if_neg]
        rintro ⟨j, hj, hin⟩
        rcases List.mem_cons.mp hj with rfl | hj
        · omega
        · exact hl ⟨j, hj, hin⟩
      · rw [if_neg hi, if_pos ⟨i, List.mem_cons_self, by omega⟩]
        rfl

theorem inSegs_iff {m : Pnm} {i k a : Nat} : inSegs m i k a ↔
    ∃ j ∈ List.range' i k, (getSeg m j).addr ≤ a ∧ a < (getSeg m j).addr + (getSeg m j).bytes := by
  simp only [inSegs, List.mem_range'_1, and_assoc]

theorem read_zeroed_outside {m : Pnm} {r : Memory} {a : Nat} (h : ¬ (t.kind = 5 ∧ inSegs m t.firstSeg t.segCount a)) :
    Memory.read (zeroed m t r) a = Memory.read r a := by
  unfold zeroed
  split
  next hk => rw [read_foldl_clear, if_neg (fun hin => h ⟨hk, inSegs_iff.mpr hin⟩)]
  next => rfl

theorem read_zeroed_inside {m : Pnm} {r : Memory} {a : Nat} (hk : t.kind = 5) (h : inSegs m t.firstSeg t.segCount a) :
    Memory.read (zeroed m t r) a = 0 := by
  rw [zeroed, if_pos hk, read_foldl_clear, if_pos (inSegs_iff.mp h)]

/-- The test at work ends, before the next one begins. -/
def testEnds (t : SelfTest) (q : List SelfTest) (sig : Word) (bad : Option (BitVec 32)) (m : Pnm) : Pnm :=
  testReport t (if t.kind = 1 ∨ t.kind = 3 then sig.toNat else (bad.map (·.toNat)).getD 0)
    (if passes t.kind t.index sig bad then 1 else 2)
    (testEffect t.kind (if t.kind ≤ 3 then t.index else 0) (if t.kind = 1 ∨ t.kind = 3 then sig else 0)
      (passes t.kind t.index sig bad) (modDia (fun d => { d with queue := q }) m))

theorem exec_selftestDone (sig : Word) (bad : Option (BitVec 32)) (s : State) :
    exec (.selftestDone sig bad) s = runMem (whenAliveM (testDone sig (bad.map (·.toNat)))) s := rfl

theorem testDone_ends {m : Pnm} (r : Memory) (sig : Word) (bad : Option (BitVec 32)) (hq : m.tel.dia.queue = t :: q)
    (hs : t.started.isSome = true) (hn : testSlices t.kind ≤ t.slices) (hleft : t.left = 0) :
    testDone sig (bad.map (·.toNat)) (m, r) = (testBegin (q.length + 1) (testEnds t q sig bad m), zeroed m t r) := by
  have hno : ¬ (t.started.isNone = true ∨ t.slices < testSlices t.kind ∨ t.left ≠ 0) := by
    rintro (h | h | h)
    · cases ht : t.started <;> simp_all
    · omega
    · exact h hleft
  simp only [testDone, hq]
  rw [if_neg hno]
  simp only [testEnds, passes, zeroed, Option.isNone_map]
  rfl

theorem selftestDone_ends (hl : s.live) (hq : s.m.tel.dia.queue = t :: q) (sig : Word) (bad : Option (BitVec 32))
    (hs : t.started.isSome = true) (hn : testSlices t.kind ≤ t.slices) (hleft : t.left = 0) :
    DoesMem (.selftestDone sig bad) s [.regs, .ladder, .tel, .hif, .fpe, .cye, .par] testRegs
      (fun a => t.kind = 5 ∧ inSegs s.m t.firstSeg t.segCount a) fun n mem =>
      Counted (passes t.kind t.index sig bad) s.m n ∧
      (t.kind = 1 ∨ t.kind = 2 → ∀ x, s.m.cye.cores[t.index]? = some x →
        (getCore n t.index).failed = !(passes t.kind t.index sig bad)) ∧
      (t.kind = 3 → ∀ x, s.m.fpe.lanes[t.index]? = some x → n.fpe.lanes[t.index]? = some (passes t.kind t.index sig bad)) ∧
      (t.kind = 5 → ∀ a, inSegs s.m t.firstSeg t.segCount a → Memory.read mem a = 0) ∧
      (q = [] → n.tel.dia.queue = []) := by
  have hdone := testDone_ends s.mem sig bad hq hs hn hleft
  have hend := ended_testEffect t.kind (if t.kind ≤ 3 then t.index else 0) (if t.kind = 1 ∨ t.kind = 3 then sig else 0)
    (passes t.kind t.index sig bad) (modDia (fun d => { d with queue := q }) s.m)
  unfold testEnds at hdone
  generalize (if t.kind = 1 ∨ t.kind = 3 then sig.toNat else (bad.map (·.toNat)).getD 0) = r0 at hdone
  generalize passes t.kind t.index sig bad = pass at hdone hend ⊢
  generalize testEffect t.kind _ _ pass _ = k at hdone hend
  have hrep := began_testReport t r0 (if pass then 1 else 2) k
  have hrepq := queue_testReport t r0 (if pass then 1 else 2) k
  generalize testReport t r0 (if pass then 1 else 2) k = j at hdone hrep hrepq
  have hnext := hrep.trans (began_testBegin (q.length + 1) j)
  have hqueue : q = [] → (testBegin (q.length + 1) j).tel.dia.queue = [] := fun e => by
    have hj : j.tel.dia.queue = [] := hrepq.queue.trans (hend.queue.queue.trans e)
    rw [testBegin_of_empty _ hj, hj]
  generalize testBegin (q.length + 1) j = n at hdone hnext hqueue
  have hcye : n.cye = k.cye := hnext.touched.part .cye
  have hfpe : n.fpe = k.fpe := hnext.touched.part .fpe
  refine ⟨n, zeroed s.m t s.mem, exec_al hl (exec_selftestDone sig bad s) hdone, ?parts, ?regs, fun a ha => read_zeroed_outside ha,
    hend.counted.of_keeps hnext.touched.regs, ?core, ?lane, fun hk a ha => read_zeroed_inside hk ha, hqueue⟩
  case parts =>
    exact (((touches_modDia (ps := [.tel]) (os := []) _ s.m).parts.mono (by simp)).trans (hend.parts.mono (by simp))).trans
      (hnext.touched.parts.mono (by simp))
  case regs => exact (KeepsRegs.of_regs rfl).trans (hend.regs.trans (hnext.touched.regs.mono (List.nil_subset _)))
  case core =>
    intro hk x hx
    have hi : (if t.kind ≤ 3 then t.index else 0) = t.index := if_pos (by omega)
    rw [hi] at hend
    rw [getCore, hcye]
    exact hend.core hk x hx
  case lane =>
    intro hk x hx
    have hi : (if t.kind ≤ 3 then t.index else 0) = t.index := if_pos (by omega)
    rw [hi] at hend
    rw [hfpe]
    exact hend.lane hk x hx

theorem nothing_selftestDone (hq : s.m.tel.dia.queue = t :: q) (sig : Word) (bad : Option (BitVec 32))
    (h : t.started = none ∨ t.slices < testSlices t.kind ∨ t.left ≠ 0) : DoesNothing (.selftestDone sig bad) s := by
  refine nothing_alM (exec_selftestDone sig bad s) ?_
  have hnot : t.started.isNone = true ∨ t.slices < testSlices t.kind ∨ t.left ≠ 0 := h.imp_left fun e => by rw [e]; rfl
  simp only [testDone, hq]
  rw [if_pos hnot]

theorem cycleDone_ends (hl : s.live) (hq : s.m.tel.dia.queue = []) (sig : Word) (bad : Option (BitVec 32))
    (h : cycleRuns s.m = true ∧ s.m.tel.dia.cycleSlices = testSlices (cycleTest s.m.tel.dia.cyclePos).1) :
    Does (.selftestDone sig bad) s [.regs, .ladder, .tel, .fpe, .cye] testRegs fun n =>
      n.tel.dia.cyclePos = (s.m.tel.dia.cyclePos + 1) % 36 ∧ n.tel.dia.cycleSlices = 0 ∧ n.tel.dia.queue = [] := by
  have hdone : testDone sig (bad.map (·.toNat)) (s.m, s.mem) =
      (raise { src := 14, code := 0x04, cls := 2, items := [(cycleTest s.m.tel.dia.cyclePos).1,
        (cycleTest s.m.tel.dia.cyclePos).2,
        if passes (cycleTest s.m.tel.dia.cyclePos).1 (cycleTest s.m.tel.dia.cyclePos).2 sig bad then 1 else 2] }
        (testEffect (cycleTest s.m.tel.dia.cyclePos).1 (cycleTest s.m.tel.dia.cyclePos).2
          (if (cycleTest s.m.tel.dia.cyclePos).1 = 2 then 0 else sig)
          (passes (cycleTest s.m.tel.dia.cyclePos).1 (cycleTest s.m.tel.dia.cyclePos).2 sig bad)
          (modDia (fun d => { d with cyclePos := (d.cyclePos + 1) % 36, cycleSlices := 0 }) s.m)), s.mem) := by
    simp only [testDone, hq]
    rw [if_pos h]
    simp only [passes, Option.isNone_map]
    rfl
  generalize passes _ _ sig bad = pass at hdone
  generalize (cycleTest s.m.tel.dia.cyclePos).1 = kind at hdone
  generalize (cycleTest s.m.tel.dia.cyclePos).2 = index at hdone
  have hend := ended_testEffect kind index (if kind = 2 then 0 else sig) pass
    (modDia (fun d => { d with cyclePos := (d.cyclePos + 1) % 36, cycleSlices := 0 }) s.m)
  generalize testEffect kind index _ pass _ = k at hdone hend
  have hraise := sameQueue_raise { src := 14, code := 0x04, cls := 2, items := [kind, index, if pass then 1 else 2] } k
  have hkeeps := touches_raise (ps := [.tel]) (os := [])
    { src := 14, code := 0x04, cls := 2, items := [kind, index, if pass then 1 else 2] } k
  generalize raise _ k = n at hdone hraise hkeeps
  have hall := hend.queue.trans hraise
  exact ⟨n, exec_al hl (exec_selftestDone sig bad s) hdone,
    (((touches_modDia (ps := [.tel]) (os := []) _ s.m).parts.mono (by simp)).trans hend.parts).trans (hkeeps.parts.mono (by simp)),
    (KeepsRegs.of_regs rfl).trans (hend.regs.trans (hkeeps.regs.mono (List.nil_subset _))),
    hall.cyclePos, hall.cycleSlices, hall.queue.trans hq⟩

theorem nothing_cycleDone (hq : s.m.tel.dia.queue = []) (sig : Word) (bad : Option (BitVec 32))
    (h : ¬ (cycleRuns s.m = true ∧ s.m.tel.dia.cycleSlices = testSlices (cycleTest s.m.tel.dia.cyclePos).1)) :
    DoesNothing (.selftestDone sig bad) s := by
  refine nothing_alM (exec_selftestDone sig bad s) ?_
  simp only [testDone, hq]
  rw [if_neg h]

/-! ## Timeout (R522) -/

theorem selftestTimeout_ends (hl : s.live) (hq : s.m.tel.dia.queue = t :: q) {e : Nat} (hs : t.started = some e)
    (hlate : e + t.tmoS * edgesS ≤ s.m.tim.edge) :
    Does .selftestTimeout s [.tel, .hif, .par] [] fun n =>
      n.tel.dia.results = s.m.tel.dia.results ∧ (q = [] → n.tel.dia.queue = []) ∧
      (q = [] → t.left = 0 → ∃ k : Pnm, k.hif = s.m.hif ∧ n.hif = (complete t.ref (ansR 0 0 3) k).hif) := by
  have hout : stTimeout s.m = testBegin (q.length + 1) (testReport t 0 3
      (if t.left = 0 then modDia (fun d => { d with queue := q }) s.m
        else arbDrop 266 (modDia (fun d => { d with queue := q }) s.m))) := by
    simp only [stTimeout, hq, hs]
    exact if_pos hlate
  have hdrop : Began s.m (if t.left = 0 then modDia (fun d => { d with queue := q }) s.m
      else arbDrop 266 (modDia (fun d => { d with queue := q }) s.m)) := by
    split
    · exact began_modQueue q s.m
    · exact (began_modQueue q s.m).trans ⟨Scans.touches_arbDrop 266 _, rfl⟩
  have hdropq : (if t.left = 0 then modDia (fun d => { d with queue := q }) s.m
      else arbDrop 266 (modDia (fun d => { d with queue := q }) s.m)).tel.dia.queue = q := by split <;> rfl
  have hdroph : t.left = 0 → (if t.left = 0 then modDia (fun d => { d with queue := q }) s.m
      else arbDrop 266 (modDia (fun d => { d with queue := q }) s.m)).hif = s.m.hif := fun e => by rw [if_pos e]; rfl
  generalize (if t.left = 0 then modDia (fun d => { d with queue := q }) s.m
      else arbDrop 266 (modDia (fun d => { d with queue := q }) s.m)) = k at hout hdrop hdropq hdroph
  have hall := (hdrop.trans (began_testReport t 0 3 k)).trans (began_testBegin (q.length + 1) _)
  have hqueue : q = [] → (testReport t 0 3 k).tel.dia.queue = [] := fun e => (queue_testReport t 0 3 k).queue.trans (hdropq.trans e)
  refine does_al stTimeout hl rfl hout hall.touched.parts hall.touched.regs ⟨hall.results, fun e => ?_, fun e h0 => ?_⟩
  · rw [testBegin_of_empty _ (hqueue e), hqueue e]
  · rw [testBegin_of_empty _ (hqueue e)]
    exact ⟨k, hdroph h0, rfl⟩

theorem nothing_selftestTimeout (hq : s.m.tel.dia.queue = t :: q)
    (h : ¬ ∃ e, t.started = some e ∧ e + t.tmoS * edgesS ≤ s.m.tim.edge) : DoesNothing .selftestTimeout s := by
  refine nothing_al stTimeout rfl ?_
  simp only [stTimeout, hq]
  split
  next e hs => exact if_neg fun hle => h ⟨e, hs, hle⟩
  next => rfl

end

end SelfTests

open SelfTests in
/-- Settles O55: it holds. The test at work, or the continuous cycle where none waits, takes its slice, is judged by its
signature or its lowest failing byte, or runs out of time. -/
theorem selfTestsRunInSlices : Obligations.SelfTestsRunInSlices := by
  intro s hl
  refine ⟨fun t q hq => ⟨selftestSlice_takes hl hq, nothing_selftestSlice hq, fun sig bad hs hn hleft => ?done,
      fun sig bad h => nothing_selftestDone hq sig bad h, fun ⟨e, he, hlate⟩ => selftestTimeout_ends hl hq he hlate,
      nothing_selftestTimeout hq⟩,
    fun hq => ⟨nothing_al stTimeout rfl (by simp only [stTimeout, hq]), cycleSlice_takes hl hq, nothing_cycleSlice hq,
      fun sig bad => ⟨cycleDone_ends hl hq sig bad, nothing_cycleDone hq sig bad⟩⟩⟩
  case done =>
    obtain ⟨n, mem, hn', hparts, hregs, hbytes, hcount, hcore, hlane, hzero, hqueue⟩ :=
      selftestDone_ends hl hq sig bad hs hn hleft
    exact ⟨n, mem, hn', hparts, hregs, hbytes, hcount.1, hcount.2, hcore, hlane, fun hk _ => hzero hk, hqueue⟩

end Machine
end Sys2Proof
end

section
/-! PROOFS. Records are placed and triggered (R402, R410, R414, R416, R417, R420). -/

namespace Sys2Proof
namespace Machine
namespace Captures
open Leapfrog

theorem touches_putCap {ps : List Part} {os : List Nat} (k : Nat) (x : Cap) (m : Pnm) (h : .cap ∈ ps := by simp) :
    Touches ps os m (putCap k x m) := touches_cap m _ h

section
variable {s : State}

/-! ## Clearing of a segment ends (R402) -/

/-- The segment's grant applies, and its records are gone. -/
def granted (i f : Nat) (m : Pnm) : Pnm :=
  putSeg i { getSeg m i with clearing := none, grant := f, last := f }
    { m with cap := { m.cap with recs := m.cap.recs.filter fun r => decide (r.1 ≠ i) } }

theorem segCleared_of_clearing {i f : Nat} {m : Pnm} (r : Memory) (h : (getSeg m i).clearing = some f) :
    segCleared i (m, r) = (raise { src := 10, code := 0x74, cls := 3, items := [i, f] } (granted i f m),
      Memory.clear r (getSeg m i).addr (getSeg m i).bytes) := by
  simp only [segCleared, h, granted]

theorem inSegs_one {m : Pnm} {i a : Nat} : inSegs m i 1 a ↔ (getSeg m i).addr ≤ a ∧ a < (getSeg m i).addr + (getSeg m i).bytes := by
  constructor
  · rintro ⟨j, h1, h2, hin⟩
    obtain rfl : i = j := by omega
    exact hin
  · exact fun h => ⟨i, Nat.le_refl i, Nat.lt_succ_self i, h⟩

theorem segmentClearDone_clears (hl : s.live) (ix : BitVec 16) {f : Nat} (h : (getSeg s.m ix.toNat).clearing = some f) :
    DoesMem (.segmentClearDone ix) s [.tel, .cap] [] (inSegs s.m ix.toNat 1) fun n mem =>
      getSeg n ix.toNat = { getSeg s.m ix.toNat with clearing := none, grant := f, last := f } ∧
      (∀ j, j ≠ ix.toNat → getSeg n j = getSeg s.m j) ∧ (∀ a, inSegs s.m ix.toNat 1 a → Memory.read mem a = 0) ∧
      n.cap.recs = s.m.cap.recs.filter (fun r => decide (r.1 ≠ ix.toNat)) ∧
      Raised { src := 10, code := 0x74, cls := 3, items := [ix.toNat, f] } s.m n := by
  have ht : Touches [.tel, .cap] [] s.m (raise { src := 10, code := 0x74, cls := 3, items := [ix.toNat, f] }
      (granted ix.toNat f s.m)) := (touches_cap s.m _).trans (touches_raise _ _)
  refine doesMem_al hl rfl (segCleared_of_clearing s.mem h) ht (fun a ha => ?outside)
    ⟨NMap.get_set_same _ _ _ _, fun j hj => NMap.get_set_ne _ _ _ _ _ hj, fun a ha => ?inside, rfl, granted ix.toNat f s.m, rfl, rfl⟩
  case outside =>
    rw [inSegs_one] at ha
    rw [Memory.read_clear, if_pos (by omega)]
  case inside =>
    rw [inSegs_one] at ha
    rw [Memory.read_clear, if_neg (by omega)]
    rfl

theorem nothing_segmentClearDone (ix : BitVec 16) (h : (getSeg s.m ix.toNat).clearing = none) :
    DoesNothing (.segmentClearDone ix) s :=
  nothing_alM (f := segCleared ix.toNat) rfl (by simp only [segCleared, h])

/-! ## A record is placed (R410, R417, R420) -/

/-- The record that a placement begins. -/
def newRec (m : Pnm) (first num seq gap extra : Nat) : Rec :=
  { Rec.init with seq := seq, segFirst := first, span := num, gap := gap, extra := min 65535 extra, degr := degradeNow m }

/-- The capture with its new record, READY. -/
def placedCap (m : Pnm) (c : Cap) (r : Rec) : Cap :=
  { c with state := 1, cur := r, ready := nowNs m, extra := 0, gap := 0, held := none, lastTrig := none,
           auto := if c.mode = 2 then some (m.tim.mt + c.tmo * 1000000 * nsU) else none }

/-- Record q shares a segment with `num` segments from `first` on. -/
def overlaps (first num : Nat) (q : Nat × Nat) : Bool := decide (q.1 < first + num ∧ first < q.1 + q.2)

/-- The module with the record listed. -/
def placed (k first num : Nat) (c : Cap) (m : Pnm) : Pnm :=
  putCap k c { m with cap := { m.cap with recs := (m.cap.recs.filter fun r => !overlaps first num r) ++ [(first, num)] } }

/-- The bytes with the record's header, and the MAGIC of every record that it overlaps zero. -/
def placedBytes (k first num : Nat) (c : Cap) (m : Pnm) (r : Memory) : Memory :=
  writeSegs (segList (placed k first num c m) first num) 0 (recHeader k c false false)
    (dropRecs (overlaps first num) (m, r)).2

theorem capPlace_places {k start seq gap extra first num : Nat} {m : Pnm} (r : Memory)
    (h : capPick m (getCap m k) start = some (first, num)) :
    capPlace k start seq gap extra (m, r) =
      (placed k first num (placedCap m (getCap m k) (newRec m first num seq gap extra)) m,
       placedBytes k first num (placedCap m (getCap m k) (newRec m first num seq gap extra)) m r) := by
  unfold capPlace
  extract_lets m' c
  have hpick : capPick m' c start = some (first, num) := h
  rw [hpick]
  rfl

theorem capPlace_ends {k start seq gap extra : Nat} {m : Pnm} (r : Memory) (h : capPick m (getCap m k) start = none) :
    capPlace k start seq gap extra (m, r) = (capEnd k 2 m, r) := by
  unfold capPlace
  extract_lets m' c
  have hpick : capPick m' c start = none := h
  rw [hpick]
  rfl

theorem touches_placed (k first num : Nat) (c : Cap) (m : Pnm) : Touches [.tel, .cap] [] m (placed k first num c m) :=
  touches_cap m _

/-- MAGIC of the records that go is written, and no other byte. -/
theorem read_dropRecs {hit : Nat × Nat → Bool} {m : Pnm} {r : Memory} {a : Nat}
    (h : ∀ q ∈ m.cap.recs, hit q = true → ¬ ((getSeg m q.1).addr ≤ a ∧ a < (getSeg m q.1).addr + 4)) :
    Memory.read (dropRecs hit (m, r)).2 a = Memory.read r a := by
  refine List.foldlRecOn _ _ (motive := fun mem => Memory.read mem a = Memory.read r a) rfl fun mem hmem q hq => ?_
  obtain ⟨hin, hhit⟩ := List.mem_filter.mp hq
  have hout : ¬ ((getSeg (m, r).1 q.1).addr ≤ a ∧ a < (getSeg (m, r).1 q.1).addr + 4) := h q hin hhit
  rw [Memory.read_writeBytes_of_outside _ _ _ _ (by rw [leBytes_length]; omega), hmem]

theorem read_placedBytes {k first num : Nat} {c : Cap} {m : Pnm} {r : Memory} {a : Nat}
    (h : ¬ (inSegs m first num a ∨ ∃ q ∈ m.cap.recs, q.1 < first + num ∧ first < q.1 + q.2 ∧ (getSeg m q.1).addr ≤ a ∧
      a < (getSeg m q.1).addr + 4)) : Memory.read (placedBytes k first num c m r) a = Memory.read r a := by
  obtain ⟨hsegs, hrecs⟩ := not_or.mp h
  refine (read_writeSegs_of_outside _ _ _ fun p hp => ?inside).trans (read_dropRecs fun q hq hhit hmagic => ?magic)
  case inside =>
    obtain ⟨j, hj, rfl⟩ := List.mem_map.mp hp
    obtain ⟨h1, h2⟩ := List.mem_range'_1.mp hj
    exact Decidable.byContradiction fun hin => hsegs ⟨j, h1, h2, by
      have hseg : getSeg (placed k first num c m) j = getSeg m j := rfl
      rw [hseg] at hin
      omega⟩
  case magic =>
    obtain ⟨hlt, hgt⟩ := of_decide_eq_true hhit
    exact hrecs ⟨q, hq, hlt, hgt, hmagic⟩

theorem getCap_placed_same (k first num : Nat) (c : Cap) (m : Pnm) : getCap (placed k first num c m) k = c :=
  getCap_putCap_same k c _

theorem getCap_placed_ne {k j : Nat} (h : j ≠ k) (first num : Nat) (c : Cap) (m : Pnm) :
    getCap (placed k first num c m) j = getCap m j := getCap_putCap_ne h c _

/-! ## A trigger is taken (R414) -/

/-- The capture once a trigger is taken. -/
def takenCap (m : Pnm) (c : Cap) (ts mask : Nat) (held : Bool) : Cap :=
  { c with
    state := 2, auto := none, lastTrig := some ts
    cur := { c.cur with
      trig := some ts, mask := mask, tTrig := (trigInstant (capN c.streams) ts : Nat), clk := clkWord m,
      flags := if held then Nat.lor c.cur.flags 2 else c.cur.flags, degr := Nat.lor c.cur.degr (degradeNow m) } }

theorem takeTrigger_eq (k ts mask : Nat) (held : Bool) (m : Pnm) : takeTrigger k ts mask held m =
    raise { src := 10, code := 0x72, cls := 3, items := [k, mask % 65536, mask / 65536], fns := capFns (getCap m k) }
      (putCap k (takenCap m (getCap m k) ts mask held) m) := rfl

theorem touches_takeTrigger (k ts mask : Nat) (held : Bool) (m : Pnm) :
    Touches [.tel, .cap] [] m (takeTrigger k ts mask held m) := (touches_putCap k _ m).trans (touches_raise _ _)

theorem getCap_takeTrigger_same (k ts mask : Nat) (held : Bool) (m : Pnm) :
    getCap (takeTrigger k ts mask held m) k = takenCap m (getCap m k) ts mask held := getCap_putCap_same k _ m

theorem getCap_takeTrigger_ne {k j : Nat} (h : j ≠ k) (ts mask : Nat) (held : Bool) (m : Pnm) :
    getCap (takeTrigger k ts mask held m) j = getCap m j := getCap_putCap_ne h _ m

/-! ## A re-arm ends (R417) -/

/-- The current record of the capture is followed by the next one. -/
def rearmed (k : Nat) (x : PM) : PM :=
  capPlace k ((getCap x.1 k).cur.segFirst + (getCap x.1 k).cur.span) ((getCap x.1 k).cur.seq + 1) (getCap x.1 k).gap
    (getCap x.1 k).extra x

theorem rearmDone_eq {k : Nat} {x : PM} (h : (getCap x.1 k).state = 3) : rearmDone k x =
    match (getCap x.1 k).held with
    | some (ts, mask) =>
      if (getCap (rearmed k x).1 k).state = 1 then onM (takeTrigger k ts mask true) (rearmed k x) else rearmed k x
    | none => rearmed k x := if_pos h

theorem rearmDone_ends (hl : s.live) (k : BitVec 5) (h3 : (getCap s.m k.toNat).state = 3)
    (hn : capPick s.m (getCap s.m k.toNat) ((getCap s.m k.toNat).cur.segFirst + (getCap s.m k.toNat).cur.span) = none) :
    DoesMem (.rearmDone k) s [.tel, .cap] [] (fun _ => False) fun n _ =>
      (getCap n k.toNat).state = 0 ∧ (getCap n k.toNat).lastEnd = 2 ∧
      Raised { src := 10, code := 0x71, cls := 2, items := [k.toNat, 2], fns := capFns (getCap s.m k.toNat) } s.m n := by
  generalize hk : k.toNat = i at h3 hn ⊢
  have hplace : rearmed i (s.m, s.mem) = (capEnd i 2 s.m, s.mem) := capPlace_ends s.mem hn
  have hfree : (getCap (rearmed i (s.m, s.mem)).1 i).state = 0 := by rw [hplace]; exact getCap_capEnd_state i 2 s.m
  have hdone : rearmDone i (s.m, s.mem) = (capEnd i 2 s.m, s.mem) := by
    rw [rearmDone_eq h3]
    split
    next => rw [if_neg (by rw [hfree]; decide), hplace]
    next => exact hplace
  have ht : Touches [.tel, .cap] [] s.m (capEnd i 2 s.m) := (touches_putCap i _ s.m).trans (touches_raise _ _)
  exact doesMem_al hl (by rw [← hk] at hdone ⊢; rfl) hdone ht (fun _ _ => rfl)
    ⟨getCap_capEnd_state i 2 s.m, by rw [getCap_capEnd_same], putCap i _ s.m, rfl, rfl⟩

theorem rearmDone_places (hl : s.live) (k : BitVec 5) {first num : Nat} (h3 : (getCap s.m k.toNat).state = 3)
    (hn : capPick s.m (getCap s.m k.toNat) ((getCap s.m k.toNat).cur.segFirst + (getCap s.m k.toNat).cur.span) =
      some (first, num)) :
    DoesMem (.rearmDone k) s [.tel, .cap] []
      (fun a => inSegs s.m first num a ∨ ∃ q ∈ s.m.cap.recs, q.1 < first + num ∧ first < q.1 + q.2 ∧
        (getSeg s.m q.1).addr ≤ a ∧ a < (getSeg s.m q.1).addr + 4) fun n _ =>
      (getCap n k.toNat).cur.segFirst = first ∧ (getCap n k.toNat).cur.span = num ∧
      (getCap n k.toNat).cur.seq = (getCap s.m k.toNat).cur.seq + 1 ∧ (getCap n k.toNat).ready = nowNs s.m ∧
      ((getCap s.m k.toNat).held = none → (getCap n k.toNat).state = 1) ∧
      (∀ ts mask : Nat, (getCap s.m k.toNat).held = some (ts, mask) →
        (getCap n k.toNat).state = 2 ∧ (getCap n k.toNat).cur.trig = some ts ∧ (getCap n k.toNat).cur.mask = mask) ∧
      ∀ j, j ≠ k.toNat → getCap n j = getCap s.m j := by
  generalize hk : k.toNat = i at h3 hn ⊢
  have hplace : rearmed i (s.m, s.mem) = _ := capPlace_places s.mem hn
  have hdone := rearmDone_eq (x := (s.m, s.mem)) h3
  rw [hplace] at hdone
  generalize hc1 : placedCap s.m (getCap s.m i) _ = c1 at hdone
  have hstate : c1.state = 1 := hc1 ▸ rfl
  have hrec : c1.cur.segFirst = first ∧ c1.cur.span = num ∧ c1.cur.seq = (getCap s.m i).cur.seq + 1 ∧ c1.ready = nowNs s.m :=
    hc1 ▸ ⟨rfl, rfl, rfl, rfl⟩
  have hexec : exec (.rearmDone k) s = runMem (whenAliveM (rearmDone i)) s := hk ▸ rfl
  have htouch := touches_placed i first num c1 s.m
  have hget := getCap_placed_same i first num c1 s.m
  have hne : ∀ j, j ≠ i → getCap (placed i first num c1 s.m) j = getCap s.m j := fun j hj => getCap_placed_ne hj first num c1 s.m
  cases hheld : (getCap s.m i).held with
  | none =>
    simp only [hheld] at hdone
    refine doesMem_al hl hexec hdone htouch (fun a ha => read_placedBytes ha) ?_
    rw [hget]
    exact ⟨hrec.1, hrec.2.1, hrec.2.2.1, hrec.2.2.2, fun _ => hstate, nofun, hne⟩
  | some p =>
    obtain ⟨ts, mask⟩ := p
    simp only [hheld, hget, hstate, if_true, onM] at hdone
    have htake := touches_takeTrigger i ts mask true (placed i first num c1 s.m)
    have hcap := getCap_takeTrigger_same i ts mask true (placed i first num c1 s.m)
    rw [hget] at hcap
    refine doesMem_al hl hexec hdone (htouch.trans htake) (fun a ha => read_placedBytes ha) ?_
    rw [hcap]
    refine ⟨hrec.1, hrec.2.1, hrec.2.2.1, hrec.2.2.2, nofun, fun ts' mask' e => ?_, fun j hj => ?_⟩
    · cases e
      exact ⟨rfl, rfl, rfl⟩
    · exact (getCap_takeTrigger_ne hj ts mask true _).trans (hne j hj)

theorem nothing_rearmDone (k : BitVec 5) (h : (getCap s.m k.toNat).state ≠ 3) : DoesNothing (.rearmDone k) s :=
  nothing_alM (f := rearmDone k.toNat) rfl (if_neg h)

/-! ## The automatic trigger (R416) -/

theorem autoTriggerTimeout_takes (hl : s.live) (k : BitVec 5) {ts : Nat} (h1 : (getCap s.m k.toNat).state = 1)
    (ha : (getCap s.m k.toNat).auto = some ts) (hts : ts ≤ s.m.tim.mt) :
    Does (.autoTriggerTimeout k) s [.tel, .cap] [] fun n =>
      (getCap n k.toNat).state = 2 ∧ (getCap n k.toNat).cur.trig = some ts ∧ (getCap n k.toNat).cur.mask = 2 ^ 17 ∧
      (getCap n k.toNat).auto = none ∧ (∀ j, j ≠ k.toNat → getCap n j = getCap s.m j) ∧
      Raised { src := 10, code := 0x72, cls := 3, items := [k.toNat, 0, 2], fns := capFns (getCap s.m k.toNat) } s.m n := by
  have hauto : autoTrigger k.toNat s.m = takeTrigger k.toNat ts (2 ^ 17) false s.m := by
    simp only [autoTrigger, ha]
    rw [if_pos ⟨h1, hts⟩]
    exact congrArg Prod.fst (if_pos h1)
  have ht := touches_takeTrigger k.toNat ts (2 ^ 17) false s.m
  refine does_al (autoTrigger k.toNat) hl rfl hauto ht.parts ht.regs ?_
  rw [getCap_takeTrigger_same]
  exact ⟨rfl, rfl, rfl, rfl, fun j hj => getCap_takeTrigger_ne hj ts (2 ^ 17) false s.m,
    putCap k.toNat (takenCap s.m (getCap s.m k.toNat) ts (2 ^ 17) false) s.m, rfl,
    congrArg Pnm.tel (takeTrigger_eq k.toNat ts (2 ^ 17) false s.m)⟩

theorem nothing_autoTriggerTimeout (k : BitVec 5) (h : (getCap s.m k.toNat).auto = none ∨ (getCap s.m k.toNat).state ≠ 1) :
    DoesNothing (.autoTriggerTimeout k) s := by
  refine nothing_al (autoTrigger k.toNat) rfl ?_
  unfold autoTrigger
  extract_lets c
  split
  next t ht => exact if_neg fun hand => h.resolve_left (by rw [ht]; exact nofun) hand.1
  next => rfl

end

end Captures

open Captures in
/-- Settles O49: it holds. Each of the three commands of a capture writes the bytes of its own segments, and the MAGIC of
the records that a placement overlaps. -/
theorem recordsArePlacedAndTriggered : Obligations.RecordsArePlacedAndTriggered := fun _ hl =>
  ⟨fun ix _ h => segmentClearDone_clears hl ix h, nothing_segmentClearDone,
    fun k => ⟨rearmDone_ends hl k, fun _ _ h3 hn => rearmDone_places hl k h3 hn, nothing_rearmDone k,
      fun _ h1 ha hts => autoTriggerTimeout_takes hl k h1 ha hts, nothing_autoTriggerTimeout k⟩⟩

end Machine
end Sys2Proof
end

section
/-! PROOFS. Pairing, resync requests, paths, a failed peer, takeover and listening (R429, R433, R438, R439, R446, R451). -/

namespace Sys2Proof
namespace Machine
namespace Pairing
open Leapfrog

section
variable {m n : Pnm}

/-! ## A pair state is entered (R438) -/

/-- What entering a pair state reaches. -/
def pairParts : List Part := [.regs, .tel, .sio, .par]

theorem touches_peerNode {ps : List Part} {os : List Nat} (m : Pnm) (h : .tel ∈ ps := by simp) :
    Touches ps os m (peerNode m) := by
  unfold peerNode
  extract_lets
  exact .ite (.refl _ _ m) (touches_tel m _ h)

/-- The timers of the state that is entered, before it is shown. -/
def entering (st : Nat) (m : Pnm) : Pnm :=
  { m with
    par := { m.par with
      listenDue := if st = 1 then some (m.tim.edge + listenEdges m) else none,
      demotedDue := if st = 5 then some (m.tim.edge + edgesS) else none,
      retryDue := none, tx := none, rx := none, commits := [],
      lastTx := if st = 2 then some m.tim.edge else none,
      reportNext := if st = 3 then some (m.tim.edge + edgesS) else none,
      stored := if st = 3 then m.par.stored else [] },
    tel := { m.tel with dia := if st = 3 then { m.tel.dia with passStandby := 0, failStandby := 0 } else m.tel.dia } }

/-- Heartbeats are planned from an instant at which the module starts to send them. -/
def withBeats (sent : Bool) (m : Pnm) : Pnm := if !sent && pairSends m then beatsFrom m else m

theorem setPair_eq {st : Nat} (h : pairState m ≠ st) : setPair st m =
    peerNode (sioApply (pairEvent (withBeats (pairSends m) (showPair st (entering st m))))) := if_neg h

theorem touches_withBeats {ps : List Part} {os : List Nat} (sent : Bool) (m : Pnm) (h : .par ∈ ps := by simp) :
    Touches ps os m (withBeats sent m) := .ite (touches_par m _ h) (.refl _ _ m)

theorem touches_entering (st : Nat) (m : Pnm) : Touches [.tel, .par] [] m (entering st m) :=
  (touches_par m (entering st m).par).trans (touches_tel { m with par := (entering st m).par } (entering st m).tel)

/-- What follows the new state: its event, the outputs and the pair node. -/
theorem touches_shown (m : Pnm) : Touches driveParts [Reg.SIO_FLAGS] m (peerNode (sioApply (pairEvent m))) :=
  ((touches_raise _ m (by decide)).trans (touches_sioApply _)).trans (touches_peerNode _ (by decide))

/-- From the state being shown on, no register but SIO_FLAGS changes. -/
theorem touches_setPair_shown {st : Nat} (h : pairState m ≠ st) :
    Touches pairParts [Reg.SIO_FLAGS] (showPair st (entering st m)) (setPair st m) := by
  rw [setPair_eq h]
  exact (touches_withBeats _ _ (by decide)).trans ((touches_shown _).mono (by decide) (List.Subset.refl _))

theorem touches_setPair (st : Nat) (m : Pnm) : Touches pairParts [Reg.PAR_STAT, Reg.SIO_FLAGS] m (setPair st m) := by
  by_cases h : pairState m = st
  · rw [setPair, if_pos h]
    exact .refl _ _ m
  · have hshow : Touches pairParts [Reg.PAR_STAT, Reg.SIO_FLAGS] (entering st m) (showPair st (entering st m)) :=
      touches_wf _ Reg.PAR_STAT 2 0 st (by decide)
    exact (((touches_entering st m).mono (by decide) (List.nil_subset _)).trans hshow).trans
      ((touches_setPair_shown h).mono (List.Subset.refl _) (by decide))

theorem pairState_congr (h : rd n Reg.PAR_STAT = rd m Reg.PAR_STAT) : pairState n = pairState m := rf_congr h 2 0

theorem pairState_setPair {st : Nat} (hst : st < 8) (m : Pnm) : pairState (setPair st m) = st := by
  by_cases h : pairState m = st
  · rw [setPair, if_pos h, h]
  · exact (pairState_congr (touches_setPair_shown h).rd).trans
      ((rf_wf_same _ Reg.PAR_STAT 2 0 st (by decide)).trans (Nat.mod_eq_of_lt hst))

/-- The bits of PAR_STAT above STATE stay. -/
theorem rb_stat_setPair (st : Nat) (m : Pnm) {i : Nat} (hi : 2 < i) : rb (setPair st m) Reg.PAR_STAT i = rb m Reg.PAR_STAT i := by
  by_cases h : pairState m = st
  · rw [setPair, if_pos h]
  · exact (rb_congr (touches_setPair_shown h).rd i).trans (rb_wf_apart _ Reg.PAR_STAT 2 0 st i (Or.inl hi))

theorem listenDue_setPair (h : pairState m ≠ 1) : (setPair 1 m).par.listenDue = some (m.tim.edge + listenEdges m) := by
  have hshown : (peerNode (sioApply (pairEvent (withBeats (pairSends m) (showPair 1 (entering 1 m)))))).par =
      (withBeats (pairSends m) (showPair 1 (entering 1 m))).par := (touches_shown _).part .par (by decide)
  rw [setPair_eq h, hshown]
  unfold withBeats
  split <;> rfl

/-- Publications wait for the first output instant of the new role. -/
theorem touches_pubsFresh (m : Pnm) : Touches [.out] [] m (pubsFresh m) :=
  .foldl (fun _ _ k => .ite (touches_out k _) (.refl _ _ k)) m

/-! ## The configuration is enabled (R434, R439) -/

theorem does_parErr {c : Instr} {s : State} {f : Pnm → Pnm} {field : Nat} (hw : s.writable) (hc : exec c s = run (whenWr f) s)
    (hf : f s.m = parErr field s.m) (hlt : field < 256) :
    Does c s [.regs] [Reg.PAR_FLAGS, Reg.PAR_CFG_ERR] fun n =>
      rb n Reg.PAR_FLAGS 0 = true ∧ rf n Reg.PAR_CFG_ERR 7 0 = field := by
  have ht : Touches [.regs] [Reg.PAR_FLAGS, Reg.PAR_CFG_ERR] s.m (parErr field s.m) :=
    (touches_wf s.m Reg.PAR_CFG_ERR 7 0 field).trans (touches_sb _ Reg.PAR_FLAGS 0)
  exact does_wr f hw hc hf ht.parts ht.regs ⟨rb_sb_same _ Reg.PAR_FLAGS 0 (by decide),
    (rf_congr (rd_wr_ne _ _ _ (by decide)) 7 0).trans
      ((rf_wf_same _ Reg.PAR_CFG_ERR 7 0 field (by decide)).trans (Nat.mod_eq_of_lt hlt))⟩

theorem parCheck_lt (m : Pnm) : parCheck m < 256 := by
  unfold parCheck
  extract_lets
  repeat' split
  all_goals decide

end

section
variable {s : State} {data : Word}

/-- PAIR_EN is shown. -/
theorem pairState_enabled (m : Pnm) : pairState (sb m Reg.PAR_CTRL 0) = pairState m :=
  pairState_congr (rd_wr_ne _ _ _ (by decide))

theorem pairState_disabled (m : Pnm) : pairState (cb m Reg.PAR_CTRL 0) = pairState m :=
  pairState_congr (rd_wr_ne _ _ _ (by decide))

theorem listenEdges_enabled (m : Pnm) : listenEdges (sb m Reg.PAR_CTRL 0) = listenEdges m := by
  have hcfg : rd (sb m Reg.PAR_CTRL 0) Reg.PAR_CFG = rd m Reg.PAR_CFG := rd_wr_ne _ _ _ (by decide)
  have hstat : rd (sb m Reg.PAR_CTRL 0) Reg.PAR_STAT = rd m Reg.PAR_STAT := rd_wr_ne _ _ _ (by decide)
  rw [listenEdges, rf_congr hcfg, rb_congr hstat, listenEdges]

/-- A write of PAIR_EN that sets it: the check, and then the state. -/
theorem pairEnWrite_on {m : Pnm} (hb : bit data 0 = true) (hon : rb m Reg.PAR_CTRL 0 = false) :
    pairEnWrite data m = if parCheck m ≠ 0 then parErr (parCheck m) m
      else if pairState m = 0 then setPair 1 (sb m Reg.PAR_CTRL 0) else sb m Reg.PAR_CTRL 0 := by
  unfold pairEnWrite
  extract_lets on
  have h1 : on = true := hb
  rw [h1, hon, if_neg (by decide), if_pos rfl]

/-- The peer was heard within the last second. -/
def heard (m : Pnm) : Prop := ∃ e, m.par.lastHb = some e ∧ m.tim.edge < e + edgesS

open Classical in
/-- A write of PAIR_EN that clears it. -/
theorem pairEnWrite_off {m : Pnm} (hb : bit data 0 = false) (hon : rb m Reg.PAR_CTRL 0 = true) :
    pairEnWrite data m = if heard m then parErr 9 m
      else if pairState m = 6 then cb m Reg.PAR_CTRL 0 else pubsFresh (setPair 0 (cb m Reg.PAR_CTRL 0)) := by
  have hiff : (match m.par.lastHb with | some e => decide (m.tim.edge < e + edgesS) | none => false) = true ↔ heard m := by
    unfold heard
    cases h : m.par.lastHb with
    | none => simp
    | some e => simp
  unfold pairEnWrite
  extract_lets on heard'
  have h0 : on = false := hb
  rw [h0, hon, if_neg (by decide), if_neg (by decide)]
  exact ite_congr (propext hiff) (fun _ => rfl) fun _ => rfl

theorem pairEnWrite_listens (hw : s.writable) (hb : bit data 0 = true) (hon : rb s.m Reg.PAR_CTRL 0 = false)
    (hc : parCheck s.m = 0) (h0 : pairState s.m = 0) :
    Does (.pairEnWrite data) s [.regs, .tel, .sio, .par] [Reg.PAR_CTRL, Reg.PAR_STAT, Reg.SIO_FLAGS] fun n =>
      rb n Reg.PAR_CTRL 0 = true ∧ pairState n = 1 ∧ n.par.listenDue = some (s.m.tim.edge + listenEdges s.m) := by
  have hset := touches_setPair 1 (sb s.m Reg.PAR_CTRL 0)
  have ht : Touches [.regs, .tel, .sio, .par] [Reg.PAR_CTRL, Reg.PAR_STAT, Reg.SIO_FLAGS] s.m
      (setPair 1 (sb s.m Reg.PAR_CTRL 0)) :=
    (touches_sb s.m Reg.PAR_CTRL 0).trans (hset.mono (List.Subset.refl _) (List.subset_cons_self _ _))
  have hlisten := listenDue_setPair (m := sb s.m Reg.PAR_CTRL 0) (by rw [pairState_enabled, h0]; decide)
  rw [listenEdges_enabled] at hlisten
  exact does_wr (pairEnWrite data) hw rfl
    ((pairEnWrite_on hb hon).trans ((if_neg (not_not.mpr hc)).trans (if_pos h0))) ht.parts ht.regs
    ⟨(rb_congr hset.rd 0).trans (rb_sb_same s.m Reg.PAR_CTRL 0 (by decide)), pairState_setPair (by decide) _, hlisten⟩

theorem pairEnWrite_enables (hw : s.writable) (hb : bit data 0 = true) (hon : rb s.m Reg.PAR_CTRL 0 = false)
    (hc : parCheck s.m = 0) (h0 : pairState s.m ≠ 0) :
    Does (.pairEnWrite data) s [.regs] [Reg.PAR_CTRL] fun n => rb n Reg.PAR_CTRL 0 = true := by
  have ht : Touches [.regs] [Reg.PAR_CTRL] s.m (sb s.m Reg.PAR_CTRL 0) := touches_sb s.m Reg.PAR_CTRL 0
  exact does_wr (pairEnWrite data) hw rfl
    ((pairEnWrite_on hb hon).trans ((if_neg (not_not.mpr hc)).trans (if_neg h0))) ht.parts ht.regs
    (rb_sb_same s.m Reg.PAR_CTRL 0 (by decide))

theorem pairEnWrite_ends (hw : s.writable) (hb : bit data 0 = false) (hon : rb s.m Reg.PAR_CTRL 0 = true)
    (hh : ¬ heard s.m) (h6 : pairState s.m ≠ 6) :
    Does (.pairEnWrite data) s [.regs, .tel, .out, .sio, .par] [Reg.PAR_CTRL, Reg.PAR_STAT, Reg.SIO_FLAGS] fun n =>
      rb n Reg.PAR_CTRL 0 = false ∧ pairState n = 0 := by
  have hset := touches_setPair 0 (cb s.m Reg.PAR_CTRL 0)
  have hfresh := touches_pubsFresh (setPair 0 (cb s.m Reg.PAR_CTRL 0))
  have ht : Touches [.regs, .tel, .out, .sio, .par] [Reg.PAR_CTRL, Reg.PAR_STAT, Reg.SIO_FLAGS] s.m
      (pubsFresh (setPair 0 (cb s.m Reg.PAR_CTRL 0))) :=
    ((touches_cb s.m Reg.PAR_CTRL 0).trans (hset.mono (by decide) (List.subset_cons_self _ _))).trans
      (hfresh.mono (by decide) (List.nil_subset _))
  exact does_wr (pairEnWrite data) hw rfl ((pairEnWrite_off hb hon).trans ((if_neg hh).trans (if_neg h6))) ht.parts ht.regs
    ⟨(rb_congr (hfresh.rd.trans hset.rd) 0).trans (rb_cb_same s.m Reg.PAR_CTRL 0 (by decide)),
      (pairState_congr hfresh.rd).trans (pairState_setPair (by decide) _)⟩

theorem pairEnWrite_disables (hw : s.writable) (hb : bit data 0 = false) (hon : rb s.m Reg.PAR_CTRL 0 = true)
    (hh : ¬ heard s.m) (h6 : pairState s.m = 6) :
    Does (.pairEnWrite data) s [.regs] [Reg.PAR_CTRL] fun n => rb n Reg.PAR_CTRL 0 = false := by
  have ht : Touches [.regs] [Reg.PAR_CTRL] s.m (cb s.m Reg.PAR_CTRL 0) := touches_cb s.m Reg.PAR_CTRL 0
  exact does_wr (pairEnWrite data) hw rfl ((pairEnWrite_off hb hon).trans ((if_neg hh).trans (if_pos h6))) ht.parts ht.regs
    (rb_cb_same s.m Reg.PAR_CTRL 0 (by decide))

end

/-! ## Resync is requested (R451) -/

/-- What a resync waits for is the same. -/
structure SameSync (m n : Pnm) : Prop where
  rx : n.par.rx = m.par.rx
  retryDue : n.par.retryDue = m.par.retryDue
  stored : n.par.stored = m.par.stored

section
variable {m n k : Pnm}

theorem SameSync.refl (m : Pnm) : SameSync m m := ⟨rfl, rfl, rfl⟩

theorem SameSync.trans (h : SameSync m n) (h' : SameSync n k) : SameSync m k :=
  ⟨h'.rx.trans h.rx, h'.retryDue.trans h.retryDue, h'.stored.trans h.stored⟩

theorem enqueue_par (p : Nat) (f : TxFrame) (m : Pnm) : (enqueue p f m).par = m.par := by
  unfold enqueue
  split <;> rfl

theorem originate_par (p : Nat) (f : TxFrame) (m : Pnm) : (originate p f m).par = m.par := by
  unfold originate
  dsimp only
  repeat' split
  all_goals simp only [enqueue_par]

theorem sameSync_pairFrame (path : Bool) (port typ frag : Nat) (more : Bool) (body : List Byte) (m : Pnm) :
    SameSync m (pairFrame path port typ frag more body m) := by
  have hpar : ∀ {p f x}, x.par.rx = m.par.rx → x.par.retryDue = m.par.retryDue → x.par.stored = m.par.stored →
      SameSync m (originate p f x) := fun {p f x} h1 h2 h3 => by
    have h := originate_par p f x
    exact ⟨(congrArg Par.rx h).trans h1, (congrArg Par.retryDue h).trans h2, (congrArg Par.stored h).trans h3⟩
  unfold pairFrame
  dsimp only
  split
  · exact .refl m
  · cases path <;> exact hpar rfl rfl rfl

theorem sameSync_pairPart (path : Bool) (typ frag : Nat) (more : Bool) (body : List Byte) (m : Pnm) :
    SameSync m (pairPart path typ frag more body m) :=
  List.foldlRecOn (pathPorts m path) _ (motive := SameSync m) (.refl m) fun _ hx _ _ => hx.trans (sameSync_pairFrame ..)

theorem sameSync_pairParts (path : Bool) (typ fuel frag : Nat) (body : List Byte) (m : Pnm) :
    SameSync m (Machine.pairParts path typ fuel frag body m) := by
  induction fuel generalizing frag body m with
  | zero => exact .refl m
  | succ fuel ih =>
    unfold Machine.pairParts
    split
    · exact sameSync_pairPart ..
    · exact (sameSync_pairPart ..).trans (ih ..)

/-- A request that is sent awaits the snapshot; one that is not is due in a second. -/
theorem requestResync_sends (h : mayRequest m = true) :
    Touches sendParts dropCnts m (requestResync m) ∧ (requestResync m).par.rx.isSome = true ∧
    (requestResync m).par.retryDue = none ∧ (requestResync m).par.stored = [] := by
  have hreq : ∃ (body : List Byte) (rx : ResyncRx), requestResync m = pairSend false 9 body
      { m with par := { m.par with rx := some rx, retryDue := none, stored := [], storedSeq := [] } } := ⟨_, _, if_pos h⟩
  obtain ⟨body, rx, hreq⟩ := hreq
  have hsync := sameSync_pairParts false 9 (body.length / 1936 + 1) 0 body
    { m with par := { m.par with rx := some rx, retryDue := none, stored := [], storedSeq := [] } }
  have ht : Touches sendParts dropCnts m (pairSend false 9 body
      { m with par := { m.par with rx := some rx, retryDue := none, stored := [], storedSeq := [] } }) :=
    (touches_par m _ (by decide)).trans (touches_pairSend false 9 body _)
  rw [hreq]
  exact ⟨ht, by rw [pairSend, hsync.rx]; rfl, by rw [pairSend, hsync.retryDue], by rw [pairSend, hsync.stored]⟩

theorem requestResync_waits (h : mayRequest m = false) : requestResync m =
    { m with par := { m.par with retryDue := some (m.tim.edge + edgesS) } } := if_neg (ne_true_of_eq_false h)

end

section
variable {s : State}

theorem parResync_syncs (hw : s.writable) (h5 : pairState s.m = 5) :
    Does .parResync s [.regs, .tel, .mac, .sio, .par] ([Reg.PAR_STAT, Reg.SIO_FLAGS] ++ dropCnts) fun n =>
      pairState n = 4 ∧ (n.par.rx.isSome = true ∨ n.par.retryDue = some (s.m.tim.edge + edgesS)) := by
  have hset := touches_setPair 4 s.m
  have hstate := pairState_setPair (st := 4) (by decide) s.m
  have hedge : (setPair 4 s.m).tim = s.m.tim := hset.part .tim (by decide)
  have hsync : parResync s.m = requestResync (setPair 4 s.m) := if_pos h5
  generalize setPair 4 s.m = k at hset hstate hedge hsync
  have hk : Touches [.regs, .tel, .mac, .sio, .par] ([Reg.PAR_STAT, Reg.SIO_FLAGS] ++ dropCnts) s.m k :=
    hset.mono (by decide) (List.subset_append_left _ _)
  cases hmay : mayRequest k with
  | false =>
    have ht := hk.trans (touches_par k { k.par with retryDue := some (k.tim.edge + edgesS) })
    exact does_wr parResync hw rfl (hsync.trans (requestResync_waits hmay)) ht.parts ht.regs ⟨hstate, Or.inr (by rw [hedge])⟩
  | true =>
    obtain ⟨hreq, hrx, -, -⟩ := requestResync_sends hmay
    have ht := hk.trans (hreq.mono (by decide) (List.subset_append_right _ _))
    exact does_wr parResync hw rfl hsync ht.parts ht.regs ⟨(pairState_congr (hreq.regs _ (by decide))).trans hstate, Or.inl hrx⟩

theorem resyncRetry_waits (hl : s.live) (h4 : pairState s.m = 4) (hd : due s.m.par.retryDue s.m.tim.edge = true)
    (hm : mayRequest s.m = false) :
    Does .resyncRetry s [.par] [] fun n => n.par = { s.m.par with retryDue := some (s.m.tim.edge + edgesS) } := by
  have ht := touches_par (ps := [.par]) (os := []) s.m { s.m.par with retryDue := some (s.m.tim.edge + edgesS) }
  exact does_al resyncRetry hl rfl ((if_pos ⟨h4, hd⟩).trans (requestResync_waits hm)) ht.parts ht.regs rfl

theorem resyncRetry_asks (hl : s.live) (h4 : pairState s.m = 4) (hd : due s.m.par.retryDue s.m.tim.edge = true)
    (hm : mayRequest s.m = true) :
    Does .resyncRetry s [.regs, .tel, .mac, .par] dropCnts fun n =>
      n.par.rx.isSome = true ∧ n.par.retryDue = none ∧ n.par.stored = [] := by
  obtain ⟨ht, hrest⟩ := requestResync_sends hm
  exact does_al resyncRetry hl rfl (if_pos ⟨h4, hd⟩) ht.parts ht.regs hrest

theorem nothing_resyncRetry (h : pairState s.m ≠ 4 ∨ due s.m.par.retryDue s.m.tim.edge = false) : DoesNothing .resyncRetry s :=
  nothing_al resyncRetry rfl (if_neg fun hand => h.elim (fun h4 => h4 hand.1) fun hd => ne_true_of_eq_false hd hand.2)

end

/-! ## A path goes down (R433) -/

section
variable {m : Pnm}

/-- The timer of a path is spent. -/
def untimed (path : Bool) (m : Pnm) : Pnm :=
  { m with par := if path then { m.par with duePb := none } else { m.par with dueBl := none } }

/-- The timer of a path. -/
def pathDue (path : Bool) (m : Pnm) : Option Nat := if path then m.par.duePb else m.par.dueBl

theorem pathTimeout_of_due {path : Bool} (h : due (pathDue path m) m.tim.edge = true) :
    pathTimeout path m = pathSet path false (untimed path m) := if_pos h

theorem touches_pathSet (path up : Bool) (m : Pnm) : Touches [.regs, .tel] [Reg.PAR_STAT] m (pathSet path up m) := by
  unfold pathSet
  exact .ite (.refl _ _ m) (((touches_wf m Reg.PAR_STAT _ _ _).trans (touches_wf _ Reg.PAR_STAT 8 8 _)).trans (touches_raise _ _))

theorem pathUp_pathSet (path : Bool) (m : Pnm) : pathUp (pathSet path false m) path = false ∧
    pathUp (pathSet path false m) (!path) = pathUp m (!path) ∧ pairState (pathSet path false m) = pairState m ∧
    rb (pathSet path false m) Reg.PAR_STAT 9 = rb m Reg.PAR_STAT 9 := by
  unfold pathSet
  split
  next h => exact ⟨h, rfl, rfl, rfl⟩
  next =>
    cases path
    · exact ⟨(rb_wf_apart _ Reg.PAR_STAT 8 8 _ 10).trans (rb_wf_bit m Reg.PAR_STAT 10 false),
        (rb_wf_apart _ Reg.PAR_STAT 8 8 _ 11).trans (rb_wf_apart m Reg.PAR_STAT 10 10 _ 11),
        (rf_wf_apart _ Reg.PAR_STAT 8 8 _ 2 0 (by decide)).trans (rf_wf_apart m Reg.PAR_STAT 10 10 _ 2 0 (by decide)),
        (rb_wf_apart _ Reg.PAR_STAT 8 8 _ 9).trans (rb_wf_apart m Reg.PAR_STAT 10 10 _ 9)⟩
    · exact ⟨(rb_wf_apart _ Reg.PAR_STAT 8 8 _ 11).trans (rb_wf_bit m Reg.PAR_STAT 11 false),
        (rb_wf_apart _ Reg.PAR_STAT 8 8 _ 10).trans (rb_wf_apart m Reg.PAR_STAT 11 11 _ 10),
        (rf_wf_apart _ Reg.PAR_STAT 8 8 _ 2 0 (by decide)).trans (rf_wf_apart m Reg.PAR_STAT 11 11 _ 2 0 (by decide)),
        (rb_wf_apart _ Reg.PAR_STAT 8 8 _ 9).trans (rb_wf_apart m Reg.PAR_STAT 11 11 _ 9)⟩

theorem touches_pathTimeout (path : Bool) (m : Pnm) : Touches [.regs, .tel, .par] [Reg.PAR_STAT] m (pathTimeout path m) := by
  have hset : Touches [.regs, .tel, .par] [Reg.PAR_STAT] m (pathSet path false (untimed path m)) :=
    (touches_par m _).trans ((touches_pathSet path false _).mono (by decide) (List.Subset.refl _))
  unfold pathTimeout
  exact .ite hset (.refl _ _ m)

/-- What a path's timer leaves of the pair state and of what the takeover reads. -/
structure SamePair (m n : Pnm) : Prop where
  state : pairState n = pairState m
  failed : rb n Reg.PAR_STAT 9 = rb m Reg.PAR_STAT 9
  stored : n.par.stored = m.par.stored
  evidence : n.par.evidence = m.par.evidence
  highEpoch : n.par.highEpoch = m.par.highEpoch

theorem SamePair.trans {n k : Pnm} (h : SamePair m n) (h' : SamePair n k) : SamePair m k :=
  ⟨h'.state.trans h.state, h'.failed.trans h.failed, h'.stored.trans h.stored, h'.evidence.trans h.evidence,
    h'.highEpoch.trans h.highEpoch⟩

theorem samePair_pathTimeout (path : Bool) (m : Pnm) : SamePair m (pathTimeout path m) := by
  by_cases hdue : due (pathDue path m) m.tim.edge = true
  · rw [pathTimeout_of_due hdue]
    obtain ⟨-, -, hstate, hfailed⟩ := pathUp_pathSet path (untimed path m)
    have hpar : (pathSet path false (untimed path m)).par = (untimed path m).par := (touches_pathSet path false _).part .par
    have hkept : (untimed path m).par.stored = m.par.stored ∧ (untimed path m).par.evidence = m.par.evidence ∧
        (untimed path m).par.highEpoch = m.par.highEpoch := by cases path <;> exact ⟨rfl, rfl, rfl⟩
    exact ⟨hstate, hfailed, (congrArg Par.stored hpar).trans hkept.1, (congrArg Par.evidence hpar).trans hkept.2.1,
      (congrArg Par.highEpoch hpar).trans hkept.2.2⟩
  · have hstay : pathTimeout path m = m := if_neg hdue
    rw [hstay]
    exact ⟨rfl, rfl, rfl, rfl, rfl⟩

end

section
variable {s : State}

theorem pathTimeout_downs (hl : s.live) (path : Bool) (h : due (pathDue path s.m) s.m.tim.edge = true) :
    Does (.pathTimeout path) s [.regs, .tel, .par] [Reg.PAR_STAT] fun n =>
      pathUp n path = false ∧ pathUp n (!path) = pathUp s.m (!path) ∧ pairState n = pairState s.m ∧ pathDue path n = none := by
  have ht := touches_pathTimeout path s.m
  have hdown := pathUp_pathSet path (untimed path s.m)
  have hpar : (pathSet path false (untimed path s.m)).par = (untimed path s.m).par := (touches_pathSet path false _).part .par
  have hdue : pathDue path (untimed path s.m) = none := by cases path <;> rfl
  refine does_al (pathTimeout path) hl rfl rfl ht.parts ht.regs ?_
  rw [pathTimeout_of_due h]
  exact ⟨hdown.1, hdown.2.1, hdown.2.2.1, by rw [pathDue, hpar]; exact hdue⟩

end

/-! ## The peer has failed (R433) -/

section
variable {m : Pnm}

theorem touches_peerFail (failed : Bool) (m : Pnm) : Touches [.regs, .tel, .hif] [Reg.PAR_STAT] m (peerFail failed m) := by
  unfold peerFail
  exact .ite (.refl _ _ m) (((touches_hif m _).trans (touches_wf _ Reg.PAR_STAT 9 9 _)).trans (touches_raise _ _))

theorem failed_peerFail (failed : Bool) (m : Pnm) : rb (peerFail failed m) Reg.PAR_STAT 9 = failed := by
  unfold peerFail
  split
  next h => exact h
  next => exact rb_wf_bit _ Reg.PAR_STAT 9 failed

theorem pairState_peerFail (failed : Bool) (m : Pnm) : pairState (peerFail failed m) = pairState m := by
  unfold peerFail
  split
  next => rfl
  next => exact rf_wf_apart _ Reg.PAR_STAT 9 9 _ 2 0 (by decide)

/-- The module once its peer has failed, before its own state moves. -/
def alone (m : Pnm) : Pnm :=
  let k := pathTimeout true (pathTimeout false m)
  peerNode (peerFail true { k with par := { k.par with failDue := none } })

/-- What the failure of the peer leaves. -/
structure Alone (m n : Pnm) : Prop where
  touched : Touches [.regs, .tel, .hif, .par] [Reg.PAR_STAT] m n
  state : pairState n = pairState m
  failed : rb n Reg.PAR_STAT 9 = true
  stored : n.par.stored = m.par.stored
  evidence : n.par.evidence = m.par.evidence
  highEpoch : n.par.highEpoch = m.par.highEpoch

theorem alone_alone (m : Pnm) : Alone m (alone m) := by
  have hpaths := (samePair_pathTimeout false m).trans (samePair_pathTimeout true _)
  have htouch := (touches_pathTimeout false m).trans (touches_pathTimeout true _)
  have halone : alone m = peerNode (peerFail true { pathTimeout true (pathTimeout false m) with
    par := { (pathTimeout true (pathTimeout false m)).par with failDue := none } }) := rfl
  generalize pathTimeout true (pathTimeout false m) = k at hpaths htouch halone
  have hfail := touches_peerFail true { k with par := { k.par with failDue := none } }
  have hnode := touches_peerNode (ps := [.tel]) (os := []) (peerFail true { k with par := { k.par with failDue := none } })
  have hstate := pairState_peerFail true { k with par := { k.par with failDue := none } }
  have hfailed := failed_peerFail true { k with par := { k.par with failDue := none } }
  have hpar : (peerFail true { k with par := { k.par with failDue := none } }).par = { k.par with failDue := none } :=
    hfail.part .par
  rw [halone]
  generalize peerFail true { k with par := { k.par with failDue := none } } = j at hfail hnode hstate hfailed hpar
  have hjpar : (peerNode j).par = { k.par with failDue := none } := (hnode.part .par : (peerNode j).par = j.par).trans hpar
  exact {
    touched := (((htouch.mono (by decide) (List.Subset.refl _)).trans (touches_par k _)).trans
      (hfail.mono (by decide) (List.Subset.refl _))).trans (hnode.mono (by decide) (List.nil_subset _))
    state := ((pairState_congr hnode.rd).trans hstate).trans hpaths.state
    failed := (rb_congr hnode.rd 9).trans hfailed
    stored := (congrArg Par.stored hjpar).trans hpaths.stored
    evidence := (congrArg Par.evidence hjpar).trans hpaths.evidence
    highEpoch := (congrArg Par.highEpoch hjpar).trans hpaths.highEpoch }

/-! ## Takeover (R429, R446) -/

theorem touches_raiseEpoch {ps : List Part} {os : List Nat} (m : Pnm) (hp : .regs ∈ ps := by decide)
    (ho : Reg.PAR_EPOCH ∈ os := by decide) : Touches ps os m (raiseEpoch m) := touches_set m Reg.PAR_EPOCH _ hp ho

/-- The parts that a takeover reaches. -/
def takeParts : List Part := [.regs, .tel, .hif, .mac, .gte, .cye, .out, .sio, .par]

/-- The registers that a takeover's messages and publications may write. -/
def afterRegs : List Nat :=
  [Reg.PAR_LAST_TAKEOVER_NS_LO, Reg.PAR_LAST_TAKEOVER_NS_HI, Reg.OUT_FLAGS, Reg.OUT_PUB_SENT] ++ dropCnts

theorem touches_beat (path : Bool) (m : Pnm) : Touches takeParts afterRegs m (beat path m) :=
  ((touches_pairSend path 1 _ m).mono (by decide) (List.subset_append_right _ _)).trans (touches_par _ _ (by decide))

theorem touches_backlogAll (m : Pnm) : Touches takeParts afterRegs m (backlogAll m) := by
  refine .foldl (fun f _ k => ?_) m
  extract_lets st mine reps all keep b m1
  have hown : Touches takeParts afterRegs k m1 := touches_hif k _ (by decide)
  have hpart : ∀ (x : Hif) (y : Par), Touches takeParts afterRegs m1 { m1 with hif := x, par := y } := fun x y =>
    (touches_hif m1 x (by decide)).trans (touches_par { m1 with hif := x } y (by decide))
  exact hown.trans (hpart _ _)

theorem touches_gatesTakeover (first : Nat) (m : Pnm) : Touches takeParts afterRegs m (gatesTakeover first m) :=
  .foldl (fun _ _ k => touches_gte k _ (by decide)) m

theorem touches_mirrorFresh (m : Pnm) : Touches takeParts afterRegs m (mirrorFresh m) :=
  touches_cye m _ rfl rfl (by decide)

/-- The gates, publications and mirror words of the new active module, and the instant of its first release. -/
def released (m : Pnm) : Pnm :=
  let m6 := mirrorFresh (pubsFresh (gatesTakeover (firstOutput m) m))
  { m6 with sio := { m6.sio with takeover := if m6.cye.running then 2 else 0 } }

/-- Publications change state at once where no program runs. -/
def published (m : Pnm) : Pnm := if m.cye.running then m else pubTakeover (nowU m) m

/-- The time of the takeover is shown. -/
def stamped (m : Pnm) : Pnm :=
  wr (wr m Reg.PAR_LAST_TAKEOVER_NS_LO (loW (nowNs m))) Reg.PAR_LAST_TAKEOVER_NS_HI (hiW (nowNs m))

/-- What a takeover does once the module is ACTIVE with its epoch raised. -/
def takesCharge (m : Pnm) : Pnm := stamped (published (released (backlogAll (advanceSeqs (beat true (beat false m))))))

theorem touches_takesCharge (m : Pnm) : Touches takeParts afterRegs m (takesCharge m) := by
  have hseqs : ∀ k : Pnm, Touches takeParts afterRegs k (advanceSeqs k) := fun k => touches_mac k _ (by decide)
  have hreleased : ∀ k : Pnm, Touches takeParts afterRegs k (released k) := fun k =>
    (((touches_gatesTakeover _ k).trans ((touches_pubsFresh _).mono (by decide) (List.nil_subset _))).trans
      (touches_mirrorFresh _)).trans (touches_sio _ _ (by decide))
  have hpub : ∀ k : Pnm, Touches takeParts afterRegs k (published k) := fun k =>
    .ite (.refl _ _ k) ((touches_pubTakeover _ k).mono (by decide) (by decide))
  have hstamp : ∀ k : Pnm, Touches takeParts afterRegs k (stamped k) := fun k =>
    (touches_set k Reg.PAR_LAST_TAKEOVER_NS_LO _ (by decide) (by decide)).trans
      (touches_set _ Reg.PAR_LAST_TAKEOVER_NS_HI _ (by decide) (by decide))
  exact (((((touches_beat false m).trans (touches_beat true _)).trans (hseqs _)).trans (touches_backlogAll _)).trans
    (hreleased _)).trans ((hpub _).trans (hstamp _))

/-- The module is ACTIVE with its epoch raised. -/
def active (m : Pnm) : Pnm :=
  raiseEpoch (showPair 2 { m with par := { m.par with stored := [], reportNext := none, rx := none } })

/-- The takeover is flagged and told, and the outputs follow. -/
def announced (m : Pnm) : Pnm :=
  peerNode (sioApply (raise { src := 11, code := 0x7B, cls := 1, items := [(rd m Reg.PAR_EPOCH).toNat % 65536] }
    (sb m Reg.PAR_FLAGS 4)))

theorem takeOver_of_nothing_stored (r : Memory) (h : m.par.stored = []) :
    takeOver (m, r) = (announced (takesCharge (pairEvent (active m))), r) := by
  have hst : storedOrder m.par.stored = [] := by rw [h]; rfl
  unfold takeOver
  extract_lets st s1 s2 m3 m4 m5 m6 _ m7 m8 m9
  have hs : s2 = s1 := congrArg (List.foldl decideStored s1) hst
  have hactive : raiseEpoch s2.1 = active m := by rw [hs]; rfl
  have hm : m3 = pairEvent (active m) := congrArg pairEvent hactive
  have hr : s2.2 = r := by rw [hs]; rfl
  have hbacklog : m5 = backlogAll (advanceSeqs (beat true (beat false m3))) := rfl
  have hreleased : m7 = released m5 := rfl
  have hpublished : m8 = published m7 := rfl
  have hstamped : m9 = stamped m8 := rfl
  have hcharge : m9 = takesCharge m3 := by rw [takesCharge, ← hbacklog, ← hreleased, ← hpublished, ← hstamped]
  rw [hr, ← hm, ← hcharge, announced]

theorem touches_announced (m : Pnm) : Touches takeParts [Reg.PAR_FLAGS, Reg.SIO_FLAGS] m (announced m) :=
  (((touches_sb m Reg.PAR_FLAGS 4 (by decide)).trans (touches_raise _ _ (by decide))).trans
    ((touches_sioApply _).mono (by decide) (by decide))).trans (touches_peerNode _ (by decide))

theorem flag_announced (m : Pnm) : rb (announced m) Reg.PAR_FLAGS 4 = true := by
  have htail : Touches takeParts [Reg.SIO_FLAGS] (sb m Reg.PAR_FLAGS 4) (announced m) :=
    ((touches_raise _ _ (by decide)).trans ((touches_sioApply _).mono (by decide) (List.Subset.refl _))).trans
      (touches_peerNode _ (by decide))
  exact (rb_congr htail.rd 4).trans (rb_sb_same m Reg.PAR_FLAGS 4 (by decide))

/-- The pair epoch of a module that becomes ACTIVE. -/
def nextEpoch (m : Pnm) : Word := loW (max (rd m Reg.PAR_EPOCH).toNat m.par.highEpoch + 1)

/-- What the takeover leaves. -/
structure TookOver (m n : Pnm) : Prop where
  touched : Touches takeParts ([Reg.PAR_STAT, Reg.PAR_EPOCH, Reg.PAR_FLAGS, Reg.SIO_FLAGS] ++ afterRegs) m n
  state : pairState n = 2
  epoch : rd n Reg.PAR_EPOCH = nextEpoch m
  flag : rb n Reg.PAR_FLAGS 4 = true
  failed : rb n Reg.PAR_STAT 9 = rb m Reg.PAR_STAT 9

theorem tookOver (m : Pnm) : TookOver m (announced (takesCharge (pairEvent (active m)))) := by
  have hcharge := touches_takesCharge (pairEvent (active m))
  have hann := touches_announced (takesCharge (pairEvent (active m)))
  have hrest : Touches takeParts ([Reg.PAR_FLAGS, Reg.SIO_FLAGS] ++ afterRegs) (pairEvent (active m))
      (announced (takesCharge (pairEvent (active m)))) :=
    (hcharge.mono (List.Subset.refl _) (List.subset_append_right _ _)).trans
      (hann.mono (List.Subset.refl _) (List.subset_append_left _ _))
  have hactive : Touches takeParts [Reg.PAR_STAT, Reg.PAR_EPOCH] m (pairEvent (active m)) :=
    (((touches_par m _ (by decide)).trans (touches_wf _ Reg.PAR_STAT 2 0 2 (by decide))).trans
      (touches_raiseEpoch _)).trans (touches_raise _ _ (by decide))
  have hflag := flag_announced (takesCharge (pairEvent (active m)))
  generalize announced (takesCharge (pairEvent (active m))) = n at hrest hflag
  have hstat : rd n Reg.PAR_STAT =
      rd (showPair 2 { m with par := { m.par with stored := [], reportNext := none, rx := none } }) Reg.PAR_STAT :=
    (hrest.regs _ (by decide)).trans (rd_wr_ne _ _ _ (by decide))
  have hepoch : rd (showPair 2 { m with par := { m.par with stored := [], reportNext := none, rx := none } }) Reg.PAR_EPOCH =
      rd m Reg.PAR_EPOCH := rd_wr_ne _ _ _ (by decide)
  exact {
    touched := (hactive.mono (List.Subset.refl _) (by decide)).trans (hrest.mono (List.Subset.refl _) (by decide))
    state := (rf_congr hstat 2 0).trans (rf_wf_same _ Reg.PAR_STAT 2 0 2 (by decide))
    epoch := (hrest.regs _ (by decide)).trans ((rd_wr_same _ _ _).trans (by rw [hepoch]; rfl))
    flag := hflag
    failed := (rb_congr hstat 9).trans (rb_wf_apart _ Reg.PAR_STAT 2 0 2 9) }

end

section
variable {s : State}

theorem peerFailed_eq {m : Pnm} (r : Memory) (h : due m.par.failDue m.tim.edge = true) : peerFailed (m, r) =
    match pairState (alone m) with
    | 2 => (if (alone m).par.evidence then demote 3 (alone m) else alone m, r)
    | 3 => takeOver (alone m, r)
    | 4 => (raise { src := 11, code := 0x7D, cls := 2, items := [7] } (wf (setPair 1 (alone m)) Reg.PAR_RESYNC_STAT 7 0 7), r)
    | _ => (alone m, r) := if_pos h

/-- The epoch that a module takes is above its own and above every one it has seen. -/
theorem nextEpoch_alone {m n : Pnm} (h : Alone m n) : nextEpoch n = nextEpoch m := by
  have hepoch : rd n Reg.PAR_EPOCH = rd m Reg.PAR_EPOCH := h.touched.rd
  rw [nextEpoch, hepoch, h.highEpoch, nextEpoch]

theorem peerFailed_takes_over (hl : s.live) (hd : due s.m.par.failDue s.m.tim.edge = true) (h3 : pairState s.m = 3)
    (hst : s.m.par.stored = []) :
    Does .peerFailed s [.regs, .tel, .hif, .mac, .gte, .cye, .out, .sio, .par]
      ([Reg.PAR_STAT, Reg.PAR_FLAGS, Reg.PAR_EPOCH, Reg.PAR_LAST_TAKEOVER_NS_LO, Reg.PAR_LAST_TAKEOVER_NS_HI,
        Reg.SIO_FLAGS, Reg.OUT_FLAGS, Reg.OUT_PUB_SENT] ++ dropCnts) fun n =>
      pairState n = 2 ∧ rd n Reg.PAR_EPOCH = nextEpoch s.m ∧ rb n Reg.PAR_FLAGS 4 = true ∧ rb n Reg.PAR_STAT 9 = true := by
  have ha := alone_alone s.m
  have hfail := peerFailed_eq s.mem hd
  rw [ha.state, h3] at hfail
  generalize alone s.m = k at ha hfail
  have htook := tookOver k
  have hdone := hfail.trans (takeOver_of_nothing_stored s.mem (ha.stored.trans hst))
  generalize announced (takesCharge (pairEvent (active k))) = n at htook hdone
  exact does_alM hl rfl hdone
    ((ha.touched.mono (by decide) (by decide)).trans (htook.touched.mono (by decide) (by decide)))
    ⟨htook.state, htook.epoch.trans (nextEpoch_alone ha), htook.flag, htook.failed.trans ha.failed⟩

theorem peerFailed_listens (hl : s.live) (hd : due s.m.par.failDue s.m.tim.edge = true) (h4 : pairState s.m = 4) :
    Does .peerFailed s [.regs, .tel, .hif, .sio, .par] [Reg.PAR_STAT, Reg.PAR_RESYNC_STAT, Reg.SIO_FLAGS] fun n =>
      pairState n = 1 ∧ rb n Reg.PAR_STAT 9 = true ∧ rf n Reg.PAR_RESYNC_STAT 7 0 = 7 := by
  have ha := alone_alone s.m
  have hfail := peerFailed_eq s.mem hd
  rw [ha.state, h4] at hfail
  generalize alone s.m = k at ha hfail
  have hset := touches_setPair 1 k
  have hstate := pairState_setPair (st := 1) (by decide) k
  have hbit := rb_stat_setPair 1 k (i := 9) (by decide)
  have ht : Touches [.regs, .tel, .hif, .sio, .par] [Reg.PAR_STAT, Reg.PAR_RESYNC_STAT, Reg.SIO_FLAGS] s.m
      (raise { src := 11, code := 0x7D, cls := 2, items := [7] } (wf (setPair 1 k) Reg.PAR_RESYNC_STAT 7 0 7)) :=
    (((ha.touched.mono (by decide) (by decide)).trans (hset.mono (by decide) (by decide))).trans
      (touches_wf _ Reg.PAR_RESYNC_STAT 7 0 7)).trans (touches_raise _ _)
  exact does_alM hl rfl hfail ht ⟨(pairState_congr (rd_wr_ne _ _ _ (by decide))).trans hstate,
    (rb_congr (rd_wr_ne _ _ _ (by decide)) 9).trans (hbit.trans ha.failed),
    rf_wf_same _ Reg.PAR_RESYNC_STAT 7 0 7 (by decide)⟩

theorem peerFailed_demotes (hl : s.live) (hd : due s.m.par.failDue s.m.tim.edge = true) (h2 : pairState s.m = 2)
    (he : s.m.par.evidence = true) :
    Does .peerFailed s [.regs, .tel, .hif, .sio, .par] [Reg.PAR_STAT, Reg.PAR_FLAGS, Reg.SIO_FLAGS] fun n =>
      pairState n = 5 ∧ rb n Reg.PAR_STAT 9 = true ∧ rb n Reg.PAR_FLAGS 3 = true := by
  have ha := alone_alone s.m
  have hfail := peerFailed_eq s.mem hd
  rw [ha.state, h2] at hfail
  generalize alone s.m = k at ha hfail
  have hdemote : peerFailed (s.m, s.mem) = (demote 3 k, s.mem) :=
    hfail.trans (congrArg (·, s.mem) (if_pos (ha.evidence.trans he)))
  have hset := touches_setPair 5 k
  have hstate := pairState_setPair (st := 5) (by decide) k
  have hbit := rb_stat_setPair 5 k (i := 9) (by decide)
  have ht : Touches [.regs, .tel, .hif, .sio, .par] [Reg.PAR_STAT, Reg.PAR_FLAGS, Reg.SIO_FLAGS] s.m (demote 3 k) :=
    (((ha.touched.mono (by decide) (by decide)).trans (hset.mono (by decide) (by decide))).trans
      (touches_sb _ Reg.PAR_FLAGS 3)).trans (touches_raise _ _)
  exact does_alM hl rfl hdemote ht ⟨(pairState_congr (rd_wr_ne _ _ _ (by decide))).trans hstate,
    (rb_congr (rd_wr_ne _ _ _ (by decide)) 9).trans (hbit.trans ha.failed), rb_sb_same _ Reg.PAR_FLAGS 3 (by decide)⟩

theorem peerFailed_stays_active (hl : s.live) (hd : due s.m.par.failDue s.m.tim.edge = true) (h2 : pairState s.m = 2)
    (he : s.m.par.evidence = false) :
    Does .peerFailed s [.regs, .tel, .hif, .par] [Reg.PAR_STAT] fun n => pairState n = 2 ∧ rb n Reg.PAR_STAT 9 = true := by
  have ha := alone_alone s.m
  have hfail := peerFailed_eq s.mem hd
  rw [ha.state, h2] at hfail
  generalize alone s.m = k at ha hfail
  have hstay : peerFailed (s.m, s.mem) = (k, s.mem) :=
    hfail.trans (congrArg (·, s.mem) (if_neg (ne_true_of_eq_false (ha.evidence.trans he))))
  exact does_alM hl rfl hstay ha.touched ⟨ha.state.trans h2, ha.failed⟩

/-! ## Listening and being demoted (R438) -/

theorem listenTimeout_activates (hl : s.live) (h1 : pairState s.m = 1) (hd : due s.m.par.listenDue s.m.tim.edge = true)
    (hc : rb s.m Reg.PAR_CFG 2 = true) :
    Does .listenTimeout s [.regs, .tel, .hif, .out, .sio, .par] [Reg.PAR_STAT, Reg.PAR_EPOCH, Reg.SIO_FLAGS] fun n =>
      pairState n = 2 ∧ rd n Reg.PAR_EPOCH = nextEpoch s.m ∧ rb n Reg.PAR_STAT 9 = true := by
  have hlisten : listenTimeout s.m = peerNode (pubsFresh (setPair 2 (raiseEpoch (peerFail true s.m)))) := if_pos ⟨h1, hd, hc⟩
  have hfail := touches_peerFail true s.m
  have hfailed := failed_peerFail true s.m
  have hepoch : nextEpoch (peerFail true s.m) = nextEpoch s.m := by
    have hreg : rd (peerFail true s.m) Reg.PAR_EPOCH = rd s.m Reg.PAR_EPOCH := hfail.rd
    have hpar : (peerFail true s.m).par = s.m.par := hfail.part .par
    rw [nextEpoch, hreg, hpar, nextEpoch]
  generalize peerFail true s.m = k at hlisten hfail hfailed hepoch
  have hset := touches_setPair 2 (raiseEpoch k)
  have hstate := pairState_setPair (st := 2) (by decide) (raiseEpoch k)
  have hbit := rb_stat_setPair 2 (raiseEpoch k) (i := 9) (by decide)
  have hafter : Touches [.tel, .out] [] (setPair 2 (raiseEpoch k)) (peerNode (pubsFresh (setPair 2 (raiseEpoch k)))) :=
    ((touches_pubsFresh _).mono (by decide) (List.Subset.refl _)).trans (touches_peerNode _)
  have ht : Touches [.regs, .tel, .hif, .out, .sio, .par] [Reg.PAR_STAT, Reg.PAR_EPOCH, Reg.SIO_FLAGS] s.m
      (peerNode (pubsFresh (setPair 2 (raiseEpoch k)))) :=
    (((hfail.mono (by decide) (by decide)).trans (touches_raiseEpoch k)).trans (hset.mono (by decide) (by decide))).trans
      (hafter.mono (by decide) (List.nil_subset _))
  exact does_al listenTimeout hl rfl hlisten ht.parts ht.regs ⟨(pairState_congr hafter.rd).trans hstate,
    (hafter.rd.trans hset.rd).trans ((rd_wr_same _ _ _).trans hepoch),
    (rb_congr hafter.rd 9).trans (hbit.trans ((rb_congr (rd_wr_ne _ _ _ (by decide)) 9).trans hfailed))⟩

theorem nothing_listenTimeout (h : pairState s.m ≠ 1) : DoesNothing .listenTimeout s :=
  nothing_al listenTimeout rfl (if_neg fun hand => h hand.1)

theorem demotedTimeout_listens (hl : s.live) (h5 : pairState s.m = 5) (hd : due s.m.par.demotedDue s.m.tim.edge = true) :
    Does .demotedTimeout s [.regs, .tel, .sio, .par] [Reg.PAR_STAT, Reg.SIO_FLAGS] fun n =>
      pairState n = 1 ∧ n.par.listenDue = some (s.m.tim.edge + listenEdges s.m) := by
  have ht := touches_setPair 1 s.m
  exact does_al demotedTimeout hl rfl (if_pos ⟨h5, hd⟩) ht.parts ht.regs
    ⟨pairState_setPair (by decide) s.m, listenDue_setPair (by rw [h5]; decide)⟩

theorem nothing_demotedTimeout (h : pairState s.m ≠ 5) : DoesNothing .demotedTimeout s :=
  nothing_al demotedTimeout rfl (if_neg fun hand => h hand.1)

end

end Pairing

open Pairing in
/-- Settles O50: it holds. Every command enters a pair state through one operation, and a takeover raises the epoch before
it takes charge. -/
theorem pairingPathsAndRoles : Obligations.PairingPathsAndRoles := by
  refine ⟨fun s => ⟨fun data hw => ?enable, parResync_syncs, fun hw h5 => ?refuse, resyncRetry_waits, resyncRetry_asks,
      nothing_resyncRetry⟩,
    fun s hl => ⟨fun path h => ?down, fun path h => ?up,
      fun hd => ⟨peerFailed_takes_over hl hd, peerFailed_listens hl hd, peerFailed_demotes hl hd, peerFailed_stays_active hl hd⟩,
      fun hd => nothing_alM rfl (if_neg (ne_true_of_eq_false hd)), listenTimeout_activates hl, nothing_listenTimeout,
      demotedTimeout_listens hl, nothing_demotedTimeout⟩⟩
  case enable =>
    exact ⟨fun h => nothing_wr (pairEnWrite data) rfl (if_pos h), pairEnWrite_listens hw, pairEnWrite_enables hw,
      fun hb hon hc => does_parErr hw rfl ((pairEnWrite_on hb hon).trans (if_pos hc)) (parCheck_lt s.m),
      fun hb hon hh => does_parErr hw rfl ((pairEnWrite_off hb hon).trans (if_pos hh)) (by decide),
      pairEnWrite_ends hw, pairEnWrite_disables hw⟩
  case refuse => exact does_parErr hw rfl (if_neg h5) (by decide)
  case down => exact pathTimeout_downs hl path h
  case up => exact nothing_al (pathTimeout path) rfl (if_neg (ne_true_of_eq_false h))

end Machine
end Sys2Proof
end

section
/-! SUPPORT. What the service of a function's rings and the fetching of descriptors keep of every function (R342 to R347,
R354, R360, R361, R364, R367). -/

namespace Sys2Proof
namespace Machine
namespace Rings
open Leapfrog Commands

/-- A function without what completions, events, vectors and write-backs change. -/
def coreOf (x : FnState) : FnState :=
  { x with modIdx := [], changed := false, vecs := [], sent := [], backlog := [], outstanding := 0, marked := [] }

/-- A function without what fetches change either. -/
def kept (x : FnState) : FnState := coreOf { x with fetchedIdx := 0, inFetch := 0, bulkIdx := 0 }

/-- From `m` to `n` the rings are served: of every function `φ` stays, and what was handed out stays in front. -/
structure Tends (φ : FnState → FnState) (m n : Pnm) : Prop where
  touched : Touches [.tel, .hif] [] m n
  fn : ∀ g, φ (getFn n g) = φ (getFn m g)
  cons : ∀ g, (getEvt n g).cons = (getEvt m g).cons
  posts : n.hif.rxPosts = m.hif.rxPosts
  waits : n.hif.dbWait = m.hif.dbWait
  out : m.tel.out <+: n.tel.out

section
variable {φ : FnState → FnState} {m n k : Pnm}

theorem Tends.refl (φ : FnState → FnState) (m : Pnm) : Tends φ m m :=
  ⟨.refl _ _ m, fun _ => rfl, fun _ => rfl, rfl, rfl, List.prefix_rfl⟩

theorem Tends.trans (h : Tends φ m n) (h' : Tends φ n k) : Tends φ m k :=
  ⟨h.touched.trans h'.touched, fun g => (h'.fn g).trans (h.fn g), fun g => (h'.cons g).trans (h.cons g),
    h'.posts.trans h.posts, h'.waits.trans h.waits, h.out.trans h'.out⟩

theorem Tends.ite {c : Prop} [Decidable c] (ht : Tends φ m n) (he : Tends φ m k) : Tends φ m (if c then n else k) := by
  split
  · exact ht
  · exact he

theorem Tends.foldl {α : Type} {f : Pnm → α → Pnm} {l : List α} (h : ∀ a k, Tends φ k (f k a)) (m : Pnm) :
    Tends φ m (l.foldl f m) :=
  List.foldlRecOn l f (motive := Tends φ m) (.refl φ m) fun k hk a _ => hk.trans (h a k)

/-- Where fetches are left out, less stays. -/
theorem Tends.kept (h : Tends coreOf m n) : Tends kept m n :=
  { h with fn := fun g => congrArg (fun x => { x with fetchedIdx := 0, inFetch := 0, bulkIdx := 0 }) (h.fn g) }

theorem Tends.regs (h : Tends φ m n) : n.regs = m.regs := h.touched.part .regs
theorem Tends.rd (h : Tends φ m n) (o : Nat) : Machine.rd n o = Machine.rd m o := rd_congr h.regs o

/-- What is handed out stays handed out. -/
theorem Tends.emitted (h : Tends φ m n) {e : Emit} (he : e ∈ m.tel.out) : e ∈ n.tel.out := h.out.subset he

/-! ## Single changes -/

theorem tends_putFn {f : Nat} {x : FnState} (h : φ x = φ (getFn m f)) : Tends φ m (putFn f x m) := by
  refine ⟨touches_hif m _, fun g => ?_, fun _ => rfl, rfl, rfl, List.prefix_rfl⟩
  by_cases hg : g = f
  · subst hg; rw [getFn_putFn_same, h]
  · rw [getFn_putFn_ne hg]

theorem tends_modFn (f : Nat) (u : FnState → FnState) (m : Pnm) (h : ∀ x, φ (u x) = φ x := by intro x; rfl) :
    Tends φ m (modFn f u m) := tends_putFn (h _)

theorem tends_emit (φ : FnState → FnState) (m : Pnm) (es : List Emit) : Tends φ m (emit m es) :=
  ⟨touches_emit m es, fun _ => rfl, fun _ => rfl, rfl, rfl, List.prefix_append ..⟩

theorem tends_putEvt {f : Nat} {e : EvtFn} (h : e.cons = (getEvt m f).cons) : Tends φ m (putEvt f e m) := by
  refine ⟨touches_tel m _, fun _ => rfl, fun g => ?_, rfl, rfl, List.prefix_rfl⟩
  by_cases hg : g = f
  · subst hg; rw [getEvt, putEvt, NMap.get_set_same, h]
  · rw [getEvt, putEvt, NMap.get_set_ne _ _ _ _ _ hg, getEvt]

/-- A change of HIF that leaves functions, receive buffers and doorbell reads. -/
theorem tends_hif (φ : FnState → FnState) (m : Pnm) (x : Hif) (hf : x.fns = m.hif.fns := by rfl)
    (hp : x.rxPosts = m.hif.rxPosts := by rfl) (hw : x.dbWait = m.hif.dbWait := by rfl) : Tends φ m { m with hif := x } :=
  ⟨touches_hif m x, fun g => by simp only [getFn, hf], fun _ => rfl, hp, hw, List.prefix_rfl⟩

/-! ## Completions, events and write-back -/

theorem tends_ringPut (f r : Nat) (w : List Word) (m : Pnm) : Tends coreOf m (ringPut f r w m) := by
  unfold ringPut
  exact (tends_emit coreOf m _).trans (tends_modFn ..)

theorem tends_vecDue (f v : Nat) (m : Pnm) : Tends coreOf m (vecDue f v m) :=
  tends_modFn f _ m fun x => by split <;> rfl

theorem cons_hold (m : Pnm) (f v : Nat) (e : EvtFn) : (e.hold m f v).cons = e.cons := by
  unfold EvtFn.hold
  split <;> rfl

theorem tends_vecSend (f v : Nat) (m : Pnm) : Tends coreOf m (vecSend f v m) :=
  (tends_emit coreOf m _).trans (tends_putEvt (cons_hold ..))

theorem tends_cplWrite (m : Pnm) (c : Cpl) : Tends coreOf m (cplWrite m c) := by
  unfold cplWrite
  extract_lets f less
  have hless (x : FnState) : coreOf (less x) = coreOf x := by dsimp only [less]; split <;> rfl
  exact .ite (((tends_ringPut ..).trans (tends_modFn _ _ _ hless)).trans (tends_vecDue ..))
    (.ite (.refl coreOf m) (tends_modFn _ _ m fun x => hless _))

theorem tends_cplFlush (p : Nat → Bool) (m : Pnm) : Tends coreOf m (cplFlush p m) := by
  unfold cplFlush
  extract_lets due _ m1
  have htaken : Tends coreOf m m1 := tends_hif coreOf m _
  exact htaken.trans (.foldl (fun c k => tends_cplWrite k c) m1)

theorem tends_backlogWrite (f : Nat) (m : Pnm) : Tends coreOf m (backlogWrite f m) := by
  unfold backlogWrite
  extract_lets x free m1
  have htaken : Tends coreOf m (putFn f { x with backlog := x.backlog.drop free } m) := tends_putFn rfl
  have hput : Tends coreOf m m1 := htaken.trans (.foldl (fun c k => tends_ringPut f 3 (cplWords c true) k) _)
  exact .ite (.ite (.refl coreOf m) ((hput.trans (tends_vecDue ..)).trans (tends_vecDue ..))) (.refl coreOf m)

/-- Draining the pending set leaves the consumer index. -/
theorem cons_drain (m : Pnm) (f : Nat) (urgent : Bool) (e : EvtFn) : (e.drain m f urgent).1.cons = e.cons := by
  unfold EvtFn.drain
  extract_lets n free put lossy s0 go keep sorted s1
  have hput (x : EvtFn × List Emit) (p : PendEvt) : (put x p).1.cons = x.1.cons := rfl
  have hfirst : s0.1.cons = e.cons := by
    dsimp only [s0]
    split
    · exact hput ..
    · rfl
  refine List.foldlRecOn sorted _ (motive := fun (x : EvtFn × List Emit) => x.1.cons = e.cons) hfirst fun x hx p _ => ?_
  split
  · exact (hput x p).trans hx
  · exact hx

theorem tends_tel_out (φ : FnState → FnState) (m : Pnm) (l : List Emit) :
    Tends φ m { m with tel := { m.tel with out := m.tel.out ++ l } } := tends_emit φ m l

theorem tends_eventsWrite (f : Nat) (m : Pnm) : Tends coreOf m (eventsWrite f m) := by
  unfold eventsWrite
  extract_lets e r _ m1
  have hdrain : Tends coreOf m m1 := (tends_tel_out coreOf m r.2).trans (tends_putEvt (cons_drain ..))
  split
  · exact .ite hdrain ((hdrain.trans (tends_modFn ..)).trans (.foldl (fun v k => tends_vecDue f v k) _))
  · exact .refl coreOf m

theorem tends_writeBack (f : Nat) (now : List Nat) (m : Pnm) : Tends coreOf m (writeBack f now m) := by
  unfold writeBack
  extract_lets m1 x go m2
  have hsaid : Tends coreOf m m1 := (tends_modFn f (fun s => { s with changed := false }) m).trans (tends_emit ..)
  have hsent : Tends coreOf m1 m2 := tends_putFn rfl
  exact .ite ((hsaid.trans hsent).trans (.foldl (fun v k => tends_vecSend f v k) _)) (.refl coreOf m)

theorem tends_fnWrite (now : List Nat) (f : Nat) (m : Pnm) : Tends coreOf m (fnWrite now f m) := by
  unfold fnWrite
  exact .ite ((tends_eventsWrite f m).trans (tends_writeBack ..)) (tends_eventsWrite f m)

theorem tends_mirrorSpace (f : Nat) (m : Pnm) : Tends coreOf m (mirrorSpace f m) := by
  unfold mirrorSpace
  extract_lets x ws free m1 m2
  have hmarks : Tends coreOf m m1 := tends_putFn rfl
  have hput : Tends coreOf m m2 := hmarks.trans (.foldl (fun w k => tends_ringPut f 5 (mirrorWords w (getOw k w) true) k) m1)
  exact .ite (.refl coreOf m) (.ite hput ((hput.trans (tends_vecDue ..)).trans (tends_writeBack ..)))

/-! ## Fetching -/

theorem tends_fetchOne (f : Nat) (m : Pnm) : Tends kept m (fetchOne f m) := by
  unfold fetchOne
  extract_lets x x' m1
  have htaken : Tends kept m (putFn f x' m) := tends_putFn rfl
  have hread : Tends kept m m1 := htaken.trans (tends_emit ..)
  exact hread.trans (tends_hif kept m1 _)

theorem tends_fetchRound (fns : List Nat) (fuel : Nat) (m : Pnm) : Tends kept m (fetchRound fns fuel m) := by
  induction fuel generalizing m with
  | zero => exact .refl kept m
  | succ fuel ih =>
    unfold fetchRound
    split
    · exact .refl kept m
    · split
      · exact (tends_fetchOne ..).trans (ih _)
      · exact .refl kept m

theorem tends_fetchBulk (f fuel : Nat) (m : Pnm) : Tends kept m (fetchBulk f fuel m) := by
  induction fuel generalizing m with
  | zero => exact .refl kept m
  | succ fuel ih =>
    unfold fetchBulk
    extract_lets x
    have hread : Tends kept m (putFn f { x with bulkIdx := x.bulkIdx + 1 } m) := tends_putFn rfl
    exact .ite ((hread.trans (tends_emit ..)).trans (ih _)) (.refl kept m)

end

/-! ## The registers of a function -/

theorem fn_ne (f : Nat) {o o' : Nat} (h : o ≠ o' := by decide) : Reg.fn f o ≠ Reg.fn f o' := by
  unfold Reg.fn
  split <;> omega

theorem fn_ne_flags (f o : Nat) : Reg.fn f o ≠ Reg.HIF_FLAGS := by
  unfold Reg.fn
  split <;> simp only [Reg.HIF_FN, Reg.HIF_FLAGS] <;> omega

theorem rb_wr_ne {m : Pnm} {o x : Nat} (h : x ≠ o) (v : Word) (i : Nat) : rb (wr m o v) x i = rb m x i :=
  rb_congr (rd_wr_ne m o v h) i

end Rings
end Machine
end Sys2Proof
end

section
/-! PROOFS. Doorbells, ring errors, fetched commands, kicks, and the enabling of rings (R342, R344, R345, R346, R350). -/

namespace Sys2Proof
namespace Machine
namespace Rings
open Leapfrog Commands

section
variable {m n : Pnm} {f r : Nat}

/-! ## Rings are stopped (R344, R345) -/

/-- The state of a function whose rings stop. -/
def halted (x : FnState) : FnState :=
  { x with outstanding := x.outstanding - x.cmds.length - x.inFetch, cmds := [], inFetch := 0, bulks := [], planes := [],
           kick := false, vecs := [] }

theorem touches_stopRings (f : Nat) (m : Pnm) : Touches [.regs, .hif] [Reg.fn f 0] m (stopRings f m) := by
  unfold stopRings
  exact ((touches_wf m (Reg.fn f 0) 0 0 0).trans (touches_hif _ _)).trans (touches_hif _ _)

theorem getFn_stopRings (f : Nat) (m : Pnm) : getFn (stopRings f m) f = halted (getFn m f) := getFn_putFn_same f _ _

theorem fnOn_stopRings (f : Nat) (m : Pnm) : fnOn (stopRings f m) f = false := rb_wf_bit m (Reg.fn f 0) 0 false

/-- What a ring error leaves of a function: the ring that is named, no command, and the flags. -/
structure Stopped (f r : Nat) (n : Pnm) : Prop where
  errRing : (getFn n f).errRing = some r
  off : fnOn n f = false
  cmds : (getFn n f).cmds = []
  flag : rb n (Reg.fn f 8) 1 = true
  told : rb n Reg.HIF_FLAGS 1 = true

theorem Stopped.tends (h : Stopped f r m) (ht : Tends kept m n) : Stopped f r n where
  errRing := (congrArg FnState.errRing (ht.fn f)).trans h.errRing
  off := (rb_congr (ht.rd _) 0).trans h.off
  cmds := (congrArg FnState.cmds (ht.fn f)).trans h.cmds
  flag := (rb_congr (ht.rd _) 1).trans h.flag
  told := (rb_congr (ht.rd _) 1).trans h.told

/-- The same as one statement. -/
def Stops (f r : Nat) (n : Pnm) : Prop := (getFn n f).errRing = some r ∧ fnOn n f = false ∧ (getFn n f).cmds = [] ∧
  rb n (Reg.fn f 8) 1 = true ∧ rb n Reg.HIF_FLAGS 1 = true

theorem Stopped.stops (h : Stopped f r n) : Stops f r n := ⟨h.errRing, h.off, h.cmds, h.flag, h.told⟩

/-- The error is said, flagged and named. -/
def named (f r : Nat) (m : Pnm) : Pnm :=
  modFn f (fun s => { s with errRing := some r })
    (sb (sb (raise { src := 9, code := 0x18, cls := 2, items := [f, r], fns := evtOf f } m) (Reg.fn f 8) 1) Reg.HIF_FLAGS 1)

theorem touches_named (f r : Nat) (m : Pnm) : Touches [.regs, .tel, .hif] [Reg.fn f 8, Reg.HIF_FLAGS] m (named f r m) :=
  (((touches_raise _ m).trans (touches_sb _ (Reg.fn f 8) 1)).trans (touches_sb _ Reg.HIF_FLAGS 1)).trans (touches_hif _ _)

/-- The registers that a ring error writes. -/
def errRegs (f : Nat) : List Nat := [Reg.fn f 0, Reg.fn f 8, Reg.HIF_FLAGS]

theorem ringError_eq (f r : Nat) (m : Pnm) :
    ringError f r m = stopRings f (writeBack f [5] (vecDue f 5 (named f r m))) := rfl

theorem touches_ringError (f r : Nat) (m : Pnm) : Touches [.regs, .tel, .hif] (errRegs f) m (ringError f r m) := by
  have hsaid := (tends_vecDue f 5 (named f r m)).trans (tends_writeBack f [5] _)
  exact (((touches_named f r m).mono (List.Subset.refl _) (List.subset_cons_self _ _)).trans
    (hsaid.touched.mono (by decide) (List.nil_subset _))).trans
      ((touches_stopRings f _).mono (by decide) (by simp))

theorem stopped_ringError (f r : Nat) (m : Pnm) : Stopped f r (ringError f r m) := by
  have hsaid := (tends_vecDue f 5 (named f r m)).trans (tends_writeBack f [5] _)
  have herr : (getFn (named f r m) f).errRing = some r := congrArg FnState.errRing (getFn_putFn_same f _ _)
  have hflag : rb (named f r m) (Reg.fn f 8) 1 = true :=
    (rb_wr_ne (fn_ne_flags f 8) _ 1).trans (rb_sb_same _ (Reg.fn f 8) 1 (by decide))
  have htold : rb (named f r m) Reg.HIF_FLAGS 1 = true := rb_sb_same _ Reg.HIF_FLAGS 1 (by decide)
  rw [ringError_eq]
  generalize writeBack f [5] (vecDue f 5 (named f r m)) = k at hsaid
  have hstop := touches_stopRings f k
  exact {
    errRing := (congrArg FnState.errRing (getFn_stopRings f k)).trans ((congrArg FnState.errRing (hsaid.fn f)).trans herr)
    off := fnOn_stopRings f k
    cmds := congrArg FnState.cmds (getFn_stopRings f k)
    flag := (rb_congr (hstop.rd (by simpa using fn_ne f)) 1).trans ((rb_congr (hsaid.rd _) 1).trans hflag)
    told := (rb_congr (hstop.rd (by simpa using (fn_ne_flags f 0).symm)) 1).trans ((rb_congr (hsaid.rd _) 1).trans htold) }

/-! ## A doorbell block arrives (R342, R346) -/

/-- The module once the read that was asked for is back. -/
def returned (f : Nat) (m : Pnm) : Pnm :=
  { m with hif := { m.hif with
    dbWait := m.hif.dbWait.filter (· ≠ f),
    kickWait := if m.hif.dbWait.contains f then m.hif.kickWait else m.hif.kickWait.filter (· ≠ f) } }

/-- The fetches that follow a doorbell block: a poll's once the last block is back, a kick's for its function. -/
def fetchAfter (f : Nat) (poll : Bool) (m : Pnm) : Pnm :=
  if poll then (if m.hif.dbWait = [] then fetchRound (fnList m) 512 m else m)
  else if fnOn m f then fetchRound [f] 64 { m with hif := { m.hif with quota := max m.hif.quota 64 } } else m

theorem tends_fetchAfter (f : Nat) (poll : Bool) (m : Pnm) : Tends kept m (fetchAfter f poll m) := by
  unfold fetchAfter
  split
  · exact .ite (tends_fetchRound ..) (.refl kept m)
  · exact .ite ((tends_hif kept m _).trans (tends_fetchRound ..)) (.refl kept m)

/-- The host indices that a doorbell block names. -/
def indices (f : Nat) (d : Doorbell) (m : Pnm) : List Nat :=
  (List.range 6).map fun r => if ringOn m f r then hostOf m f r ((dbFields d).getD r 0) else hostIdx m f r

/-- The doorbell block was asked for. -/
def asked (m : Pnm) (f : Nat) : Prop := f ∈ m.hif.dbWait ∨ f ∈ m.hif.kickWait

/-- The host indices are taken, with the plane-buffer descriptors that a poll brings about. -/
def indexed (f : Nat) (idx : List Nat) (ps : List (Nat × PlaneDesc)) (m : Pnm) : Pnm :=
  let k := putFn f { getFn m f with hostIdx := idx, planes := (getFn m f).planes ++ ps } m
  putEvt f { getEvt k f with cons := idx.getD 4 0 } k

theorem doorbellDone_unasked {ok : Bool} {d : Doorbell} {planes : List PlaneDesc} (h : fnOn m f = false ∨ ¬ asked m f) :
    doorbellDone f ok d planes m = m := by
  unfold doorbellDone
  refine if_pos ?_
  rcases h with h | h
  · simp [h]
  · simp only [asked, not_or] at h
    simp [h]

theorem doorbellDone_asked {ok : Bool} {d : Doorbell} {planes : List PlaneDesc} (hon : fnOn m f = true) (h : asked m f) :
    ∃ ps, doorbellDone f ok d planes m = fetchAfter f (m.hif.dbWait.contains f)
      (if !ok then ringError f 6 (returned f m)
       else match (List.range 6).find? (fun r => ringOn (returned f m) f r && beyond (returned f m) f r ((dbFields d).getD r 0)) with
        | some r => ringError f r (returned f m)
        | none => fetchBulk f 4096 (mirrorSpace f (backlogWrite f
            (indexed f (indices f d (returned f m)) ps (returned f m))))) := by
  have hgo : (!fnOn m f || !(m.hif.dbWait.contains f || m.hif.kickWait.contains f)) = false := by
    have hwait : (m.hif.dbWait.contains f || m.hif.kickWait.contains f) = true := by
      rw [Bool.or_eq_true, List.contains_iff_mem, List.contains_iff_mem]
      exact h
    rw [hon, hwait]
    rfl
  unfold doorbellDone
  extract_lets poll kicked m0 v m1
  rw [if_neg (ne_true_of_eq_false hgo)]
  exact ⟨_, rfl⟩

theorem touches_returned (f : Nat) (m : Pnm) : Touches [.tel, .hif] [] m (returned f m) := touches_hif m _

theorem touches_indexed (f : Nat) (idx : List Nat) (ps : List (Nat × PlaneDesc)) (m : Pnm) :
    Touches [.tel, .hif] [] m (indexed f idx ps m) := (touches_hif m _).trans (touches_tel _ _)

theorem hostIdx_indexed {idx : List Nat} (ps : List (Nat × PlaneDesc)) (m : Pnm) (r : Nat) :
    hostIdx (indexed f idx ps m) f r = idx.getD r 0 := by
  have hcons : (getEvt (indexed f idx ps m) f).cons = idx.getD 4 0 := by
    unfold indexed getEvt putEvt
    rw [NMap.get_set_same]
  have hidx : (getFn (indexed f idx ps m) f).hostIdx = idx := congrArg FnState.hostIdx (getFn_putFn_same f _ _)
  rw [hostIdx, hcons, hidx]
  split
  next h => rw [h]
  next => rfl

theorem dbWait_indexed (idx : List Nat) (ps : List (Nat × PlaneDesc)) (m : Pnm) :
    (indexed f idx ps (returned f m)).hif.dbWait = m.hif.dbWait.filter (· ≠ f) := rfl

theorem hostIdx_tends (h : Tends kept m n) (r : Nat) : hostIdx n f r = hostIdx m f r := by
  have hidx : (getFn n f).hostIdx = (getFn m f).hostIdx := (congrArg FnState.hostIdx (h.fn f)).trans rfl
  rw [hostIdx, h.cons, hidx, hostIdx]

theorem getD_indices {r : Nat} (hr : r < 6) (d : Doorbell) (m : Pnm) : (indices f d m).getD r 0 =
    if ringOn m f r then hostOf m f r ((dbFields d).getD r 0) else hostIdx m f r := by
  simp [indices, List.getD, hr]

end

section
variable {s : State} {f : Nat} {d : Doorbell} {planes : List PlaneDesc} {c : Instr}

theorem doorbell_moves (hl : s.live) (hc : exec c s = run (whenAlive (onFn f (doorbellDone f true d planes))) s)
    (hf : f ≤ 256) (hon : fnOn s.m f = true) (hw : asked s.m f)
    (hin : ∀ r < 6, ringOn s.m f r = true → beyond s.m f r ((dbFields d).getD r 0) = false) :
    Does c s [.tel, .hif] [] fun n =>
      (∀ r < 6, hostIdx n f r =
        if ringOn s.m f r then hostOf s.m f r ((dbFields d).getD r 0) else hostIdx s.m f r) ∧
      (f ∈ s.m.hif.dbWait → f ∉ n.hif.dbWait) := by
  obtain ⟨ps, hdone⟩ := doorbellDone_asked (ok := true) (d := d) (planes := planes) hon hw
  have hnone : (List.range 6).find? (fun r => ringOn (returned f s.m) f r && beyond (returned f s.m) f r ((dbFields d).getD r 0)) =
      none := by
    refine List.find?_eq_none.mpr fun r hr hbad => ?_
    obtain ⟨hring, hbeyond⟩ := Bool.and_eq_true_iff.mp hbad
    exact Bool.false_ne_true ((hin r (List.mem_range.mp hr) hring).symm.trans hbeyond)
  rw [hnone, if_neg (by decide)] at hdone
  dsimp only at hdone
  have hrest := ((((tends_backlogWrite f (indexed f (indices f d (returned f s.m)) ps (returned f s.m))).trans
    (tends_mirrorSpace f _)).kept.trans (tends_fetchBulk f 4096 _)).trans (tends_fetchAfter f (s.m.hif.dbWait.contains f) _))
  have ht := ((touches_returned f s.m).trans (touches_indexed f (indices f d (returned f s.m)) ps _)).trans hrest.touched
  refine does_al _ hl hc ((if_pos hf).trans hdone) ht.parts ht.regs ⟨fun r hr => ?_, fun _ hmem => ?_⟩
  · exact (hostIdx_tends hrest r).trans ((hostIdx_indexed ps _ r).trans (getD_indices hr d _))
  · rw [hrest.waits, dbWait_indexed] at hmem
    simp at hmem

theorem doorbell_fails (hl : s.live) (hc : exec c s = run (whenAlive (onFn f (doorbellDone f false d planes))) s)
    (hf : f ≤ 256) (hon : fnOn s.m f = true) (hw : asked s.m f) :
    Does c s [.regs, .tel, .hif] (errRegs f) (Stops f 6) := by
  obtain ⟨ps, hdone⟩ := doorbellDone_asked (ok := false) (d := d) (planes := planes) hon hw
  have hafter := tends_fetchAfter f (s.m.hif.dbWait.contains f) (ringError f 6 (returned f s.m))
  have ht := (((touches_returned f s.m).mono (by decide) (List.nil_subset _)).trans (touches_ringError f 6 _)).trans
    (hafter.touched.mono (by decide) (List.nil_subset _))
  exact does_al _ hl hc ((if_pos hf).trans hdone) ht.parts ht.regs ((stopped_ringError f 6 _).tends hafter).stops

end

/-! ## A command descriptor arrives (R344, R345) -/

section
variable {s : State} {f : Nat} {h : CmdHdr} {op : Op} {c : Instr}

theorem fetchDone_fails (hl : s.live) (hc : exec c s = runMem (whenAliveM (onFnM f (fetchDone f false h op))) s) (hf : f ≤ 256)
    (hx : (getFn s.m f).inFetch ≠ 0) : Does c s [.regs, .tel, .hif] (errRegs f) (Stops f 0) := by
  have hdone : fetchDone f false h op (s.m, s.mem) = (ringError f 0 s.m, s.mem) := if_neg hx
  exact does_alM hl hc ((if_pos hf).trans hdone) (touches_ringError f 0 s.m) (stopped_ringError f 0 s.m).stops

theorem fetchDone_none {ok : Bool} (r : PM) (hx : (getFn r.1 f).inFetch = 0) : fetchDone f ok h op r = r := if_pos hx

/-- Where no command of the ring was kicked, none is decided before the acceptance instant. -/
theorem decideKicked_none {fuel : Nat} {r : PM} (hk : ∀ x ∈ (getFn r.1 f).cmds, x.hdr.kick = false) :
    decideKicked f fuel r = r := by
  cases fuel with
  | zero => rfl
  | succ fuel =>
    unfold decideKicked
    cases hcmds : (getFn r.1 f).cmds with
    | nil => simp only [headReady, hcmds]
    | cons x t =>
      have hx : x.hdr.kick = false := hk x (by rw [hcmds]; exact List.mem_cons_self)
      simp only [headReady, hcmds]
      split
      next y hy =>
        have hxy : x = y := by
          split at hy
          · exact Option.some.inj hy
          · cases hy
        rw [← hxy, hx]
        rfl
      next => rfl

/-- The command as it waits in the ring of its function. -/
def waiting (h : CmdHdr) (op : Op) : Fetched := { hdr := h, op := op, ready := true, sent := false, acked := false }

/-- A fetched command takes its place behind those that wait. -/
def joined (f : Nat) (h : CmdHdr) (op : Op) (m : Pnm) : Pnm :=
  putFn f { getFn m f with inFetch := (getFn m f).inFetch - 1, cmds := (getFn m f).cmds ++ [waiting h op] } m

theorem fetchDone_joins {r : PM} (hx : (getFn r.1 f).inFetch ≠ 0) (hm : mirroring r.1 = false) (hk : h.kick = false)
    (hcs : ∀ c ∈ (getFn r.1 f).cmds, c.hdr.kick = false) : fetchDone f true h op r = (joined f h op r.1, r.2) := by
  have hhdr : { h with kick := h.kick && rb r.1 (Reg.fn f 0) 1 } = h := by
    rw [hk, Bool.false_and, ← hk]
  have hneed : needsAck r.1 f (getFn r.1 f).cmds h op = false := by simp [needsAck, hm]
  have hdone : fetchDone f true h op r = decideKicked f ((getFn r.1 f).cmds.length + 1) (joined f h op r.1, r.2) := by
    unfold fetchDone
    extract_lets t h' need x m1 m2
    have hh : h' = h := hhdr
    have hn : need = false := by dsimp only [need]; rw [hh]; exact hneed
    have hj : m1 = joined f h op r.1 := by dsimp only [m1, x]; rw [hh, hn]; rfl
    have hm2 : m2 = m1 := by dsimp only [m2]; rw [hn]; rfl
    rw [if_neg hx, if_neg (by decide), hm2, hj]
  rw [hdone]
  refine decideKicked_none fun y hy => ?_
  have hcmds : (getFn (joined f h op r.1) f).cmds = (getFn r.1 f).cmds ++ [waiting h op] :=
    congrArg FnState.cmds (getFn_putFn_same f _ _)
  rw [hcmds] at hy
  rcases List.mem_append.mp hy with hy | hy
  · exact hcs y hy
  · exact List.mem_singleton.mp hy ▸ hk

theorem fetchDone_takes (hl : s.live) (hc : exec c s = runMem (whenAliveM (onFnM f (fetchDone f true h op))) s) (hf : f ≤ 256)
    (hx : (getFn s.m f).inFetch ≠ 0) (hm : mirroring s.m = false) (hk : h.kick = false)
    (hcs : ∀ c ∈ (getFn s.m f).cmds, c.hdr.kick = false) :
    Does c s [.hif] [] fun n =>
      getFn n f = { getFn s.m f with inFetch := (getFn s.m f).inFetch - 1, cmds := (getFn s.m f).cmds ++ [waiting h op] } ∧
      ∀ j, j ≠ f → getFn n j = getFn s.m j :=
  does_alM hl hc ((if_pos hf).trans (fetchDone_joins hx hm hk hcs)) (touches_hif s.m _)
    ⟨getFn_putFn_same f _ _, fun _ hj => getFn_putFn_ne hj _ _⟩

end

/-! ## Kicks (R350) -/

section
variable {s : State} {f : Nat} {c : Instr}

/-- A kick is taken: the function takes kicks, and the last one was more than 10 µs ago. -/
def takesKick (m : Pnm) (f : Nat) : Prop :=
  fnOn m f = true ∧ rb m (Reg.fn f 0) 1 = true ∧ rb m Reg.HIF_CTRL 0 = true ∧ hifFetches m = true ∧
    ((getFn m f).kickEdge = 0 ∨ (getFn m f).kickEdge + 10 * edgesUs < m.tim.edge)

theorem kick_asks (hw : s.writable) (hc : exec c s = run (whenWr (onFn f (kick f))) s) (hf : f ≤ 256) (ht : takesKick s.m f) :
    Does c s [.tel, .hif] [] fun n =>
      getFn n f = { getFn s.m f with kick := true, kickEdge := s.m.tim.edge } ∧ f ∈ n.hif.kickWait ∧
      n.tel.out = s.m.tel.out ++ [.read f (fnAddr s.m f 0x10) 64] := by
  obtain ⟨hon, hkick, hctrl, hfetch, hedge⟩ := ht
  have hkick : kick f s.m = emit { putFn f { getFn s.m f with kick := true, kickEdge := s.m.tim.edge } s.m with
      hif := { (putFn f { getFn s.m f with kick := true, kickEdge := s.m.tim.edge } s.m).hif with
        kickWait := s.m.hif.kickWait.filter (· ≠ f) ++ [f] } } [.read f (fnAddr s.m f 0x10) 64] := by
    unfold kick
    rw [if_neg (by simp [hon, hkick, hctrl, hfetch]), if_neg (by omega)]
  exact does_wr _ hw hc ((if_pos hf).trans hkick)
    (((keeps_hif (by simp) s.m _).trans (keeps_hif (by simp) _ _)).trans (touches_emit (os := []) _ _).parts) (.of_regs rfl)
    ⟨getFn_putFn_same f _ s.m, List.mem_append_right _ (List.mem_singleton.mpr rfl), rfl⟩

theorem kick_untaken {m : Pnm} (h : ¬ takesKick m f) : kick f m = m := by
  unfold kick
  extract_lets x
  split
  next => rfl
  next hgo =>
    refine if_pos ?_
    simp only [Bool.or_eq_true, Bool.not_eq_true', not_or, Bool.not_eq_false] at hgo
    obtain ⟨⟨⟨hon, hkick⟩, hctrl⟩, hfetch⟩ := hgo
    have hedge : ¬ (x.kickEdge = 0 ∨ x.kickEdge + 10 * edgesUs < m.tim.edge) := fun he =>
      h ⟨hon, hkick, hctrl, hfetch, he⟩
    omega

end

/-! ## EN is written (R344) -/

section
variable {s : State} {m : Pnm} {f : Nat} {c : Instr} {kickEn : Bool}

/-- The function with every index at 0. -/
def fresh (x : FnState) : FnState :=
  { x with hostIdx := List.replicate 6 0, modIdx := List.replicate 6 0, fetchedIdx := 0, bulkIdx := 0,
           errRing := none, marked := [], missing := false, reportDue := false }

/-- The rings are enabled, before what waited for them is written. -/
def enabled (f : Nat) (kickEn : Bool) (m : Pnm) : Pnm :=
  let k := putFn f (fresh (getFn m f)) (wr m (Reg.fn f 0) (loW (1 + 2 * b2n kickEn)))
  raiseIf (getFn m f).reportDue
    { src := 9, code := 0x1A, cls := 1, items := [m.hif.epoch % 65536, (getFn m f).reaccept.length], fns := evtOf f }
    (putEvt f { getEvt k f with prod := 0, cons := 0 } k)

/-- The report of the first enabling has its vector. -/
def reported (f : Nat) (due : Bool) (m : Pnm) : Pnm := if due then vecDue f 5 m else m

theorem fnEnable_enables (hv : vfState m f = .inService) (hoff : fnOn m f = false) (hok : enableCheck m f = 0) :
    fnEnable f kickEn m = backlogWrite f (reported f (getFn m f).reportDue (enabled f kickEn m)) := by
  unfold fnEnable
  rw [if_neg (not_not.mpr hv), if_neg (ne_true_of_eq_false hoff)]
  exact if_neg (not_not.mpr hok)

theorem fnEnable_refused (hv : vfState m f = .inService) (hoff : fnOn m f = false) (hbad : enableCheck m f ≠ 0) :
    fnEnable f kickEn m = fnErr f (enableCheck m f) (wf m (Reg.fn f 0) 1 1 (b2n kickEn)) := by
  unfold fnEnable
  rw [if_neg (not_not.mpr hv), if_neg (ne_true_of_eq_false hoff)]
  exact if_pos hbad

theorem fnEnable_enabled (hv : vfState m f = .inService) (hon : fnOn m f = true) (hk : kickEn = rb m (Reg.fn f 0) 1) :
    fnEnable f kickEn m = m := by
  unfold fnEnable
  rw [if_neg (not_not.mpr hv), if_pos hon, if_pos hk]

theorem fnDisable_disables (hv : vfState m f = .inService) (hon : fnOn m f = true) :
    fnDisable f kickEn m = wf (stopRings f m) (Reg.fn f 0) 1 1 (b2n kickEn) := by
  unfold fnDisable
  rw [if_neg (not_not.mpr hv), if_pos hon]

theorem enableCheck_lt (m : Pnm) (f : Nat) : enableCheck m f < 256 := by
  unfold enableCheck
  extract_lets
  repeat' split
  all_goals decide

theorem touches_enabled (f : Nat) (kickEn : Bool) (m : Pnm) :
    Touches [.regs, .tel, .hif] [Reg.fn f 0] m (enabled f kickEn m) :=
  (((touches_set m (Reg.fn f 0) _).trans (touches_hif _ _)).trans (touches_tel _ _)).trans (touches_tel _ _)

theorem getFn_enabled (f : Nat) (kickEn : Bool) (m : Pnm) : getFn (enabled f kickEn m) f = fresh (getFn m f) :=
  getFn_putFn_same f _ _

theorem rd_enabled (f : Nat) (kickEn : Bool) (m : Pnm) :
    rd (enabled f kickEn m) (Reg.fn f 0) = loW (1 + 2 * b2n kickEn) := rd_wr_same m (Reg.fn f 0) _

theorem getFn_reported (f : Nat) (due : Bool) (m : Pnm) :
    (getFn (reported f due m) f).backlog = (getFn m f).backlog ∧ (getFn (reported f due m) f).modIdx = (getFn m f).modIdx := by
  cases due with
  | false => exact ⟨rfl, rfl⟩
  | true =>
    have hfn : getFn (reported f true m) f = _ := getFn_putFn_same f _ _
    rw [hfn]
    dsimp only
    split <;> exact ⟨rfl, rfl⟩

theorem tends_reported (f : Nat) (due : Bool) (m : Pnm) : Tends coreOf m (reported f due m) :=
  .ite (tends_vecDue ..) (.refl coreOf m)

theorem backlogWrite_nil (h : (getFn m f).backlog = []) : backlogWrite f m = m := by
  unfold backlogWrite
  split
  · exact if_pos h
  · rfl

theorem fnEnable_starts (hw : s.writable) (hc : exec c s = run (whenWr (onFn f (fnEnable f kickEn))) s) (hf : f ≤ 256)
    (hv : vfState s.m f = .inService) (hoff : fnOn s.m f = false) (hok : enableCheck s.m f = 0) :
    Does c s [.regs, .tel, .hif] [Reg.fn f 0] fun n =>
      rd n (Reg.fn f 0) = loW (1 + 2 * b2n kickEn) ∧ (getFn n f).hostIdx = List.replicate 6 0 ∧
      (getFn n f).fetchedIdx = 0 ∧ (getFn n f).errRing = none ∧ (getFn n f).accSeq = (getFn s.m f).accSeq ∧
      ((getFn s.m f).backlog = [] → (getFn n f).modIdx = List.replicate 6 0) := by
  have hdone := fnEnable_enables (kickEn := kickEn) hv hoff hok
  have hen := touches_enabled f kickEn s.m
  have hfn := getFn_enabled f kickEn s.m
  have hrd := rd_enabled f kickEn s.m
  generalize enabled f kickEn s.m = k at hdone hen hfn hrd
  have hrep := getFn_reported f (getFn s.m f).reportDue k
  have hrest := (tends_reported f (getFn s.m f).reportDue k).trans (tends_backlogWrite f _)
  have hcore : coreOf (getFn (backlogWrite f (reported f (getFn s.m f).reportDue k)) f) = coreOf (fresh (getFn s.m f)) := by
    rw [hrest.fn f, hfn]
  have ht := hen.trans (hrest.touched.mono (by decide) (List.nil_subset _))
  refine does_wr _ hw hc ((if_pos hf).trans hdone) ht.parts ht.regs ⟨(hrest.rd _).trans hrd,
    (congrArg FnState.hostIdx hcore).trans rfl, (congrArg FnState.fetchedIdx hcore).trans rfl,
    (congrArg FnState.errRing hcore).trans rfl, (congrArg FnState.accSeq hcore).trans rfl, fun hb => ?_⟩
  rw [backlogWrite_nil (by rw [hrep.1, hfn]; exact hb), hrep.2, hfn]
  rfl

theorem fnEnable_rejects (hw : s.writable) (hc : exec c s = run (whenWr (onFn f (fnEnable f kickEn))) s) (hf : f ≤ 256)
    (hv : vfState s.m f = .inService) (hoff : fnOn s.m f = false) (hbad : enableCheck s.m f ≠ 0) :
    Does c s [.regs] [Reg.fn f 0, Reg.fn f 8, Reg.fn f 0xC] fun n =>
      fnOn n f = false ∧ rb n (Reg.fn f 8) 0 = true ∧ rf n (Reg.fn f 0xC) 7 0 = enableCheck s.m f := by
  have ht : Touches [.regs] [Reg.fn f 0, Reg.fn f 8, Reg.fn f 0xC] s.m
      (fnErr f (enableCheck s.m f) (wf s.m (Reg.fn f 0) 1 1 (b2n kickEn))) :=
    ((touches_wf s.m (Reg.fn f 0) 1 1 _).trans (touches_wf _ (Reg.fn f 0xC) 7 0 _)).trans (touches_sb _ (Reg.fn f 8) 0)
  refine does_wr _ hw hc ((if_pos hf).trans (fnEnable_refused hv hoff hbad)) ht.parts ht.regs
    ⟨?_, rb_sb_same _ (Reg.fn f 8) 0 (by decide), ?_⟩
  · exact ((rb_wr_ne (fn_ne f) _ 0).trans (rb_wr_ne (fn_ne f) _ 0)).trans ((rb_wf_apart s.m (Reg.fn f 0) 1 1 _ 0).trans hoff)
  · exact (rf_congr (rd_wr_ne _ _ _ (fn_ne f)) 7 0).trans
      ((rf_wf_same _ (Reg.fn f 0xC) 7 0 _ (by decide)).trans (Nat.mod_eq_of_lt (enableCheck_lt s.m f)))

theorem fnDisable_stops (hw : s.writable) (hc : exec c s = run (whenWr (onFn f (fnDisable f kickEn))) s) (hf : f ≤ 256)
    (hv : vfState s.m f = .inService) (hon : fnOn s.m f = true) :
    Does c s [.regs, .hif] [Reg.fn f 0] fun n =>
      fnOn n f = false ∧ rb n (Reg.fn f 0) 1 = kickEn ∧ (getFn n f).cmds = [] ∧ (getFn n f).inFetch = 0 ∧
      (getFn n f).bulks = [] ∧ (getFn n f).accSeq = (getFn s.m f).accSeq ∧ (getFn n f).pendSet = (getFn s.m f).pendSet := by
  have ht := (touches_stopRings f s.m).trans (touches_wf (stopRings f s.m) (Reg.fn f 0) 1 1 (b2n kickEn))
  have hfn : getFn (wf (stopRings f s.m) (Reg.fn f 0) 1 1 (b2n kickEn)) f = halted (getFn s.m f) := getFn_stopRings f s.m
  refine does_wr _ hw hc ((if_pos hf).trans (fnDisable_disables hv hon)) ht.parts ht.regs
    ⟨(rb_wf_apart _ (Reg.fn f 0) 1 1 _ 0).trans (fnOn_stopRings f s.m), rb_wf_bit _ (Reg.fn f 0) 1 kickEn, ?_⟩
  rw [hfn]
  exact ⟨rfl, rfl, rfl, rfl, rfl⟩

theorem nothing_fnEnable (hc : exec c s = run (whenWr (onFn f (fnEnable f kickEn))) s) (hv : vfState s.m f ≠ .inService) :
    DoesNothing c s := by
  refine nothing_wr _ hc ?_
  unfold onFn
  split
  · exact if_pos hv
  · rfl

theorem nothing_fnDisable (hc : exec c s = run (whenWr (onFn f (fnDisable f kickEn))) s) (hv : vfState s.m f ≠ .inService) :
    DoesNothing c s := by
  refine nothing_wr _ hc ?_
  unfold onFn
  split
  · exact if_pos hv
  · rfl

end

end Rings

open Rings in
/-- Settles O42: it holds. Every service of the rings keeps what it does not name of every function. -/
theorem ringsAreEnabledAndServed : Obligations.RingsAreEnabledAndServed := by
  intro s fn hf
  refine ⟨fun d planes => ⟨fun hl hon hw hin => ?_, fun hl hon hw => doorbell_fails hl rfl hf hon hw, fun ok h => ?_⟩,
    fun h op => ⟨fun hl hx ok => ?_, fun hl hx => fetchDone_fails hl rfl hf hx,
      fun hl hx hm hk hcs => fetchDone_takes hl rfl hf hx hm hk hcs⟩,
    fun hw => ⟨fun ht => kick_asks hw rfl hf ht, fun ht => nothing_wr _ rfl ((if_pos hf).trans (kick_untaken ht))⟩,
    fun kickEn hw hv => ⟨fnEnable_starts hw rfl hf hv, fnEnable_rejects hw rfl hf hv,
      fun hon hk => nothing_wr _ rfl ((if_pos hf).trans (fnEnable_enabled hv hon hk)), fnDisable_stops hw rfl hf hv⟩,
    fun kickEn _ hv => ⟨nothing_fnEnable rfl hv, nothing_fnDisable rfl hv⟩⟩
  · exact doorbell_moves hl rfl hf hon hw hin
  · by_cases hl : s.live
    · exact nothing_al _ rfl ((if_pos hf).trans (doorbellDone_unasked (h.resolve_left (not_not.mpr hl))))
    · exact nothing_run rfl (if_neg hl)
  · exact nothing_alM rfl ((if_pos hf).trans (fetchDone_none _ hx))

end Machine
end Sys2Proof
end

section
/-! PROOFS. Bulk descriptors and the bulk arbiter (R356, R386, R390, R391, R393). -/

namespace Sys2Proof
namespace Machine
namespace Bulks
open Leapfrog Commands Rings

section
variable {m n : Pnm} {f q : Nat} {b : Bulk}

/-! ## The head of a bulk ring (R356) -/

theorem tends_putArb (φ : FnState → FnState) (q : Nat) (a : ArbReq) (m : Pnm) : Tends φ m (putArb q a m) := tends_hif φ m _

theorem tends_arbNote (φ : FnState → FnState) (q : Nat) (m : Pnm) : Tends φ m (arbNote q m) :=
  .ite (tends_putArb φ q _ m) (.refl φ m)

theorem touches_arbNote (q : Nat) (m : Pnm) : Touches [.hif] [] m (arbNote q m) := .ite (touches_hif m _) (.refl _ _ m)

theorem getFn_arbNote (q : Nat) (m : Pnm) (g : Nat) : getFn (arbNote q m) g = getFn m g := (tends_arbNote id q m).fn g

theorem bulks_congr {φ : FnState → FnState} (h : φ (getFn n f) = φ (getFn m f)) (hφ : ∀ x, (φ x).bulks = x.bulks) :
    (getFn n f).bulks = (getFn m f).bulks := by rw [← hφ, h, hφ]

theorem bulks_tends (h : Tends coreOf m n) (f : Nat) : (getFn n f).bulks = (getFn m f).bulks :=
  bulks_congr (h.fn f) fun _ => rfl

/-- The function without bulk descriptors. -/
def unloaded (f : Nat) (m : Pnm) : Pnm := putFn f { getFn m f with bulks := [] } m

theorem bulks_unloaded (f : Nat) (m : Pnm) : (getFn (unloaded f m) f).bulks = [] :=
  congrArg FnState.bulks (getFn_putFn_same f _ m)

theorem tends_bulkDone (h : (getFn m f).bulks = [b]) (status done : Nat) :
    Tends coreOf (unloaded f m) (bulkDone f status done m) := by
  have hone : bulkDone f status done m = bulkCpl f b status done (unloaded f m) := by
    unfold bulkDone unloaded
    simp only [h]
  rw [hone]
  exact tends_cplWrite ..

theorem bulks_bulkDone (h : (getFn m f).bulks = [b]) (status done : Nat) : (getFn (bulkDone f status done m) f).bulks = [] :=
  (bulks_tends (tends_bulkDone h status done) f).trans (bulks_unloaded f m)

theorem touches_bulkDone (h : (getFn m f).bulks = [b]) (status done : Nat) :
    Touches [.tel, .hif] [] m (bulkDone f status done m) :=
  (touches_hif m _).trans (tends_bulkDone h status done).touched

theorem bulkPump_nil (h : (getFn m f).bulks = []) (k : Nat) : bulkPump f (k + 1) m = arbNote f m := by
  simp only [bulkPump, h]

/-- A descriptor that needs a transfer waits at the head. -/
theorem bulkPump_waits (h : (getFn m f).bulks = [b]) (hst : b.status = 0xFF) (hop : b.op ≠ 3) (k : Nat) :
    bulkPump f (k + 1) m = arbNote f m := by
  simp only [bulkPump, h]
  rw [if_neg (by omega), if_neg hop]

/-- A refused descriptor completes. -/
theorem bulkPump_refused (h : (getFn m f).bulks = [b]) (hst : b.status < 0xFE) (k : Nat) :
    bulkPump f (k + 2) m = arbNote f (bulkDone f b.status (nowNs m) m) := by
  rw [bulkPump]
  simp only [h]
  rw [if_pos hst]
  exact bulkPump_nil (bulks_bulkDone h _ _) k

/-- A receive buffer joins those that are posted. -/
def posted (f : Nat) (b : Bulk) (m : Pnm) : Pnm :=
  { unloaded f m with hif := { (unloaded f m).hif with rxPosts := (unloaded f m).hif.rxPosts ++ [b] } }

theorem bulkPump_posted (h : (getFn m f).bulks = [b]) (hst : b.status = 0xFF) (hop : b.op = 3) (k : Nat) :
    bulkPump f (k + 2) m = arbNote f (posted f b m) := by
  have hnil : (getFn (posted f b m) f).bulks = [] := bulks_unloaded f m
  rw [bulkPump]
  simp only [h]
  rw [if_neg (by omega), if_pos hop]
  exact bulkPump_nil hnil k

/-! ## A descriptor arrives (R356) -/

/-- A descriptor of f was asked for. -/
def asked (m : Pnm) (f : Nat) : Prop := ringOn m f 1 = true ∧ (getFn m f).modIdx.getD 1 0 < (getFn m f).bulkIdx

/-- The descriptor is the only one of its ring. -/
def placed (f : Nat) (b : Bulk) (m : Pnm) : Pnm :=
  putFn f { getFn m f with modIdx := setAt (getFn m f).modIdx 1 ((getFn m f).modIdx.getD 1 0 + 1), bulks := [b], changed := true } m

theorem bulks_placed (f : Nat) (b : Bulk) (m : Pnm) : (getFn (placed f b m) f).bulks = [b] :=
  congrArg FnState.bulks (getFn_putFn_same f _ m)

theorem bulkArrive_asked (hb : (getFn m f).bulks = []) (h : asked m f) : bulkArrive f b m = bulkPump f 2 (placed f b m) := by
  have hplace : bulkArrive f b m = bulkPump f ((getFn (placed f b m) f).bulks.length + 1) (placed f b m) := by
    unfold bulkArrive
    extract_lets x m1
    have hm1 : m1 = placed f b m := by
      dsimp only [m1, x]
      rw [hb]
      rfl
    rw [if_pos (show ringOn m f 1 = true ∧ x.modIdx.getD 1 0 < x.bulkIdx from h), hm1]
  rw [hplace, bulks_placed]
  rfl

theorem bulkArrive_unasked (h : ¬ asked m f) : bulkArrive f b m = m := if_neg h

end

section
variable {s : State} {f : Nat} {b : Bulk} {c : Instr} {u : Pnm → Pnm}

/-- A descriptor that passes its checks takes its place in the ring. -/
theorem arrival_joins {P : Bulk → Prop} (hl : s.live) (hc : exec c s = run (whenAlive (onFn f u)) s) (hf : f ≤ 256)
    (hb : (getFn s.m f).bulks = []) (ha : asked s.m f) (hu : u s.m = bulkArrive f b s.m) (hst : b.status = 0xFF)
    (hop : b.op ≠ 3) (hmoved : b.moved = 0) (hP : P b) :
    Does c s [.hif] [] fun n => ∃ b : Bulk, (getFn n f).bulks = [b] ∧ b.moved = 0 ∧ P b := by
  have hplaced := bulks_placed f b s.m
  have hdone : u s.m = arbNote f (placed f b s.m) :=
    hu.trans ((bulkArrive_asked hb ha).trans (bulkPump_waits hplaced hst hop 1))
  have ht : Touches [.hif] [] s.m (arbNote f (placed f b s.m)) := (touches_hif s.m _).trans (touches_arbNote f _)
  exact does_al _ hl hc ((if_pos hf).trans hdone) ht.parts ht.regs
    ⟨b, by rw [getFn_arbNote]; exact hplaced, hmoved, hP⟩

/-- One that fails completes at once. -/
theorem arrival_refused (hl : s.live) (hc : exec c s = run (whenAlive (onFn f u)) s) (hf : f ≤ 256)
    (hb : (getFn s.m f).bulks = []) (ha : asked s.m f) (hu : u s.m = bulkArrive f b s.m) (hst : b.status < 0xFE) :
    Does c s [.tel, .hif] [] fun n => (getFn n f).bulks = [] ∧ n.hif.rxPosts = s.m.hif.rxPosts := by
  have hplaced := bulks_placed f b s.m
  have hdone : u s.m = arbNote f (bulkDone f b.status (nowNs (placed f b s.m)) (placed f b s.m)) :=
    hu.trans ((bulkArrive_asked hb ha).trans (bulkPump_refused hplaced hst 0))
  have hnil := bulks_bulkDone hplaced b.status (nowNs (placed f b s.m))
  have hcpl := tends_bulkDone hplaced b.status (nowNs (placed f b s.m))
  have ht : Touches [.tel, .hif] [] s.m (bulkDone f b.status (nowNs (placed f b s.m)) (placed f b s.m)) :=
    (touches_hif s.m _).trans (touches_bulkDone hplaced _ _)
  generalize bulkDone f b.status (nowNs (placed f b s.m)) (placed f b s.m) = k at hdone hnil hcpl ht
  have hnote := tends_arbNote coreOf f k
  have hall := ht.trans hnote.touched
  exact does_al _ hl hc ((if_pos hf).trans hdone) hall.parts hall.regs
    ⟨(bulks_tends hnote f).trans hnil, hnote.posts.trans hcpl.posts⟩

/-- A receive buffer that passes its checks is posted. -/
theorem arrival_posts {P : Bulk → Prop} (hl : s.live) (hc : exec c s = run (whenAlive (onFn f u)) s) (hf : f ≤ 256)
    (hb : (getFn s.m f).bulks = []) (ha : asked s.m f) (hu : u s.m = bulkArrive f b s.m) (hst : b.status = 0xFF)
    (hop : b.op = 3) (hP : P b) :
    Does c s [.hif] [] fun n => (getFn n f).bulks = [] ∧ ∃ b : Bulk, n.hif.rxPosts = s.m.hif.rxPosts ++ [b] ∧ P b := by
  have hdone : u s.m = arbNote f (posted f b (placed f b s.m)) :=
    hu.trans ((bulkArrive_asked hb ha).trans (bulkPump_posted (bulks_placed f b s.m) hst hop 0))
  have hnote := tends_arbNote coreOf f (posted f b (placed f b s.m))
  have ht : Touches [.hif] [] s.m (arbNote f (posted f b (placed f b s.m))) :=
    (((touches_hif s.m _).trans (touches_hif _ _)).trans (touches_hif _ _)).trans (touches_arbNote f _)
  exact does_al _ hl hc ((if_pos hf).trans hdone) ht.parts ht.regs
    ⟨(bulks_tends hnote f).trans (bulks_unloaded f (placed f b s.m)), b, hnote.posts, hP⟩

theorem arrival_unasked (hc : exec c s = run (whenAlive (onFn f u)) s) (ha : ¬ asked s.m f) (hu : u s.m = bulkArrive f b s.m) :
    DoesNothing c s := by
  refine nothing_al _ hc ?_
  unfold onFn
  split
  · exact hu.trans (bulkArrive_unasked ha)
  · rfl

end

/-! ## The checks of each descriptor (R356, R386) -/

section
variable {s : State} {f : Nat} {c : Instr}

/-- The status of the checks of a BULK_READ descriptor. -/
def readStatus (m : Pnm) (f op addr len : Nat) : Nat :=
  if op ≠ 1 then 0x13 else if len = 0 then 1 else if 64 * 2 ^ 20 < len then 0x14
  else if mayRead m f addr len then 0xFF else 0x16

/-- The status of the checks of a FRAME_TX descriptor. -/
def txStatus (m : Pnm) (f port len : Nat) : Nat :=
  if f ≠ 0 then 0x13 else if len = 0 then 1 else if 10 < port ∨ portEn m port = false then 0x14
  else if len < 60 ∨ rf m (pr Reg.MAC_PORT_CFG port) 27 16 - 4 < len then 0x14 else 0xFF

/-- The status of the checks of an RX_POST descriptor. -/
def postStatus (f len : Nat) : Nat :=
  if f ≠ 0 then 0x13 else if len = 0 then 1 else if len < 64 ∨ 4096 < len then 0x14 else 0xFF

theorem bulkRead_arrives {m : Pnm} {op : Nat} (h : op ≠ 2 ∧ op ≠ 3) (tag host addr len : Nat) :
    bulkRead f op tag host addr len m =
      bulkArrive f (bulkNew m op tag 0 0 false host addr len [] (readStatus m f op addr len)) m :=
  if_neg (not_or.mpr h)

theorem frameTx_arrives (m : Pnm) (tag port pcp : Nat) (ts : Bool) (len : Nat) (data : List Byte) :
    frameTx f tag port pcp ts len data m =
      bulkArrive f (bulkNew m 2 tag port pcp ts 0 0 len (data.take len) (txStatus m f port len)) m := rfl

theorem rxPost_arrives (m : Pnm) (tag host len : Nat) :
    rxPost f tag host len m = bulkArrive f (bulkNew m 3 tag 0 0 false host 0 len [] (postStatus f len)) m := rfl

theorem readStatus_good {m : Pnm} {op addr len : Nat}
    (h : op = 1 ∧ len ≠ 0 ∧ len ≤ 64 * 2 ^ 20 ∧ mayRead m f addr len = true) : readStatus m f op addr len = 0xFF := by
  obtain ⟨hop, hlen, hmax, hmay⟩ := h
  rw [readStatus, if_neg (not_not.mpr hop), if_neg hlen, if_neg (Nat.not_lt.mpr hmax), if_pos hmay]

theorem readStatus_bad {m : Pnm} {op addr len : Nat}
    (h : ¬ (op = 1 ∧ len ≠ 0 ∧ len ≤ 64 * 2 ^ 20 ∧ mayRead m f addr len = true)) : readStatus m f op addr len < 0xFE := by
  unfold readStatus
  repeat' split
  case isFalse.isFalse.isFalse.isTrue hop hlen hmax hmay =>
    exact absurd ⟨not_not.mp hop, hlen, Nat.not_lt.mp hmax, hmay⟩ h
  all_goals decide

/-- What a FRAME_TX descriptor has to meet. -/
def txGood (m : Pnm) (f port len : Nat) : Prop :=
  f = 0 ∧ 60 ≤ len ∧ len ≤ rf m (Reg.port Reg.MAC_PORT_CFG port) 27 16 - 4 ∧ port ≤ 10 ∧ portEn m port = true

theorem txStatus_good {m : Pnm} {port len : Nat} (h : txGood m f port len) : txStatus m f port len = 0xFF := by
  obtain ⟨hf, hmin, hmax, hport, hen⟩ := h
  rw [txStatus, if_neg (not_not.mpr hf), if_neg (by omega), if_neg (by simp [hport, hen]),
    if_neg (show ¬ (len < 60 ∨ rf m (pr Reg.MAC_PORT_CFG port) 27 16 - 4 < len) from
      not_or.mpr ⟨Nat.not_lt.mpr hmin, Nat.not_lt.mpr hmax⟩)]

theorem txStatus_bad {m : Pnm} {port len : Nat} (h : ¬ txGood m f port len) : txStatus m f port len < 0xFE := by
  unfold txStatus
  repeat' split
  case isFalse.isFalse.isFalse.isFalse hf hlen hport hfit =>
    rw [not_or, Nat.not_lt] at hport
    rw [not_or, Nat.not_lt, Nat.not_lt] at hfit
    exact absurd ⟨not_not.mp hf, hfit.1, hfit.2, hport.1, Bool.eq_true_of_not_eq_false hport.2⟩ h
  all_goals decide

theorem postStatus_good {len : Nat} (h : f = 0 ∧ 64 ≤ len ∧ len ≤ 4096) : postStatus f len = 0xFF := by
  obtain ⟨hf, hmin, hmax⟩ := h
  rw [postStatus, if_neg (not_not.mpr hf), if_neg (by omega), if_neg (by omega)]

theorem postStatus_bad {len : Nat} (h : ¬ (f = 0 ∧ 64 ≤ len ∧ len ≤ 4096)) : postStatus f len < 0xFE := by
  unfold postStatus
  repeat' split
  case isFalse.isFalse.isFalse hf hlen hfit => omega
  all_goals decide

/-! ## Transfers end (R386, R390) -/

theorem transferDone_none {q : Nat} {r : PM} (h : ∀ y ∈ r.1.hif.inFlight, y.1 ≠ q) : transferDone q r = r := by
  have hnone : ∀ l : List (Nat × Nat × Nat), (∀ y ∈ l, y.1 ≠ q) → (takeFlight q l).1 = none := by
    intro l hl
    induction l with
    | nil => rfl
    | cons x t ih =>
      rw [takeFlight, if_neg (hl x List.mem_cons_self)]
      exact ih fun y hy => hl y (List.mem_cons_of_mem _ hy)
  unfold transferDone
  simp only [hnone _ h]

/-- The oldest transfer is no longer in flight. -/
def landed (t : List (Nat × Nat × Nat)) (m : Pnm) : Pnm := { m with hif := { m.hif with inFlight := t } }

theorem transferDone_first {q k : Nat} {t : List (Nat × Nat × Nat)} {r : PM} (h : r.1.hif.inFlight = (q, 0, k) :: t) :
    transferDone q r =
      if q ≤ 256 then onM (arbNote q) (headMoved q k (landed t r.1, r.2))
      else if q = 257 then (imageLoaded (landed t r.1), r.2)
      else if q < 266 then (scanMoved (q - 258) k (landed t r.1), r.2)
      else (diagMoved k (landed t r.1), r.2) := by
  have hfirst : takeFlight q r.1.hif.inFlight = (some (0, k), t) := by rw [h]; exact if_pos rfl
  unfold transferDone
  simp only [hfirst, zero_ne_one, if_false]
  rfl

theorem flying_of_none {m : Pnm} {q : Nat} (h : ∀ y ∈ m.hif.inFlight, y.1 ≠ q) : flying m q = 0 := by
  have hnil : m.hif.inFlight.filter (fun x => decide (x.1 = q ∧ x.2.1 = 0)) = [] :=
    List.filter_eq_nil_iff.mpr fun y hy hyq => h y hy (of_decide_eq_true hyq).1
  rw [flying, hnil]
  rfl

end

section
variable {s : State} {q k : Nat} {t : List (Nat × Nat × Nat)} {c : Instr}

theorem does_glbM {n : Pnm} {u : PM → PM} {ps : List Part} {os : List Nat} {P : Pnm → Prop} (hg : s.glbLive)
    (hc : exec c s = runMem (whenGlbM u) s) (hu : u (s.m, s.mem) = (n, s.mem)) (ht : Touches ps os s.m n) (hp : P n) :
    Does c s ps os P := by
  have hon : whenGlbM u (s.m, s.mem) = (n, s.mem) := (if_pos hg).trans hu
  exact ⟨n, by rw [hc, runMem, hon], ht.parts, ht.regs, hp⟩

theorem nothing_transferDone (hc : exec c s = runMem (whenGlbM (transferDone q)) s) (hg : s.glbLive)
    (h : ∀ y ∈ s.m.hif.inFlight, y.1 ≠ q) : DoesNothing c s := by
  have hon : whenGlbM (transferDone q) (s.m, s.mem) = (s.m, s.mem) := (if_pos hg).trans (transferDone_none h)
  rw [DoesNothing, hc, runMem, hon]

/-- The last transfer of an image begins its verification (R258). -/
theorem transferDone_image (hg : s.glbLive) (hc : exec c s = runMem (whenGlbM (transferDone q)) s)
    (hq : s.m.hif.inFlight = (q, 0, k) :: t) (h257 : q = 257) :
    Does c s [.regs, .hif] [Reg.CYE_LF_STAT] fun n =>
      n.hif = { s.m.hif with inFlight := t } ∧
      (lfPhase s.m = 1 → (getArb s.m 257).pending = 0 → (∀ y ∈ t, y.1 ≠ 257) → lfPhase n = 2) := by
  subst h257
  have hdone : transferDone 257 (s.m, s.mem) = (imageLoaded (landed t s.m), s.mem) :=
    (transferDone_first hq).trans ((if_neg (by decide)).trans (if_pos rfl))
  have hland : Touches [.regs, .hif] [Reg.CYE_LF_STAT] s.m (landed t s.m) := touches_hif s.m _
  by_cases h : lfPhase (landed t s.m) = 1 ∧ (getArb (landed t s.m) 257).pending = 0 ∧ flying (landed t s.m) 257 = 0
  · have hload : imageLoaded (landed t s.m) = setPhase 2 (landed t s.m) := if_pos h
    rw [hload] at hdone
    exact does_glbM hg hc hdone (hland.trans (touches_wf _ Reg.CYE_LF_STAT 2 0 2))
      ⟨rfl, fun _ _ _ => rf_wf_same _ Reg.CYE_LF_STAT 2 0 2 (by decide)⟩
  · have hload : imageLoaded (landed t s.m) = landed t s.m := if_neg h
    rw [hload] at hdone
    exact does_glbM hg hc hdone hland
      ⟨rfl, fun hph hpend hnone => absurd ⟨hph, hpend, flying_of_none (m := landed t s.m) hnone⟩ h⟩

theorem transferDone_scan (hg : s.glbLive) (hc : exec c s = runMem (whenGlbM (transferDone q)) s)
    (hq : s.m.hif.inFlight = (q, 0, k) :: t) (hlo : 258 ≤ q) (hhi : q < 266) :
    Does c s [.scans, .hif] [] fun n =>
      n.hif = { s.m.hif with inFlight := t } ∧
      n.scans = s.m.scans.map fun z => if z.ch = q - 258 then { z with left := z.left - k } else z := by
  have hdone : transferDone q (s.m, s.mem) = (scanMoved (q - 258) k (landed t s.m), s.mem) := by
    rw [transferDone_first hq, if_neg (by omega), if_neg (by omega), if_pos hhi]
  exact does_glbM hg hc hdone ((touches_hif s.m _).trans (touches_scans (landed t s.m) _)) ⟨rfl, rfl⟩

theorem transferDone_diagnostics (hg : s.glbLive) (hc : exec c s = runMem (whenGlbM (transferDone q)) s)
    (hq : s.m.hif.inFlight = (q, 0, k) :: t) (hlo : 266 ≤ q) :
    Does c s [.tel, .hif] [] fun n =>
      n.hif = { s.m.hif with inFlight := t } ∧
      ∀ (r : JRead) (rest : List JRead), s.m.tel.jnl.reads = r :: rest →
        n.tel.jnl.reads = { r with left := r.left - min k r.left } :: rest := by
  have hdone : transferDone q (s.m, s.mem) = (diagMoved k (landed t s.m), s.mem) := by
    rw [transferDone_first hq, if_neg (by omega), if_neg (by omega), if_neg (by omega)]
  refine does_glbM hg hc hdone ((touches_hif s.m _).trans (touches_tel (landed t s.m) _)) ⟨rfl, fun r rest hr => ?_⟩
  have hland : (landed t s.m).tel.jnl.reads = r :: rest := hr
  unfold diagMoved
  dsimp only
  rw [hland]

end

/-! ## A read moves its bytes (R386) -/

section
variable {m : Pnm} {s : State} {f k : Nat} {b : Bulk} {t : List (Nat × Nat × Nat)} {c : Instr}

/-- The bytes of a transfer go to the host. -/
def delivered (f k : Nat) (b : Bulk) (mem : Memory) (m : Pnm) : Pnm :=
  emit (putFn f { getFn m f with bulks := [{ b with moved := b.moved + k }] } m)
    [.writeBytes f (b.hostAddr + b.moved) (Memory.readBytes mem (b.modAddr + b.moved) k)]

theorem bulks_delivered (f k : Nat) (b : Bulk) (mem : Memory) (m : Pnm) :
    (getFn (delivered f k b mem m) f).bulks = [{ b with moved := b.moved + k }] :=
  congrArg FnState.bulks (getFn_putFn_same f _ m)

theorem touches_delivered (f k : Nat) (b : Bulk) (mem : Memory) (m : Pnm) :
    Touches [.tel, .hif] [] m (delivered f k b mem m) := (touches_hif m _).trans (touches_emit _ _)

theorem emitted_delivered (f k : Nat) (b : Bulk) (mem : Memory) (m : Pnm) :
    Emit.writeBytes f (b.hostAddr + b.moved) (Memory.readBytes mem (b.modAddr + b.moved) k) ∈
      (delivered f k b mem m).tel.out := List.mem_append_right _ (List.mem_singleton.mpr rfl)

/-- A descriptor that has ended leaves the ring, and its bytes stay handed out. -/
def completed (f status now : Nat) (m : Pnm) : Pnm := bulkPump f 1 (bulkDone f status now m)

theorem completed_single (h : (getFn m f).bulks = [b]) (status now : Nat) :
    Tends coreOf (unloaded f m) (completed f status now m) := by
  have hpump : completed f status now m = arbNote f (bulkDone f status now m) := bulkPump_nil (bulks_bulkDone h _ _) 0
  rw [hpump]
  exact (tends_bulkDone h status now).trans (tends_arbNote coreOf f _)

theorem headMoved_read (h : (getFn m f).bulks = [b]) (hop : b.op = 1) (mem : Memory) :
    headMoved f k (m, mem) = (if b.len ≤ b.moved + k then completed f 0 (nowNs m) (delivered f k b mem m)
      else if flying (delivered f k b mem m) f = 0 ∧
          mayRead (delivered f k b mem m) f (b.modAddr + (b.moved + k)) (b.len - (b.moved + k)) = false then
        completed f 0x16 (nowNs m) (delivered f k b mem m)
      else delivered f k b mem m, mem) := by
  unfold headMoved
  simp only [h]
  rw [if_pos hop]
  unfold completed delivered
  split
  · rfl
  · split <;> rfl

/-- A transfer of a read is delivered, whatever becomes of the descriptor. -/
theorem headMoved_delivers (h : (getFn m f).bulks = [b]) (hop : b.op = 1) (mem : Memory) :
    ∃ n, headMoved f k (m, mem) = (n, mem) ∧ Touches [.tel, .hif] [] m n ∧
      Emit.writeBytes f (b.hostAddr + b.moved) (Memory.readBytes mem (b.modAddr + b.moved) k) ∈ n.tel.out ∧
      (b.len ≤ b.moved + k → (getFn n f).bulks = []) ∧
      (b.moved + k < b.len → flying m f = 0 → mayRead m f (b.modAddr + b.moved + k) (b.len - b.moved - k) = true →
        (getFn n f).bulks = [{ b with moved := b.moved + k }]) := by
  have hread := headMoved_read (k := k) h hop mem
  have ht := touches_delivered f k b mem m
  have hb := bulks_delivered f k b mem m
  have he := emitted_delivered f k b mem m
  have hcap : (delivered f k b mem m).cap = m.cap := ht.part .cap
  have hfly : flying (delivered f k b mem m) f = flying m f := rfl
  have hmay : mayRead (delivered f k b mem m) f (b.modAddr + (b.moved + k)) (b.len - (b.moved + k)) =
      mayRead m f (b.modAddr + b.moved + k) (b.len - b.moved - k) := by
    rw [mayRead, hcap, ← Nat.add_assoc, ← Nat.sub_sub, mayRead]
  generalize delivered f k b mem m = d at hread ht hb he hfly hmay
  have hend : ∀ status, Touches [.tel, .hif] [] m (completed f status (nowNs m) d) ∧
      Emit.writeBytes f (b.hostAddr + b.moved) (Memory.readBytes mem (b.modAddr + b.moved) k) ∈
        (completed f status (nowNs m) d).tel.out ∧ (getFn (completed f status (nowNs m) d) f).bulks = [] := fun status =>
    have hcpl := completed_single hb status (nowNs m)
    ⟨(ht.trans (touches_hif d _)).trans hcpl.touched, hcpl.emitted he, (bulks_tends hcpl f).trans (bulks_unloaded f d)⟩
  split at hread
  next hlast =>
    obtain ⟨htouch, hemit, hnil⟩ := hend 0
    exact ⟨_, hread, htouch, hemit, fun _ => hnil, fun hmore => absurd hlast (Nat.not_le.mpr hmore)⟩
  next hmore =>
    split at hread
    next hlost =>
      obtain ⟨htouch, hemit, hnil⟩ := hend 0x16
      refine ⟨_, hread, htouch, hemit, fun _ => hnil, fun _ _ hgranted => ?_⟩
      rw [hmay, hgranted] at hlost
      exact absurd hlost.2 (by decide)
    next => exact ⟨_, hread, ht, he, fun hlast => absurd hlast hmore, fun _ _ _ => hb⟩

theorem transferDone_read (hg : s.glbLive) (hc : exec c s = runMem (whenGlbM (transferDone f)) s) (hf : f ≤ 256)
    (hq : s.m.hif.inFlight = (f, 0, k) :: t) (hb : (getFn s.m f).bulks = [b]) (hop : b.op = 1) :
    Does c s [.tel, .hif] [] fun n =>
      Emit.writeBytes f (b.hostAddr + b.moved) (Memory.readBytes s.mem (b.modAddr + b.moved) k) ∈ n.tel.out ∧
      (b.len ≤ b.moved + k → (getFn n f).bulks = []) ∧
      (b.moved + k < b.len → (∀ y ∈ t, y.1 ≠ f) → mayRead s.m f (b.modAddr + b.moved + k) (b.len - b.moved - k) = true →
        (getFn n f).bulks = [{ b with moved := b.moved + k }]) := by
  obtain ⟨n, hmoved, ht, hemit, hlast, hmore⟩ := headMoved_delivers (m := landed t s.m) (k := k) hb hop s.mem
  have hnote := tends_arbNote coreOf f n
  have hdone : transferDone f (s.m, s.mem) = (arbNote f n, s.mem) := by
    rw [transferDone_first hq, if_pos hf, hmoved]
    rfl
  have hland : Touches [.tel, .hif] [] s.m (landed t s.m) := touches_hif s.m _
  exact does_glbM hg hc hdone ((hland.trans ht).trans hnote.touched) ⟨hnote.emitted hemit,
    fun h => (bulks_tends hnote f).trans (hlast h),
    fun h hnone hmay => (bulks_tends hnote f).trans (hmore h (flying_of_none hnone) hmay)⟩

end

/-! ## The arbiter (R391) -/

section
variable {m n : Pnm} {s : State} {w : Nat}

theorem afterFn_single (last w : Nat) : afterFn last [w] = some w := by
  unfold afterFn
  by_cases h : last < w <;> simp [h]

theorem arbWinner_single (m : Pnm) (w : Nat) : arbWinner m [w] = some w := by
  simp [arbWinner, afterFn_single]

/-- Only w has a transfer pending. -/
theorem pending_single (hw : w < 267) (hp : arbPending m w = true) (hno : ∀ q < 267, q ≠ w → arbPending m q = false) :
    arbAll.filter (arbPending m) = [w] := by
  have heq : arbAll.filter (arbPending m) = arbAll.filter (· == w) := by
    refine List.filter_congr fun q hq => ?_
    by_cases h : q = w
    · rw [h, hp, beq_self_eq_true]
    · rw [hno q (List.mem_range.mp hq) h, beq_eq_false_iff_ne.mpr h]
  rw [heq, List.filter_beq, arbAll, List.count_eq_one_of_mem List.nodup_range (List.mem_range.mpr hw)]
  rfl

/-- The members of a cycle are those that wait no longer, or all where none is. -/
theorem members_single (m : Pnm) (w : Nat) :
    (if [w].filter (fun q => decide ((getArb m q).wait = 0)) = [] then [w]
      else [w].filter fun q => decide ((getArb m q).wait = 0)) = [w] := by
  split
  next => rfl
  next h => by_cases hw : (getArb m w).wait = 0 <;> simp_all

/-- From `m` to `n` nothing but counts of the arbiter's requesters changes, and what they have pending stays. -/
structure Recounted (m n : Pnm) : Prop where
  same : n = { m with hif := { m.hif with arb := n.hif.arb } }
  pending : ∀ q, (getArb n q).pending = (getArb m q).pending

theorem Recounted.refl (m : Pnm) : Recounted m m := ⟨rfl, fun _ => rfl⟩

theorem Recounted.trans {k : Pnm} (h : Recounted m n) (h' : Recounted n k) : Recounted m k where
  same := h'.same.trans (by rw [h.same])
  pending q := (h'.pending q).trans (h.pending q)

theorem recounted_putArb {q : Nat} {a : ArbReq} (h : a.pending = (getArb m q).pending) : Recounted m (putArb q a m) := by
  refine ⟨rfl, fun j => ?_⟩
  by_cases hj : j = q
  · subst hj; rw [getArb, putArb, NMap.get_set_same, h]
  · rw [getArb, putArb, NMap.get_set_ne _ _ _ _ _ hj, getArb]

theorem pending_arbCounts (e : List Nat) (w q : Nat) (a : ArbReq) : (arbCounts e w q a).pending = a.pending := by
  unfold arbCounts
  repeat' split
  all_goals rfl

/-- The counts after a cycle. -/
def counted (e : List Nat) (w : Nat) (m : Pnm) : Pnm := arbAll.foldl (fun x q => putArb q (arbCounts e w q (getArb x q)) x) m

theorem recounted_counted (e : List Nat) (w : Nat) (m : Pnm) : Recounted m (counted e w m) :=
  List.foldlRecOn arbAll _ (motive := Recounted m) (.refl m) fun _ h _ _ => h.trans (recounted_putArb (pending_arbCounts ..))

theorem Recounted.nextBytes (h : Recounted m n) (q : Nat) : nextBytes n q = Machine.nextBytes m q := by
  have hpend := h.pending q
  have hhead : headBytes n q = headBytes m q := by rw [h.same]; rfl
  have hrx : rxReady n = rxReady m := by rw [h.same]; rfl
  unfold Machine.nextBytes
  rw [hhead, hrx, hpend]

theorem inFlight_arbNote (q : Nat) (m : Pnm) : (arbNote q m).hif.arbAt = m.hif.arbAt ∧
    (arbNote q m).hif.arbLast = m.hif.arbLast ∧ (arbNote q m).hif.inFlight = m.hif.inFlight := by
  unfold arbNote
  extract_lets a
  split <;> exact ⟨rfl, rfl, rfl⟩

/-- The instant of the cycle. -/
def cycled (m : Pnm) : Pnm := { m with hif := { m.hif with arbAt := m.tim.edge / 40 } }

theorem arbitrate_eq (h : m.hif.arbAt < m.tim.edge / 40) : arbitrate m =
    let all := arbAll.filter (arbPending m)
    let e := if all.filter (fun q => decide ((getArb m q).wait = 0)) = [] then all
      else all.filter fun q => decide ((getArb m q).wait = 0)
    if 16 ≤ m.hif.inFlight.length then cycled m
    else match arbWinner m e with
      | none => cycled m
      | some w => arbGrant w (counted e w (cycled m)) := if_neg (Nat.not_le.mpr h)

theorem arbitrate_idle (h : m.hif.arbAt < m.tim.edge / 40)
    (hno : (∀ q < 267, arbPending m q = false) ∨ 16 ≤ m.hif.inFlight.length) : arbitrate m = cycled m := by
  rw [arbitrate_eq h]
  dsimp only
  split
  next => rfl
  next hroom =>
    have hnone : arbAll.filter (arbPending m) = [] :=
      List.filter_eq_nil_iff.mpr fun q hq =>
        ne_true_of_eq_false (hno.resolve_right hroom q (List.mem_range.mp hq))
    rw [hnone]
    rfl

theorem arbitrate_grants (hw : w < 267) (h : m.hif.arbAt < m.tim.edge / 40) (hroom : m.hif.inFlight.length < 16)
    (hp : arbPending m w = true) (hno : ∀ q < 267, q ≠ w → arbPending m q = false) :
    arbitrate m = arbGrant w (counted [w] w (cycled m)) := by
  rw [arbitrate_eq h]
  dsimp only
  rw [if_neg (Nat.not_le.mpr hroom), pending_single hw hp hno, members_single, arbWinner_single]

theorem arbGrant_flies (hr : Recounted m n) : (arbGrant w n).hif.arbAt = m.hif.arbAt ∧ (arbGrant w n).hif.arbLast = w ∧
    (arbGrant w n).hif.inFlight = m.hif.inFlight ++ [(w, (nextBytes m w).2, (nextBytes m w).1)] := by
  have hfly : n.hif.inFlight = m.hif.inFlight := by rw [hr.same]
  have hat : n.hif.arbAt = m.hif.arbAt := by rw [hr.same]
  unfold arbGrant
  extract_lets b a _ m1 m2
  have hb : b = nextBytes m w := hr.nextBytes w
  obtain ⟨hnat, hnlast, hnfly⟩ := inFlight_arbNote w m2
  refine ⟨hnat.trans hat, hnlast.trans rfl, hnfly.trans ?_⟩
  rw [← hb, ← hfly]
  rfl

theorem touches_arbGrant (w : Nat) (m : Pnm) : Touches [.hif] [] m (arbGrant w m) := by
  unfold arbGrant
  extract_lets b a _ m1 m2
  have hfly : Touches [.hif] [] m m1 := touches_hif m _
  exact (hfly.trans (touches_hif m1 _)).trans (touches_arbNote w m2)

theorem Recounted.touches (h : Recounted m n) : Touches [.hif] [] m n := by
  rw [h.same]
  exact touches_hif m _

theorem arbitration_waits (h : s.m.tim.edge / 40 ≤ s.m.hif.arbAt) : DoesNothing .arbitrationCycle s :=
  nothing_glb arbitrate rfl (if_pos h)

theorem arbitration_idles (hg : s.glbLive) (h : s.m.hif.arbAt < s.m.tim.edge / 40)
    (hno : (∀ q < 267, arbPending s.m q = false) ∨ 16 ≤ s.m.hif.inFlight.length) :
    Does .arbitrationCycle s [.hif] [] fun n => n.hif = { s.m.hif with arbAt := s.m.tim.edge / 40 } :=
  does_glb arbitrate hg rfl (arbitrate_idle h hno) (keeps_hif (by simp) s.m _) (.of_regs rfl) rfl

theorem arbitration_grants (hg : s.glbLive) (hw : w < 267) (h : s.m.hif.arbAt < s.m.tim.edge / 40)
    (hroom : s.m.hif.inFlight.length < 16) (hp : arbPending s.m w = true)
    (hno : ∀ q < 267, q ≠ w → arbPending s.m q = false) :
    Does .arbitrationCycle s [.hif] [] fun n =>
      n.hif.arbAt = s.m.tim.edge / 40 ∧ n.hif.arbLast = w ∧
      n.hif.inFlight = s.m.hif.inFlight ++ [(w, (nextBytes s.m w).2, (nextBytes s.m w).1)] := by
  have hcount := recounted_counted [w] w (cycled s.m)
  have hcycle : Touches [.hif] [] s.m (cycled s.m) := touches_hif s.m _
  have ht := (hcycle.trans hcount.touches).trans (touches_arbGrant w _)
  exact does_glb arbitrate hg rfl (arbitrate_grants hw h hroom hp hno) ht.parts ht.regs (arbGrant_flies hcount)

end

/-! ## Starvation (R393) -/

section
variable {s : State} {q : Nat} {c : Instr}

/-- The wait of the requester has reached its limit, and that was not said. -/
def starves (m : Pnm) (q : Nat) : Prop := ∃ t, (getArb m q).since = some t ∧ (getArb m q).starved = false ∧
  t + rf m (Reg.HIF_ARB_CFG + 8 * q) 31 16 * edgesUs ≤ m.tim.edge

/-- The requester is flagged. -/
def flagged (q : Nat) (m : Pnm) : Pnm :=
  sb (sb (putArb q { getArb m q with starved := true } m) (Reg.HIF_ARB_STARVED + 4 * (q / 32)) (q % 32)) Reg.HIF_VF_FLAGS 1

theorem arbStarve_flags {m : Pnm} (hq : q ≤ 266) (h : starves m q) :
    arbStarve q m = raise { src := 9, code := 0x16, cls := 2, items := [q] } (flagged q m) := by
  obtain ⟨t, hsince, hnew, hdue⟩ := h
  unfold arbStarve
  extract_lets a
  split
  next hnone => exact absurd (hsince.symm.trans hnone) (by simp)
  next t' ht' =>
    have htt : t = t' := Option.some.inj (hsince.symm.trans ht')
    rw [if_pos ⟨hnew, hq, htt ▸ hdue⟩]
    rfl

theorem arbStarve_none {m : Pnm} (h : ¬ starves m q) : arbStarve q m = m := by
  unfold arbStarve
  extract_lets a
  split
  next => rfl
  next t hsince => exact if_neg fun hdue => h ⟨t, hsince, hdue.1, hdue.2.2⟩

theorem starved_ne_flags (q : Nat) : Reg.HIF_ARB_STARVED + 4 * (q / 32) ≠ Reg.HIF_VF_FLAGS := by
  simp only [Reg.HIF_ARB_STARVED, Reg.HIF_VF_FLAGS]
  omega

theorem starvation_flags (hg : s.glbLive) (hc : exec c s = run (whenGlb (arbStarve q)) s) (hq : q ≤ 266) (h : starves s.m q) :
    Does c s [.regs, .tel, .hif] [Reg.HIF_ARB_STARVED + 4 * (q / 32), Reg.HIF_VF_FLAGS] fun n =>
      getArb n q = { getArb s.m q with starved := true } ∧ rb n Reg.HIF_VF_FLAGS 1 = true ∧
      rb n (Reg.HIF_ARB_STARVED + 4 * (q / 32)) (q % 32) = true ∧
      Raised { src := 9, code := 0x16, cls := 2, items := [q] } s.m n := by
  have ht : Touches [.regs, .tel, .hif] [Reg.HIF_ARB_STARVED + 4 * (q / 32), Reg.HIF_VF_FLAGS] s.m
      (raise { src := 9, code := 0x16, cls := 2, items := [q] } (flagged q s.m)) :=
    (((touches_hif s.m _).trans (touches_sb _ (Reg.HIF_ARB_STARVED + 4 * (q / 32)) _)).trans
      (touches_sb _ Reg.HIF_VF_FLAGS 1)).trans (touches_raise _ _)
  exact does_glb _ hg hc (arbStarve_flags hq h) ht.parts ht.regs
    ⟨NMap.get_set_same _ _ _ _, rb_sb_same _ Reg.HIF_VF_FLAGS 1 (by decide),
      (rb_wr_ne (starved_ne_flags q) _ _).trans (rb_sb_same _ _ _ (Nat.mod_lt _ (by decide))), flagged q s.m, rfl, rfl⟩

end

end Bulks

open Bulks in
/-- Settles O43: it holds. A descriptor that is alone in its ring goes by the status of its checks, and a transfer by its
requester. -/
theorem bulkTransfersAreArbitrated : Obligations.BulkTransfersAreArbitrated := by
  intro s fn hf
  refine ⟨fun opc tag len host addr hl hb => ⟨fun ha hgood => ?readJoins, fun ha hbad h2 h3 => ?readFails, fun h => ?readNot⟩,
    fun tag len port pcp ts data hl hb => ⟨fun ha hgood => ?txJoins, fun ha hbad => ?txFails, fun ha => ?txNot⟩,
    fun tag len host hl hb => ⟨fun ha hgood => ?postJoins, fun ha hbad => ?postFails, fun ha => ?postNot⟩,
    fun q hg h => nothing_transferDone rfl hg h,
    fun q k t hg hq => ⟨fun h => transferDone_image hg rfl hq h, fun hlo hhi => transferDone_scan hg rfl hq hlo hhi,
      fun hlo => transferDone_diagnostics hg rfl hq hlo, fun hqf b hb hop => ?read⟩,
    fun hg => ⟨arbitration_waits, arbitration_idles hg, fun w hw h hroom => arbitration_grants hg hw h hroom⟩,
    fun q hg hq => ⟨fun h => starvation_flags hg rfl hq h, fun h => nothing_glb _ rfl (arbStarve_none h)⟩⟩
  case readJoins =>
    have hop : opc.toNat = 1 := congrArg BitVec.toNat hgood.1
    have hst : readStatus s.m fn.toNat opc.toNat addr.toNat len.toNat = 0xFF :=
      readStatus_good ⟨hop, fun h0 => hgood.2.1 (BitVec.eq_of_toNat_eq h0), hgood.2.2⟩
    exact arrival_joins hl rfl hf hb ha (bulkRead_arrives (by omega) ..) hst (show opc.toNat ≠ 3 by omega) rfl
      ⟨BitVec.ofNat_toNat .., hop, rfl, rfl, rfl⟩
  case readFails =>
    have hst : readStatus s.m fn.toNat opc.toNat addr.toNat len.toNat < 0xFE :=
      readStatus_bad fun hgood => hbad ⟨BitVec.eq_of_toNat_eq hgood.1, fun h0 => hgood.2.1 (congrArg BitVec.toNat h0), hgood.2.2⟩
    have hop : opc.toNat ≠ 2 ∧ opc.toNat ≠ 3 :=
      ⟨fun h => h2 (BitVec.eq_of_toNat_eq h), fun h => h3 (BitVec.eq_of_toNat_eq h)⟩
    exact arrival_refused hl rfl hf hb ha (bulkRead_arrives hop ..) hst
  case readNot =>
    by_cases hop : opc.toNat = 2 ∨ opc.toNat = 3
    · exact nothing_al _ rfl ((if_pos hf).trans (if_pos hop))
    · have ha : ¬ asked s.m fn.toNat := h.resolve_right fun h23 => hop (h23.imp (congrArg BitVec.toNat) (congrArg BitVec.toNat))
      exact arrival_unasked rfl ha (bulkRead_arrives (not_or.mp hop) ..)
  case txJoins =>
    exact arrival_joins hl rfl hf hb ha (frameTx_arrives ..) (txStatus_good hgood) (show (2 : Nat) ≠ 3 by decide) rfl
      ⟨BitVec.ofNat_toNat .., rfl, rfl, rfl⟩
  case txFails => exact arrival_refused hl rfl hf hb ha (frameTx_arrives ..) (txStatus_bad hbad)
  case txNot => exact arrival_unasked rfl ha (frameTx_arrives ..)
  case postJoins =>
    exact arrival_posts hl rfl hf hb ha (rxPost_arrives ..) (postStatus_good hgood) rfl ⟨BitVec.ofNat_toNat .., rfl, rfl⟩
  case postFails => exact arrival_refused hl rfl hf hb ha (rxPost_arrives ..) (postStatus_bad hbad)
  case postNot => exact arrival_unasked rfl ha (rxPost_arrives ..)
  case read =>
    subst hqf
    exact transferDone_read hg rfl hf hq hb hop

end Machine
end Sys2Proof
end

section
/-! PROOFS. Commands at the acceptance instant (R349, R383): a share write of a function that does not exist. -/

namespace Sys2Proof
namespace Machine
namespace Acceptance

/-- A mirrored command that was accepted before this instant and is complete. -/
def mirroredCpl : Cpl :=
  { ref := { fn := 0, seq := 1, opcode := 2, acceptNs := 0, kick := false, unmirrored := false, reaccepted := false },
    bulk := false, rx := none, status := 0, late := false, replaced := false, doneNs := 0, r0 := 0, r1 := 0 }

/-- The peer is a standby (R437), a completion is due, and a share write of function 6656 waits. Word 1 of the share registers
that this function would have lies where PAR_STAT does, and the write makes the module ACTIVE. -/
def strayShare : State :=
  { pending := [], mem := [],
    m := { Pnm.init with
      regs := [(Reg.PAR_PEER, 3)],
      glb := { Glb.init with phase := .run },
      tim := { Tim.init with mt := 2 ^ 32, edge := 2 * edgesUs },
      hif := { Hif.init with accAt := some unitNs, staged := [(6656, 1, 2, 0, 0)], cplDue := [mirroredCpl] },
      par := { Par.init with seqBl := 2 ^ 48 - 1 } } }

/-- The time of the last COMMIT message after a command. -/
def lastCommitAfter : Result → Nat
  | .next t => t.m.par.lastCommit
  | _ => 0

theorem shr_stray : Reg.shr 6656 1 = Reg.PAR_STAT := rfl

/-- Once the write is in force the module is ACTIVE, and the completion leaves in a COMMIT message. -/
theorem lastCommit_strayShare : lastCommitAfter (exec .acceptanceInstant strayShare) = 1 := by decide +kernel

/-- Above the PF's blocks every register reads 0 at reset. -/
theorem resetVal_high {o : Nat} (h : 0x1000000 ≤ o) : resetVal o = 0 := by
  unfold resetVal
  repeat rw [if_neg (fun ho => absurd (ho ▸ h) (by decide))]
  rw [if_neg (by omega), if_neg (by omega), if_neg (by omega), if_neg (by omega), if_neg (by omega),
    if_neg (by omega), if_neg (by omega), if_neg (by omega), if_neg (by omega), if_neg (by omega)]
  rfl

theorem resetVal_fn (f : Nat) : resetVal (Reg.fn f 0) = 0 := by
  by_cases hf : f = 0
  · subst hf
    decide
  · refine resetVal_high ?_
    rw [Reg.fn, if_neg hf]
    omega

theorem fn_ne_peer (f : Nat) : Reg.fn f 0 ≠ Reg.PAR_PEER := by
  unfold Reg.fn
  split <;> simp only [Reg.HIF_FN, Reg.PAR_PEER] <;> omega

/-- No function's rings are enabled. -/
theorem fnOn_strayShare (f : Nat) : fnOn strayShare.m f = false := by
  have hrd : rd strayShare.m (Reg.fn f 0) = rd (wr Pnm.init Reg.PAR_PEER 3) (Reg.fn f 0) := rfl
  have hinit : rd Pnm.init (Reg.fn f 0) = 0 := resetVal_fn f
  rw [fnOn, rb, hrd, rd_wr_ne _ _ _ (fn_ne_peer f), hinit]
  rfl

/-- The acceptance instant reaches the pair part of the module. -/
theorem strayShare_reaches_par {os : List Nat} {P : Pnm → Prop} :
    ¬ Does .acceptanceInstant strayShare [.regs, .tel, .hif] os P := by
  rintro ⟨n, hexec, hkeep, -, -⟩
  have hpar : n.par = strayShare.m.par := hkeep .par (by decide)
  have hcommit := lastCommit_strayShare
  rw [hexec] at hcommit
  have hzero : n.par.lastCommit = 0 := congrArg Par.lastCommit hpar
  exact absurd (hzero.symm.trans hcommit) (by decide)

end Acceptance

open Acceptance in
/-- Refutes O38: the clause on one staged share write takes any function number. A write staged for function 6656, which the
module never stages (R380), lands in PAR_STAT, makes the module ACTIVE beside its standby, and a due completion is then
sent in a COMMIT message (R443): PAR changes, and the clause allows registers, TEL and HIF alone. -/
theorem not_commandsAreDecided : ¬ Obligations.CommandsAreDecided := by
  rintro ⟨-, hinstant⟩
  obtain ⟨-, hshares, -⟩ := hinstant strayShare unitNs (by decide) rfl
  have hquiet : strayShare.m.hif.svcReq = [] ∧ strayShare.m.glb.maintReq = none ∧ strayShare.m.par.commits = [] ∧
      strayShare.m.par.tx = none ∧ pairState strayShare.m = 0 ∧
      ∀ k, (getLock strayShare.m k).state = 1 → nowNs strayShare.m < (getLock strayShare.m k).leaseEnd :=
    ⟨rfl, rfl, rfl, rfl, by decide, fun k hk => absurd hk (show ¬ (0 : Nat) = 1 by decide)⟩
  obtain ⟨-, hone⟩ := hshares (by decide) hquiet rfl fnOn_strayShare
  exact strayShare_reaches_par (hone 6656 1 2 0 rfl (by decide) (by decide) (by decide))

end Machine
end Sys2Proof
end
